-- ==== Sys2Proof/Word.lean ====
section
/-! DEFINITION. The word types of the module (R5): a byte, a half-word, a word and the few names that
every later file uses for them. -/

namespace Sys2Proof

/-- A byte, 8 bits (R5). -/
abbrev Byte := BitVec 8

/-- A half-word, 16 bits (R5). -/
abbrev Half := BitVec 16

/-- A word, 32 bits (R5). -/
abbrev Word := BitVec 32

/-- A double word, 64 bits: signatures, checkpoint state hashes and check-value registers. -/
abbrev DWord := BitVec 64

/-- The 66-bit raw input word: DI00 to DI63, then RESTART_A and RESTART_B (R95). -/
abbrev RawWord := BitVec 66

/-- One bit per vital output DO00 to DO47 (R163). -/
abbrev OutBits := BitVec 48

end Sys2Proof
end

