-- ==== Sys2Proof/Syntax.lean ====
section
/-! DEFINITION. The commands of the module, one constructor for each row of the opcode table, in the table's
order, with the operands that a row needs: the lane whose core executes an instruction and the fields of its
encoding (R134, R154); the view through which a register is accessed; the bytes of a message, a frame, a probe or
a package that arrives; the readings and durations of a supervised quantity. Notes: an `LaneId` operand of an
instruction names the core that executes it at its own pc. -/

namespace Sys2Proof

/-- The three lanes (R7, R13). -/
inductive LaneId | A | B | C
  deriving DecidableEq, Repr

/-- The two optical ports (R269). -/
inductive Port | W | E
  deriving DecidableEq, Repr

/-- The two supply feeds (R354). -/
inductive Feed | A | B
  deriving DecidableEq, Repr

/-- A general register number (R125). -/
abbrev Reg := Fin 32

/-- Who accesses a register: a lane's core at application level, a lane's core at runtime level, or the service
processor through the service view of a lane, with its secure attribute or without it (R126, R131, R413). -/
inductive View
  | app (l : LaneId)
  | runtime (l : LaneId)
  | service (l : LaneId) (secure : Bool)
  deriving DecidableEq, Repr

/-- The secure and the non-secure channel of a lane's mailbox (R413). -/
inductive Channel | secure | nonSecure
  deriving DecidableEq, Repr

/-- The blocks that have a clock qualifier (R370). -/
inductive ClockBlock
  | timebase | ring | vio (l : LaneId) | service
  deriving DecidableEq, Repr

/-- A reading of both switch banks: for each switch its ON contact and its OFF contact (R376). -/
structure SwitchReading where
  on1 : Half
  off1 : Half
  on2 : Half
  off2 : Half
  deriving DecidableEq, Repr

/-- A message of the inter-lane links (R214), its fields as received. -/
structure LinkMsg where
  typ : Byte
  route : Byte
  length : Half
  cycle : Word
  body : List Byte
  check : Word
  deriving DecidableEq, Repr

/-- One lane's readings for an evaluation of the output stage: group supplies and output voltages in units of
25 mV, output currents in mA (R255, R268), and for each output the monitors of the lane's two switch elements,
1 for closed (R254). -/
structure Readback where
  vf : Vector (BitVec 12) 3
  volt : Vector (BitVec 12) 48
  current : Vector (BitVec 12) 48
  elem0 : OutBits
  elem1 : OutBits
  deriving DecidableEq, Repr

/-- One lane's readings at an evaluation of an off-pulse (R259): the voltage of the output in units of 25 mV, and the
monitors of the lane's two switch elements, 1 for closed. -/
structure PulseReading where
  volt : BitVec 12
  closed0 : Bool
  closed1 : Bool
  deriving DecidableEq, Repr

/-- The readings of the three lanes at one evaluation of an off-pulse. -/
structure PulseSample where
  a : PulseReading
  b : PulseReading
  c : PulseReading
  deriving DecidableEq, Repr

/-- The lowest readings of an output's current, in mA, by the three lanes over `us` microseconds (R255). -/
structure TripReading where
  us : Nat
  a : BitVec 12
  b : BitVec 12
  c : BitVec 12
  deriving DecidableEq, Repr

/-- The readback of a test-pulse source in units of 25 mV (R249): at the end of its pulse, or the highest over `us`
microseconds outside its pulses. -/
structure TpReading where
  pulsed : Bool
  volt : BitVec 12
  us : Nat
  deriving DecidableEq, Repr

/-- The two readings of the switches in priming, at 5 ms and at 25 ms (R368). -/
structure SealReadings where
  first : SwitchReading
  second : SwitchReading
  deriving DecidableEq, Repr

/-- A word to be burned, and the bits that the burn reaches: all of them unless the supply interrupts it (R384). -/
structure BurnWord where
  word : DWord
  reach : DWord
  deriving DecidableEq, Repr

/-- The hash of a key slot to be burned; of a burn that the supply interrupts the bits that it reaches, and whether it
reaches BURNED (R384). -/
structure HashBurn where
  hash : BitVec 512
  torn : Option (BitVec 512 × Bool)
  deriving DecidableEq, Repr

/-- What the hardware tests of STARTUP_TEST found in one lane (R451 steps 1, 2, 5 and 7). -/
structure StartupTests where
  bistPass : Bool
  storePass : Bool
  layoutAgrees : Bool
  runtimeTrap : Bool
  deriving DecidableEq, Repr

/-- The burns that the service processor can command (R384). -/
inductive Burn
  | generation (w0 w1 w2 w3 : DWord)
  | retire (g : Fin 4)
  | keySlot (slot : Fin 2) (hash : BitVec 512)
  | revoked (slot : Fin 2)
  | svn
  deriving DecidableEq, Repr

/-- The targets of an image upload: slot B, and in SPLIT role the regions S1 and S2 (R404, R408). -/
inductive ImageTarget | slotB | s1 | s2
  deriving DecidableEq, Repr

/-- TLS versions as R409 tells them apart. -/
inductive TlsVersion | tls13 | other
  deriving DecidableEq, Repr

/-- TLS cipher suites as R409 tells them apart. -/
inductive CipherSuite | aes256GcmSha384 | chacha20Poly1305Sha256 | other
  deriving DecidableEq, Repr

/-- Key exchanges as R409 tells them apart. -/
inductive KeyExchange | x25519 | other
  deriving DecidableEq, Repr

/-- Signature schemes as R409 tells them apart. -/
inductive SignatureScheme | ed25519 | other
  deriving DecidableEq, Repr

/-- What a connection to the maintenance port uses (R409). -/
structure Handshake where
  port : BitVec 16
  version : TlsVersion
  cipher : CipherSuite
  exchange : KeyExchange
  scheme : SignatureScheme
  /-- a session is resumed -/
  resumed : Bool
  /-- a pre-shared key is used -/
  preShared : Bool
  /-- 0-RTT data is sent -/
  earlyData : Bool
  /-- the bytes that the server signs -/
  transcript : List (BitVec 8)
  deriving DecidableEq, Repr

/-- The requests of the DEBUG service (R412): DEBUG_HALT, HOLD_RELEASE, and a command of a lane's debug port with the
address and data that it uses (R204). -/
inductive DebugRequest
  | halt
  | holdRelease
  | lane (l : LaneId) (cmd addr data : BitVec 32)
  deriving DecidableEq, Repr

/-- A request of the DEBUG service: its REQ_ID and what it asks (R411, R412). -/
structure DebugCall where
  req : BitVec 32
  ask : DebugRequest
  deriving DecidableEq, Repr

/-- The three image types of an envelope (R387). -/
inductive ImageType | runtime | program | station
  deriving DecidableEq, Repr

/-- The commands of the module: one constructor per row of the opcode table. -/
inductive Instr
  -- Ixlo core, integer and logic group (R138)
  | add (l : LaneId) (d a b : Reg)
  | sub (l : LaneId) (d a b : Reg)
  | and (l : LaneId) (d a b : Reg)
  | or (l : LaneId) (d a b : Reg)
  | xor (l : LaneId) (d a b : Reg)
  | andn (l : LaneId) (d a b : Reg)
  | sll (l : LaneId) (d a b : Reg)
  | srl (l : LaneId) (d a b : Reg)
  | sra (l : LaneId) (d a b : Reg)
  | slt (l : LaneId) (d a b : Reg)
  | sltu (l : LaneId) (d a b : Reg)
  | seq (l : LaneId) (d a b : Reg)
  | slli (l : LaneId) (d a : Reg) (sh : Fin 32)
  | srli (l : LaneId) (d a : Reg) (sh : Fin 32)
  | srai (l : LaneId) (d a : Reg) (sh : Fin 32)
  | mul (l : LaneId) (d a b : Reg)
  | mulh (l : LaneId) (d a b : Reg)
  | mulhu (l : LaneId) (d a b : Reg)
  | div (l : LaneId) (d a b : Reg)
  | divu (l : LaneId) (d a b : Reg)
  | rem (l : LaneId) (d a b : Reg)
  | remu (l : LaneId) (d a b : Reg)
  | clz (l : LaneId) (d a : Reg)
  | ctz (l : LaneId) (d a : Reg)
  | popc (l : LaneId) (d a : Reg)
  | bswap (l : LaneId) (d a : Reg)
  | jalr (l : LaneId) (d a : Reg)
  -- bit fields (R140): position and width minus one
  | extu (l : LaneId) (d a : Reg) (pos wm1 : Fin 32)
  | exts (l : LaneId) (d a : Reg) (pos wm1 : Fin 32)
  | ins (l : LaneId) (d a : Reg) (pos wm1 : Fin 32)
  -- immediates (R139)
  | addi (l : LaneId) (d a : Reg) (imm : Half)
  | andi (l : LaneId) (d a : Reg) (imm : Half)
  | ori (l : LaneId) (d a : Reg) (imm : Half)
  | xori (l : LaneId) (d a : Reg) (imm : Half)
  | slti (l : LaneId) (d a : Reg) (imm : Half)
  | sltiu (l : LaneId) (d a : Reg) (imm : Half)
  | lui (l : LaneId) (d : Reg) (imm : Half)
  -- memory (R141)
  | lb (l : LaneId) (d a : Reg) (imm : Half)
  | lbu (l : LaneId) (d a : Reg) (imm : Half)
  | lh (l : LaneId) (d a : Reg) (imm : Half)
  | lhu (l : LaneId) (d a : Reg) (imm : Half)
  | lw (l : LaneId) (d a : Reg) (imm : Half)
  | sb (l : LaneId) (d a : Reg) (imm : Half)
  | sh (l : LaneId) (d a : Reg) (imm : Half)
  | sw (l : LaneId) (d a : Reg) (imm : Half)
  -- branches and jumps (R142): word offsets
  | beq (l : LaneId) (r t : Reg) (off : Half)
  | bne (l : LaneId) (r t : Reg) (off : Half)
  | blt (l : LaneId) (r t : Reg) (off : Half)
  | bge (l : LaneId) (r t : Reg) (off : Half)
  | bltu (l : LaneId) (r t : Reg) (off : Half)
  | bgeu (l : LaneId) (r t : Reg) (off : Half)
  | bct (l : LaneId) (r : Reg) (off : Half)
  | bcf (l : LaneId) (r : Reg) (off : Half)
  | j (l : LaneId) (off : BitVec 26)
  | jal (l : LaneId) (off : BitVec 26)
  -- coded booleans (R144)
  | cand (l : LaneId) (d a b : Reg)
  | cor (l : LaneId) (d a b : Reg)
  | cnot (l : LaneId) (d a : Reg)
  | csel (l : LaneId) (d a b c : Reg)
  | cchk (l : LaneId) (d a : Reg)
  | cmk (l : LaneId) (d a : Reg)
  | ceq (l : LaneId) (d a b : Reg)
  | cltu (l : LaneId) (d a b : Reg)
  | cval (l : LaneId) (d a : Reg)
  -- system (R146)
  | sysc (l : LaneId) (imm : Half)
  | tret (l : LaneId)
  | mfcr (l : LaneId) (d : Reg) (cr : Fin 32)
  | mtcr (l : LaneId) (cr : Fin 32) (a : Reg)
  | wait (l : LaneId) (d : Reg)
  | waitEnd (l : LaneId)
  | brk (l : LaneId)
  | halt (l : LaneId)
  -- railway extensions (R154)
  | pin (l : LaneId) (d a : Reg)
  | pout (l : LaneId) (a b : Reg)
  | eld (l : LaneId) (d a b : Reg)
  | est (l : LaneId) (d a b : Reg)
  | engineStallEnd (l : LaneId)
  | tstart (l : LaneId) (d a b : Reg)
  | tstop (l : LaneId) (a : Reg)
  | tread (l : LaneId) (d a : Reg)
  | treadX (l : LaneId) (d a : Reg)
  | cinc (l : LaneId) (d a : Reg)
  | crd (l : LaneId) (d a : Reg)
  | edgeup (l : LaneId) (d a b : Reg)
  | edgedn (l : LaneId) (d a b : Reg)
  | sig (l : LaneId) (a : Reg)
  | cycend (l : LaneId)
  | budget (l : LaneId) (d : Reg)
  | rqput (l : LaneId) (a : Reg)
  | rqget (l : LaneId) (d : Reg)
  | rwait (l : LaneId)
  | sltx (l : LaneId) (a b : Reg)
  | slrx (l : LaneId) (d a b : Reg)
  | rpcall (l : LaneId) (a b : Reg)
  | rpret (l : LaneId)
  | budgetLimit (l : LaneId)
  -- the route engine of a lane carries out the oldest pending request (R66)
  | check (l : LaneId)
  | set (l : LaneId)
  | cancel (l : LaneId)
  | releaseSegment (l : LaneId)
  | release (l : LaneId)
  | block (l : LaneId)
  | unblock (l : LaneId)
  | chainSet (l : LaneId)
  | chainCancel (l : LaneId)
  | chainRelease (l : LaneId)
  | move (l : LaneId)
  | sweep (l : LaneId)
  | chainRollback (l : LaneId) (chain : BitVec 10)
  | routeEnable (v : View) (enable : Bool)
  | routeInit (v : View)
  | routeInitDone (l : LaneId)
  | qclear (v : View)
  -- the interlocking cycle
  | cycleStart
  | localCycleStart
  | inputMessage (dst : LaneId) (m : LinkMsg)
  | inputAgreementEnd
  | inputDisagreementLimit (l : LaneId) (input : Fin 66)
  | supervisionTimeout (l : LaneId) (conn : Fin 512)
  | lostConnectionForgotten (l : LaneId) (conn : Fin 512)
  | twinMissing (l : LaneId) (conn : Fin 512)
  | signatureMessage (dst : LaneId) (m : LinkMsg)
  | signatureRoundClose
  | viewMessage (dst : LaneId) (m : LinkMsg)
  | viewRoundClose
  | voteDeadline
  | twoKeyCompare
  | gapAbandon
  | outputCut
  | auditReadComplete (l : LaneId)
  | auditMessage (dst : LaneId) (m : LinkMsg)
  | controlMessage (dst : LaneId) (m : LinkMsg)
  | copyMessage (page : Fin 12288) (m : LinkMsg)
  | copyPassComplete
  | freeze
  | freezeComplete
  | resyncFailed
  | probationEnd
  -- vital inputs and the output stage
  | outputEvaluation (a b c : Readback)
  | openLoad (o : Fin 48)
  | tripped (o : Fin 48) (r : TripReading)
  | backfeed (o : Fin 48)
  | vfRange (g : Fin 3)
  | vfRangeClear (g : Fin 3)
  | laneSwitchFault (l : LaneId) (o : Fin 48)
  | senseOdd (l : Option LaneId)
  | senseOddCause (l : Option LaneId)
  | offPulse
  | offPulseEnd (a b c : List PulseReading)
  | testPulse (source : Fin 8) (a b c : RawWord)
  | tpStuck (source : Fin 8) (r : TpReading)
  | restartRequest
  -- safe state, resets and power
  | resetReqSy (l : LaneId) (key : Byte) (reason : Half)
  | resetReqSafeStop (l : LaneId) (key : Byte) (reason : Half)
  | syReset
  | poReset
  | powerGood (bus : BitVec 12) (us : Nat)
  | brownOut
  | supplyLow (bus : BitVec 12) (us : Nat)
  | powerFail (bus : BitVec 12) (us : Nat)
  | powerFailEnd
  | supplyHigh (bus : BitVec 12) (us : Nat)
  | feedLoss (f : Feed) (volt other : BitVec 12) (us : Nat)
  | overtemperature (sensor : Fin 2) (t : BitVec 12) (ms : Nat)
  | tempSensorDiff (t0 t1 : BitVec 12) (ms : Nat)
  | railFault (pd : Fin 12)
  | domainUp (pd : Fin 12)
  | domainFail (pd : Fin 12)
  | domainRetry
  | holdupReady (ready : Bool)
  | holdupNotReady
  | primingComplete (switches : SealReadings) (otp : List (Fin 64 × BitVec 72))
  | primingDelay
  | mrstN (ns : Nat)
  | mrstRelease
  | clockQualified (c : ClockBlock)
  | clkLoss (c : ClockBlock)
  | clkNotQualified
  | earlyClockRelease (c : ClockBlock) (session : Fin 4)
  | optimeSave
  | startupTestDone (a b c : StartupTests)
  -- seal, OTP and trust
  | sealReading (r : SwitchReading)
  | sealReread (r : SwitchReading)
  | burnGeneration (w0 w1 w2 w3 : BurnWord)
  | burnRetire (g : Fin 4)
  | burnKeySlot (slot : Fin 2) (hash : HashBurn)
  | burnRevoked (slot : Fin 2)
  | burnSvn
  | measCtrl (v : View) (w : Word)
  | measExtensionDone (l : LaneId)
  -- ring network and Invar; instants in ns of network time
  | frameArrival (p : Port) (bytes : List Byte) (ns : Nat)
  | guardianOverrun (p : Port) (source : BitVec 10)
  | ownSlotStart (slot : BitVec 12) (runningX runningY : Option (BitVec 10))
  | networkCycleBoundary
  | invarRateUpdate
  | invarListenOnly
  | invarNoRejoin
  | probeRequest (p : Port)
  | probeArrival (p : Port) (bytes : List Byte) (roundTrip : Nat)
  | linkDelayMeasured (p : Port)
  | lossOfSignal (p : Port)
  | linkFault (p : Port) (cause : BitVec 3)
  | linkStable (p : Port)
  | restoreCycle
  | restoreLapse (p : Port)
  | coldStart
  | coldPhaseEnd
  | commit (v : View)
  | slCtrlEnable (v : View) (enable : Bool)
  -- online change
  | parameter
  | stop
  | activate
  | force
  | unforce
  | imageSwapTimeout
  | enterMaint
  | leaveMaint
  | debugHalt
  | fenceRelease (l : BitVec 24)
  | swapDone
  | voteRelease (l : LaneId) (w : Word)
  | holdRelease (v : View) (w : Word)
  -- the debugger
  | laneDbgHalt (l : LaneId)
  | resume (l : LaneId)
  | step (l : LaneId) (n : Half)
  | nextCycle (l : LaneId)
  | readReg (l : LaneId) (addr : Word)
  | writeReg (l : LaneId) (addr data : Word)
  | readCr (l : LaneId) (addr : Word)
  | writeCr (l : LaneId) (addr data : Word)
  | readMem (l : LaneId) (addr : Word)
  | writeMem (l : LaneId) (addr data : Word)
  | setBrk (l : LaneId) (addr : Word)
  | clearBrk (l : LaneId) (addr : Word)
  -- mailboxes, staging buffer, locks
  | mbOut (v : View) (ch : Channel) (w : Word)
  | mbIn (v : View) (ch : Channel)
  | mbDbOut (v : View) (ch : Channel) (w : Word)
  | emptyWait (v : View) (ch : Channel)
  | mailboxStall (l : LaneId) (ch : Channel)
  | mbBcast (v : View) (w : Word)
  | mbBcastDb (v : View) (w : Word)
  | chgArm (v : View) (key : Byte)
  | chgDisarm (v : View) (key : Byte)
  | semaAcquire (v : View) (n : Fin 16)
  | semaRelease (v : View) (n : Fin 16) (w : Word)
  | serviceProcessorReset
  -- the maintenance protocol
  | tlsConnect (h : Handshake) (anchor : Option (BitVec 256))
  | sessionTimeout (sid : Fin 4)
  | status (sid : Fin 4) (req : Word)
  | control (sid : Fin 4) (req : Word) (request : Bool)
  | recordRead (sid : Fin 4) (req : Word) (body : List Byte)
  | quote (sid : Fin 4) (req : Word) (nonce : BitVec 256)
  | imageWrite (sid : Fin 4) (req : Word) (t : ImageTarget) (ty : ImageType) (offset : Nat) (bytes : List Byte)
  | flashDirWrite (sid : Fin 4) (req : Word) (anchors : Bool) (bytes : List Byte)
  | packageStage (sid : Fin 4) (req : Word) (bytes : List Byte)
  | svcEnterMaint (sid : Fin 4) (req : Word)
  | svcLeaveMaint (sid : Fin 4) (req : Word)
  | svcFenceRelease (sid : Fin 4) (req : Word) (l : LaneId)
  | svcDebugHalt (sid : Fin 4) (call : DebugCall)
  | svcInject (sid : Fin 4) (req : Word) (arm param : Word)
  | svcOtpBurn (sid : Fin 4) (req : Word) (b : Burn)
  | verdictReport
  | applied
  | imageActivate
  | designationRewrite
  | trialEnd
  | trialFailed
  | commandAnswer
  -- check-value units
  | cvuStart (v : View) (u : Fin 4)
  | cvuFinish (v : View) (u : Fin 4)
  | cvuAbort (v : View) (u : Fin 4)
  | feed8 (v : View) (u : Fin 4) (w : Word)
  | feed16 (v : View) (u : Fin 4) (w : Word)
  | feed32 (v : View) (u : Fin 4) (w : Word)
  | cvuValue (v : View) (u : Fin 4) (high : Bool) (w : Word)
  | cvuCount (v : View) (u : Fin 4) (w : Word)
  | cvuStrip (v : View) (u : Fin 4) (high : Bool) (w : Word)
  | cvuResult (v : View) (u : Fin 4) (out high : Bool)
  -- latching reads
  | tbNtLo (v : View)
  | tbCycleLo (v : View)
  | ringNcLo (v : View)
  | resetOptimeLo (v : View)
  -- the recorder
  | recSub (v : View) (w : Word)
  | fifoDrain
  | bucketRefill (code : BitVec 12)
  | flush (v : View) (w : Word)
  | flushStart
  | flushDone (failedPlaces : Nat)
  | compaction
  | recCtData (v : View) (w : Word)
  -- self-test and injection
  | sharedSliceStart
  | bistRunStop (shared : Bool) (checkpoints : Fin 9)
  | sliceRelease (shared : Bool) (misr : DWord) (restoreOk : Bool) (time : Word)
  | bistRotate (v : View) (on : Bool)
  | bistFull (v : View)
  | injArm (v : View) (w : Word)
  | injDisarm (v : View) (w : Word)
  | injectLapsed
  | registerWrite (v : View) (addr w : Word)
  -- inputs from outside that have a row of their own
  | inputSample (k : Fin 5) (a b c : RawWord)
  | railRecovered (pd : Fin 12)
  | feedReturn (f : Feed) (volt : BitVec 12)
  | linkSynchronised (p : Port)
  | sessionClose (sid : Fin 4)
  deriving DecidableEq, Repr

end Sys2Proof
end

