-- ==== Sys2Proof/Config.lean ====
section
/-! DEFINITION. What an implementation fixes and the spec leaves open: the named records of the recorder with
the codes and severities that the code list of a runtime release assigns (R433, R429), and the free values. Every
opaque constant below has no body: nothing in Lean can evaluate it or prove a value of it, so a claim that holds
of the model holds whatever the value is. -/

namespace Sys2Proof

/-- The records that the manual names, and events that it says are recorded without giving them a name (R433: each has
one code in its range). -/
inductive RecName
  -- GUARD: power, resets, priming, seal, OTP, injection
  | safeStop | primingDone | powerFail | supplyLow | feedLoss | domainFail | holdupNotReady | tempSensorDiff
  | serviceRail | serviceClock | sstopReqSingle | resetMapOverride | sealUnstable | sealGlitch | sealChange
  | sealChangedPending | sealReservedSet | sealRoleInvalid | sealStationMismatch | otpGenNone | otpGenInvalid
  | otpBurn | otpDed | requestDuringPowerFail
  | injectArmed | injectRefused | injectFired | injectLapsed
  -- vote, lanes, resynchronisation
  | fence | signatureMismatch | auditMismatch | gateDiff | twoKeyMismatch | laneDoubleTrap | laneLockedOut
  | fenceRelease | resyncFailed | resyncExhausted | rejoin
  -- cycle, runtime, traps, boot
  | cycleOverrun | inputAgreementFailed | codedValue | runtimeTrap | runRefused | eventDropped
  | restartIgnored | restartEdge | restartSplit | restartShort | restartJammed | remoteRestart | stopIgnored
  | cycleTnMismatch | cycleNcMismatch | clkNotQualified | authNoKey | authSlotUnendorsed
  | measureDiff | flashDesigNone | imageTrialFailed | programHeaderInvalid
  | stationHeaderInvalid | elementRecordInvalid | routeDescInvalid | chainDescInvalid | conflictMatrixInvalid
  | packDirInvalid | codeTableInvalid | ioConfigInvalid | slConfigInvalid
  -- route engine, online change, debug
  | changeVerdict | changeApplied | changeJournalFailed | imageSwapTimeout | debugHalt
  | debugBroken | forced
  -- vital inputs and outputs
  | inputDisagree | inputPulseFail | tpStuck | outputFault | outputTrip | laneSwitchFault | senseOdd | vfRange
  | openLoad | stuckOn | backfeed
  -- ring and Invar
  | ringAddressInvalid | ringAddressConflict | ringSchedDiff | ringSchedInvalid | ringSchedMismatch | ringClash
  | ringHeal | ringSelfSilence | ringGuardDiff | guardianBlock | guardianDisabled | coldstartNotMaster
  | coldstartExhausted | coldstartCollision | invarRateClip | invarListenOnly | invarNoRejoin
  -- safe links and boundary locks
  | slRxOverflow | slFailed | slLost | slTwinMissing
  -- service processor, mailboxes, self-test
  | mboxCmdRefused | mboxCleared | mailboxStall | spReportSingle | bistFail | bistAborted
  | bistIncomplete | bistPass | enterMaint | leaveMaint
  -- boot and the tests of STARTUP_TEST
  | bootFormat | bootKeyUnknown | bootSignature | bootRollback | bootHash | bistStartupFail | storeTestFail
  | layoutDigestDiff | imageActivate | bistSharedFail
  -- the recorder
  | recorderStart | logFault | logFull
  deriving DecidableEq, Repr

namespace Config

/-- The code that the code list of the runtime release gives a named record (R433). Only R443 and R438 give
codes themselves (the recorder's own records), so no claim may rest on a value of this constant. -/
opaque recordCode : RecName → BitVec 12

/-- The severity that the code list gives a record whose severity the manual does not give (R429). -/
opaque openSeverity : RecName → BitVec 3

/-- A parameter of a record whose meaning the code list of the runtime release gives (R433): the record, the
parameter's number and the free-value counter. -/
opaque openParam : RecName → Nat → Nat → Word

/-- The CLASSES field of a result with outcome ERROR, which the spec does not state (R65): the request word. -/
opaque errorClasses : Word → BitVec 6

/-- A fresh word the spec leaves open; it is applied to the free-value counter of the state. -/
opaque freeWord : Nat → Word

/-- A fresh choice between two allowed outcomes. -/
opaque freeBool : Nat → Bool

/-- The contents of a lane store that a reset leaves undefined (R363): some list of bytes; the operation that
installs it sorts it into the canonical form of memory. -/
opaque freeCells : Nat → List (Nat × Byte)

/-- The bytes of the boot ROM (R130), whose contents the spec does not give. -/
opaque bootRom : Nat → Byte

/-- The Denene runtime key held in the boot ROM (R388), 32 bytes. -/
opaque deneneKey : List Byte

/-- The expected 64-bit MISR value of a slice's full checkpoint run, held in the boot ROM (R458): the slice's
number, true for a shared slice, and the checkpoint. -/
opaque bistExpected : Bool → Nat → Nat → DWord

/-- Ed25519 verification (an external standard): public key, message, signature. -/
opaque ed25519Verify : List Byte → List Byte → List Byte → Bool

/-- The Ed25519 signature of a message with the module's device key (R392, R394). -/
opaque ed25519Sign : List Byte → List Byte

/-- The Denene device certificate of the module (R394, R409). -/
opaque deviceCertificate : List Byte

/-- Lengths of the bodies of STATUS and of a DEBUG reply (R411, R412), which the manual does not lay out. -/
opaque statusLength : Nat
opaque debugLength : Nat

end Config

/-- Records that name the cause of a SAFE_STOP or of a STARTUP_TEST failure: severity at least 4 (R429; which records
these are is DEDUCED). -/
def namesStop : RecName → Bool
  | .authNoKey | .measureDiff | .programHeaderInvalid | .stationHeaderInvalid | .elementRecordInvalid
  | .routeDescInvalid | .chainDescInvalid | .conflictMatrixInvalid | .packDirInvalid | .codeTableInvalid
  | .ioConfigInvalid | .slConfigInvalid | .bootFormat | .bootKeyUnknown | .bootSignature | .bootRollback | .bootHash
  | .bistStartupFail | .storeTestFail | .layoutDigestDiff | .imageTrialFailed | .changeJournalFailed
  | .sealStationMismatch | .sealRoleInvalid | .sealReservedSet | .clkNotQualified | .cycleTnMismatch
  | .cycleNcMismatch | .gateDiff | .twoKeyMismatch | .stuckOn | .backfeed => true
  | _ => false

/-- Records of a condition that the module tolerates and only reports: severity at most 3 (R429; which records these
are is DEDUCED). -/
def toleratedOnly : RecName → Bool
  | .feedLoss | .tempSensorDiff | .invarRateClip | .mboxCmdRefused | .mailboxStall | .spReportSingle | .sstopReqSingle
  | .codedValue | .eventDropped | .restartShort | .restartSplit | .slTwinMissing | .bistIncomplete | .bistAborted
  | .injectRefused => true
  | _ => false

/-- The 3-bit severity of a named record: as R429, R223, R351 and R443 give it; otherwise that of the code list within
the bounds of R429. -/
def severityOf (r : RecName) : BitVec 3 :=
  match r with
  | .primingDone | .changeVerdict | .recorderStart => 1
  | .sealGlitch | .ringHeal | .logFull => 2
  | .auditMismatch | .outputFault => 3
  | .cycleOverrun | .slFailed => 4
  | .fence | .signatureMismatch | .bistFail | .logFault => 5
  | .safeStop => 6
  | .powerFail | .sealChange | .restartIgnored => 7
  | r =>
    if namesStop r then Config.openSeverity r ||| 4
    else if toleratedOnly r then Config.openSeverity r &&& 3
    else Config.openSeverity r

/-- The record code: R443 and R438 give the recorder's own, the code list the others. -/
def codeOf : RecName → BitVec 12
  | .recorderStart => 0x7F0
  | .logFault => 0x7F2
  | .logFull => 0x7F3
  | r => Config.recordCode r

end Sys2Proof
end

