-- ==== Sys2Proof/Machine/Types.lean ====
section
/-! DEFINITION. The small types that the state is made of: lanes, modes, roles, reset levels and sources, the
record of the event recorder, the queue entries of the route engine, the messages of the votes. -/

namespace Sys2Proof

/-- The lane after a lane cyclically. -/
def LaneId.next : LaneId → LaneId
  | .A => .B | .B => .C | .C => .A

/-- The lane before a lane cyclically. -/
def LaneId.prev : LaneId → LaneId
  | .A => .C | .B => .A | .C => .B

/-- The number of a lane: 0 A, 1 B, 2 C. -/
def LaneId.num : LaneId → Nat
  | .A => 0 | .B => 1 | .C => 2

/-- The lane of a number. -/
def LaneId.ofNum : Nat → Option LaneId
  | 0 => some .A | 1 => some .B | 2 => some .C | _ => .none

/-- The lanes in letter order. -/
def LaneId.list : List LaneId := [.A, .B, .C]

namespace Machine

/-- One value for each lane A, B, C. -/
structure PerLane (α : Type) where
  a : α
  b : α
  c : α
  deriving DecidableEq, Repr

/-- The value of a lane. -/
def PerLane.get {α : Type} (x : PerLane α) : LaneId → α
  | .A => x.a
  | .B => x.b
  | .C => x.c

/-- The value of one lane replaced. -/
def PerLane.set {α : Type} (x : PerLane α) (l : LaneId) (v : α) : PerLane α :=
  match l with
  | .A => { x with a := v }
  | .B => { x with b := v }
  | .C => { x with c := v }

/-- The same value for each lane. -/
def PerLane.all {α : Type} (v : α) : PerLane α := { a := v, b := v, c := v }

/-- A function applied to the value of each lane. -/
def PerLane.map {α β : Type} (f : α → β) (x : PerLane α) : PerLane β := { a := f x.a, b := f x.b, c := f x.c }

/-- The twelve modes (R23). -/
inductive Mode
  | priming | startupTest | joining | stop | run | degraded | resync | hold | safeStop | maintenance | split
  | powerFail
  deriving DecidableEq, Repr

/-- The code by which a mode is reported (R23). -/
def Mode.code : Mode → Nat
  | .priming => 1 | .startupTest => 2 | .joining => 3 | .stop => 4 | .run => 5 | .degraded => 6 | .resync => 7
  | .hold => 8 | .safeStop => 9 | .maintenance => 10 | .split => 11 | .powerFail => 12

/-- The roles of SW1[11:10] (R17). -/
inductive Role | none | ixl | oc | split
  deriving DecidableEq, Repr

/-- The reset levels, and the mapping of a source to none (R363, R367). -/
inductive Level | po | sy | co | none
  deriving DecidableEq, Repr

/-- The 2-bit code of a level (R367). -/
def Level.code : Level → Nat
  | .po => 0 | .sy => 1 | .co => 2 | .none => 3

/-- The reset sources (R364). -/
inductive Source
  | powerOn | pin | powerFailEnd | laneRequest | parityVote | paritySched | parityRoute | parityLanectl | otpDed
  | resync | clkLoss | laneRail | sealUnstable
  deriving DecidableEq, Repr

/-- The number of a source (R364). -/
def Source.num : Source → Nat
  | .powerOn => 0 | .pin => 1 | .powerFailEnd => 2 | .laneRequest => 3 | .parityVote => 4 | .paritySched => 5
  | .parityRoute => 6 | .parityLanectl => 7 | .otpDed => 8 | .resync => 9 | .clkLoss => 10 | .laneRail => 11
  | .sealUnstable => 12

/-- The origins of SAFE_STOP with their codes (R351). -/
inductive Origin
  | vote | lane | gateDiff | twoKey | output | seal | supplyHigh | temperature | domain | clock | unmapped | impostor
  deriving DecidableEq, Repr

/-- The code of an origin (R351). -/
def Origin.code : Origin → Nat
  | .vote => 1 | .lane => 2 | .gateDiff => 3 | .twoKey => 4 | .output => 5 | .seal => 6 | .supplyHigh => 7
  | .temperature => 8 | .domain => 9 | .clock => 10 | .unmapped => 11 | .impostor => 12

/-- A record of the event recorder (R428). -/
structure Rec where
  code : BitVec 12
  severity : BitVec 3
  source : BitVec 4
  summary : Bool
  pf : Bool
  app : Bool
  agreed : Bool
  /-- operating time in ms -/
  optime : BitVec 48
  frac : Half
  pcycle : Word
  p0 : Word
  p1 : Word
  p2 : Word
  p3 : Word
  deriving DecidableEq, Repr

/-- What the core of a lane is doing. -/
inductive Run
  /-- held in reset, without supply, or in the resynchronisation wait of the boot ROM -/
  | held
  /-- executing instructions -/
  | running
  /-- stalled in WAIT with its destination register (R146) -/
  | waiting (d : Reg)
  /-- stalled on the route engine in the instruction named (R33, R161) -/
  | stalled (i : Instr)
  /-- CYCEND completed or the cycle given up: waiting for the vote and the next cycle start (R100) -/
  | ended
  /-- stopped by HALT or a double trap until a CO reset (R146, R152) -/
  | stopped
  /-- halted for the debugger in HOLD (R149, R204) -/
  | debug
  deriving DecidableEq, Repr

/-- The phase of a lane's cycle (R111 PHASE). -/
inductive Phase | agreement | evaluation | waiting | gap
  deriving DecidableEq, Repr

/-- The code of a phase (R111). -/
def Phase.code : Phase → Nat
  | .agreement => 0 | .evaluation => 1 | .waiting => 2 | .gap => 3

/-- A comparison of signatures (R216). -/
inductive Cmp | equal | different | missing
  deriving DecidableEq, Repr

/-- The code of a comparison in VOTE_VIEW (R243). -/
def Cmp.code : Cmp → Nat
  | .equal => 0 | .different => 1 | .missing => 2

/-- A row of comparisons: the lane's value for the next lane cyclically and for the previous one (R243). -/
structure Row where
  next : Cmp
  prev : Cmp
  deriving DecidableEq, Repr

/-- Why a lane is a pending cause (R216, CAUSE codes of R243). -/
inductive CauseKind
  /-- input disagreement, or a switch or sense fault: CAUSE 4 -/
  | input
  /-- audit difference or BIST failure: CAUSE 5 -/
  | audit
  deriving DecidableEq, Repr

/-- The decision codes (R217). -/
inductive Decision
  | none | cont | fence (l : LaneId) | rejoin (l : LaneId) | stop
  deriving DecidableEq, Repr

/-- The code of a decision (R217). -/
def Decision.code : Decision → Nat
  | .none => 0
  | .cont => 1
  | .fence l => 2 + l.num
  | .rejoin l => 5 + l.num
  | .stop => 8

/-- How far the interlocking cycle of the module has come (R103). -/
inductive CycleStep
  /-- the output cut has come, and the next cycle start has not -/
  | idle
  /-- from the cycle start to the end of input agreement -/
  | agreement
  /-- from there to the close of the signature round -/
  | evaluation
  /-- the signature round has closed -/
  | compared
  /-- the view round has closed -/
  | viewed
  /-- the vote deadline has passed: the gap -/
  | voted
  deriving DecidableEq, Repr

/-- A request in the engine queue with its result once the engine has completed it (R65). -/
structure QEntry where
  request : Word
  result : Option Word
  deriving DecidableEq, Repr

/-- A safe PDU as bytes, with the connection it belongs to. -/
structure Pdu where
  conn : Nat
  bytes : List Byte
  deriving DecidableEq, Repr

/-- An event that waits to change the mode at the next output cut (R25, R28): its rank, the code of the record that
names it when it is dropped, and which event it is. -/
inductive ModeEvent
  /-- a single-lane mismatch: a FENCE decided in RUN -/
  | mismatch
  | debugHalt
  | stopCommand
  /-- a restart event: by the edge, or by a remote token alone -/
  | restart (remote : Bool)
  | enterMaint
  | leaveMaint
  | rejoin (l : LaneId)
  | startResync
  | resyncFailed
  | joined
  | holdReleased
  deriving DecidableEq, Repr

end Machine

end Sys2Proof
end

