-- ==== Sys2Proof/Machine/StateLane.lean ====
section
/-! DEFINITION. The state of one lane, block by block. Each field's comment ends with its width, the rule of the
spec that names it and its value at reset: a DESIGN CHOICE names the log entry. State that the spec places at
addresses of the lane store (tables, header, output image, counters) is held in the store alone. -/

namespace Sys2Proof.Machine

/-- The core of a lane (R125 to R128). -/
structure Core where
  /-- General registers g0 to g31; g0 reads as zero. [32 x 32; 04 R125; DESIGN CHOICE 0 (log 1)] -/
  g : Vector Word 32
  /-- Program counter. [32; 04 R125, R126; 0x4000_0000] -/
  pc : Word
  /-- STATUS.PRIV: runtime level. [1; 04 R128; 1] -/
  priv : Bool
  /-- STATUS.INTRAP. [1; 04 R128; 0] -/
  intrap : Bool
  /-- STATUS.CVE. [1; 04 R128; 0] -/
  cve : Bool
  /-- STATUS.AH. [1; 04 R128; 0] -/
  ah : Bool
  /-- TSTATUS.SAVED: PRIV, INTRAP, CVE, AH at trap entry. [4; 04 R128; 0] -/
  tstatus : BitVec 4
  /-- TPC. [32; 04 R128; 0] -/
  tpc : Word
  /-- TCAUSE. [32; 04 R128; 0] -/
  tcause : Word
  /-- TVAL. [32; 04 R128; 0] -/
  tval : Word
  /-- TVEC. [32; 04 R128; 0x4000_0000] -/
  tvec : Word
  /-- AHVEC. [32; 04 R128; 0] -/
  ahvec : Word
  /-- AMASK. [16; 04 R128; 0] -/
  amask : Half
  /-- CVCOUNT. [32; 04 R128; 0] -/
  cvcount : Word
  /-- INSTRET. [32; 04 R128; 0] -/
  instret : Word
  /-- EVENTS[7:0]: MBOX, RING, SAFELINK, VOTE, CYCLE, RECORD, BIST, POWER. [8; 04 R128; 0] -/
  events : Byte
  /-- EVMASK. [8; 04 R128; 0] -/
  evmask : Byte
  /-- TSCR0. [32; 04 R128; 0] -/
  tscr0 : Word
  /-- TSCR1. [32; 04 R128; 0] -/
  tscr1 : Word
  /-- WPBASE0 to WPBASE3. [4 x 32; 04 R128; 0] -/
  wpbase : Vector Word 4
  /-- WPLIM0 to WPLIM3. [4 x 32; 04 R128; 0] -/
  wplim : Vector Word 4
  /-- What the core is doing. [state; 04 R126, R146, R152, 12 R368; held in reset] -/
  run : Run
  /-- Per-cycle count of coded-value events. [32; 04 R145; 0] -/
  cvCycle : Word
  /-- Register bytes whose parity bit is wrong: 4 x register + byte. [128 flags; 04 R125; none] -/
  badReg : List Nat
  /-- Pack-call stack, top first: return address and the pack current before the call. [4 entries; 05 R179; empty] -/
  packStack : List (Word × Option Nat)
  /-- Current pack, none with an empty stack. [3 + 1; 05 R179; none] -/
  pack : Option Nat
  deriving DecidableEq, Repr

/-- The store of a lane with the byte parity and the donor's dirty bits. -/
structure Store where
  /-- Bytes of the lane store 0x0000_0000 to 0x03FF_FFFF in canonical form; an unlisted byte reads 0.
  [64 MiB; 04 R130, 07 R230; DESIGN CHOICE all 0 (log 2)] -/
  cells : List Host.Cell
  /-- Addresses of the bytes whose parity bit is wrong, ascending. [64 Mi flags; 04 R133; none] -/
  badParity : List Nat
  /-- Dirty bit of each page of 4 KiB, pages 0 to 8,191 the program, station data and audited regions in address
  order of R230. [12,288; 07 R231; 0] -/
  dirty : BitVec 12288
  deriving DecidableEq, Repr

/-- The route engine of a lane with its queue and the ROUTE registers (chapter 02). -/
structure Engine where
  /-- The queue: at most 64 uncollected requests, oldest first. [64 entries; 02 R65, R68; empty] -/
  queue : List QEntry
  /-- A SWEEP request has been put in this cycle. [1; 02 R57; 0] -/
  sweepPut : Bool
  /-- Digests of the sweeps completed in this cycle and not yet fed. [list of 32; 02 R70; empty] -/
  digests : List Word
  /-- ROUTE_CTRL.ENABLE. [1; 02 R77; 0] -/
  enable : Bool
  /-- An INIT is in progress. [1; 02 R77, R78; 0] -/
  initBusy : Bool
  /-- ROUTE_CFG0.ELEMENTS. [15; 02 R80; 0] -/
  cfgElements : BitVec 15
  /-- ROUTE_CFG0.ROUTES. [14; 02 R80; 0] -/
  cfgRoutes : BitVec 14
  /-- ROUTE_CFG1.CHAINS. [11; 02 R80; 0] -/
  cfgChains : BitVec 11
  /-- ROUTE_ERR. [32; 02 R82; 0] -/
  err : Word
  /-- ROUTE_ERR_INFO. [32; 02 R82; 0] -/
  errInfo : Word
  /-- ROUTE_SWEEP_CYCLE. [32; 02 R83; 0] -/
  sweepCycle : Word
  /-- ROUTE_SWEEP_DIGEST. [32; 02 R83; 0] -/
  sweepDigest : Word
  /-- ROUTE_SWEEP_CHECKS. [32; 02 R83; 0] -/
  sweepChecks : Word
  /-- ROUTE_SWEEP_TIME. [32; 02 R83; 0] -/
  sweepTime : Word
  /-- ROUTE_SWEEP_MAX. [32; 02 R83; 0] -/
  sweepMax : Word
  /-- ROUTE_REQ_COUNT. [32; 02 R83; 0] -/
  reqCount : Word
  /-- ROUTE_REFUSED_COUNT. [32; 02 R83; 0] -/
  refusedCount : Word
  /-- ROUTE_CODED_COUNT. [32; 02 R83; 0] -/
  codedCount : Word
  deriving DecidableEq, Repr

/-- A lane's view of TIMEBASE (R109: configuration, cycle fields and budget belong to the view). -/
structure TbView where
  /-- TB_CYCLE_CFG.TN. [2; 03 R112; 0] -/
  tn : BitVec 2
  /-- TB_CYCLE_CFG.KM1. [4; 03 R112; 0] -/
  km1 : BitVec 4
  /-- TB_STATUS.CFG_VALID. [1; 03 R111; 0] -/
  cfgValid : Bool
  /-- TB_NT_HI latch. [32; 03 R112; 0] -/
  ntHi : Word
  /-- TB_NT_FRAC latch. [32; 03 R112; 0] -/
  ntFrac : Word
  /-- Cycle number n captured at t0 (TB_CYCLE_LO). [48; 03 R87, R112; 0] -/
  cycle : BitVec 48
  /-- TB_CYCLE_HI latch. [16; 03 R112; 0] -/
  cycleHi : Half
  /-- NT at the latest cycle-start event of this view, TB_T0_STAMP its low word. [64; 03 R112; 0] -/
  t0 : DWord
  /-- A cycle-start event has been delivered since SY. [1; 03 R88; 0] -/
  started : Bool
  /-- TB_CYCEND_MIN. [32; 03 R112; 0xFFFF_FFFF] -/
  cycendMin : Word
  /-- TB_OVERRUN. [32; 03 R112; 0] -/
  overrun : Word
  /-- TB_STATUS.PHASE. [2; 03 R111; 0] -/
  phase : Phase
  deriving DecidableEq, Repr

/-- What belongs to one interlocking cycle of a lane; cleared at the cycle start. -/
structure Cycle where
  /-- The lane performed CYCEND step 5 in this cycle: its signature has been sent. [1; 03 R100; 0] -/
  done : Bool
  /-- The dirty pages of the store at that step. [12,288; 07 R232; 0] -/
  dirtyEnd : BitVec 12288
  /-- The application has been started in this cycle. [1; 03 R97; 0] -/
  app : Bool
  /-- The lane has given the cycle up: overrun, lane fault, failed agreement. [1; 03 R98, 04 R152; 0] -/
  lost : Bool
  /-- The unhandled-trap marker is carried by the signature. [1; 04 R150; 0] -/
  marker : Bool
  /-- The lane must decide STOP by itself (failed input agreement, single SAFE_STOP request). [1; 03 R95, 12 R352; 0] -/
  ownStop : Bool
  /-- Output enables latched at CYCEND for the coming cut. [48, may be absent; 03 R100; none] -/
  enables : Option OutBits
  /-- PDU copies handed to the ring port. [list; 03 R100; none] -/
  handed : Option (List Pdu)
  /-- Events of R25 that the lane has accepted in this cycle. [list; 07 R487; none] -/
  events : List ModeEvent
  /-- Packs whose INIT has yet to be called for a RUN request, with the request active. [list; 03 R119; none] -/
  initCalls : Option (List Nat)
  /-- That request came by a remote token alone. [1; 03 R119, 08 R263; 0] -/
  remote : Bool
  /-- A stop command was accepted in this cycle. [1; 03 R122; 0] -/
  stopCmd : Bool
  deriving DecidableEq, Repr

/-- The VOTE block of a lane (chapter 07). -/
structure VoteBlk where
  /-- The signature register S. [64; 07 R209; 0] -/
  s : DWord
  /-- FEEDS. [32; 07 R209; 0] -/
  feeds : Word
  /-- The checkpoint state hash H. [64; 07 R211; 0] -/
  h : DWord
  /-- The block keeps the values of the last vote: no vote is under way. [1; 07 R241; 0] -/
  still : Bool
  /-- Signatures held for each lane. [3 x 64, may be absent; 07 R215, R243; none] -/
  sigs : PerLane (Option DWord)
  /-- Comparison rows held. [3 rows; 07 R216, R243; none] -/
  rows : PerLane (Option Row)
  /-- The rows as VOTE_VIEW shows them after the close of the round. [15; 07 R243; 0] -/
  view : BitVec 15
  /-- The signatures as VOTE_SIG shows them since the close of the round. [3 x 64; 07 R243; 0] -/
  sigRegs : PerLane DWord
  /-- VOTE_RESULT.MODULE. [4; 07 R243; 0] -/
  module : BitVec 4
  /-- VOTE_RESULT.OWN: the code driven at the last vote. [4; 07 R243; 0] -/
  own : BitVec 4
  /-- VOTE_RESULT.CAUSE. [4; 07 R243; 0] -/
  cause : BitVec 4
  /-- The decision lines that the lane drives in this cycle; none before the view round closes.
  [4, may be absent; 07 R215; none] -/
  lines : Option Decision
  /-- VOTE_CYCLE. [32; 07 R243; 0] -/
  cycle : Word
  /-- Pending causes of this cycle's vote: lane and kind. [list; 07 R216; none] -/
  pending : List (LaneId × CauseKind)
  /-- An unattributable cause is pending. [1; 07 R216; 0] -/
  unattributable : Bool
  /-- VOTE_AUDIT.STEP. [6; 07 R243; 0] -/
  auditStep : BitVec 6
  /-- VOTE_AUDIT.PASSES. [16; 07 R243; 0] -/
  auditPasses : Half
  /-- VOTE_AUDIT_DIFF. [32; 07 R243; 0] -/
  auditDiff : Word
  /-- The audit step of this gap is being read. [1; 07 R222; 0] -/
  auditing : Bool
  /-- Audit digests held for each lane in this gap. [3 x 64 x 64, may be absent; 07 R222; none] -/
  digests : PerLane (Option (List DWord))
  /-- VOTE_FENCE_COUNT. [3 x 8; 07 R243; 0] -/
  fenceCount : PerLane Byte
  /-- VOTE_RELEASE written in this cycle. [2, may be absent; 07 R227; none] -/
  release : Option LaneId
  deriving DecidableEq, Repr

/-- The LANE block of a lane: control, links, debugger (chapters 07 and 06). -/
structure LaneBlk where
  /-- LANE_CTRL.LAYOUT. [1; 07 R240; 0] -/
  layout : Bool
  /-- LANE_MODE.MIRRORED. [1; 07 R240; 0] -/
  mirrored : Bool
  /-- LANE_RESYNC_TIME. [32; 07 R240; 0] -/
  resyncTime : Word
  /-- LANE_RESYNC_COUNT.DONE. [16; 07 R240; 0] -/
  resyncDone : Half
  /-- LANE_RESYNC_COUNT.FAILED. [16; 07 R240; 0] -/
  resyncFailed : Half
  /-- LANE_LINK.UP_NEXT. [1; 07 R240; 0] -/
  upNext : Bool
  /-- LANE_LINK.UP_PREV. [1; 07 R240; 0] -/
  upPrev : Bool
  /-- LANE_LINK_ERR.NEXT. [16; 07 R240; 0] -/
  errNext : Half
  /-- LANE_LINK_ERR.PREV. [16; 07 R240; 0] -/
  errPrev : Half
  /-- LANE_DBG_ADDR. [32; 07 R240; 0] -/
  dbgAddr : Word
  /-- LANE_DBG_DATA. [32; 07 R240; 0] -/
  dbgData : Word
  /-- LANE_DBG_STATUS.DONE. [1; 07 R240; 0] -/
  dbgDone : Bool
  /-- LANE_DBG_STATUS.REFUSED. [1; 07 R240; 0] -/
  dbgRefused : Bool
  /-- LANE_DBG_STATUS.REASON. [3; 07 R240; 0] -/
  dbgReason : BitVec 3
  /-- Instructions that STEP has still to execute; 0 for a HALT that waits for the next boundary.
  [16, may be absent; 06 R204; none] -/
  dbgSteps : Option Nat
  /-- Breakpoints: address and the word it replaced. [at most 32; 06 R205; none] -/
  breakpoints : List (Word × Word)
  /-- Input words received for the coming agreement, by sender; the lane's own among them.
  [3 x 66, may be absent; 03 R95; none] -/
  inputs : PerLane (Option RawWord)
  deriving DecidableEq, Repr

/-- A change package that a lane has pending (R187 to R191). -/
structure PendingChange where
  bytes : List Byte
  /-- the cycle of its intake, low 32 bits -/
  intake : Word
  /-- slices already performed -/
  slices : Nat
  /-- once the validation has ended: the code of R189 (0 accepts) and the index of the failing entry -/
  verdict : Option (Byte × Byte)
  /-- the verdict has been posted and recorded -/
  posted : Bool
  /-- the cycle of application, low 32 bits (R191) -/
  apply : Word
  deriving DecidableEq, Repr

/-- A forced item (R199, R200). -/
structure Forced where
  target : Word
  value : Word
  previous : Word
  deriving DecidableEq, Repr

/-- A lane's part of online change and forcing (chapter 06). -/
structure Change where
  /-- The pending package. [<= 1,024 bytes; 06 R187; none] -/
  pend : Option PendingChange
  /-- The sequence number of the last applied package. [32; 06 R195; 0] -/
  lastSeq : Word
  /-- The force table. [<= 64 entries; 06 R200; empty] -/
  forces : List Forced
  /-- An image swap awaits its answer: t0(a) of the ACTIVATE package. [64, may be absent; 06 R197; none] -/
  swapWait : Option DWord
  /-- The words that an application in this cycle has still to feed. [list of 32; 06 R191; empty] -/
  feeds : List Word
  /-- The authority key slots that the lane has found valid in STARTUP_TEST, bit k for slot k. [2; 13 R385; 0] -/
  slots : BitVec 2
  deriving DecidableEq, Repr

/-- A lane's part of the vital inputs and of the output stage's readings (chapter 08). -/
structure VioLane where
  /-- The five samples of the input cut. [5 x 66, may be absent; 03 R93; none] -/
  samples : Vector (Option RawWord) 5
  /-- VIO_RAW: the lane's raw word of the last cut. [66; 08 R268; 0] -/
  raw : RawWord
  /-- VIO_PFAIL: inputs substituted by 0. [66; 08 R248; 0] -/
  pfail : RawWord
  /-- VIO_AGREED: agreed word. [66; 08 R268; 0] -/
  agreed : RawWord
  /-- Words that took part in the last agreement. [3; 08 R268; 0] -/
  words : BitVec 3
  /-- The last agreement ran 2oo2. [1; 08 R268; 0] -/
  degAgree : Bool
  /-- VIO_EN: enables latched by the lane. [48; 08 R268; 0] -/
  en : OutBits
  /-- VIO_CFG. [32; 08 R267; 0x0000_0019 (R268)] -/
  cfg : Word
  /-- VIO_TP_MAP. [9 x 32; 08 R267; 0xFFFF_FFFF] -/
  tpMap : Vector Word 9
  /-- VIO_LOADMIN. [12 x 32; 08 R267; 0] -/
  loadMin : Vector Word 12
  /-- The lane's last readings of the stage. [readings; 08 R268; 0] -/
  readback : Readback
  /-- VIO clock qualified. [1; 12 R370; 0] -/
  qualified : Bool
  /-- VIO clock released before qualification. [1; 12 R371; 0] -/
  clkUnq : Bool
  /-- VIO_DIS_COUNT. [32; 08 R268; 0] -/
  disCount : Word
  deriving DecidableEq, Repr

/-- A copy of a safe PDU as the ring port delivers it to a lane: the frame's SOURCE, its HEALED flag, the bytes, the
stamp (R92). -/
structure Copy where
  source : BitVec 10
  healed : Bool
  bytes : List Byte
  /-- network time in ns at which the last byte of its frame had passed the ring CRC -/
  stamp : Nat
  deriving DecidableEq, Repr

/-- The SAFELINK block of a lane (chapter 10); the connections' states are in the staging entries of the store. -/
structure SlBlk where
  /-- SL_CTRL.ENABLE. [1; 10 R333; 0] -/
  enable : Bool
  /-- SL_STATUS.CFG_OK. [1; 10 R333; 0] -/
  cfgOk : Bool
  /-- SL_ERR. [32; 10 R333; 0] -/
  err : Word
  /-- SL_ERR_INFO. [32; 10 R333; 0] -/
  errInfo : Word
  /-- SL_ACCEPT. [32; 10 R333; 0] -/
  accept : Word
  /-- SL_DISC_CODE and OTHER. [2 x 16; 10 R333; 0] -/
  discCode : Half
  discOther : Half
  /-- SL_DISC_AGE: AGE and OLD. [2 x 16; 10 R333; 0] -/
  discAge : Half
  discOld : Half
  /-- SL_TWIN: CONFIRMED and MISSING. [2 x 16; 10 R333; 0] -/
  twinOk : Half
  twinMissing : Half
  /-- SL_LAST_DISC. [32; 10 R333; 0] -/
  lastDisc : Word
  /-- SL_STATE0 to SL_STATE31. [32 x 32; 10 R333; 0] -/
  stateReg : Vector Word 32
  /-- SL_NEW0 to SL_NEW15. [16 x 32; 10 R333; 0] -/
  newReg : Vector Word 16
  /-- The lane's receive buffer at the ring port: copies for the next cut, in stamp order. [<= 2,048 copies; 03 R92,
  10 R319; empty] -/
  rx : List Copy
  /-- Copies beyond the buffer, for the next cut. [count; 10 R319; 0] -/
  rxOver : Nat
  /-- The copies of the cut of this cycle, and those that did not fit. [<= 2,048 copies + count; 03 R92; empty] -/
  cut : List Copy
  cutOver : Nat
  /-- In SPLIT: the PDUs of the lane's last cycle, released for its slots. [list; 01 R19; empty] -/
  release : List Pdu
  /-- Connections whose PDU accepted at the previous cut has found no twin by the end of this one. [512 flags;
  10 R318; none] -/
  twinDue : List Nat
  deriving DecidableEq, Repr

/-- One check-value unit (chapter 11). -/
structure Cvu where
  /-- CVU_CTRL. [32; 11 R348; 0] -/
  ctrl : Word
  /-- CVU_STATUS.STATE. [2; 11 R348; 0] -/
  state : BitVec 2
  /-- CVU_STATUS.CHECK. [2; 11 R348; 0] -/
  check : BitVec 2
  /-- CVU_STATUS error flags CFG, ORDER, EARLY. [3; 11 R348; 0] -/
  err : BitVec 3
  /-- CVU_POLY. [64; 11 R348; 0] -/
  poly : DWord
  /-- CVU_INIT. [64; 11 R348; 0] -/
  init : DWord
  /-- CVU_XOR. [64; 11 R348; 0] -/
  xor : DWord
  /-- CVU_VALUE: the register s. [64; 11 R339, R348; 0] -/
  value : DWord
  /-- CVU_COUNT. [32; 11 R348; 0] -/
  count : Word
  /-- CVU_RESULT. [64; 11 R348; 0] -/
  result : DWord
  /-- CVU_OUT. [64; 11 R348; 0] -/
  out : DWord
  /-- The strip line: bytes held back before compression. [list; 11 R340; empty] -/
  strip : List Byte
  /-- An internal parity error. [1; 11 R345; 0] -/
  parity : Bool
  deriving DecidableEq, Repr

/-- One mailbox channel of a lane, both directions (chapter 14). -/
structure Chan where
  /-- Outbound queue, oldest first. [8 x 32; 14 R414; empty] -/
  out : List Word
  /-- Inbound queue, visible words, oldest first. [8 x 32; 14 R414; empty] -/
  inq : List Word
  /-- Inbound words of the secure channel not yet visible. [8 x 32; 14 R415; empty] -/
  hidden : List Word
  /-- Error flags, lane side. [6; 14 R424; 0] -/
  errLane : Byte
  /-- Error flags, service side. [6; 14 R424; 0] -/
  errSvc : Byte
  /-- EMPTY_WAIT armed, lane side and service side. [2; 14 R417; 0] -/
  emptyLane : Bool
  emptySvc : Bool
  /-- Doorbells received by the lane and its mask. [2 x 32; 14 R416; 0] -/
  dbLane : Word
  maskLane : Word
  /-- Doorbells received by the service processor and its mask. [2 x 32; 14 R416; 0] -/
  dbSvc : Word
  maskSvc : Word
  /-- Refused writes FULL and reads EMPTY, both sides. [4 x 16; 14 R424; 0] -/
  refFullLane : Half
  refEmptyLane : Half
  refFullSvc : Half
  refEmptySvc : Half
  /-- Doorbells not yet visible on the secure channel. [32; 14 R416; 0] -/
  dbHidden : Word
  deriving DecidableEq, Repr

/-- The lock block of a lane (R425 to R427). -/
structure Sema where
  /-- Owner of each lock: 0 free. [16 x 2; 14 R425; 0] -/
  owner : Vector (BitVec 2) 16
  /-- SEMA_ERR. [32; 14 R427; 0] -/
  err : Word
  /-- SEMA_CONTEND. [32; 14 R427; 0] -/
  contend : Word
  deriving DecidableEq, Repr

/-- The submission registers of a lane's view of the recorder (R449). -/
structure RecView where
  /-- REC_SUB_P0. [32; 15 R449, R450; 0] -/
  p0 : Word
  /-- REC_SUB_P1. [32; 15 R449, R450; 0] -/
  p1 : Word
  /-- REC_SUB_P2. [32; 15 R449, R450; 0] -/
  p2 : Word
  /-- REC_SUB_P3. [32; 15 R449, R450; 0] -/
  p3 : Word
  /-- REC_SUB_RESULT. [2; 15 R450; 0] -/
  result : BitVec 2
  /-- REC_CT_INDEX. [12; 15 R450; 0] -/
  ctIndex : BitVec 12
  /-- REC_CT_DATA: values offered by this view, by code. [4,096 x 32; 15 R434; none] -/
  offers : List (Nat × Word)
  deriving DecidableEq, Repr

/-- The MEASURE block of a lane (R389, R398 to R400). -/
structure Measure where
  /-- The five measurement registers M0 to M4. [5 x 512; 13 R389; 0] -/
  m : Vector (BitVec 512) 5
  /-- An extension is running: the index, and the value it will give. [3, may be absent; 13 R398; none] -/
  busy : Option (Nat × BitVec 512)
  refused : Bool
  extended : BitVec 5
  count : Word
  /-- MEAS_DIGEST0 to 15. [16 x 32; 13 R400; 0] -/
  digest : Vector Word 16
  deriving DecidableEq, Repr

/-- A lane's view of the ring interface: its copy of the schedule (R281, R305). -/
structure RingView where
  /-- The 16 header words. [16 x 32; 09 R305; 0] -/
  header : Vector Word 16
  /-- Entry words written, by index; an unlisted entry is 0. [8,192 x 32; 09 R305; 0] -/
  entries : List (Nat × Word)
  /-- The view has committed its copy. [1; 09 R281; 0] -/
  committed : Bool
  /-- RING_NC latch. [16; 09 R306; 0] -/
  ncHi : Half
  deriving DecidableEq, Repr

/-- A lane's view of the self-test (R466): results as the lane itself judged them. -/
structure BistView where
  /-- BIST_CTRL.ROTATE. [1; 16 R466; 0] -/
  rotate : Bool
  /-- A full run is in progress. [1; 16 R466; 0] -/
  full : Bool
  /-- BIST_STATUS.STARTUP_DONE. [1; 16 R466; 0] -/
  startupDone : Bool
  /-- BIST_LAST and BIST_LAST_SH. [2 x 32; 16 R466; 0] -/
  last : Word
  lastSh : Word
  /-- BIST_MISR. [64; 16 R466; 0] -/
  misr : DWord
  /-- BIST_TIME. [32; 16 R466; 0] -/
  time : Word
  /-- BIST_PASS. [32; 16 R466; 0] -/
  pass : Word
  /-- BIST_OTHER: INCOMPLETE and ABORTED. [2 x 16; 16 R466; 0] -/
  incomplete : Half
  aborted : Half
  /-- BIST_FAILMAP_A to C. [3 x 48; 16 R466; 0] -/
  failMap : PerLane (BitVec 48)
  /-- BIST_SH_FAILMAP.FAIL. [8; 16 R466; 0] -/
  shFail : Byte
  /-- The result words that the lane feeds in the next cycle with a vote. [2 x 32, may be absent; 16 R458; none] -/
  feedLane : Option Word
  feedShared : Option Word
  deriving DecidableEq, Repr

/-- One lane: its core, its store and its blocks. -/
structure Lane where
  core : Core
  store : Store
  engine : Engine
  tb : TbView
  cyc : Cycle
  vote : VoteBlk
  blk : LaneBlk
  change : Change
  vio : VioLane
  sl : SlBlk
  cvu : Vector Cvu 4
  mbSec : Chan
  mbNon : Chan
  sema : Sema
  recv : RecView
  meas : Measure
  ring : RingView
  bist : BistView
  /-- RESET_REQ written: REQ = 1 in this cycle. [1; 12 R364; 0] -/
  reqSy : Option Half
  /-- RESET_REQ written: REQ = 2, with the instant (NT) and REASON. [16 + 64, may be absent; 12 R352; none] -/
  reqStop : Option (DWord × Half)
  deriving DecidableEq, Repr

end Sys2Proof.Machine
end

