-- ==== Sys2Proof/Machine/StateShared.lean ====
section
/-! DEFINITION. The state of the shared blocks: time base, recorder, GUARD, the module's mode and the
resynchronisation sequencer, the change buffer. -/

namespace Sys2Proof.Machine

/-- Constantan, the one time base (R106). -/
structure Timebase where
  /-- Network time in 10 ns units. [64; 03 R106; 0] -/
  nt : DWord
  /-- Fraction of NT. [32; 03 R106; 0] -/
  ntf : Word
  /-- RATE, signed. [32; 03 R106; 0] -/
  rate : Word
  /-- Offset correction not yet applied, signed ns. [32; 03 R112; 0] -/
  slew : Word
  /-- The offset correction being spread, and the ticks left of its network cycle. [32 + 32; 03 R106; 0] -/
  slewD : Word
  slewTicks : Nat
  /-- Clock qualified. [1; 03 R111; 0] -/
  qualified : Bool
  /-- Released before qualification. [1; 03 R111; 0] -/
  clkUnq : Bool
  /-- Released before its clock is qualified, and running. [1; 12 R371; 0] -/
  early : Bool
  /-- SYNCED: own deviation within the Invar window. [1; 03 R111; 0] -/
  synced : Bool
  deriving DecidableEq, Repr

/-- The bucket of a record code (R435). -/
structure Bucket where
  tokens : Nat
  refillStart : Nat
  /-- refill instants of this start already acted on -/
  refills : Nat
  suppressed : Word
  first : Word
  last : Word
  p0 : Word
  maxSev : BitVec 3
  deriving DecidableEq, Repr

/-- The recorder Pewter (chapter 15). -/
structure Recorder where
  /-- Intake FIFO, oldest first. [66 records; 15 R438; empty] -/
  fifo : List Rec
  /-- Unflushed records of the volatile buffer, oldest first. [4,096 records; 15 R439; empty] -/
  buffer : List Rec
  /-- Live records of the flash log in store order. [<= 1,040,384 records; 15 R444; DESIGN CHOICE empty (log 3)] -/
  log : List Rec
  /-- Deleted places of the log. [20; 15 R444; DESIGN CHOICE 0 (log 3)] -/
  deleted : Nat
  /-- Buckets by code; an unlisted code has a full bucket. [4,096 buckets; 15 R435; full] -/
  buckets : List (Nat × Bucket)
  /-- Code table entries in effect, by code; an unlisted one is DEPTH 16, PERIOD 10. [4,096 x 32; 15 R434; none] -/
  table : List (Nat × Word)
  /-- Lost submissions per severity since the last LOST_EVENTS. [8 x 16; 15 R438; 0] -/
  lostInt : Vector Half 8
  /-- REC_LOST_LO and REC_LOST_HI. [8 x 8; 15 R450; 0] -/
  lost : Vector Byte 8
  /-- REC_SUPPRESSED. [32; 15 R450; 0] -/
  suppressed : Word
  /-- REC_DROPPED. [32; 15 R450; 0] -/
  dropped : Word
  /-- REC_FLUSH.COUNT. [16; 15 R450; 0] -/
  flushCount : Half
  /-- REC_FLUSH.REASON. [3; 15 R450; 0] -/
  flushReason : BitVec 3
  /-- REC_FLUSH.WRITTEN. [13; 15 R450; 0] -/
  flushWritten : BitVec 13
  /-- The reason of the flush that runs. [3, may be absent; 15 R440; none] -/
  flushing : Option (BitVec 3)
  /-- A trigger that arose and has not yet started a flush. [3, may be absent; 15 R440; none] -/
  trigger : Option (BitVec 3)
  /-- REC_STATUS.LOG_FULL. [1; 15 R450; 0] -/
  logFull : Bool
  /-- REC_STATUS.LOG_FAULT. [1; 15 R450; 0] -/
  logFault : Bool
  /-- LOG_FULL has been recorded since priming. [1; 15 R443; 0] -/
  fullRecorded : Bool
  /-- Consecutive places that failed to program. [4; 15 R446; 0] -/
  failRun : Nat
  /-- Unflushed records at the last POWER_FAIL entry, in GUARD's non-volatile store. [13; 15 R441; DESIGN CHOICE 0 (log 3)] -/
  savedUnflushed : Nat
  /-- Records written by the end of that flush. [13; 15 R441; DESIGN CHOICE 0 (log 3)] -/
  savedWritten : Nat
  deriving DecidableEq, Repr

/-- A fence history entry (R225). -/
structure FenceEntry where
  minute : BitVec 24
  valid : Bool
  deriving DecidableEq, Repr

/-- How far priming has come (R368). -/
inductive Priming
  /-- not priming -/
  | done
  /-- running, from 0 ms -/
  | active
  /-- waiting 1 s before the next priming -/
  | delay
  /-- waiting for power-good, or for MRST_N to be released -/
  | blocked
  deriving DecidableEq, Repr

/-- GUARD: resets, power, priming, counters (chapter 12). -/
structure Guard where
  /-- RESET_CAUSE.LAST. [4; 12 R375; 0, POWER_ON] -/
  causeLast : BitVec 4
  /-- RESET_CAUSE.LEVEL. [2; 12 R375; 0] -/
  causeLevel : BitVec 2
  /-- RESET_CAUSE.LANE. [2; 12 R375; 0] -/
  causeLane : BitVec 2
  /-- RESET_CAUSE.SEEN. [13; 12 R375; bit 0] -/
  seen : BitVec 13
  /-- RESET_STATUS.DOMAIN_OK. [12; 12 R375; 0] -/
  domainOk : BitVec 12
  /-- RESET_STATUS.FEED_A_OK. [1; 12 R375; 0] -/
  feedAOk : Bool
  /-- RESET_STATUS.FEED_B_OK. [1; 12 R375; 0] -/
  feedBOk : Bool
  /-- RESET_STATUS.HOLDUP_READY. [1; 12 R375; 0] -/
  holdup : Bool
  /-- RESET_STATUS.TY4_COMPAT. [1; 12 R375; 0] -/
  ty4 : Bool
  /-- RESET_STATUS.MRST. [1; 12 R375; 0] -/
  mrst : Bool
  /-- RESET_STATUS.OTP_CORRECTED. [8; 12 R375; 0] -/
  otpCorrected : Byte
  /-- RESET_MAP. [32; 12 R375; 0] -/
  map : Word
  /-- RESET_LEVELS. [26 of 32; 12 R375; 0] -/
  levels : Word
  /-- PRIMING_RESTARTS. [32; 12 R375; DESIGN CHOICE 0 (log 4)] -/
  restarts : Word
  /-- GUARD's internal count of priming restarts. [32; 12 R368; DESIGN CHOICE 0 (log 4)] -/
  restartCount : Word
  /-- RESET_PCYCLE. [32; 12 R375; DESIGN CHOICE 0 (log 4)] -/
  pcycle : Word
  /-- Operating time in 10 ns units (ms and 1/65,536 ms as read). [48.16; 12 R372; DESIGN CHOICE 0 (log 4)] -/
  optime : Nat
  /-- Operating time in GUARD's non-volatile store. [48.16; 12 R372; DESIGN CHOICE 0 (log 4)] -/
  optimeSaved : Nat
  /-- RESET_OPTIME_HI latch. [32; 12 R375; DESIGN CHOICE 0 (log 4)] -/
  optimeHi : Word
  /-- RESET_SUPPLY.FEED_A. [12; 12 R375; 0] -/
  feedA : BitVec 12
  /-- RESET_SUPPLY.FEED_B. [12; 12 R375; 0] -/
  feedB : BitVec 12
  /-- RESET_TEMP.T0. [12; 12 R375; 0] -/
  t0 : BitVec 12
  /-- RESET_TEMP.T1. [12; 12 R375; 0] -/
  t1 : BitVec 12
  /-- RESET_SSTOP.ORIGIN. [8; 12 R375; 0] -/
  sstopOrigin : Byte
  /-- RESET_SSTOP.REASON. [16; 12 R375; 0] -/
  sstopReason : Half
  /-- RESET_DBG.RELEASES. [16; 12 R375; 0] -/
  dbg : Half
  /-- RESET_CO_COUNT. [3 x 8; 12 R375; 0] -/
  coCount : PerLane Byte
  /-- Progress of priming. [state; 12 R368; running] -/
  priming : Priming
  /-- A domain has failed to come up: the power-up sequence is held until it is retried. [1; 12 R355; 0] -/
  domainHeld : Bool
  /-- A pending SY or PO and its causes, while its flush runs. [level + list; 12 R365; none] -/
  pendingReset : Option (Level × List Source)
  /-- Power-good: the bus has been above 17.5 V for 10 ms since power-on or POWER_FAIL. [1; 12 R354; 1] -/
  powerGood : Bool
  /-- SUPPLY_LOW has been recorded for this occurrence. [1; 12 R354; 0] -/
  supplyLow : Bool
  /-- FEED_LOSS is in force for each feed. [2; 12 R354; 0] -/
  feedLossA : Bool
  feedLossB : Bool
  /-- The service processor is held (rail or clock). [1; 12 R358, R370; 1] -/
  svcHeld : Bool
  /-- The service processor's clock is qualified. [1; 12 R370; 0] -/
  svcClock : Bool
  /-- A PO has come since the last priming: the role is adopted at the coming one. [1; 01 R20; 1] -/
  fresh : Bool
  /-- Lane held in CO by its rail. [3; 12 R358; 0] -/
  railHeld : PerLane Bool
  /-- A reset mapped to none leaves the lane fenced. [3; 12 R366; 0] -/
  noneMapped : PerLane Bool
  /-- Fence history, latest entry. [3 x 25; 07 R225; DESIGN CHOICE invalid (log 4)] -/
  hist0 : PerLane FenceEntry
  /-- Fence history, earlier entry. [3 x 25; 07 R225; DESIGN CHOICE invalid (log 4)] -/
  hist1 : PerLane FenceEntry
  /-- Locked out. [3; 07 R225; DESIGN CHOICE 0 (log 4)] -/
  lockedOut : PerLane Bool
  /-- The instant (NT) at which the present SAFE_STOP was entered. [64, may be absent; 12 R351; none] -/
  sstopAt : Option DWord
  deriving DecidableEq, Repr

/-- The mode of the module, the fence latches and the flags of VOTE_STATUS that all views share. -/
structure ModuleSt where
  /-- The mode. [4; 01 R23; PRIMING (R25)] -/
  mode : Mode
  /-- The role adopted at the last priming. [2; 01 R17, R20; none] -/
  role : Role
  /-- Fence latches. [3; 07 R218; 0] -/
  fenced : PerLane Bool
  /-- VOTE_STATUS.LOCKED_OUT as taken from GUARD. [3; 07 R243; 0] -/
  lockedOut : PerLane Bool
  /-- Probation: the audit steps completed since the rejoin. [7, may be absent; 07 R237; none] -/
  probation : Option Nat
  /-- VOTE_STATUS.SERVING, as the latches stood at the last output cut. [3; 07 R243; 0] -/
  serving : BitVec 3
  /-- VOTE_STATUS.DEBUG_BROKEN. [1; 07 R243; 0] -/
  debugBroken : Bool
  /-- VOTE_STATUS.TWO_KEY_FAULT. [1; 07 R243; 0] -/
  twoKeyFault : Bool
  /-- VOTE_STATUS.GATE_DIFF. [1; 07 R243; 0] -/
  gateDiff : Bool
  /-- Decision formed by the Gunmetal gate at this cycle's deadline. [4; 07 R218; none] -/
  gateGm : Decision
  /-- Decision formed by the ring port's gate. [4; 07 R218; none] -/
  gateRing : Decision
  /-- How far the cycle has come. [6 steps; 03 R101, R103, 07 R215; idle] -/
  step : CycleStep
  /-- A vote has taken place in this cycle and its effect waits for the cut. [1; 07 R218; 0] -/
  voted : Bool
  /-- The mode in which the cycle under way was evaluated was RUN, DEGRADED or RESYNC. [1; 03 R120; 0] -/
  vital : Bool
  /-- FIRST_RUN is to be written in the header of this cycle. [1; 03 R121; 0] -/
  firstRun : Bool
  /-- Own PDUs released for transmission in the coming network cycle, and the cycle number they belong to.
  [list + 48; 07 R221, 03 R102; none] -/
  released : List Pdu
  /-- The PDUs of this cycle that the two-key comparison passed. [list, may be absent; 07 R221; none] -/
  compared : Option (List Pdu)
  /-- The two lanes' copies of the last cycle where the two-key comparison had not completed at its cut, and whether the
  mode lets them out. [list + list + 1, may be absent; 03 R102; none] -/
  late : Option (List Pdu × List Pdu × Bool)
  /-- HOLD was released: STOP lasts one cycle, then STARTUP_TEST. [1; 03 R124; 0] -/
  holdExit : Bool
  /-- Events accepted outside the vote that wait for the cut. [list; 01 R27; none] -/
  events : List ModeEvent
  deriving DecidableEq, Repr

/-- Phases of a resynchronisation (R230). -/
inductive RsPhase | idle | copyM | freezeM | shadow | copyN | freezeN | rejoin
  deriving DecidableEq, Repr

/-- The resynchronisation sequencer (R228 to R236). -/
structure Resync where
  /-- LANE_RESYNC.PHASE. [3; 07 R240; IDLE] -/
  phase : RsPhase
  /-- The fenced lane being rebuilt, or that was rebuilt last. [2; 07 R228; DESIGN CHOICE A (log 5)] -/
  lane : LaneId
  /-- Attempts made for the current fence of each lane. [3 x 2; 07 R228; 0] -/
  attempts : PerLane Nat
  /-- t0(s) of the resynchronisation in progress. [64; 07 R234; 0] -/
  start : DWord
  /-- Earliest cycle number of the next attempt. [48; 07 R228; 0] -/
  earliest : Nat
  /-- The bulk pass of the copy phase is complete. [1; 07 R231; 0] -/
  bulkDone : Bool
  /-- LANE_DIRTY.ROUND. [8; 07 R240; 0] -/
  round : Byte
  /-- Pages still to be copied in the running bulk pass or dirty round. [12,288; 07 R231; 0] -/
  todo : BitVec 12288
  /-- The freeze of the phase is running. [1; 07 R232; 0] -/
  frozen : Bool
  /-- The shadow cycle has passed; it has failed. [2; 07 R233; 0] -/
  shadowOk : Bool
  shadowBad : Bool
  /-- The resynchronisation has been given up and ends at the next t0. [1; 07 R234; 0] -/
  failed : Bool
  deriving DecidableEq, Repr

/-- The shared Gunmetal stage and the test-pulse sources (chapter 08). -/
structure Stage where
  /-- Outputs conducting now (VIO_ON). [48; 08 R268; 0] -/
  on : OutBits
  /-- The hold-off of R120 on all branch isolators (VIO_STATUS.HOLD_OFF). [1; 08 R252, R268; 0] -/
  holdOff : Bool
  /-- Groups whose switch a STUCK_ON or BACKFEED fault has opened. [3; 08 R252; 0] -/
  groupFault : BitVec 3
  /-- Groups held off by VF_RANGE. [3; 08 R255; 0] -/
  vfHeld : BitVec 3
  /-- Consecutive evaluations with the group supply out of range, and in range. [2 x 3 counts; 08 R255; 0] -/
  vfBad : Vector Nat 3
  vfGood : Vector Nat 3
  /-- Outputs held open by TRIPPED. [48; 08 R255; 0] -/
  trip : OutBits
  /-- Outputs whose OPEN_LOAD condition holds. [48; 08 R256; 0] -/
  openNow : OutBits
  /-- Consecutive evaluations: current too low, above 1.1 A, voltage without enable. [3 x 48 counts; 08 R255; 0] -/
  openRun : Vector Nat 48
  overRun : Vector Nat 48
  backRun : Vector Nat 48
  /-- Outputs whose BACKFEED has been detected and still holds. [48; 08 R255; 0] -/
  backNow : OutBits
  /-- Evaluations since switch-on and since the last off-pulse, for the exclusions of OPEN_LOAD. [2 x 48 counts; 08 R255; 0] -/
  sinceOn : Vector Nat 48
  sincePulse : Vector Nat 48
  /-- Code of the first fault since the last cut, with the instant of its evaluation. [48 x 4, may be absent; 08 R256; none] -/
  first : Vector (Option (BitVec 4 × DWord)) 48
  /-- Latched codes (VIO_OCODE). [48 x 4; 08 R256; 0] -/
  ocode : Vector (BitVec 4) 48
  /-- Elements that differed from the enable in the last comparison, by lane. [3 x 48; 08 R254; 0] -/
  swBad : PerLane OutBits
  /-- Elements that differed in the last two comparisons, by lane. [3 x 48; 08 R254; 0] -/
  swTwice : PerLane OutBits
  /-- Those of them that have been reported, by lane. [3 x 48; 08 R254; 0] -/
  swSeen : PerLane OutBits
  /-- SWITCH bits for the next cut, and latched. [2 x 3; 08 R254; 0] -/
  swNext : BitVec 3
  swLatched : BitVec 3
  /-- Consecutive odd evaluations of each lane for the 48 outputs and 3 supplies. [3 x 51 counts; 08 R257; 0] -/
  oddRun : PerLane (Vector Nat 51)
  /-- The same for the two serving lanes' difference. [51 counts; 08 R257; 0] -/
  pairRun : Vector Nat 51
  /-- SENSE_ODD bits for the next cut, and latched. [2 x 3; 08 R257; 0] -/
  oddNext : BitVec 3
  oddLatched : BitVec 3
  /-- A difference of two serving lanes for the next cut, and latched. [2; 08 R257; 0] -/
  pairNext : Bool
  pairLatched : Bool
  /-- Consecutive cuts with the bit of a lane set, and with the two-lane difference set. [4 counts; 08 R257; 0] -/
  oddCuts : PerLane Nat
  pairCuts : Nat
  /-- VIO_IOFAULT.OUTPUT: first output concerned, for the next cut and latched. [2 x 6; 08 R268; 0] -/
  outNext : Option (BitVec 6)
  outLatched : BitVec 6
  /-- The off-pulse that runs: output and start (NT). [6 + 64, may be absent; 08 R259; none] -/
  pulse : Option (Fin 48 × DWord)
  /-- The instant (NT) of the last evaluation. [64, may be absent; 08 R255; none] -/
  evalAt : Option DWord
  /-- An off-pulse postponed to cut + 100 us: output and the new instant (NT). [6 + 64, may be absent; 08 R260; none] -/
  postponed : Option (Fin 48 × DWord)
  /-- VIO_PULSE_COUNT, POSTPONED, DISCARDED, VIO_TRIP_COUNT. [4 x 32; 08 R268; 0] -/
  pulseCount : Word
  pulsePostponed : Word
  pulseDiscarded : Word
  tripCount : Word
  /-- VIO_TP_STATUS. [2 x 8; 08 R268; 0] -/
  tpOn : Byte
  tpOff : Byte
  /-- The test-pulse source that is switched off, with the start (NT) of its pulse. [3 + 64, may be absent; 08 R247, R249; none] -/
  tpPulse : Option (Fin 8 × DWord)
  deriving DecidableEq, Repr

/-- The seal and the OTP in GUARD (chapter 13). -/
structure Seal where
  /-- SEAL_LATCHED.SW1. [16; 13 R397; latched at priming, DESIGN CHOICE 0 before it (log 18)] -/
  sw1 : Half
  /-- SEAL_LATCHED.SW2. [16; 13 R397; latched at priming, DESIGN CHOICE 0 before it (log 18)] -/
  sw2 : Half
  /-- SEAL_LIVE. [2 x 16; 13 R397; 0] -/
  live1 : Half
  live2 : Half
  /-- SEAL_INVALID. [2 x 16; 13 R397; 0] -/
  inv1 : Half
  inv2 : Half
  /-- SEAL_GLITCH. [32; 13 R397; 0] -/
  glitch : Word
  /-- SEAL_STATUS.SEAL_CHANGED. [1; 13 R397; 0] -/
  changed : Bool
  /-- SEAL_STATUS.PRIMING_DIFF. [1; 13 R397; 0] -/
  primingDiff : Bool
  /-- A reading differed and the second reading is due. [1; 13 R379; 0] -/
  reread : Bool
  /-- Operating time of the last SEAL_GLITCH record, in 10 ns. [may be absent; 13 R379; none] -/
  glitchAt : Option Nat
  /-- The fuses. [4,096; 13 R381; DESIGN CHOICE all unburned (log 18)] -/
  otp : Vector DWord 64
  /-- GUARD's corrected copy from the last priming. [4,096; 13 R395; DESIGN CHOICE 0 before it (log 18)] -/
  view : Vector DWord 64
  /-- The active generation. [2, may be absent; 13 R383; none] -/
  activeGen : Option Nat
  deriving DecidableEq, Repr

/-- A session of the maintenance protocol (R410). -/
structure Session where
  /-- the permission mask of its anchor -/
  mask : Word
  /-- the session holds control -/
  control : Bool
  /-- operating time of its last traffic, in 10 ns -/
  last : Nat
  /-- the server certificate, and the signature by the device identity key in its handshake (R409) -/
  certificate : List Byte
  proof : List Byte
  deriving DecidableEq, Repr

/-- A verdict reported by the lanes (R419). -/
structure Verdict where
  /-- the session that staged the package, and to which the verdict is reported; none for one staged through CHG_BUF -/
  session : Option Nat
  /-- the verdict word -/
  word : Word
  /-- SEQUENCE -/
  seq : Word
  deriving DecidableEq, Repr

/-- What a response of the maintenance protocol holds (R412); the spec lays out the quote and the records, and no
other body. -/
inductive Reply
  /-- no body -/
  | empty
  /-- STATUS: mode code, serving set, SEAL_STATUS, designation and the last verdicts (R412) -/
  | status (mode : Nat) (serving : BitVec 3) (sealWord : Word) (region trial : Bool) (verdicts : List Verdict)
  /-- RECORD_READ: MORE, live count, unflushed count and the records (R447) -/
  | records (more : Bool) (live unflushed : Nat) (records : List (List Byte))
  /-- QUOTE: 1,120 bytes (R392) -/
  | quote (bytes : List Byte)
  /-- DEBUG: LANE_DBG_STATUS and LANE_DBG_DATA after a command of a lane's debug port (R204, R240) -/
  | debug (status data : Word)
  deriving DecidableEq, Repr

/-- A response of the maintenance protocol (R411). -/
structure Response where
  session : Nat
  /-- SERVICE of the request -/
  service : Half
  /-- STATUS -/
  code : Nat
  /-- REQ_ID echoed -/
  req : Word
  /-- LENGTH of the body -/
  length : Nat
  reply : Reply
  deriving DecidableEq, Repr

/-- A service whose outcome the lanes decide (R411, R418). -/
structure Awaited where
  session : Nat
  service : Half
  req : Word
  /-- the code of the secure command -/
  code : Nat
  deriving DecidableEq, Repr

/-- A rewrite of the designation record that is under way (R406). -/
structure Rewrite where
  region : Bool
  trial : Bool
  /-- SWAP_DONE is broadcast when it has completed -/
  swap : Bool
  deriving DecidableEq, Repr

/-- The service processor with the module flash (chapter 14). -/
structure Svc where
  /-- The flash outside the recorder log, each byte complemented, so that an erased byte is not listed.
  [256 MiB; 14 R403; DESIGN CHOICE erased (log 19)] -/
  flash : List Host.Cell
  /-- The open sessions by number. [4; 14 R410; none] -/
  sessions : Vector (Option Session) 4
  /-- The last two packages staged, with their sessions. [2 x 1,024 bytes; 14 R419; empty] -/
  packages : List (Option Nat × List Byte)
  /-- The last four verdicts reported (log 75). [4 x 64; 14 R412, R419; none] -/
  verdicts : List Verdict
  /-- The last command answer reported. [32; 14 R419; 0] -/
  answer : Word
  /-- The rewrite of the designation under way. [may be absent; 14 R406; none] -/
  rewrite : Option Rewrite
  /-- An ACTIVATE package has been staged, and neither SWAP_DONE nor IMAGE_SWAP_TIMEOUT has come. [1; 14 R408; 0] -/
  activating : Bool
  /-- Instants (operating time, 10 ns) of the quotes answered in the last second. [<= 10; 13 R393; none] -/
  quotes : List Nat
  /-- Quote requests that wait for the next gap: session, REQ_ID, nonce. [list; 13 R393; empty] -/
  asked : List (Nat × Word × BitVec 256)
  /-- The mode command or debug halt that waits for the lanes' answer. [may be absent; 14 R418; none] -/
  awaited : Option Awaited
  /-- The last response. [12 + <= 65,536 bytes; 14 R411; none] -/
  response : Option Response
  deriving DecidableEq, Repr

/-- The staging buffer for change packages (R186, R421). -/
structure ChgBuf where
  /-- CHG_BUF. [1,024 x 8; 14 R421; 0] -/
  bytes : Vector Byte 1024
  /-- CHG_STATUS.ARMED. [1; 14 R424; 0] -/
  armed : Bool
  /-- CHG_STATUS.BUSY. [1; 14 R424; 0] -/
  busy : Bool
  /-- CHG_STATUS.REFUSED. [1; 14 R424; 0] -/
  refused : Bool
  deriving DecidableEq, Repr

/-- One optical port of the ring with its link (chapter 09). -/
structure RingPort where
  /-- Signal present and receive synchronisation held. [1; 09 R287; DESIGN CHOICE 1 (log 20)] -/
  signal : Bool
  /-- RING_LINK_x.DELAY. [24; 09 R306; 0] -/
  delay : BitVec 24
  /-- RING_LINK_x.VALID. [1; 09 R306; 0] -/
  valid : Bool
  /-- The delay has been measured since the entry to JOINING, or since the looped link became stable. [1; 09 R286, R288,
  R303; 0] -/
  fresh : Bool
  /-- RING_LINK_x.FAULT. [1; 09 R306; 0] -/
  fault : Bool
  /-- RING_LINK_x.CAUSE. [3; 09 R306; 0] -/
  cause : BitVec 3
  /-- The causes of R287 whose condition holds, bit c for cause c. [7; 09 R287; 0] -/
  due : BitVec 7
  /-- The port is looped. [1; 09 R302, R306; 0] -/
  looped : Bool
  /-- The neighbour as its probes show it: address, ACQ, TX, LOOPED, READY, RESTORE. [30; 09 R285, R306; 0] -/
  nAddr : BitVec 10
  nAcq : Bool
  nTx : Bool
  nLooped : Bool
  nReady : Bool
  nRestore : Half
  /-- Valid measurements of the running mean and the sum of their round trips less TURN, in ns. [count + sum; 09 R286; 0] -/
  count : Nat
  sum : Nat
  /-- Consecutive measurements that differ from the stored delay. [5; 09 R287; 0] -/
  drift : Nat
  /-- The sequence number of the request that waits for its reply. [8, may be absent; 09 R285; none] -/
  waiting : Option Byte
  /-- The sequence number of the last request. [8; 09 R285; 0] -/
  seq : Byte
  /-- Consecutive requests without a valid reply. [3; 09 R287; 0] -/
  missed : Nat
  /-- A valid frame of the neighbour has arrived in this network cycle. [1; 09 R287; 0] -/
  heard : Bool
  /-- Consecutive network cycles without one. [2; 09 R287; 0] -/
  silent : Nat
  /-- Instant (operating time, 10 ns) since which the looped link has been stable. [may be absent; 09 R303; none] -/
  stableFrom : Option Nat
  /-- READY is shown in the probes. [1; 09 R303; 0] -/
  ready : Bool
  /-- The restore cycle proposed or adopted, its low 16 bits. [16, may be absent; 09 R303; none] -/
  restore : Option Nat
  /-- The other end has agreed to it. [1; 09 R303; 0] -/
  echoed : Bool
  /-- Unattributed cuts in this network cycle. [2; 09 R299; 0] -/
  unattr : Nat
  /-- Cuts in this network cycle by SOURCE. [list of counts; 09 R298; none] -/
  cuts : List (Nat × Nat)
  /-- SOURCEs of the frames that arrived in this network cycle. [list; 09 R298; none] -/
  seen : List Nat
  /-- RING_CUT_COUNT of the port. [16; 09 R306; 0] -/
  cutCount : Half
  /-- The frame that the guardian of the port forwarded last: SOURCE, its start, its end and the end of its window, in ns.
  [may be absent; 09 R297; none] -/
  passing : Option (Nat × Nat × Nat × Nat)
  /-- The end of the frame that the port sent or repeated last, in ns of network time. [64; 09 R286; 0] -/
  busyUntil : Nat
  /-- The frame that left the port last. [bytes; the model's own record of the output; empty] -/
  outFrame : List Byte
  /-- That frame was ended early, closed with /V/. [1; 09 R270; 0] -/
  outCut : Bool
  /-- The own frame that the port ended early last, closed with /V/; a null frame followed it. [bytes; the model's own
  record of the output; empty] -/
  endedFrame : List Byte
  /-- The probe that left the port last. [bytes; the model's own record of the output; empty] -/
  outProbe : List Byte
  deriving DecidableEq, Repr

/-- The ring interface, shared by the lanes' views (chapter 09). -/
structure RingSt where
  w : RingPort
  e : RingPort
  /-- RING_STATUS.QUALIFIED. [1; 09 R306; 0] -/
  qualified : Bool
  /-- RING_STATUS.CLK_UNQUALIFIED. [1; 09 R306; 0] -/
  clkUnq : Bool
  /-- Released before its clock is qualified, and running. [1; 12 R371; 0] -/
  early : Bool
  /-- RING_STATUS.SCHED_OK. [1; 09 R306; 0] -/
  schedOk : Bool
  /-- The adopted schedule: header words, and entry words by index, an unlisted one 0. [16 + 8,192 words; 09 R281; 0] -/
  header : Vector Word 16
  entries : List (Nat × Word)
  /-- RING_STATUS.ACQUIRED. [1; 09 R306; 0] -/
  acquired : Bool
  /-- The network cycle that the last boundary acted on began. [48; 09 R294; 0] -/
  cycleNo : Nat
  /-- RING_STATUS.GUARD_ARMED, and the guardians arm at the next boundary. [2; 09 R297, R306; 0] -/
  armed : Bool
  armNext : Bool
  /-- RING_STATUS.TX, and the network cycle from which a node that rejoined transmits. [1 + 48; 09 R296, R306; 0, none] -/
  tx : Bool
  txAt : Option Nat
  /-- RING_STATUS.LISTEN_ONLY. [1; 09 R306; 0] -/
  listenOnly : Bool
  /-- The node is to go listen-only. [1; 09 R294; 0] -/
  listenDue : Bool
  /-- Boundaries since the entry to listen-only. [7; 09 R296; 0] -/
  listenFor : Nat
  /-- NT at the entry to listen-only. [64; 09 R296; 0] -/
  listenFrom : Nat
  /-- RING_STATUS.COLD. [2; 09 R306; 0] -/
  cold : BitVec 2
  /-- RING_STATUS.COLD_EXHAUSTED, and the collisions so far. [1 + 4; 09 R291; 0] -/
  coldExhausted : Bool
  collisions : Nat
  /-- Instant (operating time, 10 ns) since which no frame with a correct CRC has arrived. [09 R290; 0] -/
  quietFrom : Nat
  /-- RING_STATUS.HEALED_SEEN, and what the present network cycle has shown. [2; 09 R306; 0] -/
  healedSeen : Bool
  healedNow : Bool
  /-- RING_STATUS.SELF_SILENT. [1; 09 R298, R306; 0] -/
  selfSilent : Bool
  /-- An own frame was sent, and one returned, in this network cycle; cycles without a return. [1 + 1 + 2; 09 R298; 0] -/
  sentNow : Bool
  returned : Bool
  lostCycles : Nat
  /-- The present network cycle has been observed since its start; it cannot be valid; the own address has been seen
  in use; a master's sync frame carried another NC. [4; 09 R289, R296; 0] -/
  wholeCycle : Bool
  badCycle : Bool
  ownSeen : Bool
  ncDiffers : Bool
  /-- The node has joined: it found a valid cycle. [1; 09 R289; 0] -/
  joined : Bool
  /-- Operating time of the last RING_SCHED_MISMATCH record, in 10 ns. [may be absent; 09 R289; none] -/
  mismatchAt : Option Nat
  /-- The last sync frame of each master seen in JOINING, by SOURCE: NC and instant in ns. [<= 16; 09 R289; none] -/
  lastSync : List (Nat × Nat × Nat)
  /-- RING_INVAR_DEV, RING_INVAR_K with USED. [32 + 32; 09 R306; 0x8000_0000, 0] -/
  dev : Word
  kWord : Word
  /-- RING_INVAR_CNT. [16 + 8 + 8; 09 R306; 0] -/
  noRead : Half
  listenCount : Byte
  clips : Byte
  /-- Consecutive network cycles without a reading. [5; 09 R294; 0] -/
  noReadRun : Nat
  /-- δ of the last network cycles, latest first, none where there was none or the node was listen-only.
  [<= 16; 09 R295; empty] -/
  deltas : List (Option Int)
  /-- The rate update of the last boundary is still to be made. [1; 09 R295; 0] -/
  rateDue : Bool
  /-- RING_MDEV0 to 15. [16 x 32; 09 R306; 0] -/
  mdev : Vector Word 16
  /-- Readings of this network cycle in ns, per master, on ring X and on ring Y. [2 x 16, may be absent; 09 R292; none] -/
  readX : Vector (Option Int) 16
  readY : Vector (Option Int) 16
  /-- RING_RX_COUNT. [32; 09 R306; 0] -/
  rxCount : Word
  /-- RING_RX_ERR. [16 + 16; 09 R306; 0] -/
  rxCrc : Half
  rxBody : Half
  /-- RING_TX_COUNT. [32; 09 R306; 0] -/
  txCount : Word
  /-- RING_NULL_COUNT. [32; 09 R306; 0] -/
  nullCount : Word
  /-- RING_LAST_CUT. [32; 09 R306; 0] -/
  lastCut : Word
  /-- RING_CLASH. [16; 09 R306; 0] -/
  clash : Half
  /-- RING_GUARD_DIFF. [32; 09 R306; 0] -/
  guardDiff : Word
  /-- RING_BLOCK0 to 31 in use: SOURCE and port, true for E. [<= 32; 09 R298; none] -/
  blocks : List (Nat × Bool)
  /-- Copies delivered: SOURCE, SLOT, RING, in this network cycle. [list; 09 R278; none] -/
  delivered : List (Nat × Nat × Bool)
  /-- Own frames of this and the previous network cycle: SLOT, NC, RING, ring CRC with DELAY 0. [list; 09 R284; none] -/
  sent : List (Nat × Nat × Bool × Word)
  deriving DecidableEq, Repr

/-- A lane slice that has been released, for the lanes that have yet to judge it (R458). -/
structure BistDone where
  lane : LaneId
  slice : Nat
  misr : DWord
  checkpoints : Nat
  restoreOk : Bool
  time : Word
  /-- INCOMPLETE results that the position had had in a row -/
  inc : Nat
  deriving DecidableEq, Repr

/-- The self-test sequencers that the lanes share (R457). -/
structure BistSt where
  /-- BIST_POS.P and Q. [8 + 3; 16 R457, R466; 0] -/
  p : Nat
  q : Nat
  /-- BIST_POS.INC_P and INC_Q. [2 + 2; 16 R466; 0] -/
  incP : Nat
  incQ : Nat
  /-- The lane slice under test: lane and slice. [2 + 6, may be absent; 16 R455, R466; none] -/
  lane : Option (LaneId × Nat)
  /-- Checkpoints at which its run stopped early. [4, may be absent; 16 R455; none] -/
  laneStop : Option Nat
  /-- The lane slice released last, with what its lane sends the others. [may be absent; 16 R458; none] -/
  done : Option BistDone
  /-- The shared slice under test. [3, may be absent; 16 R455; none] -/
  shared : Option Nat
  /-- Checkpoints at which its run stopped early. [4, may be absent; 16 R455; none] -/
  sharedStop : Option Nat
  /-- The guardian instances disabled, by shared slice. [4; 16 R460; 0] -/
  disabled : BitVec 4
  deriving DecidableEq, Repr

/-- An armed injection (R461). -/
structure Arming where
  ident : Nat
  /-- the lane, none for module scope -/
  lane : Option LaneId
  /-- the first t0 after the arming has come -/
  effective : Bool
  /-- cycle starts since the arming -/
  cycles : Nat
  deriving DecidableEq, Repr

/-- An injection that acts over a duration: what is left of it in its own unit (R462). -/
structure Lasting where
  ident : Nat
  lane : Option LaneId
  param : Nat
  left : Nat
  deriving DecidableEq, Repr

/-- The INJECT block of GUARD (chapter 16). -/
structure InjectSt where
  /-- The armed injection. [may be absent; 16 R461, R469; none] -/
  armed : Option Arming
  /-- INJ_STATUS.REFUSED. [1; 16 R469; 0] -/
  refused : Bool
  /-- INJ_PARAM. [32; 16 R469; 0] -/
  param : Word
  /-- INJ_LAST. [32; 16 R469; 0] -/
  last : Word
  /-- INJ_ARMINGS. [32; 16 R469; 0] -/
  armings : Word
  /-- Injections that are acting over a duration. [list; 16 R462; none] -/
  lasting : List Lasting
  deriving DecidableEq, Repr

end Sys2Proof.Machine
end

