-- ==== Sys2Proof/Machine/State.lean ====
section
/-! DEFINITION. The whole state of the module, the reasons a step can stop, and the state right after reset. -/

namespace Sys2Proof.Machine

/-- Why a step faults. No command of this hardware faults: a command that the state does not admit changes
nothing (log 6). The one constructor stands for a store address beyond the lane store, which the operations never
produce: nobody raises it; safe. -/
inductive Fault
  | storeRange
  deriving DecidableEq, Repr

/-- Why a step refuses a command. -/
inductive Refusal
  /-- The command has no meaning yet; raised by an arm of exec alone; safe. -/
  | notModelled (mnemonic : String)
  deriving DecidableEq, Repr

/-- The state of the module. -/
structure State where
  /-- The three lanes. -/
  lanes : PerLane Lane
  /-- Mode, role, latches and what the module as a whole holds for the cycle. -/
  md : ModuleSt
  /-- The time base. -/
  tb : Timebase
  /-- The recorder. -/
  recorder : Recorder
  /-- GUARD. -/
  guard : Guard
  /-- The resynchronisation sequencer. -/
  resync : Resync
  /-- The Gunmetal stage. -/
  stage : Stage
  /-- The staging buffer of change packages. -/
  chg : ChgBuf
  /-- The seal and the OTP. -/
  sealSt : Seal
  /-- The service processor and the flash. -/
  svc : Svc
  /-- The ring interface. -/
  ring : RingSt
  /-- The self-test sequencers. -/
  bist : BistSt
  /-- Error injection. -/
  inject : InjectSt
  /-- The model's own counter of free values drawn. [Nat; the model's own, not the spec's; DESIGN CHOICE 0 (log 7)] -/
  freeCtr : Nat
  /-- The value that the last command which reads a register returned.
  [32; the model's own, not the spec's; DESIGN CHOICE 0 (log 8)] -/
  readData : Word
  /-- The commands that wait, first in, first out. [list; the model's own, not the spec's; empty] -/
  pending : List Instr
  deriving DecidableEq, Repr

/-- The core after a CO reset (R127, R128, R363): the general registers are given no reset value, and the model
takes 0. -/
def Core.init : Core where
  g := Vector.replicate 32 0
  pc := 0x40000000
  priv := true
  intrap := false
  cve := false
  ah := false
  tstatus := 0
  tpc := 0
  tcause := 0
  tval := 0
  tvec := 0x40000000
  ahvec := 0
  amask := 0
  cvcount := 0
  instret := 0
  events := 0
  evmask := 0
  tscr0 := 0
  tscr1 := 0
  wpbase := Vector.replicate 4 0
  wplim := Vector.replicate 4 0
  run := .held
  cvCycle := 0
  badReg := []
  packStack := []
  pack := none

/-- A store with nothing listed. -/
def Store.init : Store := { cells := [], badParity := [], dirty := 0 }

/-- The route engine at reset (R74 to R83). -/
def Engine.init : Engine where
  queue := []
  sweepPut := false
  digests := []
  enable := false
  initBusy := false
  cfgElements := 0
  cfgRoutes := 0
  cfgChains := 0
  err := 0
  errInfo := 0
  sweepCycle := 0
  sweepDigest := 0
  sweepChecks := 0
  sweepTime := 0
  sweepMax := 0
  reqCount := 0
  refusedCount := 0
  codedCount := 0

/-- A view of TIMEBASE at reset (R110). -/
def TbView.init : TbView where
  tn := 0
  km1 := 0
  cfgValid := false
  ntHi := 0
  ntFrac := 0
  cycle := 0
  cycleHi := 0
  t0 := 0
  started := false
  cycendMin := 0xFFFFFFFF
  overrun := 0
  phase := .agreement

/-- What a cycle starts from. -/
def Cycle.init : Cycle where
  done := false
  dirtyEnd := 0
  app := false
  lost := false
  marker := false
  ownStop := false
  enables := none
  handed := none
  events := []
  initCalls := none
  remote := false
  stopCmd := false

/-- The VOTE block at reset (R242). -/
def VoteBlk.init : VoteBlk where
  s := 0
  feeds := 0
  h := 0
  still := false
  sigs := PerLane.all none
  rows := PerLane.all none
  view := 0
  sigRegs := PerLane.all 0
  module := 0
  own := 0
  cause := 0
  lines := none
  cycle := 0
  pending := []
  unattributable := false
  auditStep := 0
  auditPasses := 0
  auditDiff := 0
  auditing := false
  digests := PerLane.all none
  fenceCount := PerLane.all 0
  release := none

/-- The LANE block at reset (R239). -/
def LaneBlk.init : LaneBlk where
  layout := false
  mirrored := false
  resyncTime := 0
  resyncDone := 0
  resyncFailed := 0
  upNext := false
  upPrev := false
  errNext := 0
  errPrev := 0
  dbgAddr := 0
  dbgData := 0
  dbgDone := false
  dbgRefused := false
  dbgReason := 0
  dbgSteps := none
  breakpoints := []
  inputs := PerLane.all none

/-- No change pending, nothing forced (R192, R200). -/
def Change.init : Change := { pend := none, lastSeq := 0, forces := [], swapWait := none, feeds := [], slots := 0 }

/-- Readings of a stage at which nothing conducts. -/
def Readback.zero : Readback where
  vf := Vector.replicate 3 0
  volt := Vector.replicate 48 0
  current := Vector.replicate 48 0
  elem0 := 0
  elem1 := 0

/-- A lane's VIO registers at reset (R267, R268). -/
def VioLane.init : VioLane where
  samples := Vector.replicate 5 none
  raw := 0
  pfail := 0
  agreed := 0
  words := 0
  degAgree := false
  en := 0
  cfg := 0x19
  tpMap := (Vector.replicate 9 0xFFFFFFFF).set 8 0xFF
  loadMin := Vector.replicate 12 0
  readback := Readback.zero
  qualified := false
  clkUnq := false
  disCount := 0

/-- The SAFELINK block at reset (R332, R333). -/
def SlBlk.init : SlBlk where
  enable := false
  cfgOk := false
  err := 0
  errInfo := 0
  accept := 0
  discCode := 0
  discOther := 0
  discAge := 0
  discOld := 0
  twinOk := 0
  twinMissing := 0
  lastDisc := 0
  stateReg := Vector.replicate 32 0
  newReg := Vector.replicate 16 0
  rx := []
  rxOver := 0
  cut := []
  cutOver := 0
  release := []
  twinDue := []

/-- A check-value unit at reset (R347). -/
def Cvu.zero : Cvu where
  ctrl := 0
  state := 0
  check := 0
  err := 0
  poly := 0
  init := 0
  xor := 0
  value := 0
  count := 0
  result := 0
  out := 0
  strip := []
  parity := false

/-- A mailbox channel at reset (R423). -/
def Chan.init : Chan where
  out := []
  inq := []
  hidden := []
  errLane := 0
  errSvc := 0
  emptyLane := false
  emptySvc := false
  dbLane := 0
  maskLane := 0
  dbSvc := 0
  maskSvc := 0
  refFullLane := 0
  refEmptyLane := 0
  refFullSvc := 0
  refEmptySvc := 0
  dbHidden := 0

/-- The lock block at reset (R426). -/
def Sema.init : Sema := { owner := Vector.replicate 16 0, err := 0, contend := 0 }

/-- The submission registers of a view at reset (R449). -/
def RecView.init : RecView where
  p0 := 0
  p1 := 0
  p2 := 0
  p3 := 0
  result := 0
  ctIndex := 0
  offers := []

/-- The MEASURE block at reset (R399). -/
def Measure.init : Measure where
  m := Vector.replicate 5 0
  busy := none
  refused := false
  extended := 0
  count := 0
  digest := Vector.replicate 16 0

/-- A view's copy of the ring schedule at reset (R305). -/
def RingView.init : RingView := { header := Vector.replicate 16 0, entries := [], committed := false, ncHi := 0 }

/-- A view of the self-test at reset (R465). -/
def BistView.init : BistView where
  rotate := false
  full := false
  startupDone := false
  last := 0
  lastSh := 0
  misr := 0
  time := 0
  pass := 0
  incomplete := 0
  aborted := 0
  failMap := PerLane.all 0
  shFail := 0
  feedLane := none
  feedShared := none

/-- A lane at reset. -/
def Lane.init : Lane where
  core := Core.init
  store := Store.init
  engine := Engine.init
  tb := TbView.init
  cyc := Cycle.init
  vote := VoteBlk.init
  blk := LaneBlk.init
  change := Change.init
  vio := VioLane.init
  sl := SlBlk.init
  cvu := Vector.replicate 4 Cvu.zero
  mbSec := Chan.init
  mbNon := Chan.init
  sema := Sema.init
  recv := RecView.init
  meas := Measure.init
  ring := RingView.init
  bist := BistView.init
  reqSy := none
  reqStop := none

/-- The time base at reset (R110, R111). -/
def Timebase.init : Timebase where
  nt := 0
  ntf := 0
  rate := 0
  slew := 0
  slewD := 0
  slewTicks := 0
  qualified := false
  clkUnq := false
  early := false
  synced := false

/-- The recorder as delivered: an empty log and empty buffers. -/
def Recorder.init : Recorder where
  fifo := []
  buffer := []
  log := []
  deleted := 0
  buckets := []
  table := []
  lostInt := Vector.replicate 8 0
  lost := Vector.replicate 8 0
  suppressed := 0
  dropped := 0
  flushCount := 0
  flushReason := 0
  flushWritten := 0
  flushing := none
  trigger := none
  logFull := false
  logFault := false
  fullRecorded := false
  failRun := 0
  savedUnflushed := 0
  savedWritten := 0

/-- GUARD after the first power-on reset: source POWER_ON seen, priming at its start (R359, R368, R375). -/
def Guard.init : Guard where
  causeLast := 0
  causeLevel := 0
  causeLane := 0
  seen := 1
  domainOk := 0
  feedAOk := false
  feedBOk := false
  holdup := false
  ty4 := false
  mrst := false
  otpCorrected := 0
  map := 0
  levels := 0
  restarts := 0
  restartCount := 0
  pcycle := 0
  optime := 0
  optimeSaved := 0
  optimeHi := 0
  feedA := 0
  feedB := 0
  t0 := 0
  t1 := 0
  sstopOrigin := 0
  sstopReason := 0
  dbg := 0
  coCount := PerLane.all 0
  priming := .active
  domainHeld := false
  pendingReset := none
  powerGood := true
  supplyLow := false
  feedLossA := false
  feedLossB := false
  svcHeld := true
  svcClock := false
  fresh := true
  railHeld := PerLane.all false
  noneMapped := PerLane.all false
  hist0 := PerLane.all { minute := 0, valid := false }
  hist1 := PerLane.all { minute := 0, valid := false }
  lockedOut := PerLane.all false
  sstopAt := none

/-- The module at reset: PRIMING, no role adopted yet (R25, R368). -/
def ModuleSt.init : ModuleSt where
  mode := .priming
  role := .none
  fenced := PerLane.all false
  lockedOut := PerLane.all false
  probation := none
  serving := 0
  debugBroken := false
  twoKeyFault := false
  gateDiff := false
  gateGm := .none
  gateRing := .none
  step := .idle
  voted := false
  vital := false
  firstRun := false
  released := []
  compared := none
  late := none
  holdExit := false
  events := []

/-- The resynchronisation sequencer at reset (R239). -/
def Resync.init : Resync where
  phase := .idle
  lane := .A
  attempts := PerLane.all 0
  start := 0
  earliest := 0
  bulkDone := false
  round := 0
  todo := 0
  frozen := false
  shadowOk := false
  shadowBad := false
  failed := false

/-- The stage at reset: nothing conducting, the group switches open by the mode (R252, R267). -/
def Stage.init : Stage where
  on := 0
  holdOff := false
  groupFault := 0
  vfHeld := 0
  vfBad := Vector.replicate 3 0
  vfGood := Vector.replicate 3 0
  trip := 0
  openNow := 0
  openRun := Vector.replicate 48 0
  overRun := Vector.replicate 48 0
  backRun := Vector.replicate 48 0
  backNow := 0
  sinceOn := Vector.replicate 48 0
  sincePulse := Vector.replicate 48 0
  first := Vector.replicate 48 none
  ocode := Vector.replicate 48 0
  swBad := PerLane.all 0
  swTwice := PerLane.all 0
  swSeen := PerLane.all 0
  swNext := 0
  swLatched := 0
  oddRun := PerLane.all (Vector.replicate 51 0)
  pairRun := Vector.replicate 51 0
  oddNext := 0
  oddLatched := 0
  pairNext := false
  pairLatched := false
  oddCuts := PerLane.all 0
  pairCuts := 0
  outNext := none
  outLatched := 0
  pulse := none
  evalAt := none
  postponed := none
  pulseCount := 0
  pulsePostponed := 0
  pulseDiscarded := 0
  tripCount := 0
  tpOn := 0
  tpOff := 0
  tpPulse := none

/-- The staging buffer at reset (R423). -/
def ChgBuf.init : ChgBuf := { bytes := Vector.replicate 1024 0, armed := false, busy := false, refused := false }

/-- The seal before priming has read it, over an OTP with no bit burned. -/
def Seal.init : Seal where
  sw1 := 0
  sw2 := 0
  live1 := 0
  live2 := 0
  inv1 := 0
  inv2 := 0
  glitch := 0
  changed := false
  primingDiff := false
  reread := false
  glitchAt := none
  otp := Vector.replicate 64 0
  view := Vector.replicate 64 0
  activeGen := none

/-- The service processor at power-on, over an erased flash. -/
def Svc.init : Svc where
  flash := []
  sessions := Vector.replicate 4 none
  packages := []
  verdicts := []
  answer := 0
  rewrite := none
  activating := false
  quotes := []
  asked := []
  awaited := none
  response := none

/-- A port of the ring at reset: the fibre is taken to carry a signal (log 20). -/
def RingPort.init : RingPort where
  signal := true
  delay := 0
  valid := false
  fresh := false
  fault := false
  cause := 0
  due := 0
  looped := false
  nAddr := 0
  nAcq := false
  nTx := false
  nLooped := false
  nReady := false
  nRestore := 0
  count := 0
  sum := 0
  drift := 0
  waiting := none
  seq := 0
  missed := 0
  heard := false
  silent := 0
  stableFrom := none
  ready := false
  restore := none
  echoed := false
  unattr := 0
  cuts := []
  seen := []
  cutCount := 0
  passing := none
  busyUntil := 0
  outFrame := []
  outCut := false
  endedFrame := []
  outProbe := []

/-- The ring interface at reset (R305, R306). -/
def RingSt.init : RingSt where
  w := RingPort.init
  e := RingPort.init
  qualified := false
  clkUnq := false
  early := false
  schedOk := false
  header := Vector.replicate 16 0
  entries := []
  acquired := false
  cycleNo := 0
  armed := false
  armNext := false
  tx := false
  txAt := none
  listenOnly := false
  listenDue := false
  listenFor := 0
  listenFrom := 0
  cold := 0
  coldExhausted := false
  collisions := 0
  quietFrom := 0
  healedSeen := false
  healedNow := false
  selfSilent := false
  sentNow := false
  returned := false
  lostCycles := 0
  wholeCycle := false
  badCycle := false
  ownSeen := false
  ncDiffers := false
  joined := false
  mismatchAt := none
  lastSync := []
  dev := 0x80000000
  kWord := 0
  noRead := 0
  listenCount := 0
  clips := 0
  noReadRun := 0
  deltas := []
  rateDue := false
  mdev := Vector.replicate 16 0
  readX := Vector.replicate 16 none
  readY := Vector.replicate 16 none
  rxCount := 0
  rxCrc := 0
  rxBody := 0
  txCount := 0
  nullCount := 0
  lastCut := 0
  clash := 0
  guardDiff := 0
  blocks := []
  delivered := []
  sent := []

/-- The self-test sequencers at reset (R465). -/
def BistSt.init : BistSt where
  p := 0
  q := 0
  incP := 0
  incQ := 0
  lane := none
  laneStop := none
  done := none
  shared := none
  sharedStop := none
  disabled := 0

/-- The INJECT block at reset (R468). -/
def InjectSt.init : InjectSt where
  armed := none
  refused := false
  param := 0
  last := 0
  armings := 0
  lasting := []

/-- The machine right after its first power-on reset, at the start of priming. -/
def State.reset : State where
  lanes := PerLane.all Lane.init
  md := ModuleSt.init
  tb := Timebase.init
  recorder := Recorder.init
  guard := Guard.init
  resync := Resync.init
  stage := Stage.init
  chg := ChgBuf.init
  sealSt := Seal.init
  svc := Svc.init
  ring := RingSt.init
  bist := BistSt.init
  inject := InjectSt.init
  freeCtr := 0
  readData := 0
  pending := []

/-- The state of a lane. -/
def State.lane (s : State) (l : LaneId) : Lane := s.lanes.get l

/-- A lane's state replaced. -/
def State.setLane (s : State) (l : LaneId) (x : Lane) : State := { s with lanes := s.lanes.set l x }

/-- Every lane's state changed by a function. -/
def State.mapLanes (s : State) (f : Lane → Lane) : State := { s with lanes := s.lanes.map f }

/-- A lane's state changed by a function. -/
def State.updLane (s : State) (l : LaneId) (f : Lane → Lane) : State := s.setLane l (f (s.lane l))

end Sys2Proof.Machine
end

