-- ==== Sys2Proof/Machine/Bits.lean ====
section
/-! DEFINITION. Bits, bytes and check values: fields of words, little-endian words of bytes, the CRC of the
signature and of the checkpoint state hash (R209, R211) and the CRC-32C of check words (R35). -/

namespace Sys2Proof.Machine

/-- A field of a word: `w` bits from bit `lo` up, as a number. -/
def fieldN (x : Word) (lo w : Nat) : Nat := (x.toNat >>> lo) % 2 ^ w

/-- One bit of a word. -/
def bitN (x : Word) (i : Nat) : Bool := x.getLsbD i

/-- A truth value as a bit at a place of a word. -/
def flag (b : Bool) (i : Nat) : Word := if b then (1 : Word) <<< i else 0

/-- A number placed at a bit position of a word. -/
def place (n lo : Nat) : Word := (BitVec.ofNat 32 n) <<< lo

/-- The word whose bytes in address order are given (R5). -/
def wordOfBytes (b0 b1 b2 b3 : Byte) : Word := b3 ++ b2 ++ b1 ++ b0

/-- Byte `i` of a word in address order (R5). -/
def byteOf (w : Word) (i : Nat) : Byte := (w >>> (8 * i)).setWidth 8

/-- The four bytes of a word in address order (R5). -/
def wordBytes (w : Word) : List Byte := [byteOf w 0, byteOf w 1, byteOf w 2, byteOf w 3]

/-- The bytes of a double word in address order. -/
def dwordBytes (w : DWord) : List Byte := wordBytes (w.setWidth 32) ++ wordBytes ((w >>> 32).setWidth 32)

/-- The number spelled by bytes, the first the least significant. -/
def leNat : List Byte → Nat
  | [] => 0
  | b :: bs => b.toNat + 256 * leNat bs

/-- A number as `n` bytes, the least significant first. -/
def natLe : Nat → Nat → List Byte
  | 0, _ => []
  | n + 1, v => BitVec.ofNat 8 v :: natLe n (v / 256)

/-- Bytes `i` up to `i + n - 1` of a list as a little-endian number; bytes beyond the list count as 0. -/
def leAt (bs : List Byte) (i n : Nat) : Nat := leNat ((bs.drop i).take n)

/-- One bit of the CRC-64 of the signature (R209). -/
def crc64Bit (s : DWord) : DWord :=
  if s.getLsbD 63 then (s <<< 1) ^^^ 0x42F0E1EBA9EA3693 else s <<< 1

/-- One byte of the CRC-64 (R209). -/
def crc64Byte (s : DWord) (b : Byte) : DWord :=
  crc64Bit^[8] (s ^^^ (b.setWidth 64 <<< 56))

/-- The CRC-64 over bytes from a given value (R209, R211). -/
def crc64 (s : DWord) (bs : List Byte) : DWord := bs.foldl crc64Byte s

/-- The term of one store in the checkpoint state hash (R211). -/
def hashTerm (a d : Word) : DWord := crc64 (BitVec.allOnes 64) (wordBytes a ++ wordBytes d)

/-- The value from which the signature of a cycle starts (R209). -/
def sigStart (n : Word) : DWord := n ++ (n ^^^ 0xFFFFFFFF)

/-- The signature after one feed word (R209). -/
def sigFeed (s : DWord) (w : Word) : DWord := crc64 s (wordBytes w)

/-- One bit of the reflected CRC-32C (R35). -/
def crc32cBit (s : Word) : Word :=
  if s.getLsbD 0 then (s >>> 1) ^^^ 0x82F63B78 else s >>> 1

/-- One byte of the CRC-32C (R35). -/
def crc32cByte (s : Word) (b : Byte) : Word := crc32cBit^[8] (s ^^^ b.setWidth 32)

/-- The check word of bytes under a seed (R35). -/
def crc32c (seed : Word) (bs : List Byte) : Word :=
  (bs.foldl crc32cByte ((0xFFFFFFFF : Word) ^^^ seed)) ^^^ 0xFFFFFFFF

/-- Addition that stops at the largest value. -/
def satInc {w : Nat} (x : BitVec w) : BitVec w := if x = BitVec.allOnes w then x else x + 1

/-- Saturating addition of a number. -/
def satAdd {w : Nat} (x : BitVec w) (n : Nat) : BitVec w :=
  if x.toNat + n < 2 ^ w then BitVec.ofNat w (x.toNat + n) else BitVec.allOnes w

/-- Number of set bits. -/
def popcount {w : Nat} (x : BitVec w) : Nat :=
  (List.range w).foldl (fun n i => if x.getLsbD i then n + 1 else n) 0

/-- A number in a word, saturating at the largest value of `n` bits. -/
def satNat (n x : Nat) : Word := BitVec.ofNat 32 (min x (2 ^ n - 1))

/-- The places from 0 on that a bit vector has set. -/
def setBits {w : Nat} (x : BitVec w) : List Nat := (List.range w).filter x.getLsbD

/-- A bit vector with one bit given. -/
def setBit {w : Nat} (x : BitVec w) (i : Nat) (b : Bool) : BitVec w :=
  if b then x ||| BitVec.ofNat w (2 ^ i) else x &&& ~~~ BitVec.ofNat w (2 ^ i)

/-- A change of one entry of a vector, none where the index is out of range. -/
def vset {α : Type} {n : Nat} (v : Vector α n) (i : Nat) (x : α) : Vector α n := v.setIfInBounds i x

/-- An entry of a vector, with the value that stands for an index out of range. -/
def vget {α : Type} {n : Nat} (v : Vector α n) (i : Nat) (d : α) : α := v[i]?.getD d

/-- An association list's value at a key. -/
def alook {α : Type} (k : Nat) : List (Nat × α) → Option α
  | [] => none
  | (j, x) :: r => if j = k then some x else alook k r

/-- An association list in ascending keys with the value at one key replaced. -/
def aset {α : Type} (k : Nat) (x : α) : List (Nat × α) → List (Nat × α)
  | [] => [(k, x)]
  | (j, y) :: r => if k < j then (k, x) :: (j, y) :: r else if j = k then (k, x) :: r else (j, y) :: aset k x r

/-- An association list without a key. -/
def aerase {α : Type} (k : Nat) (r : List (Nat × α)) : List (Nat × α) := r.filter (fun p => p.1 ≠ k)

/-- A signed word as an integer. -/
def sgn {w : Nat} (x : BitVec w) : Int := x.toInt

/-- A list of ascending numbers with one number put in. -/
def insertNat (k : Nat) : List Nat → List Nat
  | [] => [k]
  | j :: r => if k < j then k :: j :: r else if j = k then j :: r else j :: insertNat k r

end Sys2Proof.Machine
end

