-- ==== Sys2Proof/Machine/Mem.lean ====
section
/-! DEFINITION. The lane store: a list of (address, byte) pairs in one canonical form, and the operations on it,
with byte parity (R133), dirty bits (R231) and the checkpoint state hash (R211). -/

namespace Sys2Proof.Machine

/-- What an unlisted byte of a store reads as: 0 (log 2, DESIGN CHOICE: the spec gives a store no contents before
STARTUP_TEST loads it). -/
def Memory.unlisted : Byte := 0

/-- The byte at an address. -/
def Memory.read (m : List Host.Cell) (a : Nat) : Byte :=
  match m with
  | [] => Memory.unlisted
  | (k, b) :: r => if k = a then b else if a < k then Memory.unlisted else Memory.read r a

/-- A byte written; the canonical form is kept. -/
def Memory.write (m : List Host.Cell) (a : Nat) (b : Byte) : List Host.Cell :=
  match m with
  | [] => if b = Memory.unlisted then [] else [(a, b)]
  | (k, c) :: r =>
    if a < k then (if b = Memory.unlisted then (k, c) :: r else (a, b) :: (k, c) :: r)
    else if k = a then (if b = Memory.unlisted then r else (a, b) :: r)
    else (k, c) :: Memory.write r a b

/-- Bytes written one after another from an address on. -/
def Memory.writeList (m : List Host.Cell) (a : Nat) : List Byte → List Host.Cell
  | [] => m
  | b :: bs => Memory.writeList (Memory.write m a b) (a + 1) bs

/-- Every byte of [lo, hi) set to what an unlisted byte reads as. -/
def Memory.clear (m : List Host.Cell) (lo hi : Nat) : List Host.Cell := m.filter (fun c => c.1 < lo || hi ≤ c.1)

/-- The bytes of [lo, hi) taken from another memory. -/
def Memory.copy (m src : List Host.Cell) (lo hi : Nat) : List Host.Cell :=
  m.filter (fun c => c.1 < lo) ++ src.filter (fun c => lo ≤ c.1 && c.1 < hi) ++ m.filter (fun c => hi ≤ c.1)

/-- Any list of bytes brought into the canonical form, addresses below `top` only. -/
def Memory.normal (top : Nat) (m : List (Nat × Byte)) : List Host.Cell :=
  m.foldl (fun acc c => if c.1 < top then Memory.write acc c.1 c.2 else acc) []

/-- The canonical form: addresses strictly rising, no entry equal to what an unlisted address reads as. -/
def Memory.wf : List Host.Cell → Bool
  | [] => true
  | [(_, b)] => b ≠ Memory.unlisted
  | (k, b) :: (j, c) :: r => b ≠ Memory.unlisted && k < j && Memory.wf ((j, c) :: r)

/-- `n` bytes from an address on. -/
def Memory.bytes (m : List Host.Cell) (a : Nat) : Nat → List Byte
  | 0 => []
  | n + 1 => Memory.read m a :: Memory.bytes m (a + 1) n

/-- The size of a lane store. -/
def storeTop : Nat := 0x04000000

/-- A byte written into a store: its parity bit is written too (R133) and its page becomes dirty (R231). -/
def Store.put (t : Store) (a : Nat) (b : Byte) : Store :=
  { cells := Memory.write t.cells a b
    badParity := t.badParity.filter (· ≠ a)
    dirty := if a / 4096 < 12288 then t.dirty ||| BitVec.ofNat 12288 (2 ^ (a / 4096)) else t.dirty }

/-- Bytes written into a store from an address on. -/
def Store.putList (t : Store) (a : Nat) : List Byte → Store
  | [] => t
  | b :: bs => Store.putList (t.put a b) (a + 1) bs

/-- The bytes of [lo, hi) set to 0, with their parity and the dirty bits of the pages concerned. -/
def Store.clearRange (t : Store) (lo hi : Nat) : Store :=
  { cells := Memory.clear t.cells lo hi
    badParity := t.badParity.filter (fun a => a < lo || hi ≤ a)
    dirty := (List.range ((hi + 4095) / 4096 - lo / 4096)).foldl
      (fun d i => if lo / 4096 + i < 12288 then d ||| BitVec.ofNat 12288 (2 ^ (lo / 4096 + i)) else d) t.dirty }

/-- The byte of a lane's store. -/
def Lane.rd8 (x : Lane) (a : Nat) : Byte := Memory.read x.store.cells a

/-- The half-word of a lane's store. -/
def Lane.rd16 (x : Lane) (a : Nat) : Half := x.rd8 (a + 1) ++ x.rd8 a

/-- The word of a lane's store (R5). -/
def Lane.rd32 (x : Lane) (a : Nat) : Word :=
  wordOfBytes (x.rd8 a) (x.rd8 (a + 1)) (x.rd8 (a + 2)) (x.rd8 (a + 3))

/-- Whether one of `n` bytes from an address on has a wrong parity bit (R133). -/
def Lane.parityBad (x : Lane) (a n : Nat) : Bool := x.store.badParity.any (fun p => a ≤ p && p < a + n)

/-- An address whose stores enter the checkpoint state hash: station data and the audited region (R211). -/
def hashed (a : Nat) : Bool := 0x00800000 ≤ a && a < 0x03000000

/-- Bytes written without entering the hash: boot, resynchronisation copy, the debugger's tests. -/
def Lane.poke (x : Lane) (a : Nat) (bs : List Byte) : Lane := { x with store := x.store.putList a bs }

/-- The hash with the word that holds address `a`, as it stands now, added (R211). -/
def Lane.addHash (x : Lane) (a : Nat) : Lane :=
  if hashed a && !x.vote.still then
    { x with vote := { x.vote with
        h := x.vote.h + hashTerm (BitVec.ofNat 32 (a / 4 * 4)) (x.rd32 (a / 4 * 4)) } }
  else x

/-- A word stored by the lane's core, its route engine or its SAFELINK block (R211). -/
def Lane.wr32 (x : Lane) (a : Nat) (w : Word) : Lane := (x.poke a (wordBytes w)).addHash a

/-- A half-word stored by the core. -/
def Lane.wr16 (x : Lane) (a : Nat) (h : Half) : Lane :=
  (x.poke a [h.setWidth 8, (h >>> 8).setWidth 8]).addHash a

/-- A byte stored by the core. -/
def Lane.wr8 (x : Lane) (a : Nat) (b : Byte) : Lane := (x.poke a [b]).addHash a

/-- Words stored one after another from an address on. -/
def Lane.wrWords (x : Lane) (a : Nat) : List Word → Lane
  | [] => x
  | w :: ws => Lane.wrWords (x.wr32 a w) (a + 4) ws

/-- `n` words of 0 stored from an address on. -/
def Lane.zeroWords (x : Lane) (a : Nat) : Nat → Lane
  | 0 => x
  | n + 1 => Lane.zeroWords (x.wr32 a 0) (a + 4) n

/-- `n` bytes of a lane's store. -/
def Lane.bytesAt (x : Lane) (a n : Nat) : List Byte := Memory.bytes x.store.cells a n

end Sys2Proof.Machine
end

