-- ==== Sys2Proof/Machine/Operands.lean ====
section
/-! DEFINITION. The operand forms of Ixlo instructions (R134, R138 to R142): extended immediates, effective
addresses, branch and jump targets, bit fields, and the results of the integer group that are more than one
operation of bit vectors. -/

namespace Sys2Proof.Machine

/-- A 16-bit immediate, sign-extended (R134). -/
def sext16 (i : Half) : Word := i.signExtend 32

/-- A 16-bit immediate, zero-extended (R139). -/
def zext16 (i : Half) : Word := i.setWidth 32

/-- The effective address of a memory instruction (R141). -/
def effAddr (a : Word) (i : Half) : Word := a + sext16 i

/-- The target of a branch (R134). -/
def branchTarget (pc : Word) (off : Half) : Word := pc + 4 + (sext16 off <<< 2)

/-- The target of J and JAL (R134). -/
def jumpTarget (pc : Word) (off : BitVec 26) : Word := pc + 4 + (off.signExtend 32 <<< 2)

/-- The value 1 or 0 of a comparison (R138). -/
def bit (b : Bool) : Word := if b then 1 else 0

/-- Left shift by the low five bits of the amount (R138). -/
def sllVal (a b : Word) : Word := a <<< (b.toNat % 32)

/-- Right shift with zeros (R138). -/
def srlVal (a b : Word) : Word := a >>> (b.toNat % 32)

/-- Right shift with the sign (R138). -/
def sraVal (a b : Word) : Word := a.sshiftRight (b.toNat % 32)

/-- Bits [63:32] of the signed product (R138). -/
def mulhVal (a b : Word) : Word := BitVec.ofInt 32 ((a.toInt * b.toInt) / 4294967296)

/-- Bits [63:32] of the unsigned product (R138). -/
def mulhuVal (a b : Word) : Word := BitVec.ofNat 32 (a.toNat * b.toNat / 4294967296)

/-- Signed quotient, rounded towards zero; 0x8000_0000 by 0xFFFF_FFFF gives 0x8000_0000 (R138). -/
def divVal (a b : Word) : Word := BitVec.ofInt 32 (a.toInt.tdiv b.toInt)

/-- a - b times the signed quotient (R138). -/
def remVal (a b : Word) : Word := a - b * divVal a b

/-- Leading zero bits from bit `n - 1` down. -/
def leadingZeros (a : Word) : Nat → Nat
  | 0 => 0
  | n + 1 => if a.getLsbD n then 0 else leadingZeros a n + 1

/-- Number of leading zero bits, 32 for 0 (R138). -/
def clzVal (a : Word) : Word := BitVec.ofNat 32 (leadingZeros a 32)

/-- Number of trailing zero bits, 32 for 0 (R138). -/
def ctzVal (a : Word) : Word := BitVec.ofNat 32 (leadingZeros a.reverse 32)

/-- Number of set bits (R138). -/
def popcVal (a : Word) : Word := BitVec.ofNat 32 (popcount a)

/-- Byte order reversed (R138). -/
def bswapVal (a : Word) : Word := wordOfBytes (byteOf a 3) (byteOf a 2) (byteOf a 1) (byteOf a 0)

/-- The mask of a field of width `wm1 + 1`, computed in 33 bits (R140). -/
def fieldMask (wm1 : Nat) : Word := BitVec.ofNat 32 (2 ^ (wm1 + 1) - 1)

/-- EXTU (R140). -/
def extuVal (a : Word) (pos wm1 : Nat) : Word := (a >>> pos) &&& fieldMask wm1

/-- EXTS: the field sign-extended from its top bit (R140). -/
def extsVal (a : Word) (pos wm1 : Nat) : Word :=
  let v := extuVal a pos wm1
  if v.getLsbD wm1 then v ||| ~~~ fieldMask wm1 else v

/-- INS (R140). -/
def insVal (d a : Word) (pos wm1 : Nat) : Word :=
  (d &&& ~~~ (fieldMask wm1 <<< pos)) ||| ((a &&& fieldMask wm1) <<< pos)

end Sys2Proof.Machine
end

