-- ==== Sys2Proof/Machine/Flags.lean ====
section
/-! DEFINITION. Coded values and what their use does to the core: the coded-boolean operations (R143, R144), the
coded-value event (R145), and the bits of STATUS (R128). -/

namespace Sys2Proof.Machine

/-- Coded TRUE (R13). -/
def codedTrue : Word := 0xA55A3CC3

/-- Coded FALSE (R13). -/
def codedFalse : Word := 0x5AA5C33C

/-- A word that is coded TRUE or FALSE; every other word is INVALID (R143). -/
def codedValid (w : Word) : Bool := w == codedTrue || w == codedFalse

/-- A truth value as a coded word. -/
def coded (b : Bool) : Word := if b then codedTrue else codedFalse

/-- CAND: strict in INVALID (R144). -/
def candVal (a b : Word) : Word :=
  if codedValid a && codedValid b then coded (a == codedTrue && b == codedTrue) else 0

/-- COR (R144). -/
def corVal (a b : Word) : Word :=
  if codedValid a && codedValid b then coded (a == codedTrue || b == codedTrue) else 0

/-- CNOT (R144). -/
def cnotVal (a : Word) : Word := if codedValid a then ~~~ a else 0

/-- CSEL: a for c TRUE, b for c FALSE, copied unchanged (R144). -/
def cselVal (a b c : Word) : Word := if c == codedTrue then a else if c == codedFalse then b else 0

/-- One coded-value event in the core: counted, flagged, counted for the cycle (R145). -/
def Core.codedEvent (c : Core) : Core :=
  { c with cvcount := satInc c.cvcount, cve := true, cvCycle := c.cvCycle + 1 }

/-- `n` coded-value events. -/
def Core.codedEvents (c : Core) : Nat → Core
  | 0 => c
  | n + 1 => (c.codedEvent).codedEvents n

/-- STATUS as a word (R128). -/
def Core.status (c : Core) : Word := flag c.priv 0 ||| flag c.intrap 1 ||| flag c.cve 2 ||| flag c.ah 3

/-- STATUS[3:0] as TSTATUS saves it (R128). -/
def Core.saved (c : Core) : BitVec 4 := c.status.setWidth 4

/-- STATUS restored from TSTATUS, as TRET does (R146). -/
def Core.restoreStatus (c : Core) : Core :=
  { c with
    priv := c.tstatus.getLsbD 0, intrap := c.tstatus.getLsbD 1, cve := c.tstatus.getLsbD 2, ah := c.tstatus.getLsbD 3 }

/-- Entry to a trap (R148): what is saved, the new level and the vector. -/
def Core.trapEntry (c : Core) (num : Nat) (async x : Bool) (sub : Nat) (tval tpc : Word) : Core :=
  { c with
    tstatus := c.saved
    tpc := tpc
    tcause := place num 0 ||| flag (!c.priv) 8 ||| flag async 9 ||| flag x 10 ||| place (if x then sub else 0) 16
    tval := tval
    priv := true
    intrap := true
    pc := c.tvec + place num 6 }

/-- A general register read: g0 reads as zero (R125). -/
def Core.get (c : Core) (r : Reg) : Word := if r.val = 0 then 0 else c.g[r.val]

/-- A general register written: a write to g0 is discarded (R125). The written register's parity is right. -/
def Core.set (c : Core) (r : Reg) (w : Word) : Core :=
  if r.val = 0 then c
  else { c with g := c.g.set r.val w, badReg := c.badReg.filter (fun k => k / 4 ≠ r.val) }

/-- Whether a byte of a register has a wrong parity bit (R125). -/
def Core.regBad (c : Core) (r : Reg) : Bool := r.val ≠ 0 && c.badReg.any (fun k => k / 4 = r.val)

/-- The first of the source registers with a parity error (R125, R147). Where several have one, the spec does not say
which number TVAL takes: the first in operand order (log 83, DESIGN CHOICE). -/
def Core.badSource (c : Core) (rs : List Reg) : Option Reg := rs.find? c.regBad

/-- The traps that the application may handle (R149): classes other than Application are never in AMASK. -/
def appTrap (n : Nat) : Bool :=
  n ∈ [0x01, 0x02, 0x03, 0x05, 0x06, 0x08, 0x09, 0x0A, 0x0C, 0x0D, 0x0E, 0x0F]

/-- The bits of AMASK that exist (R128). -/
def amaskBits : Half := 0xF76E

/-- A control register read (R127, R128); none where R127 lists no register of the number. -/
def Core.readCr (c : Core) (n : Nat) : Option Word :=
  match n with
  | 0x00 => some c.status
  | 0x01 => some (c.tstatus.setWidth 32)
  | 0x02 => some c.tpc
  | 0x03 => some c.tcause
  | 0x04 => some c.tval
  | 0x05 => some c.tvec
  | 0x06 => some c.ahvec
  | 0x07 => some (c.amask.setWidth 32)
  | 0x08 => some c.cvcount
  | 0x09 => some c.instret
  | 0x0A => some (c.events.setWidth 32)
  | 0x0B => some (c.evmask.setWidth 32)
  | 0x0C => some c.tscr0
  | 0x0D => some c.tscr1
  | 0x10 => some c.wpbase[0]
  | 0x11 => some c.wpbase[1]
  | 0x12 => some c.wpbase[2]
  | 0x13 => some c.wpbase[3]
  | 0x14 => some c.wplim[0]
  | 0x15 => some c.wplim[1]
  | 0x16 => some c.wplim[2]
  | 0x17 => some c.wplim[3]
  | _ => none

/-- What reading a control register does to it: CVCOUNT is cleared (R127, R8). -/
def Core.afterReadCr (c : Core) (n : Nat) : Core := if n = 0x08 then { c with cvcount := 0 } else c

/-- A control register written as its access codes allow (R128). -/
def Core.writeCr (c : Core) (n : Nat) (w : Word) : Core :=
  match n with
  | 0x00 => { c with intrap := bitN w 1, cve := c.cve && !bitN w 2, ah := bitN w 3 }
  | 0x01 => { c with tstatus := w.setWidth 4 }
  | 0x02 => { c with tpc := w &&& 0xFFFFFFFC }
  | 0x03 => { c with tcause := w &&& 0x07FF07FF }
  | 0x04 => { c with tval := w }
  | 0x05 => { c with tvec := w &&& 0xFFFFFC00 }
  | 0x06 => { c with ahvec := w &&& 0xFFFFFFFC }
  | 0x07 => { c with amask := w.setWidth 16 &&& amaskBits }
  | 0x0B => { c with evmask := w.setWidth 8 }
  | 0x0C => { c with tscr0 := w }
  | 0x0D => { c with tscr1 := w }
  | 0x10 => { c with wpbase := c.wpbase.set 0 (w &&& 0xFFFFF001) }
  | 0x11 => { c with wpbase := c.wpbase.set 1 (w &&& 0xFFFFF001) }
  | 0x12 => { c with wpbase := c.wpbase.set 2 (w &&& 0xFFFFF001) }
  | 0x13 => { c with wpbase := c.wpbase.set 3 (w &&& 0xFFFFF001) }
  | 0x14 => { c with wplim := c.wplim.set 0 (w &&& 0xFFFFF000) }
  | 0x15 => { c with wplim := c.wplim.set 1 (w &&& 0xFFFFF000) }
  | 0x16 => { c with wplim := c.wplim.set 2 (w &&& 0xFFFFF000) }
  | 0x17 => { c with wplim := c.wplim.set 3 (w &&& 0xFFFFF000) }
  | _ => c

end Sys2Proof.Machine
end

