-- ==== Sys2Proof/Machine/Record.lean ====
section
/-! DEFINITION. The recorder Pewter (chapter 15): submission through a bucket and the intake FIFO, refills and
summaries, the volatile buffer, flushes and the log. Every block records events through these operations. -/

namespace Sys2Proof.Machine

/-- Operating time in ms (R372). -/
def State.optMs (s : State) : BitVec 48 := BitVec.ofNat 48 (s.guard.optime / 100000)

/-- The sub-millisecond part in units of 1/65,536 ms (R372). -/
def State.optFrac (s : State) : Half := BitVec.ofNat 16 (s.guard.optime % 100000 * 65536 / 100000)

/-- Operating time in whole minutes (R225). -/
def State.optMinute (s : State) : Nat := s.guard.optime / 6000000000

/-- Total places of the log (R444). -/
def logPlaces : Nat := 1048576

/-- The most records the log holds, live or deleted (R444). -/
def logMax : Nat := 1040384

/-- Places that are erased. -/
def Recorder.erased (r : Recorder) : Nat := logPlaces - r.log.length - r.deleted

/-- The code table entry in effect: DEPTH 16 and PERIOD 10 until one applies (R434). -/
def Recorder.entry (r : Recorder) (c : Nat) : Word := (alook c r.table).getD 0x00000A10

/-- DEPTH of an entry (R434). -/
def entryDepth (w : Word) : Nat := fieldN w 0 8

/-- PERIOD of an entry (R434). -/
def entryPeriod (w : Word) : Nat := fieldN w 8 8

/-- A full bucket (R435). -/
def fullBucket (depth : Nat) : Bucket where
  tokens := depth
  refillStart := 0
  refills := 0
  suppressed := 0
  first := 0
  last := 0
  p0 := 0
  maxSev := 0

/-- The bucket of a code. -/
def Recorder.bucket (r : Recorder) (c : Nat) : Bucket := (alook c r.buckets).getD (fullBucket (entryDepth (r.entry c)))

/-- A record of the recorder itself: a summary or LOST_EVENTS, which may use the two kept places (R438). -/
def ownRecord (x : Rec) : Bool := x.summary || x.code = 0x7F1

/-- Records of the FIFO that take the 64 places for submissions. -/
def Recorder.taken (r : Recorder) : Nat := (r.fifo.filter (fun x => !ownRecord x)).length

/-- Kept places in use. -/
def Recorder.kept (r : Recorder) : Nat := (r.fifo.filter ownRecord).length

/-- A blank record with the stamp of the present instant (R428, R437). -/
def State.stampRec (s : State) (code : BitVec 12) (sev : BitVec 3) (src : BitVec 4) : Rec where
  code := code
  severity := sev
  source := src
  summary := false
  pf := s.md.mode == .powerFail
  app := false
  agreed := false
  optime := s.optMs
  frac := s.optFrac
  pcycle := s.guard.pcycle
  p0 := 0
  p1 := 0
  p2 := 0
  p3 := 0

/-- The summary of a bucket (R436). -/
def State.summaryRec (s : State) (c : Nat) (b : Bucket) : Rec :=
  { s.stampRec (BitVec.ofNat 12 c) b.maxSev 7 with
    summary := true, p0 := b.suppressed, p1 := b.first, p2 := b.last, p3 := b.p0 }

/-- The summary of a bucket entered in a kept place, and its counts cleared. With both kept places in use the
bucket keeps its counts for the next refill (log 9). -/
def State.putSummary (s : State) (c : Nat) (b : Bucket) : State × Bucket :=
  if b.suppressed = 0 then (s, b)
  else if s.recorder.kept < 2 then
    ({ s with recorder := { s.recorder with fifo := s.recorder.fifo ++ [s.summaryRec c b] } },
      { b with suppressed := 0, maxSev := 0 })
  else (s, b)

/-- Number of refill instants of a bucket that lie in the past and have not been acted on (R435). -/
def refillsDue (now : Nat) (period : Nat) (b : Bucket) : Nat :=
  if period = 0 then 0 else (now - b.refillStart) / (period * 10000000) - b.refills

/-- The refills due for a code, with the summary that they write (R435, R436). -/
def State.refill (s : State) (c : Nat) : State :=
  let e := s.recorder.entry c
  let b := s.recorder.bucket c
  let due := refillsDue s.guard.optime (entryPeriod e) b
  if entryDepth e = 0 || due = 0 then s
  else
    let b1 := { b with refills := b.refills + due, tokens := min (entryDepth e) (b.tokens + due) }
    let r := if b.tokens < entryDepth e then s.putSummary c b1 else (s, b1)
    { r.1 with recorder := { r.1.recorder with buckets := aset c r.2 r.1.recorder.buckets } }

/-- A counter per severity raised by one, saturating. -/
def bump {w : Nat} (v : Vector (BitVec w) 8) (i : Nat) : Vector (BitVec w) 8 := vset v i (satInc (vget v i 0))

/-- The highest severity with a count that is not 0. -/
def topSev (v : Vector Half 8) : Nat := (List.range 8).foldl (fun m i => if vget v i 0 = 0 then m else i) 0

/-- Two counts in one word (R438). -/
def lostWord (v : Vector Half 8) (i : Nat) : Word := (vget v (2 * i + 1) 0) ++ (vget v (2 * i) 0)

/-- The LOST_EVENTS record for the counts kept (R438). -/
def State.lostRec (s : State) : Rec :=
  let v := s.recorder.lostInt
  { s.stampRec 0x7F1 (BitVec.ofNat 3 (topSev v)) 7 with
    p0 := lostWord v 0, p1 := lostWord v 1, p2 := lostWord v 2, p3 := lostWord v 3 }

/-- A record put in the FIFO: lost when its 64 places are full, otherwise preceded by LOST_EVENTS where
submissions have been lost and a kept place is free (R438); the injection RECORD_FIFO reports it full (R463). -/
def State.intake (s : State) (x : Rec) : State × BitVec 2 :=
  let r := s.recorder
  let full := s.inject.lasting.any (fun k => k.ident = 0x3E && 0 < k.left)
  let inj := s.inject.lasting.map (fun k => if k.ident = 0x3E then { k with left := k.left - 1 } else k)
  let s := { s with inject := { s.inject with lasting := inj } }
  if full || 64 ≤ r.taken then
    ({ s with recorder := { r with lostInt := bump r.lostInt x.severity.toNat, lost := bump r.lost x.severity.toNat } }, 3)
  else if r.lostInt.toList.any (· ≠ 0) && r.kept < 2 then
    ({ s with recorder :=
        { r with fifo := r.fifo ++ [s.lostRec, x], lostInt := Vector.replicate 8 0 } }, 1)
  else ({ s with recorder := { r with fifo := r.fifo ++ [x] } }, 1)

/-- A submission: the bucket of its code first, then the FIFO (R435, R437, R438). The result is as REC_SUB_RESULT
reports it: 1 accepted, 2 suppressed, 3 lost. -/
def State.submit (s : State) (x : Rec) : State × BitVec 2 :=
  let c := x.code.toNat
  let s := s.refill c
  let depth := entryDepth (s.recorder.entry c)
  let b := s.recorder.bucket c
  if 6 ≤ x.severity.toNat || depth = 0 || (0x7F0 ≤ c && c ≤ 0x7FF) then s.intake x
  else if 0 < b.tokens then
    let b1 := if b.tokens = depth then { b with refillStart := s.guard.optime, refills := 0 } else b
    let s1 := { s with recorder := { s.recorder with
      buckets := aset c { b1 with tokens := b.tokens - 1 } s.recorder.buckets } }
    s1.intake x
  else
    let b1 := { b with
      suppressed := satInc b.suppressed
      first := if b.suppressed = 0 then (s.optMs).setWidth 32 else b.first
      last := (s.optMs).setWidth 32
      p0 := x.p0
      maxSev := if b.maxSev.toNat < x.severity.toNat then x.severity else b.maxSev }
    ({ s with recorder := { s.recorder with
        buckets := aset c b1 s.recorder.buckets, suppressed := satInc s.recorder.suppressed } }, 2)

/-- A parameter of a record: as given, otherwise as the code list of the release says (R433). -/
def State.param (s : State) (name : RecName) (ps : List Word) (i : Nat) : Word :=
  (ps[i]?).getD (Config.openParam name i s.freeCtr)

/-- A named record submitted by a source (R430), with the parameters that the manual gives. -/
def State.recAs (s : State) (src : Nat) (agreed : Bool) (name : RecName) (ps : List Word) : State :=
  let x := { s.stampRec (codeOf name) (severityOf name) (BitVec.ofNat 4 src) with
    agreed := agreed, p0 := s.param name ps 0, p1 := s.param name ps 1, p2 := s.param name ps 2,
    p3 := s.param name ps 3 }
  { (s.submit x).1 with freeCtr := s.freeCtr + 1 }

/-- A record of GUARD (R437). -/
def State.recG (s : State) (name : RecName) (ps : List Word := []) : State := s.recAs 0 false name ps

/-- A record of a lane about itself (R437). -/
def State.recL (s : State) (l : LaneId) (name : RecName) (ps : List Word := []) : State :=
  s.recAs (1 + l.num) false name ps

/-- A record of the ring port (R437). -/
def State.recRing (s : State) (name : RecName) (ps : List Word := []) : State := s.recAs 4 false name ps

/-- A record of the output stage (R437). -/
def State.recStage (s : State) (name : RecName) (ps : List Word := []) : State := s.recAs 5 false name ps

/-- A record of the service processor (R437). -/
def State.recSvc (s : State) (name : RecName) (ps : List Word := []) : State := s.recAs 6 false name ps

/-- The serving lanes: those whose fence latch is clear (R243 SERVING). -/
def State.servingLanes (s : State) : List LaneId := LaneId.list.filter (fun l => !s.md.fenced.get l)

/-- Whether a lane serves. -/
def State.serves (s : State) (l : LaneId) : Bool := !s.md.fenced.get l

/-- A module event, submitted with AGREED by the lowest-lettered serving lane (R437). -/
def State.recM (s : State) (name : RecName) (ps : List Word := []) : State :=
  match s.servingLanes with
  | [] => s
  | l :: _ => s.recAs (1 + l.num) true name ps

/-- A flush trigger: the lowest reason code that waits is kept; a running flush is extended (R440). -/
def State.flushTrigger (s : State) (reason : BitVec 3) : State :=
  match s.recorder.flushing, s.recorder.trigger with
  | some _, _ => s
  | none, some r => if r ≤ reason then s else { s with recorder := { s.recorder with trigger := some reason } }
  | none, none => { s with recorder := { s.recorder with trigger := some reason } }

/-- The triggers that a record raises as it reaches the volatile buffer (R440). -/
def State.bufferTriggers (s : State) (x : Rec) : State :=
  let s := if 6 ≤ x.severity.toNat then s.flushTrigger 2 else s
  if 2048 ≤ s.recorder.buffer.length then s.flushTrigger 3 else s

/-- The oldest record of the FIFO moves to the volatile buffer, where that has room (R438, R439). -/
def State.drainOne (s : State) : State :=
  match s.recorder.fifo with
  | [] => s
  | x :: r =>
    if 4096 ≤ s.recorder.buffer.length then s
    else ({ s with recorder := { s.recorder with fifo := r, buffer := s.recorder.buffer ++ [x] } }).bufferTriggers x

/-- Whether a trigger may start its flush now: reasons 3 and 4 need 8,320 erased places (R440), and a log fault
stops every flash write (R446). -/
def Recorder.mayStart (r : Recorder) (reason : BitVec 3) : Bool :=
  !r.logFault && (reason ≤ 2 || 8320 ≤ r.erased)

/-- The oldest live record of lower severity removed from the log, if there is one (R445). -/
def dropLower (sev : BitVec 3) : List Rec → Option (List Rec)
  | [] => none
  | x :: r => if x.severity < sev then some r else (dropLower sev r).map (x :: ·)

/-- LOG_FULL recorded, once after each priming (R443). -/
def State.noteFull (s : State) : State :=
  if s.recorder.fullRecorded then s
  else
    let x := { s.stampRec 0x7F3 2 7 with p0 := BitVec.ofNat 32 s.recorder.log.length }
    { (s.submit x).1 with recorder := { (s.submit x).1.recorder with fullRecorded := true, logFull := true } }

/-- One record written to the log (R445), where a place is erased. -/
def State.logWrite (s : State) (x : Rec) : State :=
  let r := s.recorder
  if r.log.length < logMax then { s with recorder := { r with log := r.log ++ [x] } }
  else
    match dropLower x.severity r.log with
    | some rest =>
      ({ s with recorder := { r with log := rest ++ [x], deleted := r.deleted + 1, logFull := true } }).noteFull
    | none => ({ s with recorder := { r with dropped := satInc r.dropped, logFull := true } }).noteFull

/-- The unflushed records written in buffer order; the flush ends where no place is erased (R440, R442). The
number tells how many have been written. -/
def State.flushAll (s : State) : Nat → State × Nat
  | 0 => (s, 0)
  | n + 1 =>
    match s.recorder.buffer with
    | [] => (s, 0)
    | x :: r =>
      if s.recorder.erased = 0 then (s, 0)
      else
        let s1 := ({ s with recorder := { s.recorder with buffer := r } }).logWrite x
        let t := s1.flushAll n
        (t.1, t.2 + 1)

/-- Places that fail to program are deleted; sixteen in a row end all flash writing with LOG_FAULT (R446). -/
def State.failPlaces (s : State) (n : Nat) : State :=
  let r := s.recorder
  let k := min n 16
  let s1 := { s with recorder := { r with deleted := r.deleted + k, logFault := r.logFault || 16 ≤ n } }
  if 16 ≤ n && !r.logFault then
    let x := { s1.stampRec 0x7F2 5 7 with p0 := BitVec.ofNat 32 (r.log.length + r.deleted) }
    (s1.submit x).1
  else s1

end Sys2Proof.Machine
end

