-- ==== Sys2Proof/Machine/Inject.lean ====
section
/-! DEFINITION. Error injection (R461 to R463): scope and class of each injection, whether one is armed for a point,
and how an arming ends. The points themselves stand in the operations that they concern. -/

namespace Sys2Proof.Machine

/-- The injections of module scope (R463). -/
def injModule (id : Nat) : Bool :=
  id ∈ [0x0E, 0x12, 0x16, 0x17, 0x18, 0x19, 0x1A, 0x1B, 0x22, 0x23, 0x24, 0x25] ||
    (0x27 ≤ id && id ≤ 0x37) || id ∈ [0x3B, 0x3D, 0x3E, 0x3F]

/-- The injections of class M (R463). -/
def injMaint (id : Nat) : Bool := id ∈ [0x01, 0x02, 0x1F, 0x22, 0x25]

/-- The injections of class A (R463). -/
def injAny (id : Nat) : Bool :=
  id ∈ [0x00, 0x03, 0x04, 0x12, 0x13, 0x1C, 0x1E, 0x20, 0x23, 0x24, 0x26] || (0x27 ≤ id && id ≤ 0x39) ||
    id ∈ [0x3B, 0x3E, 0x3F]

/-- The modes that the class of an injection permits (R463). -/
def injPermits (id : Nat) : Mode → Bool
  | .maintenance => true
  | .stop => !injMaint id
  | .split => injAny id
  | _ => false

/-- The cycle number that GUARD records: that of the lowest-lettered serving lane. -/
def State.cycleNow (s : State) : Word :=
  match s.servingLanes with
  | l :: _ => (s.lane l).tb.cycle.setWidth 32
  | [] => s.lanes.a.tb.cycle.setWidth 32

/-- The code of an arming's lane: 3 for module scope (R469). -/
def armLane (l : Option LaneId) : Nat := (l.map (·.num)).getD 3

/-- An arming ends, with INJ_LAST (R469). -/
def State.endArming (s : State) (fired : Bool) : State :=
  match s.inject.armed with
  | none => s
  | some a =>
    let w := place a.ident 0 ||| place (armLane a.lane) 8 ||| flag fired 10 ||| (s.cycleNow <<< 16)
    let s := { s with inject := { s.inject with armed := none, last := w } }
    s.recG (if fired then .injectFired else .injectLapsed)
      [place a.ident 0, place (armLane a.lane) 0, s.inject.param, s.cycleNow]

/-- The armed injection has this ID and this lane, and the first t0 after the arming has come (R462). -/
def State.injected (s : State) (id : Nat) (l : Option LaneId) : Bool :=
  match s.inject.armed with
  | some a => a.effective && a.ident = id && a.lane = l
  | none => false

/-- The armed injection fires (R462). -/
def State.fire (s : State) : State := s.endArming true

/-- INJ_PARAM as a number. -/
def State.injParam (s : State) : Nat := s.inject.param.toNat

/-- An arming lapses where the mode is not one of its class (R462). -/
def State.lapseByMode (s : State) : State :=
  match s.inject.armed with
  | some a => if injPermits a.ident s.md.mode then s else s.endArming false
  | none => s

/-- What is left of an injection that acts over a duration. -/
def State.lasting (s : State) (id : Nat) (l : Option LaneId) : Option Lasting :=
  s.inject.lasting.find? (fun k => k.ident = id && k.lane = l && 0 < k.left)

/-- An injection that acts over a duration starts: `n` in its own unit. -/
def State.startLasting (s : State) (id : Nat) (l : Option LaneId) (n : Nat) : State :=
  let k : Lasting := { ident := id, lane := l, param := s.injParam, left := n }
  { s with inject := { s.inject with lasting := s.inject.lasting.filter (fun j => 0 < j.left) ++ [k] } }

/-- One unit of an injection that acts over a duration has passed. -/
def State.passLasting (s : State) (id : Nat) (l : Option LaneId) : State :=
  let less := s.inject.lasting.map (fun k => if k.ident = id && k.lane = l then { k with left := k.left - 1 } else k)
  { s with inject := { s.inject with lasting := less.filter (fun k => 0 < k.left) } }

/-- The armed injection fires where it has this ID and lane, and acts over a duration. -/
def State.fireLasting (s : State) (id : Nat) (l : Option LaneId) (n : Nat) : State :=
  if s.injected id l then (s.fire).startLasting id l n else s

/-- GUARD accepts an arming word written to INJ_ARM (R461, R469). -/
def State.injAccepts (s : State) (w : Word) : Bool :=
  let id := fieldN w 0 6
  let lane := fieldN w 8 2
  s.sealSt.sw1.getLsbD 13 && injPermits id s.md.mode && s.inject.armed.isNone && fieldN w 16 8 = 0x6B &&
    fieldN w 6 2 = 0 && fieldN w 10 6 = 0 && fieldN w 24 8 = 0 &&
    (if injModule id then lane = 3
     else match LaneId.ofNum lane with
       | some l => !s.md.fenced.get l
       | none => false)

/-- INJ_ARM written through the secure service view (R461). -/
def State.arm (s : State) (w : Word) : State :=
  if s.injAccepts w then
    let n := satInc s.inject.armings
    let a : Arming := { ident := fieldN w 0 6, lane := LaneId.ofNum (fieldN w 8 2), effective := false, cycles := 0 }
    let s := { s with inject := { s.inject with armed := some a, refused := false, armings := n } }
    s.recG .injectArmed [place a.ident 0, place (armLane a.lane) 0, s.inject.param, n]
  else ({ s with inject := { s.inject with refused := true } }).recG .injectRefused [w]

/-- INJ_DISARM written through the secure service view (R462, R469). -/
def State.disarm (s : State) (w : Word) : State :=
  if bitN w 0 && fieldN w 8 8 = 0x6B && fieldN w 1 7 = 0 && fieldN w 16 16 = 0 then s.endArming false else s

/-- A register of INJECT written through a view (R467): the secure service view alone writes. -/
def State.writeInject (s : State) (secure : Bool) (off : Nat) (w : Word) : State :=
  if !secure then s
  else
    match off with
    | 0x008 => s.arm w
    | 0x00C => if s.inject.armed.isSome then s else { s with inject := { s.inject with param := w } }
    | 0x010 => s.disarm w
    | _ => s

/-- INJ_STATUS (R469). -/
def State.injStatus (s : State) : Word :=
  let permitted := s.sealSt.sw1.getLsbD 13 && (List.range 64).any (fun id => injPermits id s.md.mode)
  flag s.inject.armed.isSome 0 ||| flag permitted 1 ||| flag s.inject.refused 2 |||
    (match s.inject.armed with
     | some a => place a.ident 8 ||| place (armLane a.lane) 16
     | none => 0)

/-- A register of INJECT read (R468, R469). -/
def State.readInject (s : State) (off : Nat) : Word :=
  match off with
  | 0x000 => 0x0009000D
  | 0x004 => s.injStatus
  | 0x00C => s.inject.param
  | 0x014 => s.inject.last
  | 0x018 => s.inject.armings
  | _ => 0

end Sys2Proof.Machine
end

