-- ==== Sys2Proof/Machine/Access.lean ====
section
/-! DEFINITION. Who may fetch, load and store what (R24, R128, R130, R131). -/

namespace Sys2Proof.Machine

/-- The mode code that LANE_MODE of a lane reports (R24). -/
def State.laneMode (s : State) (l : LaneId) : Nat :=
  if s.md.fenced.get l then
    if s.resync.phase ≠ .idle && s.resync.lane = l then 7
    else if s.guard.lockedOut.get l || 3 ≤ s.resync.attempts.get l || s.guard.noneMapped.get l then 4
    else 6
  else s.md.mode.code

/-- The outcome of an access check: granted, bounds (0x03), privilege (0x06) or misaligned (0x02). -/
inductive Right | ok | bounds | privilege | misaligned
  deriving DecidableEq, Repr

/-- The number of the trap of a refused access. -/
def Right.trap : Right → Nat
  | .ok => 0 | .bounds => 0x03 | .privilege => 0x06 | .misaligned => 0x02

/-- A right held at runtime level only. -/
def rtOnly (priv : Bool) : Right := if priv then .ok else .privilege

/-- CODE_END of the program header (R132). -/
def Lane.codeEnd (x : Lane) : Nat := (x.rd32 0x10).toNat

/-- Whether an instruction may be fetched at an address (R130). -/
def Lane.fetchable (x : Lane) (a : Nat) : Bool :=
  if x.core.priv then (0x00600000 ≤ a && a < 0x00800000) || (0x40000000 ≤ a && a < 0x40040000)
  else 0x40 ≤ a && a < x.codeEnd

/-- The lane block that an address names: offset 0xF000_n000 (R131). -/
def blockOf (a : Nat) : Nat := a / 4096 % 16

/-- The LANE_DBG registers, which the application may not read (R238). -/
def dbgRegister (n off : Nat) : Bool := n = 0 && 0x100 ≤ off && off < 0x110

/-- The right to a load from a lane block (R131): the blocks MBOX, SEMA, RESET and INJECT are closed to the
application, and so are the LANE_DBG registers (R238). -/
def blockLoad (priv : Bool) (n off : Nat) : Right :=
  if n ∈ [7, 8, 0xB, 0xD] || dbgRegister n off then rtOnly priv else .ok

/-- The right to a store to a lane block (R131): the application may store to CVU alone. -/
def blockStore (priv : Bool) (n : Nat) : Right := if n = 5 then .ok else rtOnly priv

/-- The right to load from an address (R130); `word` tells a word access (R131). -/
def Lane.loadRight (_x : Lane) (priv word : Bool) (a : Nat) : Right :=
  if a < 0x00600000 then .ok
  else if a < 0x00800000 then rtOnly priv
  else if a < 0x02F00000 then .ok
  else if a < 0x03000000 then rtOnly priv
  else if a < 0x03F00000 then .ok
  else if a < 0x04000000 then rtOnly priv
  else if 0x40000000 ≤ a && a < 0x40040000 then rtOnly priv
  else if 0xF0000000 ≤ a && a < 0xF000F000 then (if word then blockLoad priv (blockOf a) (a % 4096) else .misaligned)
  else if 0xF8000000 ≤ a && a < 0xF8010000 then (if word then .ok else .misaligned)
  else .bounds

/-- Whether an address lies in an enabled write-protect window (R128). -/
def Core.protects (c : Core) (a : Nat) : Bool :=
  (List.range 4).any fun i =>
    let b := vget c.wpbase i 0
    let m := vget c.wplim i 0
    bitN b 0 && b.toNat / 4096 ≤ a / 4096 && a / 4096 ≤ m.toNat / 4096

/-- The right to store that the application has outside a write-protect window (R130). -/
def Lane.appStore (x : Lane) (priv : Bool) (a : Nat) : Right :=
  if priv then .ok else if x.core.protects a then .privilege else .ok

/-- The right to store to an address (R130); `mode` is the lane's LANE_MODE. -/
def Lane.storeRight (x : Lane) (priv word : Bool) (mode : Nat) (a : Nat) : Right :=
  if a < 0x00800000 then (if priv && mode = 2 then .ok else .privilege)
  else if a < 0x02000040 then rtOnly priv
  else if a < 0x02400000 then x.appStore priv a
  else if a < 0x02500000 then .privilege
  else if a < 0x02F00000 then x.appStore priv a
  else if a < 0x03000000 then rtOnly priv
  else if a < 0x03F00000 then x.appStore priv a
  else if a < 0x04000000 then rtOnly priv
  else if 0x40000000 ≤ a && a < 0x40040000 then .privilege
  else if 0xF0000000 ≤ a && a < 0xF000F000 then (if word then blockStore priv (blockOf a) else .misaligned)
  else if 0xF8000000 ≤ a && a < 0xF8010000 then (if word then rtOnly priv else .misaligned)
  else .bounds

/-- Whether an address lies in the lane blocks or the RING view. -/
def inBlocks (a : Nat) : Bool := (0xF0000000 ≤ a && a < 0xF000F000) || (0xF8000000 ≤ a && a < 0xF8010000)

end Sys2Proof.Machine
end

