-- ==== Sys2Proof/Machine/Station.lean ====
section
/-! DEFINITION. The station model in a lane's store (R31 to R64): element records and states, route and chain
descriptors with the rules that the route engine verifies, the conflict matrix, route and chain states. -/

namespace Sys2Proof.Machine

/-- A field of a word replaced: `w` bits from bit `lo` up. -/
def putField (x : Word) (lo w v : Nat) : Word :=
  (x &&& ~~~ (BitVec.ofNat 32 ((2 ^ w - 1) * 2 ^ lo))) ||| BitVec.ofNat 32 (v % 2 ^ w * 2 ^ lo)

/-- Address of an element record (R31). -/
def recAddr (e : Nat) : Nat := 0x00810000 + e * 64

/-- Address of an element's state entry (R32). -/
def stAddr (e : Nat) : Nat := 0x02400000 + e * 32

/-- Address of a route descriptor (R31). -/
def routeAddr (r : Nat) : Nat := 0x00910000 + r * 256

/-- Address of a chain descriptor (R31). -/
def chainAddr (c : Nat) : Nat := 0x00B10000 + c * 64

/-- Address of a route state entry (R32, R49). -/
def rsAddr (r : Nat) : Nat := 0x02490000 + r * 8

/-- Address of a chain state entry (R32, R55). -/
def csAddr (c : Nat) : Nat := 0x024A0000 + c * 16

/-- Address of a rule-pack directory entry (R31). -/
def packAddr (p : Nat) : Nat := 0x00B20000 + p * 64

/-- Address of a transition rule (R31). -/
def ruleAddr (i : Nat) : Nat := 0x00B20800 + i * 16

/-- Address of a parameter slot (R31). -/
def slotAddr (i : Nat) : Nat := 0x00B30000 + i * 8

/-- PRESENT of a rule-pack directory entry (R62). -/
def Lane.packPresent (x : Lane) (p : Nat) : Bool := p ≤ 7 && fieldN (x.rd32 (packAddr p)) 8 8 = 1

/-- TYPE of an element (R36). -/
def Lane.elemType (x : Lane) (e : Nat) : Nat := fieldN (x.rd32 (recAddr e)) 16 8

/-- PACK of an element (R36). -/
def Lane.elemPack (x : Lane) (e : Nat) : Nat := fieldN (x.rd32 (recAddr e)) 24 3

/-- TYPE_DATA that the engine reads: none but bytes 0x2C to 0x2F of a boundary element (R38), which hold the partner
module's node address and the partner's index of the element. -/
def Lane.typeDataLen (x : Lane) (e : Nat) : Nat := if x.elemType e = 0x0C then 4 else 0

/-- The partner module's node address of a boundary element (R38). -/
def Lane.partnerNode (x : Lane) (e : Nat) : Nat := fieldN (x.rd32 (recAddr e + 0x2C)) 0 10

/-- The partner's element index of a boundary element (R38). -/
def Lane.partnerIndex (x : Lane) (e : Nat) : Nat := fieldN (x.rd32 (recAddr e + 0x2C)) 16 16

/-- INDEX of an element record (R36). -/
def Lane.elemIndex (x : Lane) (e : Nat) : Nat := fieldN (x.rd32 (recAddr e)) 0 14

/-- A valid type code (R37). -/
def typeValid (t : Nat) : Bool := 1 ≤ t && t ≤ 0x0F

/-- Types commanded at SET (R37). -/
def typeCommanded (t : Nat) : Bool := t ∈ [0x02, 0x03, 0x05, 0x09, 0x0A]

/-- Types whose SUPERVISED is checked (R37). -/
def typeSupervised (t : Nat) : Bool := t ∈ [0x02, 0x03, 0x05, 0x09, 0x0A, 0x0C, 0x0D]

/-- Occupancy types (R37). -/
def typeOccupancy (t : Nat) : Bool := t ∈ [0x01, 0x02, 0x03, 0x04, 0x05, 0x0A, 0x0C]

/-- Position codes that a reference to a type may carry (R37; log 10, DEDUCED). -/
def posAllowed (t p : Nat) : Bool :=
  if t = 0x03 || t = 0x05 then true
  else if t = 0x02 || t = 0x04 || t = 0x09 then p ≤ 2
  else if t = 0x0A || t = 0x0D then p ≤ 1
  else p = 0

/-- What the engine compares when it reads an element record (R39). -/
def Lane.recordFits (x : Lane) (e : Nat) : Bool := x.elemIndex e = e && typeValid (x.elemType e)

/-- The check word of an element record is right (R35, R36). -/
def Lane.recordCheck (x : Lane) (e : Nat) : Bool :=
  x.rd32 (recAddr e + 0x3C) = crc32c (BitVec.ofNat 32 (0x10000 + e)) (x.bytesAt (recAddr e) 0x3C)

/-- The record is as ELD and EST require: INDEX, TYPE and CHECK (R39, R165). -/
def Lane.recordSound (x : Lane) (e : Nat) : Bool := x.recordFits e && x.recordCheck e

/-- A reference of a route descriptor (R44). -/
structure Ref where
  elem : Nat
  pos : Nat
  seg : Nat
  role : Nat
  deriving DecidableEq, Repr

/-- A reference from its 24 bits (R44). -/
def refOf (n : Nat) : Ref := { elem := n % 16384, pos := n / 16384 % 4, seg := n / 65536 % 16, role := n / 1048576 % 4 }

/-- The 24 bits of reference i of route r (R44). -/
def Lane.refBits (x : Lane) (r i : Nat) : Nat := leNat (x.bytesAt (routeAddr r + 0x40 + 3 * i) 3)

/-- A word of a route descriptor's header (R43). -/
def Lane.rw (x : Lane) (r off : Nat) : Word := x.rd32 (routeAddr r + off)

/-- N_REFS (R43). -/
def Lane.nRefs (x : Lane) (r : Nat) : Nat := fieldN (x.rw r 0x08) 0 7

/-- N_PATH (R43). -/
def Lane.nPath (x : Lane) (r : Nat) : Nat := fieldN (x.rw r 0x08) 8 7

/-- N_OVERLAP (R43). -/
def Lane.nOverlap (x : Lane) (r : Nat) : Nat := fieldN (x.rw r 0x08) 16 7

/-- N_SEG (R43). -/
def Lane.nSeg (x : Lane) (r : Nat) : Nat := fieldN (x.rw r 0x08) 24 5

/-- The references of a route (R43). -/
def Lane.refs (x : Lane) (r : Nat) : List Ref := (List.range (x.nRefs r)).map (fun i => refOf (x.refBits r i))

/-- The check word of a route descriptor is right (R43). -/
def Lane.routeCheck (x : Lane) (r : Nat) : Bool :=
  x.rw r 0x3C = crc32c (BitVec.ofNat 32 (0x20000 + r))
    (x.bytesAt (routeAddr r) 0x3C ++ x.bytesAt (routeAddr r + 0x40) (3 * x.nRefs r))

/-- The ROLE that the place of a reference gives it (R44). -/
def Lane.roleAt (x : Lane) (r i : Nat) : Nat :=
  if i < x.nPath r then 0 else if i < x.nPath r + x.nOverlap r then 1 else 2

/-- One reference keeps the rules of R44. -/
def Lane.refOk (x : Lane) (elements r i : Nat) : Bool :=
  let n := x.refBits r i
  let e := refOf n
  e.elem < elements && e.seg < x.nSeg r && e.role = x.roleAt r i && n / 4194304 = 0 &&
    posAllowed (x.elemType e.elem) e.pos

/-- A list of numbers that never decreases. -/
def ascending : List Nat → Bool
  | a :: b :: r => a ≤ b && ascending (b :: r)
  | _ => true

/-- A list without repetition. -/
def distinct : List Nat → Bool
  | [] => true
  | a :: r => !r.contains a && distinct r

/-- The slots, the aspect function and the approach sections that a route descriptor names exist (R43): slots below
16,384, a function below 64 or 0xFFFF, element indexes below ELEMENTS or 0xFFFF (log 82). -/
def Lane.routeNamesOk (x : Lane) (elements r : Nat) : Bool :=
  let w (off lo : Nat) := fieldN (x.rw r off) lo 16
  w 0x10 0 < 16384 && w 0x10 16 < 16384 && w 0x14 0 < 16384 && (w 0x14 16 < 64 || w 0x14 16 = 0xFFFF) &&
  [w 0x18 0, w 0x18 16, w 0x1C 0, w 0x1C 16].all (fun e => e < elements || e = 0xFFFF)

/-- The bytes between the end of a route descriptor and the next 256-byte boundary are zero (R43). -/
def Lane.routePadOk (x : Lane) (r : Nat) : Bool :=
  let n := 64 + 3 * x.nRefs r
  (x.bytesAt (routeAddr r + n) (256 - n)).all (· = 0)

/-- The header of a route descriptor keeps the rules of R43. -/
def Lane.routeHeaderOk (x : Lane) (r : Nat) : Bool :=
  let w0 := x.rw r 0x00
  let w4 := x.rw r 0x04
  let w8 := x.rw r 0x08
  let wc := x.rw r 0x0C
  fieldN w0 0 13 = r && fieldN w0 13 3 = 0 && fieldN w0 16 8 ≤ 3 && fieldN w0 27 5 = 0 &&
  fieldN w4 14 2 = 0 && fieldN w4 30 2 = 0 &&
  x.elemType (fieldN w4 0 14) ∈ [0x06, 0x07] && x.elemType (fieldN w4 16 14) ∈ [0x06, 0x07, 0x0B, 0x0C, 0x0E] &&
  1 ≤ x.nRefs r && x.nRefs r ≤ 64 && 1 ≤ x.nPath r && x.nPath r ≤ x.nRefs r &&
  x.nPath r + x.nOverlap r ≤ x.nRefs r && 1 ≤ x.nSeg r && x.nSeg r ≤ 16 &&
  fieldN w8 7 1 = 0 && fieldN w8 15 1 = 0 && fieldN w8 23 1 = 0 && fieldN w8 29 3 = 0 &&
  fieldN wc 0 3 = x.elemPack (fieldN w4 0 14) && fieldN wc 3 5 = 0 && fieldN wc 24 8 = 0 &&
  (List.range 6).all (fun i => x.rw r (0x20 + 4 * i) = 0)

/-- The references of a route descriptor keep the rules of R44. -/
def Lane.routeRefsOk (x : Lane) (elements r : Nat) : Bool :=
  let rs := x.refs r
  let path := rs.take (x.nPath r)
  (List.range (x.nRefs r)).all (x.refOk elements r) &&
  ascending (path.map (·.seg)) && distinct (rs.map (·.elem)) &&
  (path.head?.map (·.elem)) = some (fieldN (x.rw r 0x04) 0 14) &&
  (path.getLast?.map (·.elem)) = some (fieldN (x.rw r 0x04) 16 14)

/-- A route descriptor that the engine accepts: CHECK, R43, R44, and the records of its references (R39, R45). -/
def Lane.routeOk (x : Lane) (elements r : Nat) : Bool :=
  x.routeHeaderOk r && x.routeCheck r && x.routeNamesOk elements r && x.routePadOk r && x.routeRefsOk elements r && (x.refs r).all (fun e => x.recordFits e.elem)

/-- Bit c of row r of the conflict matrix (R46). -/
def Lane.conflictBit (x : Lane) (r c : Nat) : Bool := (x.rd8 (0x00C00000 + r * 0x400 + c / 8)).getLsbD (c % 8)

/-- Bit j of the summary of row r (R47). -/
def Lane.summaryBit (x : Lane) (r j : Nat) : Bool := (x.rd8 (0x00B50000 + r * 16 + j / 8)).getLsbD (j % 8)

/-- The words of row r that the summary marks (R47). -/
def Lane.marked (x : Lane) (r : Nat) : List Nat := (List.range 128).filter (x.summaryBit r)

/-- Row r and the locked-route vector have a bit in common, marked words only (R47, R59). -/
def Lane.rowConflict (x : Lane) (r : Nat) : Bool :=
  (x.marked r).any fun j => (List.range 8).any fun k =>
    x.rd8 (0x00C00000 + r * 0x400 + j * 8 + k) &&& x.rd8 (0x02480000 + j * 8 + k) ≠ 0

/-- STATE of a route (R49). -/
def Lane.routeState (x : Lane) (r : Nat) : Nat := fieldN (x.rd32 (rsAddr r)) 0 3

/-- ENTERED of a route (R49). -/
def Lane.routeEntered (x : Lane) (r : Nat) : Bool := bitN (x.rd32 (rsAddr r)) 3

/-- BLOCKED of a route (R49). -/
def Lane.routeBlocked (x : Lane) (r : Nat) : Bool := bitN (x.rd32 (rsAddr r)) 4

/-- CHAIN_ACTIVE of a route (R49). -/
def Lane.routeInChain (x : Lane) (r : Nat) : Bool := bitN (x.rd32 (rsAddr r)) 5

/-- NEXT_SEG of a route (R49). -/
def Lane.routeNextSeg (x : Lane) (r : Nat) : Nat := fieldN (x.rd32 (rsAddr r)) 8 4

/-- CHAIN of a route (R49). -/
def Lane.routeChain (x : Lane) (r : Nat) : Nat := fieldN (x.rd32 (rsAddr r)) 16 10

/-- STATE of a chain (R55). -/
def Lane.chainState (x : Lane) (c : Nat) : Nat := fieldN (x.rd32 (csAddr c)) 0 3

/-- ENTERED of a chain (R55). -/
def Lane.chainEntered (x : Lane) (c : Nat) : Bool := bitN (x.rd32 (csAddr c)) 3

/-- Number of members of a chain: a COUNT of 0 means 16 (R54). -/
def Lane.chainCount (x : Lane) (c : Nat) : Nat :=
  let n := fieldN (x.rd32 (chainAddr c)) 16 4
  if n = 0 then 16 else n

/-- Member i of a chain descriptor (R54). -/
def Lane.chainMember (x : Lane) (c i : Nat) : Nat := (x.rd16 (chainAddr c + 0x08 + 2 * i)).toNat

/-- The members of a chain in path order (R54). -/
def Lane.members (x : Lane) (c : Nat) : List Nat := (List.range (x.chainCount c)).map (x.chainMember c)

/-- The lock limit of a chain: the value of a slot of type cycle count, 1 to 65,535 (R54). -/
def Lane.chainLimit (x : Lane) (c : Nat) : Option Nat :=
  let slot := (x.rd16 (chainAddr c + 0x04)).toNat
  let v := (x.rd32 (slotAddr slot)).toNat
  if slot < 16384 && fieldN (x.rd32 (slotAddr slot + 4)) 0 8 = 0x05 && 1 ≤ v && v ≤ 65535 then some v else none

/-- A chain descriptor that keeps its CHECK and the rules of R54. -/
def Lane.chainOk (x : Lane) (routes c : Nat) : Bool :=
  let w0 := x.rd32 (chainAddr c)
  x.rd32 (chainAddr c + 0x3C) = crc32c (BitVec.ofNat 32 (0x30000 + c)) (x.bytesAt (chainAddr c) 0x3C) &&
  fieldN w0 0 10 = c && fieldN w0 10 6 = 0 && fieldN w0 20 12 = 0 && x.rd16 (chainAddr c + 0x06) = 0 &&
  (x.members c).all (· < routes) &&
  (List.range (16 - x.chainCount c)).all (fun i => x.chainMember c (x.chainCount c + i) = 0xFFFF) &&
  (List.range 4).all (fun i => x.rd32 (chainAddr c + 0x28 + 4 * i) = 0) && (x.chainLimit c).isSome

end Sys2Proof.Machine
end

