-- ==== Sys2Proof/Machine/Engine.lean ====
section
/-! DEFINITION. The route engine of a lane (chapter 02): the element check, the classes of a route, the requests,
the sweep and the initialisation of the engine-owned tables. -/

namespace Sys2Proof.Machine

/-- What an evaluation of a route's references found (R52). -/
structure Eval where
  /-- a conflict other than a full COUNT -/
  conflict : Bool
  /-- a COUNT of 15 -/
  full : Bool
  unusable : Bool
  occupied : Bool
  inconsistent : Bool
  /-- INVALID coded words read -/
  coded : Nat
  deriving DecidableEq, Repr

/-- Nothing found. -/
def Eval.zero : Eval :=
  { conflict := false, full := false, unusable := false, occupied := false, inconsistent := false, coded := 0 }

/-- 1 for an INVALID word. -/
def invalid1 (w : Word) : Nat := if codedValid w then 0 else 1

/-- The lock state of an element is inconsistent: INVALID in either word, or both TRUE (R42). -/
def inconsistentLock (free locked : Word) : Bool :=
  !codedValid free || !codedValid locked || (free == codedTrue && locked == codedTrue)

/-- A word of an element's state entry (R40). -/
def Lane.es (x : Lane) (e off : Nat) : Word := x.rd32 (stAddr e + off)

/-- The element check of one reference of a route (R52); `free` tells that the route is FREE. -/
def Lane.refEval (x : Lane) (free : Bool) (v : Eval) (e : Ref) : Eval :=
  let fr := x.es e.elem 0x0C
  let lk := x.es e.elem 0x10
  let us := x.es e.elem 0x08
  let cl := x.es e.elem 0x00
  let w5 := x.es e.elem 0x14
  let w6 := x.es e.elem 0x18
  let incons := inconsistentLock fr lk
  let held := !incons && free && fr ≠ codedTrue
  let occ := typeOccupancy (x.elemType e.elem) && e.role ≠ 2
  { conflict := v.conflict || incons || (held && (e.role = 0 || fieldN w5 2 2 ≠ e.pos))
    full := v.full || (held && e.role ≠ 0 && fieldN w6 16 4 = 15)
    unusable := v.unusable || us ≠ codedTrue
    occupied := v.occupied || (occ && cl ≠ codedTrue)
    inconsistent := v.inconsistent || incons
    coded := v.coded + invalid1 fr + invalid1 lk + invalid1 us + (if occ then invalid1 cl else 0) }

/-- The evaluation of all references of a route (R52). -/
def Lane.routeEval (x : Lane) (r : Nat) : Eval := (x.refs r).foldl (x.refEval (x.routeState r = 0)) Eval.zero

/-- The classes of a route from its evaluation (R59). -/
def Lane.classesOf (x : Lane) (r : Nat) (v : Eval) : BitVec 6 :=
  let st := x.routeState r
  let conf := x.rowConflict r || v.conflict || v.full
  let avail := st = 0 && !x.routeBlocked r && !conf && !v.occupied && !v.unusable && !v.inconsistent
  BitVec.ofNat 6 ((if avail then 1 else 0) + (if conf then 2 else 0) + (if v.occupied then 4 else 0) +
    (if 2 ≤ st then 8 else 0) + (if st ≠ 0 then 16 else 0) + (if st = 3 then 32 else 0))

/-- A word of the engine's registers changed. -/
def Lane.eng (x : Lane) (f : Engine → Engine) : Lane := { x with engine := f x.engine }

/-- A flag of ROUTE_ERR set; the first error fills ROUTE_ERR_INFO (R81, R82). -/
def Engine.setErr (g : Engine) (bitNo object : Nat) : Engine :=
  { g with
    err := g.err ||| flag true bitNo
    errInfo := if g.err = 0 then place (object % 65536) 0 ||| place bitNo 16 else g.errInfo }

/-- A flag of a lane's ROUTE_ERR set. -/
def Lane.engErr (x : Lane) (bitNo object : Nat) : Lane := x.eng (fun g => g.setErr bitNo object)

/-- What reading INVALID words and inconsistent states does: the error flags, ROUTE_CODED_COUNT and one coded-value
event in the core for each INVALID word (R42, R145). -/
def Lane.noteEval (x : Lane) (object : Nat) (incons : Bool) (n : Nat) : Lane :=
  let x := if incons then x.engErr 3 object else x
  if n = 0 then x
  else
    let x := (x.engErr 4 object).eng (fun g => { g with codedCount := satAdd g.codedCount n })
    { x with core := x.core.codedEvents n }

/-- The cycle number that state entries record: the low word of n (R87). -/
def Lane.cycleLo (x : Lane) : Word := x.tb.cycle.setWidth 32

/-- The bit of a route in the locked-route vector written (R50). -/
def Lane.setVector (x : Lane) (r : Nat) (b : Bool) : Lane :=
  let a := 0x02480000 + r / 8
  x.wr8 a (setBit (x.rd8 a) (r % 8) b)

/-- STATE of a route changed, with CHANGED and the locked-route vector (R49, R50). -/
def Lane.setRoute (x : Lane) (r st : Nat) : Lane :=
  let x := x.wr32 (rsAddr r) (putField (x.rd32 (rsAddr r)) 0 3 st)
  let x := x.wr32 (rsAddr r + 4) x.cycleLo
  x.setVector r (st ≠ 0)

/-- ENTERED of a route set (R51). -/
def Lane.setEntered (x : Lane) (r : Nat) : Lane := x.wr32 (rsAddr r) (putField (x.rd32 (rsAddr r)) 3 1 1)

/-- A route made FREE: ENTERED and NEXT_SEG become 0 in the same step (R53). -/
def Lane.freeRoute (x : Lane) (r : Nat) : Lane :=
  let w := putField (putField (x.rd32 (rsAddr r)) 3 1 0) 8 4 0
  (x.wr32 (rsAddr r) w).setRoute r 0

/-- SET of one reference (R53). -/
def Lane.takeRef (x : Lane) (r : Nat) (e : Ref) : Lane :=
  let a := stAddr e.elem
  let w6 := x.es e.elem 0x18
  if x.es e.elem 0x0C = codedTrue then
    let x := x.wr32 (a + 0x0C) codedFalse
    let x := if typeCommanded (x.elemType e.elem) then x.wr32 (a + 0x14) (putField (x.es e.elem 0x14) 2 2 e.pos) else x
    x.wr32 (a + 0x18) (putField (putField (putField w6 16 4 1) 0 13 r) 13 1 1)
  else x.wr32 (a + 0x18) (putField (putField (putField w6 16 4 (fieldN w6 16 4 + 1)) 0 13 r) 13 1 1)

/-- Release of one reference (R53). -/
def Lane.releaseRef (x : Lane) (e : Ref) : Lane :=
  let a := stAddr e.elem
  let w6 := x.es e.elem 0x18
  let n := fieldN w6 16 4 - 1
  if n = 0 then
    let x := x.wr32 (a + 0x18) (putField (putField w6 16 4 0) 13 1 0)
    let x := x.wr32 (a + 0x0C) codedTrue
    x.wr32 (a + 0x10) codedFalse
  else x.wr32 (a + 0x18) (putField w6 16 4 n)

/-- SET of a route (R53). -/
def Lane.doSet (x : Lane) (r : Nat) : Lane :=
  let x := (x.refs r).foldl (fun x e => x.takeRef r e) x
  let w := putField (putField (x.rd32 (rsAddr r)) 3 1 0) 8 4 0
  (x.wr32 (rsAddr r) w).setRoute r 1

/-- The references of a route not yet released (R53, R66); a FREE route holds none. -/
def Lane.remaining (x : Lane) (r : Nat) : List Ref :=
  if x.routeState r = 0 then [] else (x.refs r).filter (fun e => decide (x.routeNextSeg r ≤ e.seg))

/-- Every remaining reference of a route released, and the route FREE (R53). -/
def Lane.releaseAll (x : Lane) (r : Nat) : Lane :=
  ((x.remaining r).foldl (fun x e => x.releaseRef e) x).freeRoute r

/-- Path references of an occupancy type that are not CLEAR. -/
def Lane.notClear (x : Lane) (es : List Ref) : Bool :=
  es.any fun e => e.role = 0 && typeOccupancy (x.elemType e.elem) && x.es e.elem 0x00 ≠ codedTrue

/-- INVALID CLEAR words among the path references of an occupancy type. -/
def Lane.clearInvalid (x : Lane) (es : List Ref) : Nat :=
  es.foldl (fun n e =>
    if e.role = 0 && typeOccupancy (x.elemType e.elem) then n + invalid1 (x.es e.elem 0x00) else n) 0

/-- STATE of a chain changed, with CHANGED (R55). -/
def Lane.setChain (x : Lane) (c st : Nat) : Lane :=
  let x := x.wr32 (csAddr c) (putField (x.rd32 (csAddr c)) 0 3 st)
  x.wr32 (csAddr c + 8) x.cycleLo

/-- A chain made IDLE; its members lose CHAIN_ACTIVE (R56). -/
def Lane.idleChain (x : Lane) (c : Nat) : Lane :=
  let x := (x.wr32 (csAddr c) (putField (x.rd32 (csAddr c)) 3 1 0)).setChain c 0
  (x.members c).foldl (fun x r =>
    if x.routeInChain r && x.routeChain r = c then
      x.wr32 (rsAddr r) (putField (putField (x.rd32 (rsAddr r)) 5 1 0) 16 10 0)
    else x) x

/-- The state entries of the members of a chain hold a byte with wrong parity (R71). -/
def Lane.membersParity (x : Lane) (c : Nat) : Bool := (x.members c).any (fun r => x.parityBad (rsAddr r) 8)

/-- The chain of a route made IDLE once its last member is FREE (R56). -/
def Lane.chainCheckIdle (x : Lane) (r : Nat) : Lane :=
  if x.routeInChain r then
    let c := x.routeChain r
    if (x.members c).all (fun m => x.routeState m = 0) then x.idleChain c else x
  else x

/-- A rollback of a chain: every member releases all its references, and ROLLBACKS counts (R56). -/
def Lane.rollback (x : Lane) (c : Nat) : Lane :=
  let x := (x.members c).foldl (fun x r => if x.routeState r = 0 then x else x.releaseAll r) x
  let x := x.idleChain c
  let w := x.rd32 (csAddr c + 0xC)
  x.wr32 (csAddr c + 0xC) (putField w 0 16 (min 65535 (fieldN w 0 16 + 1)))

/-- A chain whose lock limit has passed while it is SET (R58). -/
def Lane.limitPassed (x : Lane) (c : Nat) : Bool :=
  match x.chainLimit c with
  | none => false
  | some lim => x.chainState c = 1 && decide (lim < (x.cycleLo - x.rd32 (csAddr c + 4)).toNat)

/-- What the conditions of R51 found for a route. -/
structure Cond where
  /-- the conditions of SET to LOCKED hold -/
  lockable : Bool
  /-- every reference has LOCKED TRUE, and the overlap is CLEAR where it must be -/
  rest : Bool
  /-- every path reference of an occupancy type is CLEAR -/
  pathClear : Bool
  coded : Nat
  deriving DecidableEq, Repr

/-- The conditions of R51 for one reference; `full` tells that the proving conditions are read as well. -/
def Lane.refCond (x : Lane) (full overlapClear : Bool) (k : Cond) (e : Ref) : Cond :=
  let t := x.elemType e.elem
  let us := x.es e.elem 0x08
  let su := x.es e.elem 0x04
  let lk := x.es e.elem 0x10
  let cl := x.es e.elem 0x00
  let w5 := x.es e.elem 0x14
  let sup := typeSupervised t
  let named := e.pos ≠ 0 || t = 0x05
  let onPath := full && typeOccupancy t && e.role = 0
  let onOver := full && typeOccupancy t && e.role = 1 && overlapClear
  { lockable := k.lockable && us = codedTrue &&
      (!sup || (su = codedTrue && (!named || fieldN w5 0 2 = e.pos) && !bitN w5 4))
    rest := k.rest && (!full || lk = codedTrue) && (!onOver || cl = codedTrue)
    pathClear := k.pathClear && (!onPath || cl = codedTrue)
    coded := k.coded + invalid1 us + (if sup then invalid1 su else 0) + (if full then invalid1 lk else 0) +
      (if onPath || onOver then invalid1 cl else 0) }

/-- The conditions of R51 for a route. -/
def Lane.routeCond (x : Lane) (full : Bool) (r : Nat) : Cond :=
  (x.refs r).foldl (x.refCond full (bitN (x.rw r 0x00) 25))
    { lockable := true, rest := true, pathClear := true, coded := 0 }

/-- The conditions to become or stay PROVEN, ENTERED apart (R51). -/
def Cond.proving (k : Cond) : Bool := k.lockable && k.rest && k.pathClear

/-- LOCKED written TRUE for every reference of a route (R51). -/
def Lane.lockRefs (x : Lane) (r : Nat) : Lane :=
  (x.refs r).foldl (fun x e => x.wr32 (stAddr e.elem + 0x10) codedTrue) x

/-- A member of a chain that is not ENTERED: the route pass applies to it the first row of R51 alone. -/
def Lane.heldByChain (x : Lane) (r : Nat) : Bool := x.routeInChain r && !x.chainEntered (x.routeChain r)

/-- The advance of a route in a sweep (R51). -/
def Lane.advance (x : Lane) (r : Nat) : Lane :=
  match x.routeState r with
  | 1 =>
    let k := x.routeCond false r
    let x := x.noteEval r false k.coded
    if k.lockable then (x.lockRefs r).setRoute r 2 else x
  | 2 =>
    if x.heldByChain r || x.routeEntered r then x
    else
      let k := x.routeCond true r
      let x := x.noteEval r false k.coded
      if k.proving then x.setRoute r 3 else x
  | 3 =>
    if x.heldByChain r then x
    else
      let k := x.routeCond true r
      let x := x.noteEval r false k.coded
      if !k.pathClear then (x.setEntered r).setRoute r 2
      else if !k.proving then x.setRoute r 2
      else x
  | _ => x

/-- One class bit of a route in the readiness map written (R60). -/
def Lane.mapBit (x : Lane) (r c : Nat) (b : Bool) : Lane :=
  let a := 0x02481000 + c * 0x400 + r / 8
  x.wr8 a (setBit (x.rd8 a) (r % 8) b)

/-- The six classes of a route written to the readiness map (R60). -/
def Lane.mapRoute (x : Lane) (r : Nat) (v : BitVec 6) : Lane :=
  (List.range 6).foldl (fun x c => x.mapBit r c (v.getLsbD c)) x

/-- The store words that the engine reads for a route hold a byte with wrong parity (R71): the descriptor with its
padding, the route's state, its summary, the marked words of its row, and for each reference the record's first word,
the TYPE_DATA that R38 names and the element's state. -/
def Lane.routeParity (x : Lane) (r : Nat) : Bool :=
  x.parityBad (routeAddr r) 256 || x.parityBad (rsAddr r) 8 || x.parityBad (0x00B50000 + r * 16) 16 ||
  (x.refs r).any (fun e => x.parityBad (recAddr e.elem) 4 || x.parityBad (recAddr e.elem + 0x2C) (x.typeDataLen e.elem) ||
    x.parityBad (stAddr e.elem) 28) ||
  (x.marked r).any (fun j => x.parityBad (0x00C00000 + r * 0x400 + j * 8) 8 || x.parityBad (0x02480000 + j * 8) 8)

/-- The store words that the engine reads for a chain hold a byte with wrong parity (R71). -/
def Lane.chainParity (x : Lane) (c : Nat) : Bool :=
  x.parityBad (chainAddr c) 64 || x.parityBad (csAddr c) 16 ||
  x.parityBad (slotAddr (x.rd16 (chainAddr c + 0x04)).toNat) 8

/-- Why a record of the model cannot be used: 11 DESCRIPTOR, 12 PARITY, 0 none (R65). -/
def Lane.routeFault (x : Lane) (r : Nat) : Nat :=
  if x.routeParity r then 12 else if x.routeOk x.engine.cfgElements.toNat r then 0 else 11

/-- The same for a chain descriptor. -/
def Lane.chainFault (x : Lane) (c : Nat) : Nat :=
  if x.chainParity c then 12 else if x.chainOk x.engine.cfgRoutes.toNat c then 0 else 11

/-- The flag of ROUTE_ERR for a reason: 2 DESCRIPTOR, 5 STORE_PARITY (R81). -/
def faultFlag (reason : Nat) : Nat := if reason = 12 then 5 else 2

/-- A sweep under way: the lane, the reason of its first error, the element checks counted. -/
structure Sweep where
  x : Lane
  reason : Nat
  checks : Nat

/-- The first error of a sweep kept, with its flag (R45, R58): each error sets the flag of its own kind, though one of
them alone is the sweep's reason (log 82). -/
def Sweep.fail (w : Sweep) (reason object : Nat) : Sweep :=
  { w with x := w.x.engErr (faultFlag reason) object, reason := if w.reason = 0 then reason else w.reason }

/-- The first member of a list whose record cannot be used: its number, its place in the list and the reason. -/
def Lane.badMember (x : Lane) : List Nat → Nat → Option (Nat × Nat × Nat)
  | [], _ => none
  | r :: rs, i => if x.routeFault r ≠ 0 then some (r, i, x.routeFault r) else x.badMember rs (i + 1)

/-- The first member of a list whose state entry holds a byte with wrong parity (R71). -/
def Lane.badState (x : Lane) : List Nat → Nat → Option (Nat × Nat)
  | [], _ => none
  | r :: rs, i => if x.parityBad (rsAddr r) 8 then some (r, i) else x.badState rs (i + 1)

/-- The pre-pass for a chain (R58): a rollback reads the descriptors of the members (R45); where one of them, or a
member's state, cannot be used, the chain stays as it is and the sweep ends with that reason (log 82). -/
def Sweep.pre (w : Sweep) (c : Nat) : Sweep :=
  let f := w.x.chainFault c
  if f ≠ 0 then w.fail f c
  else if w.x.limitPassed c then
    match w.x.badMember (w.x.members c) 0 with
    | some (r, _, why) => w.fail why r
    | none => { w with x := w.x.rollback c }
  else w

/-- The route pass for a route (R45, R51, R59). -/
def Sweep.route (w : Sweep) (r : Nat) : Sweep :=
  let f := w.x.routeFault r
  if f ≠ 0 then
    let w1 := w.fail f r
    { w1 with x := w1.x.mapRoute r 2 }
  else
    let x := w.x.advance r
    let v := x.routeEval r
    let cls := x.classesOf r v
    { w with
      x := (x.noteEval r v.inconsistent v.coded).mapRoute r cls
      checks := w.checks + max (x.nRefs r) (x.marked r).length }

/-- A member taken back from PROVEN to LOCKED by the post-pass, ENTERED where a train stands on it (R56). -/
def Lane.backToLocked (x : Lane) (r : Nat) (entered : Bool) : Lane :=
  let x := if entered then x.setEntered r else x
  (if x.routeState r = 3 then x.setRoute r 2 else x).mapBit r 5 false

/-- ENTERED of a chain set (R55). -/
def Lane.chainEnter (x : Lane) (c : Nat) : Lane := x.wr32 (csAddr c) (putField (x.rd32 (csAddr c)) 3 1 1)

/-- The post-pass for a PROVEN chain that is not ENTERED (R56): entered at its start, or taken back. -/
def Lane.provenChain (x : Lane) (c : Nat) : Lane :=
  let ms := x.members c
  let ks := ms.map (fun r => (r, x.routeCond true r))
  let x := ks.foldl (fun x k => x.noteEval k.1 false k.2.coded) x
  let others := (ks.drop 1).all (fun k => k.2.proving)
  let firstOnlyPath := (ks.head?.map (fun k => k.2.lockable && k.2.rest && !k.2.pathClear)).getD false
  if ks.all (fun k => k.2.proving) then x
  else if others && firstOnlyPath then
    let x := match ms with
      | [] => x
      | r :: _ => x.backToLocked r true
    (x.chainEnter c).setChain c 2
  else
    let x := ks.foldl (fun x k => x.backToLocked k.1 (!k.2.pathClear)) x
    let x := if ks.any (fun k => !k.2.pathClear) then x.chainEnter c else x
    x.setChain c 2

/-- The post-pass for a LOCKED chain that is not ENTERED: joint proving (R56). -/
def Lane.lockedChain (x : Lane) (c : Nat) : Lane :=
  let ms := x.members c
  let ks := ms.map (fun r => (r, x.routeCond true r))
  let x := ks.foldl (fun x k => x.noteEval k.1 false k.2.coded) x
  if ks.all (fun k => x.routeState k.1 = 2 && !x.routeEntered k.1 && k.2.proving) then
    (ms.foldl (fun x r => (x.setRoute r 3).mapBit r 5 true) x).setChain c 3
  else x

/-- The post-pass for a chain (R56, R58); a chain with a member that cannot be read stays as it is. -/
def Sweep.post (w : Sweep) (c : Nat) : Sweep :=
  let x := w.x
  let f := x.chainFault c
  if f ≠ 0 then (if w.reason = 0 then w.fail f c else w)
  else if x.chainEntered c || (x.members c).any (fun r => x.routeFault r ≠ 0) then w
  else
    match x.chainState c with
    | 1 => if (x.members c).all (fun r => x.routeState r = 2) then { w with x := x.setChain c 2 } else w
    | 2 => { w with x := x.lockedChain c }
    | 3 => { w with x := x.provenChain c }
    | _ => w

/-- The bytes of the readiness map (R60). -/
def Lane.mapBytes (x : Lane) : List Byte := x.bytesAt 0x02481000 0x1800

/-- The longest time that a sweep may take, in 10 ns (R72). -/
def sweepLimit (checks routes chains : Nat) : Nat := (6000 + checks * 50 + routes * 75 + chains * 120) / 30

/-- A sweep (R58); its duration is a free value within the bound of R72. The reason of its first error is
returned. -/
def Lane.doSweep (x : Lane) (free : Word) : Lane × Nat :=
  let routes := x.engine.cfgRoutes.toNat
  let chains := x.engine.cfgChains.toNat
  let w := (List.range chains).foldl Sweep.pre { x := x, reason := 0, checks := 0 }
  let w := (List.range routes).foldl Sweep.route w
  let w := (List.range chains).foldl Sweep.post w
  let x := w.x
  let digest := crc32c 0 x.mapBytes
  let time := BitVec.ofNat 32 (free.toNat % (sweepLimit w.checks routes chains + 1))
  (x.eng (fun g => { g with
      sweepCycle := x.cycleLo, sweepDigest := digest, sweepChecks := BitVec.ofNat 32 w.checks, sweepTime := time
      sweepMax := if g.sweepMax < time then time else g.sweepMax, digests := g.digests ++ [digest] }), w.reason)

/-- KIND of a request (R65). -/
def reqKind (q : Word) : Nat := fieldN q 0 5

/-- OBJECT of a request (R65). -/
def reqObject (q : Word) : Nat := fieldN q 8 14

/-- ARG of a request (R65). -/
def reqArg (q : Word) : Nat := fieldN q 22 4

/-- A result word (R65). -/
def resultWord (q : Word) (outcome : Nat) (classes : BitVec 6) (member reason : Nat) : Word :=
  place (reqKind q) 0 ||| place outcome 5 ||| place classes.toNat 8 ||| place (member % 16) 14 |||
    place (reason % 16) 18 ||| place (fieldN q 26 6) 26

/-- What a request ends with: the outcome, the member and the reason. -/
structure Answer where
  outcome : Nat
  member : Nat
  reason : Nat
  deriving DecidableEq, Repr

/-- DONE. -/
def Answer.done : Answer := { outcome := 0, member := 0, reason := 0 }

/-- REFUSED for a reason. -/
def Answer.refused (reason : Nat) (member : Nat := 0) : Answer := { outcome := 1, member := member, reason := reason }

/-- ERROR for a reason. -/
def Answer.error (reason : Nat) (member : Nat := 0) : Answer := { outcome := 2, member := member, reason := reason }

/-- Why a route is not AVAILABLE: the first reason in the order of R66; 0 when it is AVAILABLE. -/
def Lane.notAvailable (x : Lane) (r : Nat) (v : Eval) : Nat :=
  if x.routeState r ≠ 0 then 5
  else if x.routeBlocked r then 4
  else if v.inconsistent then 9
  else if x.rowConflict r || v.conflict then 1
  else if v.full then 8
  else if v.unusable then 3
  else if v.occupied then 2
  else 0

/-- The first member of a chain that is not AVAILABLE, with its reason (R56). -/
def Lane.firstUnavailable (x : Lane) : List Nat → Nat → Option (Nat × Nat)
  | [], _ => none
  | r :: rs, i =>
    let why := x.notAvailable r (x.routeEval r)
    if why = 0 then x.firstUnavailable rs (i + 1) else some (i, why)

/-- The first member of a list whose remaining path is not CLEAR. -/
def Lane.firstOccupied (x : Lane) : List Nat → Nat → Option Nat
  | [], _ => none
  | r :: rs, i => if x.notClear (x.remaining r) then some i else x.firstOccupied rs (i + 1)

/-- The effect of a request on a route (R66); the evaluation is that of the route as the request finds it. The last
RELEASE_SEGMENT of a chain member reads the chain's descriptor and its members' states (R56, R71). -/
def Lane.routeRequest (x : Lane) (kind r arg : Nat) (v : Eval) : Lane × Answer :=
  let st := x.routeState r
  match kind with
  | 0x02 =>
    let why := x.notAvailable r v
    if why = 0 then (x.doSet r, .done) else (x, .refused why)
  | 0x03 =>
    if !(1 ≤ st && st ≤ 3) then (x, .refused 5)
    else if x.routeInChain r then (x, .refused 6)
    else (x.setRoute r 4, .done)
  | 0x04 =>
    let es := (x.refs r).filter (fun e => e.seg = arg)
    if !(st = 4 || (st = 2 && x.routeEntered r)) then (x, .refused 5)
    else if arg ≠ x.routeNextSeg r then (x, .refused 7 arg)
    else if x.notClear es then (x, .refused 2 arg)
    else if arg + 1 = x.nSeg r && x.routeInChain r && (x.chainParity (x.routeChain r) || x.membersParity (x.routeChain r)) then
      (x.engErr 5 (x.routeChain r), .error 12)
    else
      let y := es.foldl (fun x e => x.releaseRef e) x
      if arg + 1 = x.nSeg r then ((y.freeRoute r).chainCheckIdle r, .done)
      else (y.wr32 (rsAddr r) (putField (y.rd32 (rsAddr r)) 8 4 (arg + 1)), .done)
  | 0x05 =>
    if st ≠ 4 then (x, .refused 5)
    else if x.routeInChain r then (x, .refused 6)
    else if x.notClear (x.remaining r) then (x, .refused 2)
    else (x.releaseAll r, .done)
  | 0x06 => (x.wr32 (rsAddr r) (putField (x.rd32 (rsAddr r)) 4 1 1), .done)
  | 0x07 => (x.wr32 (rsAddr r) (putField (x.rd32 (rsAddr r)) 4 1 0), .done)
  | _ => (x, .done)

/-- CHAIN_SET (R54, R56). -/
def Lane.chainSet (x : Lane) (c : Nat) : Lane × Answer :=
  let ms := x.members c
  if x.chainFault c ≠ 0 then (x.engErr (faultFlag (x.chainFault c)) c, .error (x.chainFault c))
  else if x.chainState c ≠ 0 then (x, .refused 5)
  else
    match x.badMember ms 0 with
    | some (r, i, why) => (x.engErr (faultFlag why) r, .error why i)
    | none =>
      let y := ms.foldl (fun y r => y.noteEval r (x.routeEval r).inconsistent (x.routeEval r).coded) x
      match x.firstUnavailable ms 0 with
      | some (i, why) => (y, .refused why i)
      | none =>
        let y := ms.foldl (fun y r =>
          let y := y.doSet r
          y.wr32 (rsAddr r) (putField (putField (y.rd32 (rsAddr r)) 5 1 1) 16 10 c)) y
        let w := putField (putField (y.rd32 (csAddr c)) 8 4 (x.chainCount c % 16)) 3 1 0
        let y := (y.wr32 (csAddr c) w).setChain c 1
        (y.wr32 (csAddr c + 4) x.cycleLo, .done)

/-- CHAIN_CANCEL (R56). -/
def Lane.chainCancel (x : Lane) (c : Nat) : Lane × Answer :=
  let st := x.chainState c
  if x.chainFault c ≠ 0 then (x.engErr (faultFlag (x.chainFault c)) c, .error (x.chainFault c))
  else if !(1 ≤ st && st ≤ 3) then (x, .refused 5)
  else
    match x.badState (x.members c) 0 with
    | some (r, i) => (x.engErr 5 r, .error 12 i)
    | none => (((x.members c).foldl (fun x r => if x.routeState r = 0 then x else x.setRoute r 4) x).setChain c 4, .done)

/-- CHAIN_RELEASE (R56). -/
def Lane.chainRelease (x : Lane) (c : Nat) : Lane × Answer :=
  let ms := (x.members c).filter (fun r => x.routeState r ≠ 0)
  if x.chainFault c ≠ 0 then (x.engErr (faultFlag (x.chainFault c)) c, .error (x.chainFault c))
  else if x.chainState c ≠ 4 then (x, .refused 5)
  else
    match x.badMember (x.members c) 0 with
    | some (r, i, why) => (x.engErr (faultFlag why) r, .error why i)
    | none =>
      let y := (x.members c).foldl (fun y r => y.noteEval r false (x.clearInvalid (x.remaining r))) x
      match x.firstOccupied (x.members c) 0 with
      | some i => (y, .refused 2 i)
      | none => ((ms.foldl (fun x r => x.releaseAll r) y).idleChain c, .done)

/-- MOVE of an element (R66). -/
def Lane.moveElement (x : Lane) (e pos : Nat) : Lane × Answer :=
  let t := x.elemType e
  let mask := fieldN (x.rd32 (recAddr e + 0x28)) 0 4
  let fr := x.es e 0x0C
  let lk := x.es e 0x10
  let us := x.es e 0x08
  let cl := x.es e 0x00
  let occ := typeOccupancy t
  let incons := inconsistentLock fr lk
  if x.parityBad (recAddr e) (0x2C + x.typeDataLen e) || x.parityBad (stAddr e) 28 then (x.engErr 5 e, .error 12)
  else if !x.recordFits e then (x.engErr 2 e, .error 11)
  else if !typeCommanded t || !(mask.testBit pos) then (x, .refused 5)
  else
    let y := x.noteEval e incons (invalid1 fr + invalid1 lk + invalid1 us + (if occ then invalid1 cl else 0))
    if incons then (y, .refused 9)
    else if fr ≠ codedTrue then (y, .refused 1)
    else if us ≠ codedTrue then (y, .refused 3)
    else if occ && cl ≠ codedTrue then (y, .refused 2)
    else (y.wr32 (stAddr e + 0x14) (putField (y.es e 0x14) 2 2 pos), .done)

/-- The kinds that only RUN, DEGRADED, RESYNC and SPLIT accept (R67). -/
def settingKind (k : Nat) : Bool := k ∈ [0x02, 0x08, 0x0B]

/-- The modes in which every kind is accepted (R67). The table lists STOP and MAINTENANCE beside them; the cycles that
the debugger runs in HOLD refuse what these two refuse (log 82, DESIGN CHOICE). -/
def settingMode : Mode → Bool
  | .run | .degraded | .resync | .split => true
  | _ => false

/-- What a request refused for the mode shows (R65, R67): a SET the classes of its route, which the engine evaluates
for them; where the descriptor cannot be used the spec states no classes, and they are free (log 82). -/
def Lane.refuseMode (x : Lane) (q : Word) : Lane × Word :=
  let r := reqObject q
  if reqKind q ≠ 0x02 then (x, resultWord q 1 0 0 10)
  else if x.routeFault r ≠ 0 then (x, resultWord q 1 (Config.errorClasses q) 0 10)
  else
    let v := x.routeEval r
    (x.noteEval r v.inconsistent v.coded, resultWord q 1 (x.classesOf r v) 0 10)

/-- A request carried out (R66 to R71): the lane after it and its result word. An element record that does not fit
(R39) and INVALID or inconsistent words are reported with the route's number, where a route is read (log 82). -/
def Lane.request (x : Lane) (mode : Mode) (free q : Word) : Lane × Word :=
  let kind := reqKind q
  let o := reqObject q
  if settingKind kind && !settingMode mode then x.refuseMode q
  else if kind ≤ 0x07 then
    let f := x.routeFault o
    if f ≠ 0 then (x.engErr (faultFlag f) o, resultWord q 2 (Config.errorClasses q) 0 f)
    else
      let v := x.routeEval o
      let y := x.noteEval o v.inconsistent v.coded
      let r := y.routeRequest kind o (reqArg q) v
      (r.1, resultWord q r.2.outcome (r.1.classesOf o (r.1.routeEval o)) r.2.member r.2.reason)
  else
    let r : Lane × Answer := match kind with
      | 0x08 => x.chainSet o
      | 0x09 => x.chainCancel o
      | 0x0A => x.chainRelease o
      | 0x0B => x.moveElement o (fieldN q 22 2)
      | _ =>
        let w := x.doSweep free
        (w.1, if w.2 = 0 then .done else .error w.2)
    (r.1, resultWord q r.2.outcome 0 r.2.member r.2.reason)

/-- The oldest request without a result, split off from the queue. -/
def splitPending : List QEntry → Option (List QEntry × Word × List QEntry)
  | [] => none
  | e :: r =>
    match e.result with
    | none => some ([], e.request, r)
    | some _ => (splitPending r).map (fun t => (e :: t.1, t.2.1, t.2.2))

/-- The engine completes its oldest pending request (R69). -/
def Lane.engineStep (x : Lane) (mode : Mode) (free : Word) : Lane :=
  match splitPending x.engine.queue with
  | none => x
  | some (before, q, after) =>
    let r := x.request mode free q
    r.1.eng (fun g => { g with
      queue := before ++ { request := q, result := some r.2 } :: after
      reqCount := satInc g.reqCount
      refusedCount := if fieldN r.2 5 3 = 1 then satInc g.refusedCount else g.refusedCount })

/-- Number of pending requests. -/
def Lane.pendingCount (x : Lane) : Nat := (x.engine.queue.filter (fun e => e.result.isNone)).length

/-- The engine completes every pending request, in order (R69, R70). -/
def Lane.engineAll (x : Lane) (mode : Mode) (free : Nat → Word) : Nat → Lane
  | 0 => x
  | n + 1 => (x.engineStep mode (free n)).engineAll mode free n

/-- BUSY: a request or INIT is in progress (R79). -/
def Lane.engineBusy (x : Lane) : Bool := x.engine.initBusy || 0 < x.pendingCount

/-- The state entry that INIT gives an element (R78). -/
def initEntry : List Word := [codedFalse, codedFalse, codedFalse, codedTrue, codedFalse, 0, 0, 0xFFFF]

/-- INIT of the engine-owned tables (R78): every entry of the element and route state tables, whatever the counts. -/
def Lane.engineInit (x : Lane) : Lane :=
  let x := { x with store := x.store.clearRange 0x02400000 0x02500000 }
  let x := (List.range 16384).foldl
    (fun x e => x.poke (stAddr e) (initEntry.flatMap wordBytes)) x
  (List.range 8192).foldl
    (fun x r => if bitN (x.rw r 0x00) 26 then x.poke (rsAddr r) (wordBytes 0x10) else x) x

end Sys2Proof.Machine
end

