-- ==== Sys2Proof/Machine/Stage.lean ====
section
/-! DEFINITION. The Gunmetal output stage (chapter 08): when an output conducts, the evaluations of its readings,
the latching of faults at an output cut. What leads on to SAFE_STOP is in Guard.lean. -/

namespace Sys2Proof.Machine

/-- The modes in which the group switches are closed (R252). -/
def Mode.groupsClosed : Mode → Bool
  | .joining | .stop | .run | .degraded | .resync | .hold | .maintenance => true
  | _ => false

/-- The group of an output: DO00-DO15, DO16-DO31, DO32-DO47 (R252). -/
def groupOf (o : Nat) : Nat := o / 16

/-- Whether a group switch is closed (R252, R253). -/
def State.groupOn (s : State) (g : Nat) : Bool :=
  s.md.mode.groupsClosed && s.md.role ≠ .split && !s.stage.groupFault.getLsbD g

/-- The outputs that the lanes' enables let conduct under the fence latches (R251). -/
def State.wanted (s : State) : OutBits :=
  let a := s.lanes.a.vio.en
  let b := s.lanes.b.vio.en
  let c := s.lanes.c.vio.en
  match s.md.fenced.a, s.md.fenced.b, s.md.fenced.c with
  | false, false, false => (a &&& b) ||| (b &&& c) ||| (c &&& a)
  | true, false, false => b &&& c
  | false, true, false => c &&& a
  | false, false, true => a &&& b
  | _, _, _ => 0

/-- The outputs of the groups that a condition lets through. -/
def outputsOf (g : Nat → Bool) : OutBits :=
  let m (i : Nat) : BitVec 16 := if g i then 0xFFFF else 0
  m 2 ++ m 1 ++ m 0

/-- The outputs whose group switch is closed (R252). -/
def State.switchMask (s : State) : OutBits := outputsOf s.groupOn

/-- The outputs of the groups that are switched on and not held off by VF_RANGE. -/
def State.groupMask (s : State) : OutBits := outputsOf (fun i => s.groupOn i && !s.stage.vfHeld.getLsbD i)

/-- The output under an off-pulse. -/
def Stage.pulseMask (t : Stage) : OutBits :=
  match t.pulse with
  | none => 0
  | some (o, _) => BitVec.ofNat 48 (2 ^ o.val)

/-- The outputs that conduct (R251 to R253, R255, R259). -/
def State.conducting (s : State) : OutBits :=
  if s.stage.holdOff then 0 else s.wanted &&& s.groupMask &&& ~~~ s.stage.trip &&& ~~~ s.stage.pulseMask

/-- The conduction formed anew; outputs that switch on start their exclusion of OPEN_LOAD (R255). -/
def State.conduct (s : State) : State :=
  let on := s.conducting
  { s with stage := { s.stage with
      on := on
      sinceOn := Vector.ofFn fun i =>
        if on.getLsbD i && !s.stage.on.getLsbD i && !s.stage.pulseMask.getLsbD i then 0 else s.stage.sinceOn[i] } }

/-- A running or postponed off-pulse ended without result, and counted (R261). -/
def State.discardPulse (s : State) : State :=
  match s.stage.pulse with
  | none => { s with stage := { s.stage with postponed := none } }
  | some _ => { s with stage := { s.stage with
      pulse := none, postponed := none, pulseDiscarded := satInc s.stage.pulseDiscarded } }

/-- Everything off: the hold-off on, a running pulse discarded (R349, R261). -/
def State.stageOff (s : State) : State :=
  let s := s.discardPulse
  { s with stage := { s.stage with holdOff := true, on := 0 } }

/-- The value that at least two lanes hold (R266). -/
def twoOf {α : Type} [BEq α] (x : PerLane α) : Option α :=
  if x.a == x.b || x.a == x.c then some x.a else if x.b == x.c then some x.b else none

/-- VIO_CFG as the stage applies it: none until two views hold one value (R266). -/
def State.vioCfg (s : State) : Option Word := twoOf (s.lanes.map (·.vio.cfg))

/-- LOAD_MIN of an output as the stage applies it, 0 without agreement (R266). -/
def State.loadMin (s : State) (o : Nat) : Nat :=
  match twoOf (s.lanes.map (fun x => vget x.vio.loadMin (o / 4) 0)) with
  | none => 0
  | some w => fieldN w (8 * (o % 4)) 8

/-- CFG_AGREED: two views hold VIO_CFG and every VIO_LOADMIN word alike (R266). -/
def State.cfgAgreed (s : State) : Bool :=
  s.vioCfg.isSome && (List.range 12).all (fun i => (twoOf (s.lanes.map (fun x => vget x.vio.loadMin i 0))).isSome)

/-- PULSE_PHASE in effect (R266). -/
def State.pulsePhase (s : State) : Nat :=
  match s.vioCfg with
  | none => 25
  | some w => fieldN w 0 8

/-- TP_USED in effect (R266). -/
def State.tpUsed (s : State) : Byte :=
  match s.vioCfg with
  | none => 0
  | some w => (w >>> 8).setWidth 8

/-- The middle one of three numbers. -/
def median (a b c : Nat) : Nat := max (min a b) (min (max a b) c)

/-- The readings of one quantity by the serving lanes. -/
def State.readings (s : State) (f : Readback → Nat) : List Nat :=
  s.servingLanes.map (fun l => f (s.lane l).vio.readback)

/-- The reading that a check judges: the median of three, otherwise the more restrictive by `pick` (R255). -/
def judged (pick : Nat → Nat → Nat) : List Nat → Nat
  | [a, b, c] => median a b c
  | [a, b] => pick a b
  | [a] => a
  | _ => 0

/-- Voltage of an output in 25 mV. -/
def voltOf (o : Nat) (r : Readback) : Nat := (vget r.volt o 0).toNat

/-- Current of an output in mA. -/
def currentOf (o : Nat) (r : Readback) : Nat := (vget r.current o 0).toNat

/-- Supply of a group in 25 mV. -/
def supplyOf (g : Nat) (r : Readback) : Nat := (vget r.vf g 0).toNat

/-- A supply outside 19.2 V to 66 V (R255). -/
def supplyOut (v : Nat) : Bool := v < 768 || 2640 < v

/-- A group's supply judged out of range (R255). -/
def State.groupOut (s : State) (g : Nat) : Bool :=
  match s.readings (supplyOf g) with
  | [a, b, c] => supplyOut (median a b c)
  | vs => vs.any supplyOut

/-- The quantities compared by the sense check: 48 voltages and currents, 3 supplies (R257). -/
def oddPair (q : Nat) (f : (Readback → Nat) → Nat → Bool) : Bool :=
  if q < 48 then f (voltOf q) 80 || f (currentOf q) 50 else f (supplyOf (q - 48)) 80

/-- The distance of two readings. -/
def apart (a b : Nat) : Nat := max a b - min a b

/-- A lane's reading of a quantity differs from the median by more than 2 V or 50 mA (R257). -/
def State.oddNow (s : State) (l : LaneId) (q : Nat) : Bool :=
  oddPair q fun f lim =>
    let v (k : LaneId) := f (s.lane k).vio.readback
    lim < apart (v l) (median (v .A) (v .B) (v .C))

/-- The two serving lanes' readings of a quantity differ by more than 2 V or 50 mA (R257). -/
def State.pairNow (s : State) (q : Nat) : Bool :=
  oddPair q fun f lim =>
    match s.readings f with
    | [a, b] => decide (lim < apart a b)
    | _ => false

/-- A run of consecutive evaluations continued or broken. -/
def runOn (b : Bool) (n : Nat) : Nat := if b then n + 1 else 0

/-- The elements of a lane that differ from its enables (R254). -/
def State.switchDiff (s : State) (l : LaneId) : OutBits :=
  let v := (s.lane l).vio
  (v.readback.elem0 ^^^ v.en) ||| (v.readback.elem1 ^^^ v.en)

/-- The current of an output is below its minimum (R255). -/
def State.lowCurrent (s : State) (o : Nat) : Bool :=
  s.loadMin o ≠ 0 && judged min (s.readings (currentOf o)) < s.loadMin o * 5

/-- An evaluation that OPEN_LOAD leaves out: within 20 ms after switch-on or 2 ms after an off-pulse (R255). -/
def Stage.openExcluded (t : Stage) (o : Nat) : Bool := vget t.sinceOn o 0 ≤ 20 || vget t.sincePulse o 0 ≤ 2

/-- One evaluation of the stage on the readings that the lanes hold (R254, R255, R257); `force` are outputs that an
injection has it take for conducting (R463). -/
def State.evaluate (s : State) (force : OutBits) : State :=
  let t := s.stage
  let t := { t with
    sinceOn := t.sinceOn.map (· + 1)
    sincePulse := t.sincePulse.map (· + 1) }
  let on (o : Nat) := (t.on ||| force).getLsbD o
  let fed (o : Nat) := !on o && !t.pulseMask.getLsbD o && 200 < judged max (s.readings (voltOf o))
  let low (o : Nat) := on o && s.lowCurrent o
  let three := s.servingLanes.length = 3
  { s with stage := { t with
      openRun := Vector.ofFn fun o =>
        if !on o && !t.pulseMask.getLsbD o then 0 else if t.openExcluded o then t.openRun[o] else runOn (low o) t.openRun[o]
      openNow := t.openNow &&& BitVec.ofNat 48
        ((List.range 48).foldl (fun n o => if low o || ((on o || t.pulseMask.getLsbD o) && t.openExcluded o) then n + 2 ^ o else n) 0)
      overRun := Vector.ofFn fun o => runOn (1100 < judged max (s.readings (currentOf o))) t.overRun[o]
      backRun := Vector.ofFn fun o => runOn (fed o) t.backRun[o]
      backNow := t.backNow &&& BitVec.ofNat 48 ((List.range 48).foldl (fun n o => if fed o then n + 2 ^ o else n) 0)
      vfBad := Vector.ofFn fun g => runOn (s.groupOut g) t.vfBad[g]
      vfGood := Vector.ofFn fun g => runOn (!s.groupOut g) t.vfGood[g]
      swTwice := { a := t.swBad.a &&& s.switchDiff .A, b := t.swBad.b &&& s.switchDiff .B,
                   c := t.swBad.c &&& s.switchDiff .C }
      swSeen := { a := t.swSeen.a &&& t.swBad.a &&& s.switchDiff .A, b := t.swSeen.b &&& t.swBad.b &&& s.switchDiff .B,
                  c := t.swSeen.c &&& t.swBad.c &&& s.switchDiff .C }
      swBad := { a := s.switchDiff .A, b := s.switchDiff .B, c := s.switchDiff .C }
      oddRun :=
        { a := Vector.ofFn fun q => runOn (three && s.oddNow .A q) (t.oddRun.a[q])
          b := Vector.ofFn fun q => runOn (three && s.oddNow .B q) (t.oddRun.b[q])
          c := Vector.ofFn fun q => runOn (three && s.oddNow .C q) (t.oddRun.c[q]) }
      pairRun := Vector.ofFn fun q => runOn (s.pairNow q) t.pairRun[q] } }

/-- A fault of an output noted: the first since the last cut is kept, and of one evaluation the highest code
(R255, R256). -/
def State.noteFault (s : State) (o : Nat) (code : BitVec 4) : State :=
  let new := (code, s.tb.nt)
  let f := match vget s.stage.first o none with
    | none => new
    | some (c, at0) => if at0 = s.tb.nt && c < code then new else (c, at0)
  { s with stage := { s.stage with first := vset s.stage.first o (some f) } }

/-- The code that the cut latches for an output (R256). -/
def Stage.cutCode (t : Stage) (o : Nat) : BitVec 4 :=
  match vget t.first o none with
  | some (c, _) => c
  | none =>
    if t.vfHeld.getLsbD (groupOf o) then 5
    else if t.trip.getLsbD o then 2
    else if t.openNow.getLsbD o then 1
    else 0

/-- OFAULT: one bit for each output whose latched code is not 0 (R256). -/
def Stage.ofault (t : Stage) : OutBits :=
  BitVec.ofNat 48 ((List.range 48).foldl (fun n o => if vget t.ocode o 0 = 0 then n else n + 2 ^ o) 0)

/-- Lanes with a reported element fault that still holds (R254). -/
def Stage.swHeld (t : Stage) : BitVec 3 :=
  (if t.swSeen.a = 0 then 0 else 1) ||| (if t.swSeen.b = 0 then 0 else 2) ||| (if t.swSeen.c = 0 then 0 else 4)

/-- A run of ten evaluations in any quantity. -/
def anyTen (v : Vector Nat 51) : Bool := v.toList.any (10 ≤ ·)

/-- Lanes whose readings still differ (R257). -/
def Stage.oddHeld (t : Stage) : BitVec 3 :=
  t.oddNext &&& ((if anyTen t.oddRun.a then 1 else 0) ||| (if anyTen t.oddRun.b then 2 else 0) |||
    (if anyTen t.oddRun.c then 4 else 0))

/-- The first output with a reported element fault or odd readings that still hold. -/
def Stage.concerned (t : Stage) : Option (BitVec 6) :=
  ((List.range 48).find? (fun o =>
    (t.swSeen.a ||| t.swSeen.b ||| t.swSeen.c).getLsbD o ||
      [LaneId.A, .B, .C].any (fun l => t.oddNext.getLsbD l.num && 10 ≤ vget (t.oddRun.get l) o 0))).map (BitVec.ofNat 6)

/-- What the stage latches at an output cut: codes, switch and sense bits, and the counts of consecutive cuts
(R254, R256, R257); a trip ends where the output is not to conduct under R251 and R252 (R255). -/
def State.stageLatch (s : State) : State :=
  let t := s.stage
  let cuts (l : LaneId) (n : Nat) := runOn (t.oddNext.getLsbD l.num) n
  { s with stage := { t with
      ocode := Vector.ofFn fun o => t.cutCode o
      first := Vector.replicate 48 none
      swLatched := t.swNext
      swNext := t.swHeld
      oddLatched := t.oddNext
      oddNext := t.oddHeld
      pairLatched := t.pairNext
      pairNext := t.pairNext && anyTen t.pairRun
      oddCuts := { a := cuts .A t.oddCuts.a, b := cuts .B t.oddCuts.b, c := cuts .C t.oddCuts.c }
      pairCuts := runOn t.pairNext t.pairCuts
      outLatched := t.outNext.getD 0
      outNext := t.concerned
      trip := t.trip &&& (if t.holdOff then 0 else s.wanted &&& s.switchMask) } }

end Sys2Proof.Machine
end

