-- ==== Sys2Proof/Machine/BistOps.lean ====
section
/-! DEFINITION. Self-test slices (R453 to R460): the result word, the judgement of a run by a lane, what a result
leads to, and the abort of a run. -/

namespace Sys2Proof.Machine

/-- RESULT codes (R458). -/
inductive BistResult | none | pass | fail | incomplete | aborted
  deriving DecidableEq, Repr

/-- The code of a result (R458). -/
def BistResult.code : BistResult → Nat
  | .none => 0 | .pass => 1 | .fail => 2 | .incomplete => 3 | .aborted => 4

/-- The result word (R458): `lane` is 3 for a shared slice. -/
def bistWord (slice lane : Nat) (r : BistResult) (patterns : Nat) : Word :=
  place slice 0 ||| place lane 6 ||| place r.code 8 ||| place patterns 12 ||| (0x57000000 : Word)

/-- The position of a lane slice (R457). -/
def lanePosition (p : Nat) : LaneId × Nat := (((LaneId.ofNum (p % 3)).getD .A), p / 3)

/-- The judgement of a run (R458, R459): `inc` counts the INCOMPLETE results that the position has had in a row. A run
without a completed checkpoint has no MISR to compare. -/
def bistJudge (shared : Bool) (slice : Nat) (misr : DWord) (checkpoints inc : Nat) (restoreOk : Bool) : BistResult :=
  let equal : Bool := checkpoints = 0 || misr = Config.bistExpected shared slice checkpoints
  if !restoreOk || !equal then .fail
  else if checkpoints = 8 then .pass
  else if 2 ≤ inc then .fail
  else .incomplete

/-- The event BIST of a lane (R128). -/
def Lane.bistEvent (x : Lane) : Lane := { x with core := { x.core with events := x.core.events ||| 0x40 } }

/-- The counts of a view after a result (R466). -/
def BistView.count (v : BistView) : BistResult → BistView
  | .pass => { v with pass := satInc v.pass }
  | .incomplete => { v with incomplete := satInc v.incomplete }
  | .aborted => { v with aborted := satInc v.aborted }
  | _ => v

/-- A lane's view after a lane slice that it has judged, and the pending cause of a FAIL (R458, R459, R466). -/
def Lane.noteSlice (x : Lane) (l : LaneId) (slice : Nat) (misr : DWord) (time : Word) (r : BistResult) (n : Nat) :
    Lane :=
  let w := bistWord slice l.num r n
  let v := x.bist.count r
  let failed := setBit (v.failMap.get l) slice true
  let v := { v with
    last := w, misr := misr, time := time, feedLane := some w
    failMap := if r = .fail then v.failMap.set l failed else v.failMap }
  let pend := if r = .fail then x.vote.pending ++ [(l, .audit)] else x.vote.pending
  ({ x with bist := v, vote := { x.vote with pending := pend } }).bistEvent

/-- A lane's view after a shared slice (R458, R466). -/
def Lane.noteShared (x : Lane) (q : Nat) (r : BistResult) (n : Nat) : Lane :=
  let w := bistWord q 3 r n
  let v := x.bist.count r
  let v := { v with
    lastSh := w, feedShared := some w, shFail := if r = .fail then setBit v.shFail q true else v.shFail }
  ({ x with bist := v }).bistEvent

/-- A position after a result: on after PASS or FAIL, otherwise kept, with the INCOMPLETE results in a row (R457,
R459). -/
def bistNext (n p inc : Nat) : BistResult → Nat × Nat
  | .pass | .fail => ((p + 1) % n, 0)
  | .incomplete => (p, inc + 1)
  | _ => (p, inc)

/-- A lane judges the lane slice released last (R458, R459). -/
def State.judgeSlice (s : State) (k : LaneId) : State :=
  match s.bist.done with
  | Option.none => s
  | some d =>
    let r := bistJudge false d.slice d.misr d.checkpoints d.inc d.restoreOk
    let s := s.updLane k (fun x => x.noteSlice d.lane d.slice d.misr d.time r d.checkpoints)
    if r = .incomplete && s.servingLanes.head? = some k then
      s.recM .bistIncomplete [bistWord d.slice d.lane.num r d.checkpoints] else s

/-- The run under test ended at once with ABORTED (R456, R459): how far it had come is a free value. -/
def State.bistAbort (s : State) : State :=
  let n := (Config.freeWord s.freeCtr).toNat % 9
  let m := (Config.freeWord (s.freeCtr + 1)).toNat % 9
  let s := match s.bist.lane with
    | Option.none => s
    | some (l, i) =>
      let s := s.mapLanes (fun x => x.noteSlice l i x.bist.misr x.bist.time .aborted n)
      { s with bist := { s.bist with lane := none, laneStop := none }, freeCtr := s.freeCtr + 2 }.recM .bistAborted
        [bistWord i l.num .aborted n]
  match s.bist.shared with
  | Option.none => s
  | some q =>
    let s := s.mapLanes (fun x => x.noteShared q .aborted m)
    { s with bist := { s.bist with shared := none, sharedStop := none }, freeCtr := s.freeCtr + 2 }.recM .bistAborted
      [bistWord q 3 .aborted m]

/-- The fed words of a lane (R458), taken: a test that took no place reports NONE at its position. -/
def State.bistFeeds (s : State) (x : Lane) : List Word :=
  let p := lanePosition s.bist.p
  [x.bist.feedLane.getD (bistWord p.2 p.1.num .none 0), x.bist.feedShared.getD (bistWord s.bist.q 3 .none 0)]

end Sys2Proof.Machine
end

