-- ==== Sys2Proof/Machine/Frame.lean ====
section
/-! DEFINITION. The frames that a port sends of its own (R271, R275, R276), and the end of a slot that has begun when
the module enters the restrictive state (R350). -/

namespace Sys2Proof.Machine

/-- The ring changed. -/
def State.updRing (s : State) (f : RingSt → RingSt) : State := { s with ring := f s.ring }

/-- A port of the ring. -/
def RingSt.port (r : RingSt) : Port → RingPort
  | .W => r.w
  | .E => r.e

/-- A port of the ring changed. -/
def RingSt.updPort (r : RingSt) (p : Port) (f : RingPort → RingPort) : RingSt :=
  match p with
  | .W => { r with w := f r.w }
  | .E => { r with e := f r.e }

/-- A port of the ring changed. -/
def State.updPort (s : State) (p : Port) (f : RingPort → RingPort) : State := s.updRing (·.updPort p f)

/-- The other port. -/
def otherPort : Port → Port
  | .W => .E
  | .E => .W

/-- The bit of a port: 0 W, 1 E. -/
def portBit : Port → Nat
  | .W => 0
  | .E => 1

/-- A word of the adopted header (R279). -/
def RingSt.hdr (r : RingSt) (i : Nat) : Word := vget r.header i 0

/-- TN in units of 100 us by its code (R86). -/
def tnUnits (code : Nat) : Nat := if code = 0 then 50 else if code = 1 then 100 else 200

/-- TN of the ring interface in 10 ns units, which is also the ticks of a network cycle (R280). -/
def RingSt.ticks (r : RingSt) : Nat := tnUnits (fieldN (vget r.header 2 0) 0 2) * 10000

/-- TN of the schedule in 10 ns units (R279, R86). -/
def RingSt.tn10 (r : RingSt) : Nat := r.ticks

/-- T(L) in ns (R270). -/
def frameTime (l : Nat) : Nat := (l + 4) * 8

/-- The network cycle under way (R85). -/
def State.netCycle (s : State) : Nat := s.tb.nt.toNat / s.ring.tn10

/-- The module's node address: SW1[9:0] as latched at priming (R284). -/
def State.node (s : State) : Nat := s.sealSt.sw1.toNat % 1024

/-- The ring CRC (R276). -/
def ringCrc (bs : List Byte) : Word := crc32c 0x00090000 bs

/-- Some port is looped. -/
def RingSt.anyLooped (r : RingSt) : Bool := r.w.looped || r.e.looped

/-- The repeater lives: its clock is qualified, or was released early (R272). -/
def RingSt.alive (r : RingSt) : Bool := r.qualified || r.early

/-- The ring CRC of a frame with DELAY taken as 0 (R284). -/
def crcWithoutDelay (b : List Byte) : Word :=
  let n := b.length - 4
  ringCrc (b.take 0x14 ++ [0, 0, 0, 0] ++ (b.take n).drop 0x18)

/-- The bytes of an own frame (R271, R275): `y` tells ring Y. -/
def State.ownBytes (s : State) (slot : Nat) (y : Bool) (body : List Byte) : List Byte :=
  let notVital := s.md.mode = .hold || s.md.mode = .split
  let flags := (if body = [] then 1 else 0) + (if notVital then 2 else 0) + (if s.ring.anyLooped then 4 else 0) +
    (if y then 8 else 0) + (if s.ring.cold = 2 then 16 else 0)
  let h := natLe 1 1 ++ natLe 1 flags ++ natLe 2 s.node ++ natLe 2 slot ++ natLe 2 body.length ++
    natLe 6 s.netCycle ++ natLe 2 0 ++ wordBytes (s.ring.hdr 1) ++ natLe 4 0 ++ body
  h ++ wordBytes (ringCrc h)

/-- An own frame sent out of a port that is not looped (R271, R302). -/
def State.sendOut (s : State) (slot : Nat) (out : Port) (body : List Byte) : State :=
  if (s.ring.port out).looped then s
  else
    let y := out == .W
    let b := s.ownBytes slot y body
    let bad := s.injected 0x28 none && (s.injParam % 2 = 1) = y
    let s := if bad then s.fire else s
    let key := (slot, s.netCycle, y, crcWithoutDelay b)
    let s := s.updPort out (fun k => { k with
      outFrame := if bad then b.take (b.length - 4) ++ (b.drop (b.length - 4)).map (~~~ ·) else b
      outCut := false, busyUntil := s.tb.nt.toNat * 10 + frameTime b.length })
    s.updRing (fun r => { r with
      sent := r.sent ++ [key], sentNow := true, txCount := satInc r.txCount
      nullCount := if body = [] then satInc r.nullCount else r.nullCount })

/-- The own frame that a port still sends, with its slot and its start in ns (R350). -/
def State.ownRunning (s : State) (p : Port) : Option (Nat × Nat) :=
  let k := s.ring.port p
  let own := leAt k.outFrame 2 2 % 1024 = s.node && s.node ≠ 0 && !k.outCut && !(leAt k.outFrame 1 1).testBit 0
  if own && decide (s.tb.nt.toNat * 10 < k.busyUntil) then
    some (leAt k.outFrame 4 2 % 4096, k.busyUntil - frameTime k.outFrame.length)
  else none

/-- An own slot that has begun ends with a null frame, the frame under way closed with /V/ (R270, R350). DESIGN CHOICE
(log 92): the null frame follows at once. -/
def State.endSlot (s : State) (p : Port) : State :=
  match s.ownRunning p with
  | none => s
  | some (slot, start) =>
    let left := (s.tb.nt.toNat * 10 - start) / 8 - 1
    let s := s.updPort p (fun k => { k with endedFrame := k.outFrame.take left })
    s.sendOut slot p []

end Sys2Proof.Machine
end

