-- ==== Sys2Proof/Machine/Guard.lean ====
section
/-! DEFINITION. GUARD: the restrictive state and SAFE_STOP (R349 to R353), the events dropped under R28, the removal
of pending packages (R192), reset levels and sources (R363 to R366). -/

namespace Sys2Proof.Machine

/-- The record that names an event when it is dropped (R28). DESIGN CHOICE (log 84): FENCE names a mismatch; the manual
has no record that names a resynchronisation that starts, the end of JOINING or a debug release. -/
def ModeEvent.record : ModeEvent → Option RecName
  | .mismatch => some .fence
  | .debugHalt => some .debugHalt
  | .stopCommand => some .stopIgnored
  | .restart false => some .restartEdge
  | .restart true => some .remoteRestart
  | .enterMaint | .leaveMaint => some .mboxCmdRefused
  | .rejoin _ => some .rejoin
  | .resyncFailed => some .resyncFailed
  | .startResync | .joined | .holdReleased => none

/-- The rank of an event (R28). -/
def ModeEvent.rank : ModeEvent → Nat
  | .mismatch => 3
  | .debugHalt => 4
  | .stopCommand => 5
  | _ => 6

/-- A restart event (R263). -/
def ModeEvent.isRestart : ModeEvent → Bool
  | .restart _ => true
  | _ => false

/-- The view whose instants the module follows: that of the lowest-lettered serving lane. -/
def State.lead (s : State) : Lane :=
  match s.servingLanes with
  | [] => s.lanes.a
  | l :: _ => s.lane l

/-- The number of the cycle that begins at the cut. -/
def State.nextCycleNo (s : State) : Nat := s.lead.tb.cycle.toNat + 1

/-- The fenced lanes. -/
def State.fencedLanes (s : State) : List LaneId := LaneId.list.filter s.md.fenced.get

/-- The lane that may be resynchronised from the coming t0 on, which begins cycle `d` (R228, R234, R366). -/
def State.resyncTarget (s : State) (d : Nat) : Option LaneId :=
  match s.fencedLanes with
  | [x] =>
    if s.guard.lockedOut.get x || s.guard.noneMapped.get x || 3 ≤ s.resync.attempts.get x || d < s.resync.earliest then none
    else some x
  | _ => none

/-- A FENCE was decided in RUN (R25). -/
def State.fencing (s : State) : Bool :=
  match s.md.voted, s.md.gateGm with
  | true, .fence _ => s.md.mode == .run
  | _, _ => false

/-- The events of the lanes that the module decision retains, and those accepted outside the vote (R487). -/
def State.retainedEvents (s : State) : List ModeEvent :=
  match s.servingLanes.filter (fun l => s.md.gateGm ≠ .fence l) with
  | [] => s.md.events
  | l :: _ => (s.lane l).cyc.events ++ s.md.events

/-- The rejoin that the vote has decided (R236). -/
def State.rejoinEvent (s : State) : List ModeEvent :=
  match s.md.voted, s.md.gateGm with
  | true, .rejoin x => if s.resync.failed then [] else [.rejoin x]
  | _, _ => []

/-- A resynchronisation that starts: after a DEGRADED vote with CONTINUE (R228). -/
def State.startEvent (s : State) : List ModeEvent :=
  if s.md.mode = .degraded && s.md.voted && s.md.gateGm = .cont && (s.resyncTarget s.nextCycleNo).isSome then [.startResync]
  else []

/-- Every event of R25 that the cycle has brought. -/
def State.cutEvents (s : State) : List ModeEvent :=
  (if s.fencing then [.mismatch] else []) ++ s.retainedEvents ++ s.rejoinEvent ++ s.startEvent ++
    (if s.resync.shadowBad || s.resync.failed then [.resyncFailed] else [])

/-- Dropped events recorded (R28): the code of the record that names the event, its rank, and the mode that took effect;
P0 of an event that no record names is a free value (log 84). -/
def State.dropEvents (s : State) (mode : Mode) : List ModeEvent → State
  | [] => s
  | e :: es =>
    let name : Word := match e.record with
      | some n => (codeOf n).setWidth 32
      | none => Config.openParam .eventDropped 0 s.freeCtr
    (s.recM .eventDropped [name, place e.rank 0, place mode.code 0]).dropEvents mode es

/-- A word posted by a lane's runtime on its secure outbound queue, eight words deep (R413, R414). -/
def Chan.post (c : Chan) (w : Word) : Chan :=
  if c.out.length < 8 then { c with out := c.out ++ [w] }
  else { c with errLane := c.errLane ||| 1, refFullLane := satInc c.refFullLane }

/-- Words posted by a lane on its secure channel. -/
def Lane.postSecure (x : Lane) (ws : List Word) : Lane := { x with mbSec := ws.foldl Chan.post x.mbSec }

/-- The verdict word (R188). -/
def verdictWord (kind entry verdict : Nat) : Word :=
  place (kind % 256) 0 ||| place (entry % 256) 8 ||| place (verdict % 256) 16 ||| (0x53000000 : Word)

/-- KIND of a package, 0 when MAGIC failed (R184, R188). -/
def packageKind (bytes : List Byte) : Nat := if leAt bytes 0 4 = 0x00090006 then leAt bytes 6 1 else 0

/-- SEQUENCE of a package (R184). -/
def packageSequence (bytes : List Byte) : Word := BitVec.ofNat 32 (leAt bytes 12 4)

/-- A pending package of a lane removed with a verdict, which the lane posts (R188, R192). -/
def Lane.removePackage (x : Lane) (verdict : Nat) : Lane :=
  match x.change.pend with
  | none => x
  | some p =>
    let x := { x with change := { x.change with pend := none } }
    x.postSecure [verdictWord (packageKind p.bytes) 0 verdict, packageSequence p.bytes]

/-- Pending packages removed with verdict DISCARDED in every serving lane, and the staging buffer released (R192). DESIGN
CHOICE (log 23): an arming that has not been latched is withdrawn with them. -/
def State.discardChange (s : State) : State :=
  match s.servingLanes with
  | [] => s
  | l :: _ =>
    match (s.lane l).change.pend with
    | none => { s with chg := { s.chg with armed := false, busy := false } }
    | some p =>
      let s := (s.servingLanes).foldl (fun s k => s.updLane k (·.removePackage 0x0F)) s
      let s := { s with chg := { s.chg with armed := false, busy := false } }
      s.recM .changeVerdict [verdictWord (packageKind p.bytes) 0 0x0F, packageSequence p.bytes]

/-- The VOTE blocks keep the values of the last vote (R241). -/
def State.holdVote (s : State) : State := s.mapLanes (fun x => { x with vote := { x.vote with still := true } })

/-- The application of a lane stopped at the next instruction boundary (R349). -/
def Lane.stopApp (x : Lane) : Lane :=
  match x.core.run with
  | .running | .waiting _ | .stalled _ | .debug =>
    { x with core := { x.core with run := .ended }, cyc := { x.cyc with app := false, enables := none, handed := none } }
  | _ => { x with cyc := { x.cyc with app := false, enables := none, handed := none } }

/-- The restrictive state: outputs off, no PDU, applications stopped (R349). -/
def State.restrictive (s : State) : State :=
  let s := (s.stageOff.endSlot .W).endSlot .E
  { s with
    lanes := s.lanes.map Lane.stopApp
    md := { s.md with released := [], compared := none, late := none } }

/-- A resynchronisation in progress ends (R235). -/
def State.endResync (s : State) : State :=
  let time := BitVec.ofNat 32 ((s.tb.nt - s.resync.start).toNat / 10000)
  let s := if s.resync.phase = .idle then s
    else s.mapLanes (fun x => { x with blk := { x.blk with resyncTime := time } })
  { s with resync := { s.resync with phase := .idle, frozen := false, shadowOk := false,
                                     failed := false } }

/-- Entry to SAFE_STOP: at once, whatever the cycle (R27, R349, R351). -/
def State.enterSafeStop (s : State) (o : Origin) (reason : Half) : State :=
  let s := s.dropEvents .safeStop s.cutEvents
  let s := s.discardChange
  let s := (s.restrictive).endResync
  let s := s.bistAbort.holdVote
  let s := s.mapLanes (fun x => { x with cyc := { x.cyc with events := [], initCalls := none } })
  let s := { s with
    md := { s.md with mode := .safeStop, events := [], holdExit := false, vital := false }
    guard := { s.guard with
      sstopOrigin := BitVec.ofNat 8 o.code, sstopReason := reason, sstopAt := some s.tb.nt } }
  ((s.recG .safeStop [place o.code 0, reason.setWidth 32]).flushTrigger 2).lapseByMode

/-- An origin of SAFE_STOP arises (R25, R351, R362). Two origins in one 10 ns step give two records, and the lower
code is reported. -/
def State.safeStop (s : State) (o : Origin) (reason : Half := 0) : State :=
  match s.md.mode with
  | .priming => s
  | .powerFail => s.recG .requestDuringPowerFail [place o.code 0]
  | .safeStop =>
    if s.guard.sstopAt = some s.tb.nt then
      let s := s.recG .safeStop [place o.code 0, reason.setWidth 32]
      if o.code < s.guard.sstopOrigin.toNat then
        { s with guard := { s.guard with sstopOrigin := BitVec.ofNat 8 o.code, sstopReason := reason } }
      else s
    else s
  | _ => s.enterSafeStop o reason

/-- A source with its bit in SEEN, and the fields of the latest reset (R375). -/
def Guard.cause (g : Guard) (src : Source) (level : Level) (lane : Option LaneId) : Guard :=
  { g with
    causeLast := BitVec.ofNat 4 src.num
    causeLevel := BitVec.ofNat 2 level.code
    causeLane := BitVec.ofNat 2 ((lane.map (·.num)).getD 0)
    seen := g.seen ||| BitVec.ofNat 13 (2 ^ src.num) }

/-- The native level of a source (R364). -/
def Source.native : Source → Level
  | .powerOn | .pin | .powerFailEnd => .po
  | .laneRequest | .paritySched | .otpDed | .clkLoss | .sealUnstable => .sy
  | .parityVote | .parityRoute | .parityLanectl | .resync | .laneRail => .co

/-- The levels that RESET_MAP may give a source (R364). -/
def Source.permits (src : Source) (v : Level) : Bool :=
  match src with
  | .powerOn | .pin | .powerFailEnd => v == .po
  | .laneRequest | .clkLoss | .sealUnstable => v == .sy || v == .po
  | .laneRail => v != .none
  | _ => true

/-- The level of a 2-bit code (R367). -/
def Level.ofCode : Nat → Level
  | 0 => .po | 1 => .sy | 2 => .co | _ => .none

/-- The level in effect for a source (R364, R367). -/
def Guard.level (g : Guard) (src : Source) : Level :=
  let v := Level.ofCode (fieldN g.map (2 * src.num) 2)
  if g.ty4 then (if src.permits v then v else src.native) else src.native

/-- The sources with a number (R364). -/
def Source.all : List Source :=
  [.powerOn, .pin, .powerFailEnd, .laneRequest, .parityVote, .paritySched, .parityRoute, .parityLanectl, .otpDed,
   .resync, .clkLoss, .laneRail, .sealUnstable]

/-- RESET_LEVELS (R375). -/
def Guard.levelsWord (g : Guard) : Word :=
  Source.all.foldl (fun w src => w ||| place (g.level src).code (2 * src.num)) 0

/-- What a CO clears in a lane: the core, the check-value units, the mailbox channels, the submission registers
(R10, R363), with the locks of its runtime (R425). The core holds in the boot ROM's resynchronisation wait (R228). -/
def Lane.coReset (x : Lane) : Lane :=
  { x with
    core := Core.init
    cvu := Vector.replicate 4 Cvu.zero
    mbSec := Chan.init
    mbNon := Chan.init
    sema := { x.sema with owner := x.sema.owner.map (fun o => if o = 1 then 0 else o) }
    recv := RecView.init }

/-- MBOX_CLEARED recorded with the lane (R420). -/
def State.noteCleared (s : State) (l : LaneId) : State := s.recM .mboxCleared [place l.num 0]

/-- The register in which a parity source has found its fault, at its reset value (R364): a signature register, or
LANE_MODE, of which MIRRORED alone is held. A descriptor buffer holds nothing beyond its request. -/
def Lane.rewriteFailed (x : Lane) : Source → Lane
  | .parityVote => { x with vote := { x.vote with s := 0 } }
  | .parityLanectl => { x with blk := { x.blk with mirrored := false } }
  | _ => x

/-- A CO reset of a lane by a source (R363, R364). -/
def State.coReset (s : State) (l : LaneId) (src : Source) : State :=
  let s := (s.noteCleared l).updLane l (fun x => x.coReset.rewriteFailed src)
  { s with guard := { s.guard.cause src .co (some l) with
      coCount := s.guard.coCount.set l (satInc (s.guard.coCount.get l)) } }

/-- A core halted at once by a parity source (R364). -/
def State.haltCore (s : State) (l : LaneId) : State :=
  s.updLane l (fun x => { x with core := { x.core with run := .stopped },
                                 cyc := { x.cyc with lost := true, enables := none, handed := none } })

/-- What SY and PO leave of a lane: its registers at reset; its store undefined until STARTUP_TEST reloads it
(R363): a free value. -/
def Lane.syReset (ctr : Nat) : Lane :=
  { Lane.init with store := { Store.init with cells := Memory.normal storeTop (Config.freeCells ctr) } }

/-- The recorder after SY: its registers and the code table cleared, records kept (R441, R449). -/
def Recorder.syReset (r : Recorder) : Recorder :=
  { Recorder.init with
    fifo := r.fifo, buffer := r.buffer, log := r.log, deleted := r.deleted, lostInt := r.lostInt
    savedUnflushed := r.savedUnflushed, savedWritten := r.savedWritten, trigger := r.trigger, flushing := r.flushing }

/-- GUARD after SY: registers marked SY cleared; conditions that the hardware shows live are kept (log 12). -/
def Guard.syReset (g : Guard) : Guard :=
  { g with
    ty4 := false, otpCorrected := 0, map := 0, levels := 0, feedA := 0, feedB := 0, t0 := 0, t1 := 0
    sstopOrigin := 0, sstopReason := 0, coCount := PerLane.all 0, pendingReset := none
    railHeld := g.railHeld, noneMapped := PerLane.all false, sstopAt := none, svcHeld := true
    svcClock := false, priming := if g.mrst || !g.powerGood then .blocked else .active }

/-- The seal after SY: the readings are cleared; the fuses, what only a PO clears, and what priming takes anew are kept
(R363, R380, R396, log 18). -/
def Seal.syReset (k : Seal) : Seal :=
  { Seal.init with
    sw1 := k.sw1, sw2 := k.sw2, activeGen := k.activeGen
    otp := k.otp, view := k.view, changed := k.changed, primingDiff := k.primingDiff }

/-- The service processor started again: what it holds outside the flash is lost (log 21). -/
def Svc.restarted (v : Svc) : Svc := { Svc.init with flash := v.flash }

/-- A port of the ring after a reset: what the fibre shows at the moment is kept (log 20). -/
def RingPort.cold (k : RingPort) : RingPort := { RingPort.init with signal := k.signal }

/-- What SY and PO clear alike: every lane, the time base, the stage, the latches, the sequencers (R363). -/
def State.clearShared (s : State) : State :=
  { s with
    lanes := { a := Lane.syReset s.freeCtr, b := Lane.syReset (s.freeCtr + 1), c := Lane.syReset (s.freeCtr + 2) }
    md := { ModuleSt.init with debugBroken := s.md.debugBroken, role := s.md.role }
    tb := Timebase.init
    resync := Resync.init
    stage := Stage.init
    chg := ChgBuf.init
    sealSt := s.sealSt.syReset
    svc := s.svc.restarted
    ring := { RingSt.init with w := s.ring.w.cold, e := s.ring.e.cold, quietFrom := s.guard.optime }
    bist := BistSt.init
    inject := { InjectSt.init with armings := s.inject.armings }
    freeCtr := s.freeCtr + 3 }

/-- The causes of a reset entered, the last one reported (R365, R375). -/
def Guard.causes (g : Guard) (level : Level) : List Source → Guard
  | [] => g
  | c :: cs => (g.cause c level none).causes level cs

/-- An SY applied (R363): the arming lapses (R462), every block is cleared, priming starts (R368). -/
def State.doSy (s : State) (causes : List Source) : State :=
  let s := s.endArming false
  let s := s.clearShared
  { s with recorder := s.recorder.syReset, guard := s.guard.syReset.causes .sy causes }

/-- What a PO clears beyond an SY (R363, R375, R380, R441, R468): SEEN, the debug logic, the seal flags, the buffer and
the FIFO; the power-cycle count advances (R372), and the role is read anew (R20). -/
def State.doPo (s : State) (causes : List Source) : State :=
  let s := s.endArming false
  let s := s.clearShared
  let g := { s.guard.syReset with seen := 0, dbg := 0, pcycle := satInc s.guard.pcycle, fresh := true }
  { s with
    recorder := { s.recorder.syReset with
      fifo := [], buffer := [], lostInt := Vector.replicate 8 0, trigger := none, flushing := none }
    guard := g.causes .po causes
    md := { s.md with debugBroken := false }
    sealSt := { s.sealSt with changed := false, primingDiff := false }
    inject := InjectSt.init }

/-- How priming goes on when it starts anew: it waits where power-good is missing or MRST_N is low, and from the eighth
restart on for 1 s first (R368, R369). -/
def Guard.primingAnew (g : Guard) : Priming :=
  if g.mrst || !g.powerGood then .blocked else if 8 ≤ g.restartCount.toNat then .delay else .active

/-- Priming started again by a request that arises during priming: its level is applied at once, without a flush, and
the restart counted (R363, R368). -/
def State.restartPriming (s : State) (src : Source) : State :=
  let n := satInc s.guard.restartCount
  let s := if s.guard.level src = .po then s.doPo [src] else s.doSy [src]
  let g := { s.guard with restartCount := n }
  { s with guard := { g with priming := g.primingAnew } }

/-- The wider of two levels. -/
def Level.wider (a b : Level) : Level := if a.code ≤ b.code then a else b

/-- An SY or PO becomes pending: the restrictive state, SAFE_STOP in the status, a flush; requests merge (R365). -/
def State.requestReset (s : State) (src : Source) (level : Level) : State :=
  match s.guard.pendingReset with
  | some (v, cs) => { s with guard := { s.guard with pendingReset := some (v.wider level, cs ++ [src]) } }
  | none =>
    let s := (s.dropEvents .safeStop s.cutEvents).discardChange
    let s := ((s.restrictive).endResync).bistAbort
    let s := s.mapLanes (fun x => { x with cyc := { x.cyc with events := [], initCalls := none } })
    let s := { s with md := { s.md with mode := .safeStop, events := [], holdExit := false, vital := false }
                      guard := { s.guard with pendingReset := some (level, [src]) } }
    (s.flushTrigger 2).lapseByMode

/-- A reset source other than power-on (R362, R364 to R366, R368): `l` is the lane of a lane-local source. DESIGN CHOICE
(log 91): PARITY_SCHED and OTP_DED, whose fault lies in no lane, raise an SY where RESET_MAP gives them CO. -/
def State.raise (s : State) (src : Source) (l : Option LaneId) : State :=
  if s.md.mode = .powerFail then s.recG .requestDuringPowerFail [place src.num 0]
  else if s.guard.priming ≠ .done && (s.guard.level src = .sy || s.guard.level src = .po) then s.restartPriming src
  else
    let parity := src = .parityVote || src = .parityRoute || src = .parityLanectl
    let s := match l with
      | some k => if parity then s.haltCore k else s
      | none => s
    match s.guard.level src, l with
    | .sy, _ => s.requestReset src .sy
    | .po, _ => s.requestReset src .po
    | .co, some k => if s.guard.pendingReset.isSome then s.requestReset src .co else s.coReset k src
    | .co, none => s.requestReset src .sy
    | .none, some k => { s with guard := { s.guard with noneMapped := s.guard.noneMapped.set k true } }
    | .none, none => s.safeStop .unmapped

end Sys2Proof.Machine
end

