-- ==== Sys2Proof/Machine/SafeLink.lean ====
section
/-! DEFINITION. The SAFELINK block (chapter 10): the connection table, the staging entries, the safe PDU with its
safety code, sending and the checks of the input cut. -/

namespace Sys2Proof.Machine

/-- Address of a connection entry (R307). -/
def connAddr (c : Nat) : Nat := 0x00B70040 + c * 32

/-- Address of a staging entry (R311). -/
def stgAddr (c : Nat) : Nat := 0x02F80000 + c * 256

/-- ENTRIES of the connection table (R307). -/
def Lane.slEntries (x : Lane) : Nat := fieldN (x.rd32 0x00B70004) 0 10

/-- A configured connection (R308). -/
def Lane.connUsed (x : Lane) (c : Nat) : Bool := c < x.slEntries && c < 512 && bitN (x.rd32 (connAddr c)) 17

/-- A connection configured for transmission (R308). -/
def Lane.connTx (x : Lane) (c : Nat) : Bool := x.connUsed c && bitN (x.rd32 (connAddr c)) 16

/-- A connection configured for reception (R308). -/
def Lane.connRx (x : Lane) (c : Nat) : Bool := x.connUsed c && !bitN (x.rd32 (connAddr c)) 16

/-- CONN_ID (R308). -/
def Lane.connId (x : Lane) (c : Nat) : Nat := fieldN (x.rd32 (connAddr c)) 0 16

/-- PARTNER (R308). -/
def Lane.connPartner (x : Lane) (c : Nat) : Nat := fieldN (x.rd32 (connAddr c + 4)) 0 10

/-- EPOCH (R308). -/
def Lane.connEpoch (x : Lane) (c : Nat) : Nat := fieldN (x.rd32 (connAddr c + 4)) 16 16

/-- MAX_AGE in ms (R308). -/
def Lane.connMaxAge (x : Lane) (c : Nat) : Nat := fieldN (x.rd32 (connAddr c + 0xC)) 0 8

/-- SUP_TIMEOUT in ms (R308). -/
def Lane.connTimeout (x : Lane) (c : Nat) : Nat := fieldN (x.rd32 (connAddr c + 0xC)) 16 16

/-- A kind that KIND_MASK of a connection permits (R308, R313). -/
def Lane.kindPermitted (x : Lane) (c k : Nat) : Bool :=
  let m := x.rd32 (connAddr c + 8)
  if 1 ≤ k && k ≤ 7 then bitN m k else 0x10 ≤ k && k ≤ 0x7F && bitN m 8

/-- A LENGTH that suits a kind (R313). -/
def lengthSuits (k n : Nat) : Bool :=
  if k = 0x03 then n = 72 else if k = 0x05 then n % 12 = 0 && 12 ≤ n && n ≤ 96
  else if k = 0x06 then n = 8 else if k = 0x07 then n = 4 else n ≤ 96

/-- One bit of the CRC-64 of the safety code (R315). -/
def safeBit (s : DWord) : DWord := if s.getLsbD 63 then (s <<< 1) ^^^ 0xAD93D23594C935A9 else s <<< 1

/-- The CRC-64 of the safety code (R315). -/
def safeCrc (s : DWord) (bs : List Byte) : DWord :=
  bs.foldl (fun (s : DWord) (b : Byte) => safeBit^[8] (s ^^^ (b.setWidth 64 <<< 56))) s

/-- The safety code of header and payload under an identity (R315). -/
def safetyCode (source destination conn epoch : Nat) (bs : List Byte) : DWord :=
  let seed := safeCrc (BitVec.allOnes 64) (natLe 2 source ++ natLe 2 destination ++ natLe 2 conn ++ natLe 2 epoch)
  safeCrc seed bs ^^^ BitVec.allOnes 64

/-- TI of a view in units of 100 us (R87). -/
def TbView.tiUnits (v : TbView) : Nat := (v.km1.toNat + 1) * tnUnits v.tn.toNat

/-- T(n): the time of the header, in units of 100 us (R90). -/
def Lane.headerTime (x : Lane) : Nat := (x.rd32 0x02000008).toNat + 2 ^ 32 * (x.rd32 0x0200000C).toNat

/-- STATE of a staging entry (R311). -/
def Lane.stgState (x : Lane) (c : Nat) : Nat := fieldN (x.rd32 (stgAddr c)) 0 2

/-- A flag of a staging entry: 4 NEW, 5 STAGED, 6 TWIN, 7 HEALED (R311). -/
def Lane.stgFlag (x : Lane) (c i : Nat) : Bool := bitN (x.rd32 (stgAddr c)) i

/-- A word stored where it differs from what the word holds (log 14). -/
def Lane.wrNew (x : Lane) (a : Nat) (w : Word) : Lane := if x.rd32 a = w then x else x.wr32 a w

/-- Bytes stored, each word that they touch entering the hash once (R211; log 14). -/
def Lane.storeBytes (x : Lane) (a : Nat) (bs : List Byte) : Lane :=
  (List.range ((a % 4 + bs.length + 3) / 4)).foldl (fun x i => x.addHash (a / 4 * 4 + 4 * i)) (x.poke a bs)

/-- The first word of a staging entry. -/
def stgWord (state : Nat) (new staged twin healed : Bool) : Word :=
  place state 0 ||| flag new 4 ||| flag staged 5 ||| flag twin 6 ||| flag healed 7

/-- LENGTH of the PDU that a staging entry holds. -/
def Lane.stgLength (x : Lane) (c : Nat) : Nat := min 96 (x.rd8 (stgAddr c + 0x1C)).toNat

/-- The PDU that a staging entry holds: 24 + LENGTH bytes (R312). -/
def Lane.stgPdu (x : Lane) (c : Nat) : List Byte := x.bytesAt (stgAddr c + 0x10) (24 + x.stgLength c)

/-- The PDUs staged in this cycle, by connection (R311). -/
def Lane.staged (x : Lane) : List Pdu :=
  ((List.range 512).filter (fun c => x.connTx c && x.stgFlag c 5)).map (fun c => { conn := c, bytes := x.stgPdu c })

/-- The PDU that SLTX builds (R312, R314, R315). -/
def State.buildPdu (s : State) (x : Lane) (c kind length : Nat) (payload : List Byte) : List Byte :=
  let time := (x.headerTime + x.tb.tiUnits) * 100
  let kind := if s.md.role = .split then 0x80 + kind % 128 else kind
  let body := natLe 2 (x.connId c) ++ natLe 2 (x.connEpoch c) ++ wordBytes x.cycleLo ++ natLe 4 time ++
    natLe 1 length ++ natLe 1 kind ++ natLe 2 0 ++ payload
  body ++ dwordBytes (safetyCode s.node (x.connPartner c) (x.connId c) (x.connEpoch c) body)

/-- SEQUENCE, TIME, LENGTH and KIND of a PDU (R312). -/
def pduSeq (p : List Byte) : Word := BitVec.ofNat 32 (leAt p 4 4)
def pduTime (p : List Byte) : Nat := leAt p 8 4
def pduLength (p : List Byte) : Nat := leAt p 0xC 1
def pduKind (p : List Byte) : Nat := leAt p 0xD 1

/-- A PDU staged for transmission (R314). -/
def Lane.stage (x : Lane) (c : Nat) (pdu : List Byte) : Lane :=
  let x := x.storeBytes (stgAddr c + 0x10) pdu
  let x := x.wr32 (stgAddr c + 4) (pduSeq pdu)
  let x := x.wr32 (stgAddr c + 8) (BitVec.ofNat 32 (pduTime pdu))
  x.wr32 (stgAddr c) (stgWord 1 false true false false)

/-- A sequence number that is newer than another (R316). -/
def newer (a b : Word) : Bool := 1 ≤ (a - b).toNat && (a - b).toNat ≤ 0x7FFFFFFF

/-- Something changed in the SAFELINK block. -/
def Lane.slUpd (x : Lane) (f : SlBlk → SlBlk) : Lane := { x with sl := f x.sl }

/-- A flag of SL_ERR set, the first error kept in SL_ERR_INFO (R333). -/
def SlBlk.setErr (k : SlBlk) (bitNo conn : Nat) : SlBlk :=
  { k with err := k.err ||| flag true bitNo
           errInfo := if k.err = 0 then place (conn % 512) 0 ||| place bitNo 16 else k.errInfo }

/-- Checks 1 to 6 of R316: the connection of a valid copy, or the reason with the connection where it is known. -/
def State.checkCopy (s : State) (x : Lane) (t0us : Nat) (p : Copy) : Except (Nat × Option Nat) Nat :=
  let id := leAt p.bytes 0 2
  match (List.range 512).find? (fun c => x.connRx c && x.connPartner c = p.source.toNat && x.connId c = id) with
  | none => .error (1, none)
  | some c =>
    let k := pduKind p.bytes
    let n := pduLength p.bytes
    let code := BitVec.ofNat 64 (leAt p.bytes (16 + n) 8)
    let split := s.md.role = .split
    if leAt p.bytes 2 2 ≠ x.connEpoch c then .error (2, some c)
    else if p.bytes.length ≠ 24 + n || code ≠ safetyCode p.source.toNat s.node id (leAt p.bytes 2 2) (p.bytes.take (16 + n)) then
      .error (3, some c)
    else if (if split then k < 0x80 || !x.kindPermitted c (k % 128) else 0x80 ≤ k || !x.kindPermitted c k) then
      .error (4, some c)
    else if leAt p.bytes 0xE 2 ≠ 0 || !lengthSuits k n then .error (5, some c)
    else if x.connMaxAge c * 1000 < ((BitVec.ofNat 32 t0us) - BitVec.ofNat 32 (pduTime p.bytes)).toNat then .error (6, some c)
    else .ok c

/-- A discarded copy in SL_LAST_DISC and, where its connection is known, in DISCARDED of the staging entry (R311, R316). -/
def Lane.noteDiscard (x : Lane) (c : Option Nat) (reason : Nat) (source : BitVec 10) : Lane :=
  let x := x.slUpd fun k =>
    { k with lastDisc := place (c.getD 0x1FF) 0 ||| place reason 12 ||| place source.toNat 16 }
  match c with
  | none => x
  | some c => x.wr32 (stgAddr c + 0x94) (satInc (x.rd32 (stgAddr c + 0x94)))

/-- A discarded copy noted, and counted in the block under its reason (R333). -/
def Lane.discardCopy (x : Lane) (c : Option Nat) (reason : Nat) (source : BitVec 10) : Lane :=
  (x.slUpd fun k =>
    { k with
      discCode := if reason = 3 then satInc k.discCode else k.discCode
      discOther := if reason ∈ [1, 2, 4, 5] then satInc k.discOther else k.discOther
      discAge := if reason = 6 then satInc k.discAge else k.discAge
      discOld := if reason = 7 then satInc k.discOld else k.discOld }).noteDiscard c reason source

/-- A twin or a repetition: discarded as OLD and counted in SL_TWIN.CONFIRMED instead of OLD (R317). -/
def Lane.twinCopy (x : Lane) (c : Nat) (source : BitVec 10) : Lane :=
  (x.slUpd (fun b => { b with twinOk := satInc b.twinOk })).noteDiscard (some c) 7 source

/-- What the cut of one connection has found so far (R317). -/
structure CutState where
  failedNow : Bool
  best : Option Copy
  bestTwin : Bool
  /-- TWIN of the retained PDU -/
  twin : Bool
  seen : List (List Byte)

/-- One valid copy of a connection (R317); `retained` is the retained PDU. -/
def Lane.cutCopy (x : Lane) (c : Nat) (retained : Option (List Byte)) (k : CutState) (p : Copy) : Lane × CutState :=
  let q := pduSeq p.bytes
  let clash := (k.seen ++ retained.toList).any (fun y => pduSeq y = q && y ≠ p.bytes)
  let k := { k with failedNow := k.failedNow || clash, seen := k.seen ++ [p.bytes] }
  let stale := match retained with
    | some y => !newer q (pduSeq y)
    | none => false
  if stale then
    if retained = some p.bytes then
      (x.twinCopy c p.source, { k with twin := true })
    else (x.discardCopy (some c) 7 p.source, k)
  else
    match k.best with
    | none => (x, { k with best := some p, bestTwin := false })
    | some b =>
      if pduSeq b.bytes = q then
        if b.bytes = p.bytes then (x.twinCopy c p.source, { k with bestTwin := true })
        else (x.discardCopy (some c) 7 p.source, k)
      else if newer q (pduSeq b.bytes) then (x, { k with best := some p, bestTwin := false })
      else (x, k)

/-- The stored restart token of a connection made 0 (R265). -/
def Lane.clearToken (x : Lane) (c : Nat) : Lane := x.wrNew (0x02F07400 + c * 4) 0

/-- What happened to a connection at a cut. -/
inductive SlEvent | lost (c : Nat) | failed (c : Nat)
  deriving DecidableEq, Repr

/-- The connection becomes LOST (R317, R265). -/
def Lane.slLose (x : Lane) (c : Nat) : Lane :=
  ((x.wr32 (stgAddr c) (putField (x.rd32 (stgAddr c)) 0 2 2)).clearToken c).slUpd (·.setErr 1 c)

/-- The retained PDU forgotten, and the connection IDLE (R317); LOST_CUTS stays until the next acceptance. -/
def Lane.slForget (x : Lane) (c : Nat) : Lane :=
  (x.storeBytes (stgAddr c + 0x10) (List.replicate 120 0)).wr32 (stgAddr c) 0

/-- The supervision timeout of a connection has passed at the present cut (R317). -/
def Lane.slTimedOut (x : Lane) (t0us c : Nat) : Bool :=
  x.connTimeout c * 1000 < ((BitVec.ofNat 32 t0us) - x.rd32 (stgAddr c + 8)).toNat

/-- The end of the cut of a connection (R317), with what became of it. -/
def Lane.cutEnd (x : Lane) (t0us c : Nat) (k : CutState) : Lane × List SlEvent :=
  let w := x.rd32 (stgAddr c)
  let st := x.stgState c
  let w := putField (putField w 4 1 0) 6 1 (if k.twin then 1 else 0)
  if st = 3 then (x.wrNew (stgAddr c) w, [])
  else if k.failedNow then
    let x := (x.wr32 (stgAddr c) (putField w 0 2 3)).clearToken c
    (x.slUpd (·.setErr 2 c), [.failed c])
  else
    match k.best with
    | some b =>
      let x := x.storeBytes (stgAddr c + 0x10) b.bytes
      let x := x.wr32 (stgAddr c + 4) (pduSeq b.bytes)
      let x := x.wr32 (stgAddr c + 8) (BitVec.ofNat 32 (pduTime b.bytes))
      let x := x.wrNew (stgAddr c + 0xC) 0
      let x := x.wr32 (stgAddr c + 0x90) (satInc (x.rd32 (stgAddr c + 0x90)))
      let x := x.wr32 (stgAddr c) (stgWord 1 true false k.bestTwin b.healed)
      (x.slUpd (fun b => { b with accept := satInc b.accept }), [])
    | none =>
      let x := x.wrNew (stgAddr c) w
      let r := if st = 1 && x.slTimedOut t0us c then (x.slLose c, [SlEvent.lost c]) else (x, [])
      let x := r.1
      if x.stgState c = 2 then
        let n := satInc (x.rd32 (stgAddr c + 0xC))
        let x := x.wr32 (stgAddr c + 0xC) n
        (if n = 1000000 then x.slForget c else x, r.2)
      else (x, r.2)

/-- The retained PDU of a connection exists while STATE is not IDLE (R317). -/
def Lane.retained (x : Lane) (c : Nat) : Option (List Byte) := if x.stgState c = 0 then none else some (x.stgPdu c)

/-- What the cut of a connection starts from (R317). -/
def Lane.cutStart (x : Lane) (c : Nat) : CutState :=
  { failedNow := false, best := none, bestTwin := false, twin := x.stgFlag c 6, seen := [] }

/-- One connection at the end of the cut (R317, R318). -/
def Lane.cutConn (x : Lane) (t0us c : Nat) (k : CutState) : Lane × List SlEvent :=
  let old := x.stgFlag c 4 && !x.stgFlag c 7
  let x := if old && !k.twin then x.slUpd (fun b => { b with twinDue := b.twinDue ++ [c] }) else x
  x.cutEnd t0us c k

/-- The copies of the cut checked in stamp order (R316, R317): one that is not valid is discarded, a valid one is taken
into the cut of its connection. -/
def State.checkCut (s : State) (t0us : Nat) : Lane × (Nat → CutState) → List Copy → Lane × (Nat → CutState)
  | r, [] => r
  | (x, ks), p :: ps =>
    match s.checkCopy x t0us p with
    | .error (reason, c) => s.checkCut t0us (x.discardCopy c reason p.source, ks) ps
    | .ok c =>
      let r := x.cutCopy c (x.retained c) (ks c) p
      s.checkCut t0us (r.1, fun i => if i = c then r.2 else ks i) ps

/-- SL_STATE and SL_NEW rebuilt from the staging entries (R331). -/
def Lane.slViews (x : Lane) : Lane :=
  let st (c : Nat) : Nat := if x.connUsed c then x.stgState c else 0
  let nw (c : Nat) : Nat := if x.connRx c && x.stgFlag c 4 then 1 else 0
  x.slUpd fun k =>
    { k with
      stateReg := Vector.ofFn fun m => BitVec.ofNat 32 ((List.range 16).foldl (fun n j => n + st (16 * m.val + j) * 4 ^ j) 0)
      newReg := Vector.ofFn fun m => BitVec.ofNat 32 ((List.range 32).foldl (fun n j => n + nw (32 * m.val + j) * 2 ^ j) 0) }

/-- The flags STAGED of the last cycle cleared (R311). -/
def Lane.clearStaged (x : Lane) : Lane :=
  (List.range 512).foldl (fun x c => if x.connTx c && x.stgFlag c 5 then
    x.wr32 (stgAddr c) (putField (x.rd32 (stgAddr c)) 5 1 0) else x) x

/-- The receive connections that a mode checks: in SAFE_STOP those permitted the restart command kind alone (R263); none
without ENABLE (R333). -/
def State.checked (s : State) (x : Lane) (c : Nat) : Bool :=
  x.sl.enable && x.connRx c && (s.md.mode ≠ .safeStop || x.kindPermitted c 6)

/-- The receive connection whose copy a copy is, by the frame's SOURCE and CONN_ID (R316). -/
def Lane.connOf (x : Lane) (p : Copy) : Option Nat :=
  (List.range 512).find? (fun c => x.connRx c && x.connPartner c = p.source.toNat && x.connId c = leAt p.bytes 0 2)

/-- The copies of the cut that a mode checks (R263, R316). -/
def State.cutCopies (s : State) (x : Lane) : List Copy :=
  if s.md.mode = .safeStop then x.sl.cut.filter (fun p => (x.connOf p).any (s.checked x)) else x.sl.cut

/-- The cut of a lane checked and every receive connection brought up to date (R316, R317, R319). -/
def State.slReceive (s : State) (x : Lane) : Lane × List SlEvent :=
  let t0us := x.tb.t0.toNat / 100
  let x := x.slUpd fun k => { k with twinDue := [], discOther := satAdd k.discOther k.cutOver }
  let x := if x.sl.cutOver = 0 then x else x.slUpd (·.setErr 3 0)
  let r := s.checkCut t0us (x, x.cutStart) (s.cutCopies x)
  let r := ((List.range 512).filter (s.checked x)).foldl (fun (acc : Lane × List SlEvent) c =>
    let t := acc.1.cutConn t0us c (r.2 c)
    (t.1, acc.2 ++ t.2)) (r.1, [])
  (r.1.slViews, r.2)

/-- The accepted PDU of a connection at the cut of this cycle (R178, R318); none in HOLD (R203). -/
def State.delivery (s : State) (x : Lane) (c : Nat) : Option (List Byte) :=
  if s.md.mode ≠ .hold && x.connRx c && x.stgFlag c 4 then some (x.stgPdu c) else none

/-- The payload of a PDU. -/
def pduPayload (p : List Byte) : List Byte := (p.drop 16).take (pduLength p)

/-- Receive connections that permit a kind and hold an accepted PDU of it at this cut, ascending; in SPLIT the PDU carries
the kind with bit 7 set (R314). -/
def State.commands (s : State) (x : Lane) (kind : Nat) : List (Nat × List Byte) :=
  (List.range 512).filterMap fun c =>
    match s.delivery x c with
    | some p => if x.kindPermitted c kind && pduKind p % 128 = kind then some (c, pduPayload p) else none
    | none => none

/-- A valid STOP for this module is in the cut (R320). -/
def State.stopInCut (s : State) (x : Lane) : Bool :=
  (s.commands x 7).any (fun p => p.2.length = 4 && leAt p.2 0 4 = s.node)

/-- The token of a valid remote restart (R265). -/
def State.restartToken (s : State) (p : List Byte) : Option Word :=
  if p.length = 8 && leAt p 4 4 = s.node && leAt p 0 4 ≠ 0 then some (BitVec.ofNat 32 (leAt p 0 4)) else none

/-- The stored tokens brought up to date; a restart event where a token changed (R265). -/
def State.remoteRestart (s : State) (x : Lane) : Lane × Bool :=
  (s.commands x 6).foldl (fun (r : Lane × Bool) p =>
    match s.restartToken p.2 with
    | none => r
    | some w =>
      let a := 0x02F07400 + p.1 * 4
      if r.1.rd32 a = 0 then (r.1.wr32 a w, r.2)
      else if r.1.rd32 a ≠ w then (r.1.wr32 a w, true)
      else r) (x, false)

end Sys2Proof.Machine
end

