-- ==== Sys2Proof/Decode.lean ====
section
/-! DEFINITION. Reading commands from words. The opcode table gives its rows no bits, so a table word spells no
command (decodeTableWord answers none). The Ixlo instruction words of the lanes (R134 to R136, R154) are decoded
here for the debugger, which makes a core run on from its pc, and encoded for TVAL (R147): both are written from
the encoding tables of chapters 04 and 05. -/

namespace Sys2Proof

/-- The command that a word spells by the table's bits: the table gives bits to no row. -/
def decodeTableWord (_nbits _w : Nat) : Option Instr := none

/-- A register field of a word. -/
def regField (w : Word) (lo : Nat) : Reg := Fin.ofNat 32 (w.toNat >>> lo)

/-- An RR or X word: op, d, a, b, func (R134). -/
def rrWord (op : Nat) (d a b : Reg) (func : Nat) : Word :=
  BitVec.ofNat 32 (op * 2 ^ 26 + d.val * 2 ^ 21 + a.val * 2 ^ 16 + b.val * 2 ^ 11 + func)

/-- An RI, M or B word: op, two registers, 16 bits (R134). -/
def riWord (op : Nat) (d a : Reg) (imm : Half) : Word :=
  BitVec.ofNat 32 (op * 2 ^ 26 + d.val * 2 ^ 21 + a.val * 2 ^ 16 + imm.toNat)

/-- A J word (R134). -/
def jWord (op : Nat) (off : BitVec 26) : Word := BitVec.ofNat 32 (op * 2 ^ 26 + off.toNat)

/-- The func field of a bit-field instruction (R140). -/
def fieldFunc (pos wm1 : Fin 32) : Nat := wm1.val * 32 + pos.val

/-- The word of an Ixlo instruction; none for the other commands. -/
def encode : Instr → Option Word
  | .add _ d a b => some (rrWord 0 d a b 0x001)
  | .sub _ d a b => some (rrWord 0 d a b 0x002)
  | .and _ d a b => some (rrWord 0 d a b 0x003)
  | .or _ d a b => some (rrWord 0 d a b 0x004)
  | .xor _ d a b => some (rrWord 0 d a b 0x005)
  | .andn _ d a b => some (rrWord 0 d a b 0x006)
  | .sll _ d a b => some (rrWord 0 d a b 0x007)
  | .srl _ d a b => some (rrWord 0 d a b 0x008)
  | .sra _ d a b => some (rrWord 0 d a b 0x009)
  | .slt _ d a b => some (rrWord 0 d a b 0x00A)
  | .sltu _ d a b => some (rrWord 0 d a b 0x00B)
  | .seq _ d a b => some (rrWord 0 d a b 0x00C)
  | .slli _ d a sh => some (rrWord 0 d a sh 0x010)
  | .srli _ d a sh => some (rrWord 0 d a sh 0x011)
  | .srai _ d a sh => some (rrWord 0 d a sh 0x012)
  | .mul _ d a b => some (rrWord 0 d a b 0x020)
  | .mulh _ d a b => some (rrWord 0 d a b 0x021)
  | .mulhu _ d a b => some (rrWord 0 d a b 0x022)
  | .div _ d a b => some (rrWord 0 d a b 0x024)
  | .divu _ d a b => some (rrWord 0 d a b 0x025)
  | .rem _ d a b => some (rrWord 0 d a b 0x026)
  | .remu _ d a b => some (rrWord 0 d a b 0x027)
  | .clz _ d a => some (rrWord 0 d a 0 0x030)
  | .ctz _ d a => some (rrWord 0 d a 0 0x031)
  | .popc _ d a => some (rrWord 0 d a 0 0x032)
  | .bswap _ d a => some (rrWord 0 d a 0 0x033)
  | .jalr _ d a => some (rrWord 0 d a 0 0x040)
  | .extu _ d a p w => some (rrWord 0x02 d a 0 (fieldFunc p w))
  | .exts _ d a p w => some (rrWord 0x03 d a 0 (fieldFunc p w))
  | .ins _ d a p w => some (rrWord 0x04 d a 0 (fieldFunc p w))
  | .addi _ d a i => some (riWord 0x08 d a i)
  | .andi _ d a i => some (riWord 0x09 d a i)
  | .ori _ d a i => some (riWord 0x0A d a i)
  | .xori _ d a i => some (riWord 0x0B d a i)
  | .slti _ d a i => some (riWord 0x0C d a i)
  | .sltiu _ d a i => some (riWord 0x0D d a i)
  | .lui _ d i => some (riWord 0x0E d 0 i)
  | .lb _ d a i => some (riWord 0x10 d a i)
  | .lbu _ d a i => some (riWord 0x11 d a i)
  | .lh _ d a i => some (riWord 0x12 d a i)
  | .lhu _ d a i => some (riWord 0x13 d a i)
  | .lw _ d a i => some (riWord 0x14 d a i)
  | .sb _ d a i => some (riWord 0x18 d a i)
  | .sh _ d a i => some (riWord 0x19 d a i)
  | .sw _ d a i => some (riWord 0x1A d a i)
  | .beq _ r t o => some (riWord 0x20 r t o)
  | .bne _ r t o => some (riWord 0x21 r t o)
  | .blt _ r t o => some (riWord 0x22 r t o)
  | .bge _ r t o => some (riWord 0x23 r t o)
  | .bltu _ r t o => some (riWord 0x24 r t o)
  | .bgeu _ r t o => some (riWord 0x25 r t o)
  | .bct _ r o => some (riWord 0x26 r 0 o)
  | .bcf _ r o => some (riWord 0x27 r 0 o)
  | .j _ o => some (jWord 0x28 o)
  | .jal _ o => some (jWord 0x29 o)
  | .cand _ d a b => some (rrWord 0x06 d a b 0x001)
  | .cor _ d a b => some (rrWord 0x06 d a b 0x002)
  | .cnot _ d a => some (rrWord 0x06 d a 0 0x003)
  | .csel _ d a b c => some (rrWord 0x06 d a b (c.val * 64 + 0x004))
  | .cchk _ d a => some (rrWord 0x06 d a 0 0x005)
  | .cmk _ d a => some (rrWord 0x06 d a 0 0x006)
  | .ceq _ d a b => some (rrWord 0x06 d a b 0x007)
  | .cltu _ d a b => some (rrWord 0x06 d a b 0x008)
  | .cval _ d a => some (rrWord 0x06 d a 0 0x009)
  | .sysc _ i => some (riWord 0x3D 0 0 i)
  | .tret _ => some (rrWord 0x3F 0 0 0 0x001)
  | .mfcr _ d cr => some (rrWord 0x3F d cr 0 0x002)
  | .mtcr _ cr a => some (rrWord 0x3F cr a 0 0x003)
  | .wait _ d => some (rrWord 0x3F d 0 0 0x004)
  | .brk _ => some (rrWord 0x3F 0 0 0 0x005)
  | .halt _ => some (rrWord 0x3F 0 0 0 0x006)
  | .pin _ d a => some (rrWord 0x3E d a 0 0x001)
  | .pout _ a b => some (rrWord 0x3E 0 a b 0x002)
  | .eld _ d a b => some (rrWord 0x3E d a b 0x010)
  | .est _ d a b => some (rrWord 0x3E d a b 0x011)
  | .tstart _ d a b => some (rrWord 0x3E d a b 0x020)
  | .tstop _ a => some (rrWord 0x3E 0 a 0 0x021)
  | .tread _ d a => some (rrWord 0x3E d a 0 0x022)
  | .treadX _ d a => some (rrWord 0x3E d a 0 0x023)
  | .cinc _ d a => some (rrWord 0x3E d a 0 0x030)
  | .crd _ d a => some (rrWord 0x3E d a 0 0x031)
  | .edgeup _ d a b => some (rrWord 0x3E d a b 0x040)
  | .edgedn _ d a b => some (rrWord 0x3E d a b 0x041)
  | .sig _ a => some (rrWord 0x3E 0 a 0 0x050)
  | .cycend _ => some (rrWord 0x3E 0 0 0 0x051)
  | .budget _ d => some (rrWord 0x3E d 0 0 0x052)
  | .rqput _ a => some (rrWord 0x3E 0 a 0 0x060)
  | .rqget _ d => some (rrWord 0x3E d 0 0 0x061)
  | .rwait _ => some (rrWord 0x3E 0 0 0 0x062)
  | .sltx _ a b => some (rrWord 0x3E 0 a b 0x070)
  | .slrx _ d a b => some (rrWord 0x3E d a b 0x071)
  | .rpcall _ a b => some (rrWord 0x3E 0 a b 0x080)
  | .rpret _ => some (rrWord 0x3E 0 0 0 0x081)
  | _ => none

/-- An answer given only where the fields that the instruction does not use are zero (R135). -/
def zeroOnly (ok : Bool) (i : Instr) : Option Instr := if ok then some i else none

/-- The instruction of the integer and logic group (R138). -/
def decodeInt (l : LaneId) (d a b : Reg) (func : Nat) : Option Instr :=
  match func with
  | 0x001 => some (.add l d a b)
  | 0x002 => some (.sub l d a b)
  | 0x003 => some (.and l d a b)
  | 0x004 => some (.or l d a b)
  | 0x005 => some (.xor l d a b)
  | 0x006 => some (.andn l d a b)
  | 0x007 => some (.sll l d a b)
  | 0x008 => some (.srl l d a b)
  | 0x009 => some (.sra l d a b)
  | 0x00A => some (.slt l d a b)
  | 0x00B => some (.sltu l d a b)
  | 0x00C => some (.seq l d a b)
  | 0x010 => some (.slli l d a b)
  | 0x011 => some (.srli l d a b)
  | 0x012 => some (.srai l d a b)
  | 0x020 => some (.mul l d a b)
  | 0x021 => some (.mulh l d a b)
  | 0x022 => some (.mulhu l d a b)
  | 0x024 => some (.div l d a b)
  | 0x025 => some (.divu l d a b)
  | 0x026 => some (.rem l d a b)
  | 0x027 => some (.remu l d a b)
  | 0x030 => zeroOnly (b == 0) (.clz l d a)
  | 0x031 => zeroOnly (b == 0) (.ctz l d a)
  | 0x032 => zeroOnly (b == 0) (.popc l d a)
  | 0x033 => zeroOnly (b == 0) (.bswap l d a)
  | 0x040 => zeroOnly (b == 0) (.jalr l d a)
  | _ => none

/-- The instruction of the coded-boolean group (R144): func[10:6] is the register c of CSEL alone. -/
def decodeCoded (l : LaneId) (d a b : Reg) (func : Nat) : Option Instr :=
  if func % 64 = 0x004 then some (.csel l d a b (Fin.ofNat 32 (func / 64)))
  else
    match func with
    | 0x001 => some (.cand l d a b)
    | 0x002 => some (.cor l d a b)
    | 0x003 => zeroOnly (b == 0) (.cnot l d a)
    | 0x005 => zeroOnly (b == 0) (.cchk l d a)
    | 0x006 => zeroOnly (b == 0) (.cmk l d a)
    | 0x007 => some (.ceq l d a b)
    | 0x008 => some (.cltu l d a b)
    | 0x009 => zeroOnly (b == 0) (.cval l d a)
    | _ => none

/-- The instruction of the system group (R146). -/
def decodeSystem (l : LaneId) (d a b : Reg) (func : Nat) : Option Instr :=
  match func with
  | 0x001 => zeroOnly (d == 0 && a == 0 && b == 0) (.tret l)
  | 0x002 => zeroOnly (b == 0) (.mfcr l d a)
  | 0x003 => zeroOnly (b == 0) (.mtcr l d a)
  | 0x004 => zeroOnly (a == 0 && b == 0) (.wait l d)
  | 0x005 => zeroOnly (d == 0 && a == 0 && b == 0) (.brk l)
  | 0x006 => zeroOnly (d == 0 && a == 0 && b == 0) (.halt l)
  | _ => none

/-- The instruction of the railway extensions (R154). -/
def decodeRail (l : LaneId) (d a b : Reg) (func : Nat) : Option Instr :=
  match func with
  | 0x001 => zeroOnly (b == 0) (.pin l d a)
  | 0x002 => zeroOnly (d == 0) (.pout l a b)
  | 0x010 => some (.eld l d a b)
  | 0x011 => some (.est l d a b)
  | 0x020 => some (.tstart l d a b)
  | 0x021 => zeroOnly (d == 0 && b == 0) (.tstop l a)
  | 0x022 => zeroOnly (b == 0) (.tread l d a)
  | 0x023 => zeroOnly (b == 0) (.treadX l d a)
  | 0x030 => zeroOnly (b == 0) (.cinc l d a)
  | 0x031 => zeroOnly (b == 0) (.crd l d a)
  | 0x040 => some (.edgeup l d a b)
  | 0x041 => some (.edgedn l d a b)
  | 0x050 => zeroOnly (d == 0 && b == 0) (.sig l a)
  | 0x051 => zeroOnly (d == 0 && a == 0 && b == 0) (.cycend l)
  | 0x052 => zeroOnly (a == 0 && b == 0) (.budget l d)
  | 0x060 => zeroOnly (d == 0 && b == 0) (.rqput l a)
  | 0x061 => zeroOnly (a == 0 && b == 0) (.rqget l d)
  | 0x062 => zeroOnly (d == 0 && a == 0 && b == 0) (.rwait l)
  | 0x070 => zeroOnly (d == 0) (.sltx l a b)
  | 0x071 => some (.slrx l d a b)
  | 0x080 => zeroOnly (d == 0) (.rpcall l a b)
  | 0x081 => zeroOnly (d == 0 && a == 0 && b == 0) (.rpret l)
  | _ => none

/-- A bit-field instruction: func[10] and b are 0 and the field lies within the word (R140). -/
def decodeField (f : Fin 32 → Fin 32 → Instr) (b : Reg) (func : Nat) : Option Instr :=
  zeroOnly (b == 0 && func < 1024 && func % 32 + func / 32 + 1 ≤ 32) (f (Fin.ofNat 32 func) (Fin.ofNat 32 (func / 32)))

/-- The instruction that a word at the pc of a lane spells; none where the word is illegal (R135, R136). -/
def decodeIxlo (l : LaneId) (w : Word) : Option Instr :=
  let d := regField w 21
  let a := regField w 16
  let b := regField w 11
  let func := w.toNat % 2048
  let imm : Half := w.setWidth 16
  match w.toNat >>> 26 with
  | 0x00 => decodeInt l d a b func
  | 0x02 => decodeField (.extu l d a) b func
  | 0x03 => decodeField (.exts l d a) b func
  | 0x04 => decodeField (.ins l d a) b func
  | 0x06 => decodeCoded l d a b func
  | 0x08 => some (.addi l d a imm)
  | 0x09 => some (.andi l d a imm)
  | 0x0A => some (.ori l d a imm)
  | 0x0B => some (.xori l d a imm)
  | 0x0C => some (.slti l d a imm)
  | 0x0D => some (.sltiu l d a imm)
  | 0x0E => zeroOnly (a == 0) (.lui l d imm)
  | 0x10 => some (.lb l d a imm)
  | 0x11 => some (.lbu l d a imm)
  | 0x12 => some (.lh l d a imm)
  | 0x13 => some (.lhu l d a imm)
  | 0x14 => some (.lw l d a imm)
  | 0x18 => some (.sb l d a imm)
  | 0x19 => some (.sh l d a imm)
  | 0x1A => some (.sw l d a imm)
  | 0x20 => some (.beq l d a imm)
  | 0x21 => some (.bne l d a imm)
  | 0x22 => some (.blt l d a imm)
  | 0x23 => some (.bge l d a imm)
  | 0x24 => some (.bltu l d a imm)
  | 0x25 => some (.bgeu l d a imm)
  | 0x26 => zeroOnly (a == 0) (.bct l d imm)
  | 0x27 => zeroOnly (a == 0) (.bcf l d imm)
  | 0x28 => some (.j l (w.setWidth 26))
  | 0x29 => some (.jal l (w.setWidth 26))
  | 0x3D => zeroOnly (d == 0 && a == 0) (.sysc l imm)
  | 0x3E => decodeRail l d a b func
  | 0x3F => decodeSystem l d a b func
  | _ => none

end Sys2Proof
end

