-- ==== Sys2Proof/WellFormed.lean ====
section
/-! DEFINITION. Well-formed commands. The types of the operands already hold most limits; what is left are the
limits of encodings (R140), of messages (R214), of the debugger (R204) and of packages (R186). A command that is not
well formed spells no instruction or message of the module. -/

namespace Sys2Proof

/-- A bit field that lies within a word (R140). -/
def fieldFits (pos wm1 : Fin 32) : Bool := pos.val + wm1.val + 1 ≤ 32

/-- A message of the inter-lane links whose length field agrees with its body, which holds at most 4,096 bytes
(R213, R214). -/
def LinkMsg.wellFormed (m : LinkMsg) : Bool := m.body.length ≤ 4096 && m.length.toNat == m.body.length

/-- A frame or probe of at least one byte and at most the largest frame of the ring. -/
def frameFits (bytes : List Byte) : Bool := 0 < bytes.length && bytes.length ≤ 4096

/-- The commands that are well formed. -/
def Instr.wellFormed : Instr → Bool
  | .extu _ _ _ p w => fieldFits p w
  | .exts _ _ _ p w => fieldFits p w
  | .ins _ _ _ p w => fieldFits p w
  | .inputMessage _ m => m.wellFormed
  | .signatureMessage _ m => m.wellFormed
  | .viewMessage _ m => m.wellFormed
  | .auditMessage _ m => m.wellFormed
  | .controlMessage _ m => m.wellFormed
  | .frameArrival _ b _ => frameFits b
  | .probeArrival _ b _ => frameFits b
  | .step _ n => n != 0
  | .packageStage _ _ b => b.length ≤ 1024
  | _ => true

end Sys2Proof
end

