-- ==== Sys2Proof/Machine/Ops.lean ====
section
/-! DEFINITION. Operations that many commands share: instants of the cycle, feeds of the signature, the closing of a
lane's cycle, the entry to the application, traps and what follows them (chapters 03, 04, 05). -/

namespace Sys2Proof.Machine

/-- The command is carried out: the next state. -/
def ok (s : State) : Host.Outcome State Fault Refusal := .next s

/-- Ticks of the time base that an offset correction is spread over pass: what is left of it (R106, R112). -/
def Timebase.slewed (t : Timebase) (ticks d : Nat) : Timebase :=
  let n := t.slewTicks - d
  { t with slewTicks := n, slew := if n = 0 then 0 else BitVec.ofInt 32 ((t.slewD.toInt * n).tdiv ticks) }

/-- What SLEW adds at each tick but the last, in units of 2^-32 x 10 ns; `ticks` are those of a network cycle (R106). -/
def Timebase.slewEach (t : Timebase) (ticks : Nat) : Int := (t.slewD.toInt * 2 ^ 32).tdiv (10 * ticks)

/-- What SLEW adds in the next `n` ticks, the remainder on the last tick of the network cycle (R106). -/
def Timebase.slewSum (t : Timebase) (ticks n : Nat) : Int :=
  if n < t.slewTicks then t.slewEach ticks * n
  else if t.slewTicks = 0 then 0
  else (t.slewD.toInt * 2 ^ 32).tdiv 10 - t.slewEach ticks * (ticks - t.slewTicks : Int)

/-- What the pair of NT and NTF gains in the next `n` ticks (R106). -/
def Timebase.gain (t : Timebase) (ticks n : Nat) : Int := n * (2 ^ 32 + t.rate.toInt) + t.slewSum ticks n

/-- The pair of NT and NTF as one number, in units of 2^-32 x 10 ns. -/
def Timebase.pair (t : Timebase) : Nat := t.nt.toNat * 2 ^ 32 + t.ntf.toNat

/-- Ticks of the 100 MHz clock (R106). -/
def Timebase.run (t : Timebase) (ticks n : Nat) : Timebase :=
  let p : BitVec 96 := BitVec.ofInt 96 (t.pair + t.gain ticks n)
  { t with nt := (p >>> 32).setWidth 64, ntf := p.setWidth 32 }.slewed ticks n

/-- Ticks in which a gain is reached at `step` in each. -/
def ticksFor (need step : Int) : Nat := ((need + step - 1) / max step 1).toNat

/-- The ticks after which NT has reached an instant (R106). -/
def Timebase.ticksTo (t : Timebase) (ticks target : Nat) : Nat :=
  let need : Int := target * 2 ^ 32 - t.pair
  let step : Int := 2 ^ 32 + t.rate.toInt
  let early := ticksFor need (step + t.slewEach ticks)
  if need ≤ 0 then 0
  else if early < t.slewTicks then early
  else if need ≤ t.gain ticks t.slewTicks then t.slewTicks
  else t.slewTicks + ticksFor (need - t.gain ticks t.slewTicks) step

/-- The time base ticks: it has its clock, and its reset is released (R370, R371). -/
def Timebase.runs (t : Timebase) : Bool := t.qualified || t.early

/-- A number of ticks of 10 ns pass: the operating time, and the time base unless it is held in reset (R370, R372). -/
def State.passTime (s : State) (n : Nat) : State :=
  { s with
    tb := if s.tb.runs then s.tb.run s.ring.ticks n else s.tb
    guard := { s.guard with optime := s.guard.optime + n } }

/-- Network time moved on to an instant by the ticks that this takes, the operating time with it; never back (R106, R107,
R372). -/
def State.advanceTo (s : State) (t : Nat) : State :=
  let n := s.tb.ticksTo s.ring.ticks t
  { s with
    tb := s.tb.run s.ring.ticks n
    guard := { s.guard with optime := s.guard.optime + n } }

/-- TN of a view in 10 ns units (R86). -/
def TbView.tn10 (v : TbView) : Nat := tnUnits v.tn.toNat * 10000

/-- TI of a view in 10 ns units (R87). -/
def TbView.ti10 (v : TbView) : Nat := v.tiUnits * 10000

/-- The instant `back` units of 10 ns before the end of a lane's cycle. -/
def Lane.beforeEnd (x : Lane) (back : Nat) : Nat := x.tb.t0.toNat + x.tb.ti10 - back

/-- Time left to the budget limit in 10 ns units: 0 outside the evaluation phase and in HOLD (R112, R203). -/
def State.budgetLeft (s : State) (x : Lane) : Word :=
  if x.tb.phase = .evaluation && s.md.mode ≠ .hold then BitVec.ofNat 32 (x.beforeEnd 350000 - s.tb.nt.toNat) else 0

/-- The modes in which feeds have no effect (R172). -/
def Mode.silent : Mode → Bool
  | .split | .hold => true
  | _ => false

/-- A word fed to the lane's signature (R209); without effect in SPLIT and HOLD (R172). -/
def Lane.feed (x : Lane) (m : Mode) (w : Word) : Lane :=
  if m.silent then x else { x with vote := { x.vote with s := sigFeed x.vote.s w, feeds := x.vote.feeds + 1 } }

/-- Words fed in order. -/
def Lane.feedAll (x : Lane) (m : Mode) (ws : List Word) : Lane := ws.foldl (fun x w => x.feed m w) x

/-- A word fed to the signature of a lane. -/
def State.feed (s : State) (l : LaneId) (w : Word) : State := s.updLane l (fun x => x.feed s.md.mode w)

/-- A record that every serving lane makes alike: the lowest-lettered serving lane submits it (R437); in SPLIT each lane
runs for itself (R19). -/
def State.recJoint (s : State) (l : LaneId) (name : RecName) (ps : List Word) : State :=
  if s.md.mode = .split then s.recL l name ps else
  match s.servingLanes with
  | k :: _ => if k = l then s.recAs (1 + l.num) true name ps else s
  | [] => s

/-- The oldest pending request of a lane's engine answered with an error that an injection causes (R463). -/
def Lane.forceError (x : Lane) (reason : Nat) : Lane :=
  match splitPending x.engine.queue with
  | none => x
  | some (before, q, after) =>
    let x := x.engErr (faultFlag reason) (reqObject q)
    x.eng (fun g => { g with
      queue := before ++ { request := q, result := some (resultWord q 2 (Config.errorClasses q) 0 reason) } :: after
      reqCount := satInc g.reqCount })

/-- An injection meets the oldest pending request of a lane's engine: ROUTE_STORE_PARITY or ROUTE_RECORD (R463). -/
def State.requestHit (s : State) (l : LaneId) : Bool :=
  0 < (s.lane l).pendingCount && (s.injected 0x1E (some l) || s.injected 0x20 (some l))

/-- That injection fires. -/
def State.spoilRequest (s : State) (l : LaneId) : State :=
  s.fire.updLane l (·.forceError (if s.injected 0x1E (some l) then 12 else 11))

/-- The injection ROUTE_DESC_PARITY meets a request: the source of R364 in place of what the engine would do (R463). -/
def State.descParity (s : State) (l : LaneId) (body : State → State) : State :=
  if 0 < (s.lane l).pendingCount && s.injected 0x1D (some l) then (s.fire).raise .parityRoute (some l) else body s

/-- The engine of a lane completes every pending request (R69, R70). -/
def State.engineDrain (s : State) (l : LaneId) : State :=
  let s := if s.requestHit l then s.spoilRequest l else s
  let n := (s.lane l).pendingCount
  let c := s.freeCtr
  { s.updLane l (fun x => x.engineAll s.md.mode (fun i => Config.freeWord (c + i)) n) with freeCtr := c + n }

/-- Step 2 of CYCEND: the engine completes, uncollected results and sweep digests are fed, the queue empties
(R70, R100). -/
def State.closeEngine (s : State) (l : LaneId) : State :=
  let s := s.engineDrain l
  s.updLane l fun x =>
    let x := x.feedAll s.md.mode (x.engine.queue.filterMap (·.result))
    let x := x.feedAll s.md.mode x.engine.digests
    x.eng (fun g => { g with queue := [], digests := [] })

/-- The injection HASH: a term t of H inverted, which takes 2t + 1 from H; which term is a free value (R463). -/
def State.injectHash (s : State) (l : LaneId) : State :=
  if s.injected 0x0C (some l) then
    let t : DWord := Config.freeWord s.freeCtr ++ Config.freeWord (s.freeCtr + 1)
    let s := { s.fire with freeCtr := s.freeCtr + 2 }
    s.updLane l (fun x => { x with vote := { x.vote with h := x.vote.h - (t + t + 1) } })
  else s

/-- The injections SIG_FLIP and SIG_DROP at the lane's signature (R463). -/
def State.injectSignature (s : State) (l : LaneId) : State :=
  let s := s.fireLasting 0x09 (some l) 2
  if s.injected 0x08 (some l) then
    let m : DWord := BitVec.ofNat 64 (2 ^ (s.injParam % 64))
    s.fire.updLane l (fun x => { x with vote := { x.vote with s := x.vote.s ^^^ m } })
  else s

/-- The signature of a lane, held by the lane itself and sent; the dirty pages at that step (R100 step 5, R232). -/
def Lane.holdSignature (x : Lane) (l : LaneId) : Lane :=
  { x with
    cyc := { x.cyc with done := true, dirtyEnd := x.store.dirty }
    vote := { x.vote with sigs := x.vote.sigs.set l (some x.vote.s) } }

/-- The CODED_VALUE record of a cycle with coded-value events (R145). -/
def State.recCoded (s : State) (l : LaneId) (n : Word) : State := if n = 0 then s else s.recL l .codedValue [n]

/-- Step 5 of CYCEND: the closing feeds in the order of R210, and the lane's signature held and sent. -/
def State.closeSignature (s : State) (l : LaneId) : State :=
  let n := (s.lane l).core.cvCycle
  let s := s.injectHash l
  let s := s.updLane l fun x =>
    let x := x.feed s.md.mode n
    let x := x.feed s.md.mode x.vote.feeds
    x.feedAll s.md.mode [x.vote.h.setWidth 32, (x.vote.h >>> 32).setWidth 32]
  ((s.injectSignature l).updLane l (·.holdSignature l)).recCoded l n

/-- The lane's pack-call stack emptied (R180). -/
def Core.noPacks (c : Core) : Core := { c with packStack := [], pack := none }

/-- The core has ended its cycle and waits for the vote (R100 step 6); in HOLD it halts for the debugger with the
reason given (R205). -/
def State.endCore (s : State) (l : LaneId) (reason : BitVec 3) : State :=
  s.updLane l fun x =>
    if s.md.mode = .hold then
      { x with
        core := { x.core.noPacks with run := .debug }
        blk := { x.blk with dbgReason := reason, dbgDone := true, dbgSteps := none } }
    else { x with core := { x.core.noPacks with run := .ended }, tb := { x.tb with phase := .waiting } }

/-- The output image as 48 enables (R163). -/
def Lane.outImage (x : Lane) : OutBits := (x.rd32 0x02001004 ++ x.rd32 0x02001000).setWidth 48

/-- In HOLD a lane posts its verdict at the CYCEND of the cycle in which it took the package, and the staging buffer
is released when every lane whose fence latch is clear has posted (R201). -/
def State.holdPost (s : State) (l : LaneId) : State :=
  match (s.lane l).change.pend with
  | none => s
  | some p =>
    match p.verdict, p.posted with
    | some (code, entry), false =>
      let w := verdictWord (packageKind p.bytes) entry.toNat code.toNat
      let n := packageSequence p.bytes
      let s := s.updLane l fun x =>
        let x := x.postSecure [w, n]
        { x with change := { x.change with pend := some { p with posted := true } } }
      let s := s.recL l .changeVerdict [w, n]
      if s.servingLanes.all (fun k => ((s.lane k).change.pend.map (·.posted)).getD false) then
        let s := s.mapLanes (fun x => { x with change := { x.change with pend := none } })
        { s with chg := { s.chg with busy := false } }
      else s
    | _, _ => s

/-- The results of a lane's cycle discarded: nothing latched, nothing handed over, no signature (R98, R152). -/
def Lane.loseCycle (x : Lane) : Lane :=
  { x with
    engine := { x.engine with queue := [], digests := [] }
    cyc := { x.cyc with lost := true, enables := none, handed := none, initCalls := none } }

/-- A trap that ends an INIT call: RUN_REFUSED with the number of its pack (R119). -/
def State.initTrapped (s : State) (l : LaneId) : State :=
  match (s.lane l).cyc.initCalls with
  | some (p :: _) => s.recL l .runRefused [place p 0]
  | _ => s

/-- Trap 0x07 (R153) with the handling of R98; `tpc` is the next instruction. -/
def State.budgetTrap (s : State) (l : LaneId) (tpc : Word) : State :=
  let s := s.initTrapped l
  let s := s.updLane l fun x =>
    let x := { x with core := x.core.trapEntry 0x07 true false 0 0 tpc }
    let x := x.loseCycle
    { x with tb := { x.tb with overrun := satInc x.tb.overrun } }
  (s.endCore l 0).recL l .cycleOverrun [place l.num 0]

/-- The budget limit is armed for a lane: its application runs in a cycle of its own (R98, R203). -/
def State.budgetArmed (s : State) (l : LaneId) : Bool :=
  (s.lane l).tb.phase = .evaluation && !(s.lane l).cyc.done && s.md.mode ≠ .hold &&
    (s.md.step = .evaluation || s.md.mode = .split)

/-- Element checks that a route counts for in R72: the larger of its references and its marked words. -/
def Lane.checksOf (x : Lane) (r : Nat) : Nat := max (x.nRefs r) (x.marked r).length

/-- The longest time that a request may take, in units of 1/3 ns (R72). -/
def Lane.requestTime (x : Lane) (q : Word) : Nat :=
  let o := reqObject q
  let ms := x.members o
  match reqKind q with
  | 0x01 => 300 + x.checksOf o * 50
  | 0x02 => 300 + (x.checksOf o + x.nRefs o) * 50
  | 0x04 => 300 + ((x.refs o).filter (fun e => e.seg = reqArg q)).length * 50
  | 0x05 => 300 + x.nRefs o * 50
  | 0x08 => 300 + (ms.map (fun r => (x.checksOf r + x.nRefs r) * 50 + 75)).sum
  | 0x09 => 300 + 75 * ms.length
  | 0x0A => 300 + (ms.map (fun r => x.nRefs r * 50)).sum
  | 0x0B => 350
  | 0x0C => 6000 + ((List.range x.engine.cfgRoutes.toNat).map (fun r => x.checksOf r * 50 + 75)).sum +
      120 * x.engine.cfgChains.toNat
  | _ => 375

/-- The longest time that the pending requests of a lane may take, in 10 ns (R72). -/
def Lane.drainTime (x : Lane) : Nat :=
  ((x.engine.queue.filter (fun e => e.result.isNone)).map (fun e => x.requestTime e.request)).sum / 30

/-- A CYCEND that waits for the engine does not complete step 5 by the budget limit (R161): the time that the engine
takes is a free value within the bound of R72. -/
def State.cycendLate (s : State) (l : LaneId) : Bool :=
  s.budgetArmed l && 0 < (s.lane l).pendingCount &&
    decide ((s.budgetLeft (s.lane l)).toNat ≤
      (Config.freeWord s.freeCtr).toNat % ((s.lane l).drainTime + 1))

/-- CYCEND, steps 2 to 6 (R100, R173); in HOLD steps 2 to 5 with their results discarded (R205). A CYCEND that the
budget limit catches before its step 5 is abandoned (R161). -/
def State.endCycle (s : State) (l : LaneId) : State :=
  s.descParity l fun s =>
  if s.cycendLate l then { s with freeCtr := s.freeCtr + 1 }.budgetTrap l (s.lane l).core.pc
  else
  let left := s.budgetLeft (s.lane l)
  let n := (s.lane l).core.cvCycle
  let s := s.closeEngine l
  if s.md.mode = .hold then ((s.recCoded l n).holdPost l).endCore l 5
  else
    let s := s.updLane l fun x =>
      { x with
        cyc := { x.cyc with enables := some x.outImage, handed := some x.staged }
        tb := { x.tb with cycendMin := if left < x.tb.cycendMin then left else x.tb.cycendMin } }
    (s.closeSignature l).endCore l 5

/-- A lane's core halted for the debugger (R204). -/
def Lane.debugStop (x : Lane) (reason : BitVec 3) : Lane :=
  { x with
    core := { x.core with run := .debug }
    blk := { x.blk with dbgReason := reason, dbgDone := true, dbgSteps := none } }

/-- A lane fault (R152): the cycle is lost and RUNTIME_TRAP recorded; in HOLD the lane halts for the debugger
(R205); in STARTUP_TEST it fails the test (R451). -/
def State.laneFault (s : State) (l : LaneId) : State :=
  if s.md.mode = .hold then s.updLane l (·.debugStop 4)
  else
    let c := (s.lane l).core
    let s := s.initTrapped l
    let s := (s.updLane l Lane.loseCycle).endCore l 4
    let s := s.recL l .runtimeTrap [c.tcause, c.tpc, c.tval]
    if s.md.mode = .startupTest then s.safeStop .lane (codeOf .runtimeTrap |>.setWidth 16) else s

/-- A double trap (R152): the core halts at once, and the other lanes record it; in HOLD it is reported to the
debugger (R205). -/
def State.doubleTrap (s : State) (l : LaneId) : State :=
  if s.md.mode = .hold then s.updLane l (·.debugStop 4)
  else
    let s := s.initTrapped l
    let s := s.updLane l fun x =>
      let x := x.loseCycle
      { x with core := { x.core with run := .stopped } }
    [l.next, l.prev].foldl (fun s k =>
      if s.serves k then s.recL k .laneDoubleTrap [place l.num 0] else s) s

/-- STACK_TOP of the station header (R34, R97). -/
def Lane.stackTop (x : Lane) : Word := x.rd32 0x00800020

/-- The registers of R97 at an application entry: all zero but g30. -/
def entryRegs (stack : Word) : Vector Word 32 := (Vector.replicate 32 0).set 30 stack

/-- The core at application level at an address with the registers of R97; write-protect window 0 is enabled over the
output image page (R157). -/
def Lane.enterAt (x : Lane) (pc : Word) : Lane :=
  { x with core := { x.core with
      g := entryRegs x.stackTop, badReg := [], pc := pc, priv := false, intrap := false, ah := false, run := .running
      wpbase := x.core.wpbase.set 0 0x02001001, wplim := x.core.wplim.set 0 0x02001000
      packStack := [], pack := none } }

/-- The output image written to 0 before the application starts (R163). -/
def Lane.clearOutputs (x : Lane) : Lane := (x.wr32 0x02001000 0).wr32 0x02001004 0

/-- The application started at its cycle entry address (R97). -/
def Lane.enterApp (x : Lane) : Lane :=
  let x := x.enterAt (x.rd32 0x04)
  { x with cyc := { x.cyc with app := true } }

/-- Address that an INIT call of the runtime returns to: no code stands there; RPRET at depth 1 ends the call. -/
def initReturn : Word := 0

/-- The INIT function of a pack called at application level (R63, R119). -/
def Lane.enterInit (x : Lane) (p : Nat) : Lane :=
  let entries := (x.rd32 (packAddr p + 0x14)).toNat
  let x := x.enterAt (x.rd32 entries)
  { x with core := { x.core with packStack := [(initReturn, none)], pack := some p } }

/-- RUN_REFUSED with the number of the pack; the edge or token is consumed (R119). -/
def State.refuseRun (s : State) (l : LaneId) (p : Nat) : State :=
  let s := s.updLane l (fun x => { x with cyc := { x.cyc with initCalls := none } })
  s.recJoint l .runRefused [place p 0]

/-- The application trap handler entered (R150). -/
def Lane.enterHandler (x : Lane) : Lane :=
  let c := x.core.noPacks
  let c := (((c.set 1 c.tcause).set 2 c.tpc).set 3 c.tval).set 30 x.stackTop
  { x with core := { c with pc := c.ahvec, priv := false, intrap := false, ah := true } }

/-- An application trap that the application does not handle (R150 item 3). -/
def State.unhandled (s : State) (l : LaneId) : State :=
  if s.md.mode = .hold then s.updLane l (·.debugStop 4)
  else
    s.descParity l fun s =>
    let s := s.updLane l fun x =>
      { x with cyc := { x.cyc with marker := true, enables := some 0, handed := some [] } }
    let s := (s.feed l 0xDEAD0A11).closeEngine l
    (s.closeSignature l).endCore l 4

/-- What the runtime does with an application trap after the entry (R150); in an INIT call the request is refused
first (R119). -/
def State.appTrapped (s : State) (l : LaneId) (num : Nat) (ah : Bool) : State :=
  let s := match (s.lane l).cyc.initCalls with
    | some (p :: _) => s.refuseRun l p
    | _ => s
  let c := (s.lane l).core
  let s := s.updLane l (fun x => x.feedAll s.md.mode [c.tcause, c.tpc, c.tval])
  if c.amask.getLsbD num && !ah then s.updLane l Lane.enterHandler else s.unhandled l

/-- A synchronous trap of a lane (R148, R149): `x` is the sub-op of an X-format instruction. -/
def State.trap (s : State) (l : LaneId) (num : Nat) (x : Option Nat) (tval : Word) : State :=
  let c := (s.lane l).core
  if c.intrap then s.doubleTrap l
  else
    let again : Bool := s.injected 0x05 (some l)
    let s := if again then s.fire else s
    let t := s.updLane l fun y => { y with core := c.trapEntry num false x.isSome (x.getD 0) tval c.pc }
    if again then t.doubleTrap l
    else if c.priv || num = 0x04 then t.laneFault l
    else if num = 0x0B then t.updLane l (·.debugStop 3)
    else t.appTrapped l num c.ah

/-- The instruction that has been executed retires: the next pc, and one more instruction retired at application
level (R128 INSTRET). -/
def Core.retire (c : Core) (app : Bool) (pc : Word) : Core :=
  { c with pc := pc, instret := if app then c.instret + 1 else c.instret }

/-- The word of an instruction, as TVAL reports it (R147). -/
def instrWord (i : Instr) : Word := (encode i).getD 0

/-- An instruction has ended: in HOLD the count of a STEP falls, and the core halts at its end (R204). -/
def Lane.counted (x : Lane) : Lane :=
  match x.core.run, x.blk.dbgSteps with
  | .running, some 0 => x.debugStop 1
  | .running, some 1 => x.debugStop 2
  | .running, some (n + 2) => { x with blk := { x.blk with dbgSteps := some (n + 1) } }
  | _, _ => x

/-- A word that spells no instruction is fetched (R135, R154): trap 0x01 with the word in TVAL; an X word names its sub-op
in TCAUSE. -/
def State.illegal (s : State) (l : LaneId) (w : Word) : State :=
  s.trap l 0x01 (if w.toNat / 2 ^ 26 = 0x3E then some (w.toNat % 2048) else none) w

/-- The debugger's count after an instruction (R204). -/
def State.counted (s : State) (l : LaneId) : State := if s.md.mode = .hold then s.updLane l Lane.counted else s

/-- An instruction begins on a lane's core (R148 items 1 and 2, R142): nothing happens unless the core executes
instructions; the fetch is checked, then the encoding, then the privilege of the instruction. -/
def State.begin (s : State) (l : LaneId) (i : Instr) (rt : Bool) (x : Option Nat) (body : State → State) : State :=
  let y := s.lane l
  let pc := y.core.pc
  match y.core.run with
  | .running =>
    (if !y.fetchable pc.toNat then s.trap l 0x03 none pc
     else if pc.toNat < storeTop && y.parityBad pc.toNat 4 then s.trap l 0x04 none pc
     else if !i.wellFormed then s.trap l 0x01 x (instrWord i)
     else if rt && !y.core.priv then s.trap l 0x06 x (instrWord i)
     else body s).counted l
  | _ => s

/-- The parity of source registers checked before the rest of an instruction (R125, R147). -/
def State.sources (s : State) (l : LaneId) (rs : List Reg) (x : Option Nat) (body : State → State) : State :=
  let hit : Bool := s.injected 0x00 (some l) && rs.any (fun r => r.val ≠ 0 && r.val = s.injParam)
  let value (r : Nat) : Word := 0xFFFFFF00 ||| BitVec.ofNat 32 r
  match (s.lane l).core.badSource rs with
  | some r => s.trap l 0x04 x (value r.val)
  | none => if hit then (s.fire).trap l 0x04 x (value s.injParam) else body s

/-- The core of a lane changed. -/
def State.updCore (s : State) (l : LaneId) (f : Core → Core) : State :=
  s.updLane l (fun x => { x with core := f x.core })

/-- The present instruction completes with a change of the core and the next pc in sequence. -/
def State.finish (s : State) (l : LaneId) (f : Core → Core) : State :=
  s.updCore l (fun c => (f c).retire (!c.priv) (c.pc + 4))

/-- An instruction that computes a register from source registers alone (R138 to R140, R144). -/
def State.compute (s : State) (l : LaneId) (i : Instr) (d : Reg) (rs : List Reg) (f : Core → Word) : State :=
  s.begin l i false none fun s => s.sources l rs none fun s => s.finish l (fun c => c.set d (f c))

/-- A value stored into a general register at the end of an instruction that may have changed other state. -/
def State.finishSet (s : State) (l : LaneId) (d : Reg) (w : Word) : State := s.finish l (fun c => c.set d w)

/-- Control passes to a target (R142, R146): the present instruction retires there. -/
def State.jumpTo (s : State) (l : LaneId) (f : Core → Core) (pc : Word) : State :=
  s.updCore l (fun c => (f c).retire (!c.priv) pc)

end Sys2Proof.Machine
end

