-- ==== Sys2Proof/Machine/RouteRows.lean ====
section
/-! DEFINITION. The route engine carries out requests on its own (R69), and what its control register does
(R74 to R83). -/

namespace Sys2Proof.Machine

/-- The engine of a lane completes its oldest pending request where that is of a kind (R66, R69). -/
def State.engineDo (s : State) (l : LaneId) (kind : Nat) : State :=
  match splitPending (s.lane l).engine.queue with
  | some (_, q, _) =>
    if reqKind q ≠ kind then s
    else s.descParity l fun s =>
      if s.requestHit l then s.spoilRequest l
      else { s.updLane l (fun x => x.engineStep s.md.mode (Config.freeWord s.freeCtr)) with freeCtr := s.freeCtr + 1 }
  | none => s

/-- CHECK: the result carries the classes of the route (R66): the oldest pending request of the lane's engine is carried out. -/
def execCheck (l : LaneId) (s : State) : Host.Outcome State Fault Refusal := ok (s.engineDo l 0x01)

/-- SET: an AVAILABLE route becomes SET (R53) (R66): the oldest pending request of the lane's engine is carried out. -/
def execSet (l : LaneId) (s : State) : Host.Outcome State Fault Refusal := ok (s.engineDo l 0x02)

/-- CANCEL: the route becomes RELEASING (R66): the oldest pending request of the lane's engine is carried out. -/
def execCancel (l : LaneId) (s : State) : Host.Outcome State Fault Refusal := ok (s.engineDo l 0x03)

/-- RELEASE_SEGMENT (R53) (R66): the oldest pending request of the lane's engine is carried out. -/
def execReleaseSegment (l : LaneId) (s : State) : Host.Outcome State Fault Refusal := ok (s.engineDo l 0x04)

/-- RELEASE (R53) (R66): the oldest pending request of the lane's engine is carried out. -/
def execRelease (l : LaneId) (s : State) : Host.Outcome State Fault Refusal := ok (s.engineDo l 0x05)

/-- BLOCK (R66): the oldest pending request of the lane's engine is carried out. -/
def execBlock (l : LaneId) (s : State) : Host.Outcome State Fault Refusal := ok (s.engineDo l 0x06)

/-- UNBLOCK (R66): the oldest pending request of the lane's engine is carried out. -/
def execUnblock (l : LaneId) (s : State) : Host.Outcome State Fault Refusal := ok (s.engineDo l 0x07)

/-- CHAIN_SET (R56) (R66): the oldest pending request of the lane's engine is carried out. -/
def execChainSet (l : LaneId) (s : State) : Host.Outcome State Fault Refusal := ok (s.engineDo l 0x08)

/-- CHAIN_CANCEL (R56) (R66): the oldest pending request of the lane's engine is carried out. -/
def execChainCancel (l : LaneId) (s : State) : Host.Outcome State Fault Refusal := ok (s.engineDo l 0x09)

/-- CHAIN_RELEASE (R56) (R66): the oldest pending request of the lane's engine is carried out. -/
def execChainRelease (l : LaneId) (s : State) : Host.Outcome State Fault Refusal := ok (s.engineDo l 0x0A)

/-- MOVE (R66): the oldest pending request of the lane's engine is carried out. -/
def execMove (l : LaneId) (s : State) : Host.Outcome State Fault Refusal := ok (s.engineDo l 0x0B)

/-- SWEEP (R58) (R66): the oldest pending request of the lane's engine is carried out. -/
def execSweep (l : LaneId) (s : State) : Host.Outcome State Fault Refusal := ok (s.engineDo l 0x0C)

/-- A chain in SET beyond its lock limit is rolled back (R56, R58); the members' records must be usable (log 82). -/
def execChainRollback (l : LaneId) (chain : BitVec 10) (s : State) : Host.Outcome State Fault Refusal :=
  let x := s.lane l
  let c := chain.toNat
  ok (if c < x.engine.cfgChains.toNat && x.chainFault c = 0 && x.limitPassed c &&
      (x.badMember (x.members c) 0).isNone then s.updLane l (fun x => x.rollback c) else s)

/-- A write through a view whose level does not reach the register: at application level it traps with privilege
(R74, R109); the service view is read-only. -/
def State.denyWrite (s : State) (v : View) (addr : Nat) : State :=
  match v with
  | .app l =>
    match (s.lane l).core.run with
    | .running => if (s.lane l).core.priv then s else s.trap l 0x06 none (BitVec.ofNat 32 addr)
    | _ => s
  | _ => s

/-- ROUTE_CFG0 and ROUTE_CFG1 are within their limits (R77, R80). -/
def Engine.countsFit (g : Engine) : Bool :=
  g.cfgElements.toNat ≤ 16384 && g.cfgRoutes.toNat ≤ 8192 && g.cfgChains.toNat ≤ 1024

/-- ROUTE_CTRL.ENABLE written (R77). The spec does not say what writing 1 while an INIT is in progress does: the engine
is enabled at once, and the tables start afresh when the INIT completes (log 82, DESIGN CHOICE). -/
def State.engineEnable (s : State) (l : LaneId) (on : Bool) : State :=
  let x := s.lane l
  if on then
    if x.engine.countsFit then s.updLane l (fun x => x.eng (fun g => { g with enable := true }))
    else s.updLane l (fun x => if x.engine.enable then x else x.engErr 6 0)
  else if 0 < x.pendingCount then
    let y := x.engineStep s.md.mode (Config.freeWord s.freeCtr)
    let kept := match splitPending x.engine.queue with
      | some (before, _, _) => (y.engine.queue.drop before.length).take 1
      | none => []
    { s.setLane l (y.eng (fun g => { g with enable := false, queue := kept })) with freeCtr := s.freeCtr + 1 }
  else s.updLane l (fun x => x.eng (fun g => { g with enable := false }))

/-- ROUTE_CTRL written (R77): INIT and QCLEAR act while ENABLE is 0. -/
def State.writeRouteCtrl (s : State) (l : LaneId) (w : Word) : State :=
  let s := if (s.lane l).engine.enable then s
    else s.updLane l (fun x => x.eng (fun g => { g with
      initBusy := g.initBusy || bitN w 1, queue := if bitN w 2 then [] else g.queue }))
  if bitN w 0 = (s.lane l).engine.enable then s else s.engineEnable l (bitN w 0)

/-- A register of ROUTE written at runtime level (R75 to R83). -/
def State.writeRoute (s : State) (l : LaneId) (off : Nat) (w : Word) : State :=
  match off with
  | 0x004 => s.writeRouteCtrl l w
  | 0x00C => s.updLane l (fun x => if x.engine.enable then x else x.eng (fun g =>
      { g with cfgElements := w.setWidth 15, cfgRoutes := (w >>> 16).setWidth 14 }))
  | 0x010 => s.updLane l (fun x => if x.engine.enable then x else x.eng (fun g => { g with cfgChains := w.setWidth 11 }))
  | 0x014 => s.updLane l (fun x => x.eng (fun g => { g with
      err := g.err &&& ~~~w }))
  | _ => s

/-- ROUTE_STATUS (R79). -/
def State.routeStatus (s : State) (l : LaneId) : Word :=
  let x := s.lane l
  let sweeping := match splitPending x.engine.queue with
    | some (_, q, _) => reqKind q = 0x0C
    | none => false
  flag x.engineBusy 0 ||| flag sweeping 1 ||| flag (s.md.role = .oc) 2 ||| flag x.engine.enable 3 |||
    place x.engine.queue.length 8 ||| place (x.engine.queue.length - x.pendingCount) 16

/-- A register of ROUTE read (R75 to R83). -/
def State.readRoute (s : State) (l : LaneId) (off : Nat) : Word :=
  let g := (s.lane l).engine
  match off with
  | 0x000 => 0x00090002
  | 0x004 => flag g.enable 0
  | 0x008 => s.routeStatus l
  | 0x00C => place g.cfgElements.toNat 0 ||| place g.cfgRoutes.toNat 16
  | 0x010 => place g.cfgChains.toNat 0
  | 0x014 => g.err
  | 0x018 => g.errInfo
  | 0x01C => g.sweepCycle
  | 0x020 => g.sweepDigest
  | 0x024 => g.sweepChecks
  | 0x028 => g.sweepTime
  | 0x02C => g.sweepMax
  | 0x030 => g.reqCount
  | 0x034 => g.refusedCount
  | 0x038 => g.codedCount
  | _ =>
    if 0x100 ≤ off && off < 0x200 then
      match g.queue[(off - 0x100) / 4]? with
      | some e => e.result.getD e.request
      | none => 0
    else 0

/-- What a read through the lane's own view clears (R8, R83). -/
def State.clearRoute (s : State) (l : LaneId) (off : Nat) : State :=
  s.updLane l fun x => x.eng fun g =>
    match off with
    | 0x02C => { g with sweepMax := 0 }
    | 0x030 => { g with reqCount := 0 }
    | 0x034 => { g with refusedCount := 0 }
    | 0x038 => { g with codedCount := 0 }
    | _ => g

/-- ROUTE_CTRL.ENABLE written through a view (R74, R77). -/
def execRouteEnable (v : View) (enable : Bool) (s : State) : Host.Outcome State Fault Refusal :=
  ok (match v with
    | .runtime l => s.engineEnable l enable
    | v => s.denyWrite v 0xF0002004)

/-- ROUTE_CTRL.INIT written through a view (R74, R77). -/
def execRouteInit (v : View) (s : State) : Host.Outcome State Fault Refusal :=
  ok (match v with
    | .runtime l => s.updLane l (fun x =>
        if x.engine.enable then x else x.eng (fun g => { g with initBusy := true }))
    | v => s.denyWrite v 0xF0002004)

/-- The initialisation completes: the engine-owned tables start afresh and BUSY clears (R78). -/
def execRouteInitDone (l : LaneId) (s : State) : Host.Outcome State Fault Refusal :=
  ok (if (s.lane l).engine.initBusy then
      s.updLane l (fun x => x.engineInit.eng (fun g => { g with initBusy := false }))
    else s)

/-- ROUTE_CTRL.QCLEAR written through a view (R74, R77). -/
def execQclear (v : View) (s : State) : Host.Outcome State Fault Refusal :=
  ok (match v with
    | .runtime l => s.updLane l (fun x => if x.engine.enable then x else x.eng (fun g => { g with queue := [] }))
    | v => s.denyWrite v 0xF0002004)

end Sys2Proof.Machine
end

