-- ==== Sys2Proof/Machine/Cvu.lean ====
section
/-! DEFINITION. The check-value units of a lane (chapter 11). -/

namespace Sys2Proof.Machine

/-- WIDTH (R348). -/
def Cvu.width (k : Cvu) : Nat := fieldN k.ctrl 0 7

/-- REFLECT (R348). -/
def Cvu.reflect (k : Cvu) : Bool := bitN k.ctrl 8

/-- ORDER (R348). -/
def Cvu.order (k : Cvu) : Bool := bitN k.ctrl 9

/-- MODE (R348). -/
def Cvu.mode (k : Cvu) : Nat := fieldN k.ctrl 12 2

/-- The mask of WIDTH bits, computed in 65 bits (R339). -/
def cvuMask (w : Nat) : DWord := BitVec.ofNat 64 (2 ^ min w 64 - 1)

/-- The bit reversal of a value over `w` bits (R339). -/
def revBits (x : DWord) (w : Nat) : DWord := x.reverse >>> (64 - min w 64)

/-- One bit of a byte step (R339). -/
def Cvu.bitStep (k : Cvu) (s : DWord) (b : Bool) : DWord :=
  if k.reflect then
    let t := s >>> 1
    if (s.getLsbD 0 != b) then t ^^^ revBits k.poly k.width else t
  else
    let t := (s <<< 1) &&& cvuMask k.width
    if (s.getLsbD (k.width - 1) != b) then t ^^^ k.poly else t

/-- A byte step (R339). -/
def Cvu.byteStep (k : Cvu) (s : DWord) (x : Byte) : DWord :=
  (List.range 8).foldl (fun s i => k.bitStep s (x.getLsbD (if k.reflect then i else 7 - i))) s

/-- One byte fed: in check-strip mode it enters the strip line, and the oldest byte of a full line enters s (R340,
R342). -/
def Cvu.feedByte (k : Cvu) (x : Byte) : Cvu :=
  let k := { k with count := satInc k.count }
  if k.mode = 2 then
    let line := k.strip ++ [x]
    if line.length ≤ k.width / 8 then { k with strip := line }
    else { k with strip := line.drop 1, value := k.byteStep k.value (line.headD 0) }
  else { k with value := k.byteStep k.value x }

/-- An action in the wrong state (R337). -/
def Cvu.orderErr (k : Cvu) : Cvu := { k with err := k.err ||| 2 }

/-- A feed of `n` bytes of a word (R337, R340). -/
def Cvu.feed (k : Cvu) (n : Nat) (w : Word) : Cvu :=
  if k.state = 1 || (k.state = 2 && k.mode = 0) then
    ((wordBytes w).take n).foldl Cvu.feedByte { k with state := 1, check := 0 }
  else k.orderErr

/-- START is valid (R338). -/
def Cvu.startOk (k : Cvu) : Bool :=
  1 ≤ k.width && k.width ≤ 64 && k.mode ≠ 3 && (k.mode = 0 || k.width % 8 = 0) &&
    (k.poly ||| k.init ||| k.xor) &&& ~~~ cvuMask k.width = 0

/-- START (R337, R338). -/
def Cvu.start (k : Cvu) : Cvu :=
  if k.state ≠ 0 then k.orderErr
  else if k.startOk then { k with value := k.init, count := 0, strip := [], state := 1, check := 0 }
  else { k with err := k.err ||| 1 }

/-- The bytes of a value in ORDER, as a number in the layout of OUT (R342). -/
def Cvu.ordered (k : Cvu) (bs : List Byte) : DWord := BitVec.ofNat 64 (leNat (if k.order then bs.reverse else bs))

/-- FINISH (R337, R341). -/
def Cvu.finish (k : Cvu) : Cvu :=
  let r := k.value ^^^ k.xor
  let n := k.width / 8
  if k.state ≠ 1 then k.orderErr
  else
    match k.mode with
    | 0 => { k with state := 2, result := r, out := 0, check := 0 }
    | 1 => { k with state := 2, result := r, out := k.ordered (natLe n r.toNat), check := 0 }
    | _ =>
      if k.count.toNat < n then { k with state := 2, result := 0, out := 0, check := 3 }
      else { k with state := 2, result := r, out := 0, check := if k.ordered k.strip = r then 1 else 2 }

/-- ABORT (R337). -/
def Cvu.abort (k : Cvu) : Cvu := { k with state := 0, check := 0 }

/-- A write to CVU_CMD (R337): of several bits only the first in the order ABORT, START, FINISH acts. -/
def Cvu.command (k : Cvu) (w : Word) : Cvu :=
  let r := if bitN w 2 then k.abort else if bitN w 0 then k.start else if bitN w 1 then k.finish else k
  if 1 < popcount (w &&& 7) then r.orderErr else r

/-- One word of a double word replaced. -/
def putHalf (x : DWord) (high : Bool) (w : Word) : DWord :=
  if high then w ++ x.setWidth 32 else (x >>> 32).setWidth 32 ++ w

/-- One word of a double word. -/
def getHalf (x : DWord) (high : Bool) : Word := if high then (x >>> 32).setWidth 32 else x.setWidth 32

/-- A configuration register written: in IDLE alone (R337). -/
def Cvu.config (k : Cvu) (f : Cvu → Cvu) : Cvu := if k.state = 0 then f k else k.orderErr

/-- CVU_VALUE written (R343). -/
def Cvu.writeValue (k : Cvu) (high : Bool) (w : Word) : Cvu :=
  if k.state = 1 then { k with value := putHalf k.value high w &&& cvuMask k.width } else k.orderErr

/-- CVU_COUNT written; in check-strip mode it sets the occupancy of the strip line (R343). -/
def Cvu.writeCount (k : Cvu) (w : Word) : Cvu :=
  if k.state = 1 then
    let n := min w.toNat (k.width / 8)
    { k with count := w
             strip := if k.mode = 2 then (List.range n).map (fun i => k.strip.getD i 0) else k.strip }
  else k.orderErr

/-- CVU_STRIP written (R343). -/
def Cvu.writeStrip (k : Cvu) (high : Bool) (w : Word) : Cvu :=
  if k.state = 1 then
    let lo := if high then 4 else 0
    { k with strip := k.strip.mapIdx (fun i b => if lo ≤ i && i < lo + 4 then byteOf w (i - lo) else b) }
  else k.orderErr

/-- The strip line in the layout of OUT (R342). -/
def Cvu.stripWord (k : Cvu) : DWord := BitVec.ofNat 64 (leNat k.strip)

/-- CVU_STATUS (R348). -/
def Cvu.status (k : Cvu) : Word := place k.state.toNat 0 ||| place k.check.toNat 4 ||| place k.strip.length 8

/-- A register of a unit read (R344, R347). -/
def Cvu.read (k : Cvu) (off : Nat) : Word :=
  match off with
  | 0x00 => k.ctrl
  | 0x08 => k.status
  | 0x0C => k.err.setWidth 32
  | 0x10 => getHalf k.poly false
  | 0x14 => getHalf k.poly true
  | 0x18 => getHalf k.init false
  | 0x1C => getHalf k.init true
  | 0x20 => getHalf k.xor false
  | 0x24 => getHalf k.xor true
  | 0x28 => getHalf k.value false
  | 0x2C => getHalf k.value true
  | 0x30 => k.count
  | 0x40 => if k.state = 2 then getHalf k.result false else 0
  | 0x44 => if k.state = 2 then getHalf k.result true else 0
  | 0x48 => if k.state = 2 then getHalf k.out false else 0
  | 0x4C => if k.state = 2 then getHalf k.out true else 0
  | 0x50 => if k.state ≠ 0 then getHalf k.stripWord false else 0
  | 0x54 => if k.state ≠ 0 then getHalf k.stripWord true else 0
  | _ => 0

/-- What a read does: a result read outside READY sets EARLY (R344). -/
def Cvu.afterRead (k : Cvu) (off : Nat) : Cvu :=
  if 0x40 ≤ off && off ≤ 0x4C && k.state ≠ 2 then { k with err := k.err ||| 4 } else k

/-- A register of a unit written (R337, R347). -/
def Cvu.write (k : Cvu) (off : Nat) (w : Word) : Cvu :=
  match off with
  | 0x00 => k.config (fun k => { k with ctrl := w &&& 0x0000337F })
  | 0x04 => k.command w
  | 0x0C => { k with err := k.err &&& ~~~ (w.setWidth 3) }
  | 0x10 => k.config (fun k => { k with poly := putHalf k.poly false w })
  | 0x14 => k.config (fun k => { k with poly := putHalf k.poly true w })
  | 0x18 => k.config (fun k => { k with init := putHalf k.init false w })
  | 0x1C => k.config (fun k => { k with init := putHalf k.init true w })
  | 0x20 => k.config (fun k => { k with xor := putHalf k.xor false w })
  | 0x24 => k.config (fun k => { k with xor := putHalf k.xor true w })
  | 0x28 => k.writeValue false w
  | 0x2C => k.writeValue true w
  | 0x30 => k.writeCount w
  | 0x34 => k.feed 1 w
  | 0x38 => k.feed 2 w
  | 0x3C => k.feed 4 w
  | 0x50 => k.writeStrip false w
  | 0x54 => k.writeStrip true w
  | _ => k

/-- A unit of a lane. -/
def Lane.cvuOf (x : Lane) (u : Nat) : Cvu := vget x.cvu u Cvu.zero

/-- A unit of a lane changed. -/
def Lane.updCvu (x : Lane) (u : Nat) (f : Cvu → Cvu) : Lane := { x with cvu := vset x.cvu u (f (x.cvuOf u)) }

/-- The lane of a view whose stores reach the units: the application's and the runtime's (R334, R335). -/
def viewWriter : View → Option LaneId
  | .app l => some l
  | .runtime l => some l
  | .service _ _ => none

/-- The lane of any view. -/
def viewLane : View → LaneId
  | .app l => l
  | .runtime l => l
  | .service l _ => l

/-- A unit written through a view (R335); the service view is read-only (R334). -/
def State.cvuWrite (s : State) (v : View) (u : Nat) (f : Cvu → Cvu) : State :=
  match viewWriter v with
  | some l => s.updLane l (fun x => x.updCvu u f)
  | none => s

/-- The block read at an offset (R334, R347). -/
def State.readCvu (s : State) (l : LaneId) (off : Nat) : Word :=
  if off = 0x800 then 0x00090005 else if off < 0x400 then ((s.lane l).cvuOf (off / 256)).read (off % 256) else 0

/-- START written (R337, R338). -/
def execCvuStart (v : View) (u : Fin 4) (s : State) : Host.Outcome State Fault Refusal :=
  ok (s.cvuWrite v u.val (·.command 1))

/-- FINISH written (R337, R341). -/
def execCvuFinish (v : View) (u : Fin 4) (s : State) : Host.Outcome State Fault Refusal :=
  ok (s.cvuWrite v u.val (·.command 2))

/-- ABORT written (R337). -/
def execCvuAbort (v : View) (u : Fin 4) (s : State) : Host.Outcome State Fault Refusal :=
  ok (s.cvuWrite v u.val (·.command 4))

/-- FEED8 written (R340). -/
def execFeed8 (v : View) (u : Fin 4) (w : Word) (s : State) : Host.Outcome State Fault Refusal :=
  ok (s.cvuWrite v u.val (·.feed 1 w))

/-- FEED16 written (R340). -/
def execFeed16 (v : View) (u : Fin 4) (w : Word) (s : State) : Host.Outcome State Fault Refusal :=
  ok (s.cvuWrite v u.val (·.feed 2 w))

/-- FEED32 written (R340). -/
def execFeed32 (v : View) (u : Fin 4) (w : Word) (s : State) : Host.Outcome State Fault Refusal :=
  ok (s.cvuWrite v u.val (·.feed 4 w))

/-- CVU_VALUE_LO or CVU_VALUE_HI written (R343). -/
def execCvuValue (v : View) (u : Fin 4) (high : Bool) (w : Word) (s : State) : Host.Outcome State Fault Refusal :=
  ok (s.cvuWrite v u.val (·.writeValue high w))

/-- CVU_COUNT written (R343). -/
def execCvuCount (v : View) (u : Fin 4) (w : Word) (s : State) : Host.Outcome State Fault Refusal :=
  ok (s.cvuWrite v u.val (·.writeCount w))

/-- CVU_STRIP_LO or CVU_STRIP_HI written (R343). -/
def execCvuStrip (v : View) (u : Fin 4) (high : Bool) (w : Word) (s : State) : Host.Outcome State Fault Refusal :=
  ok (s.cvuWrite v u.val (·.writeStrip high w))

/-- A result register read (R344): the value goes to readData, and outside READY the flag EARLY is set; a parity
error inside the unit traps the load (R345). -/
def execCvuResult (v : View) (u : Fin 4) (out high : Bool) (s : State) : Host.Outcome State Fault Refusal :=
  let off := 0x40 + (if out then 8 else 0) + (if high then 4 else 0)
  let k := (s.lane (viewLane v)).cvuOf u.val
  match viewWriter v with
  | none => ok { s with readData := k.read off }
  | some l =>
    ok (if k.parity && (s.lane l).core.run = Run.running then
        s.trap l 0x04 none (BitVec.ofNat 32 (0xF0005000 + 256 * u.val + off))
      else { s.cvuWrite v u.val (·.afterRead off) with readData := k.read off })

end Sys2Proof.Machine
end

