-- ==== Sys2Proof/Machine/RecorderRows.lean ====
section
/-! DEFINITION. The recorder's registers and what it does on its own: draining, refills, flushes, compaction, the code
table (R434 to R450). -/

namespace Sys2Proof.Machine

/-- REC_SUB may be committed: reserved bits 0 and the code not one of the recorder's own (R448, R450). -/
def recSubOk (w : Word) : Bool :=
  fieldN w 12 4 = 0 && fieldN w 19 5 = 0 && fieldN w 26 6 = 0 && !(0x7F0 ≤ fieldN w 0 12 && fieldN w 0 12 ≤ 0x7FF)

/-- The record that a view commits (R437, R450). -/
def State.viewRec (s : State) (l : LaneId) (w : Word) : Rec :=
  let v := (s.lane l).recv
  { s.stampRec (w.setWidth 12) ((w >>> 16).setWidth 3) (BitVec.ofNat 4 (1 + l.num)) with
    app := bitN w 24, agreed := bitN w 25, p0 := v.p0, p1 := v.p1, p2 := v.p2, p3 := v.p3 }

/-- REC_SUB written at runtime level (R437, R448). -/
def State.recCommit (s : State) (l : LaneId) (w : Word) : State :=
  if recSubOk w then
    let r := s.submit (s.viewRec l w)
    r.1.updLane l (fun x => { x with recv := { x.recv with result := r.2 } })
  else s.updLane l (fun x => { x with recv := { x.recv with result := 0 } })

/-- An entry of the code table applied: the summary of pending suppressions, then a full bucket (R434). -/
def State.applyEntry (s : State) (c : Nat) (w : Word) : State :=
  let s := (s.putSummary c (s.recorder.bucket c)).1
  { s with recorder := { s.recorder with table := aset c w s.recorder.table, buckets := aerase c s.recorder.buckets } }

/-- REC_CT_DATA written at runtime level while LANE_MODE is 2 (R434, R448): applied once two views offer one value, in
SPLIT at once. -/
def State.recOffer (s : State) (l : LaneId) (w : Word) : State :=
  if s.laneMode l ≠ 2 then s
  else
    let c := (s.lane l).recv.ctIndex.toNat
    let s := s.updLane l (fun x => { x with recv := { x.recv with offers := aset c w x.recv.offers } })
    let alike := (LaneId.list.filter (fun k => alook c (s.lane k).recv.offers = some w)).length
    if s.md.role = .split || 2 ≤ alike then s.applyEntry c w else s

/-- REC_CMD written (R440, R450). -/
def State.recCommand (s : State) (w : Word) : State :=
  if fieldN w 8 8 = 0x9E && bitN w 0 then s.flushTrigger 4 else s

/-- A register of RECORD written at runtime level. -/
def State.writeRec (s : State) (l : LaneId) (off : Nat) (w : Word) : State :=
  let v (f : RecView → RecView) : State := s.updLane l (fun x => { x with recv := f x.recv })
  match off with
  | 0x010 => v (fun r => { r with p0 := w })
  | 0x014 => v (fun r => { r with p1 := w })
  | 0x018 => v (fun r => { r with p2 := w })
  | 0x01C => v (fun r => { r with p3 := w })
  | 0x020 => s.recCommit l w
  | 0x028 => s.recCommand w
  | 0x040 => if s.laneMode l = 2 then v (fun r => { r with ctIndex := w.setWidth 12 }) else s
  | 0x044 => s.recOffer l w
  | _ => s

/-- Four lost counts in one word (R450). -/
def Recorder.lostBytes (r : Recorder) (i : Nat) : Word :=
  (List.range 4).foldl (fun n j => n ||| place (vget r.lost (i + j) 0).toNat (8 * j)) 0

/-- A register of RECORD read (R449, R450). -/
def State.readRec (s : State) (l : LaneId) (off : Nat) : Word :=
  let r := s.recorder
  let v := (s.lane l).recv
  match off with
  | 0x000 => 0x00090009
  | 0x004 => flag (4096 ≤ r.table.length) 0 ||| flag r.flushing.isSome 1 ||| flag r.logFull 2 ||| flag r.logFault 3 |||
      flag (r.erased < 8320) 4
  | 0x008 => place r.buffer.length 0 ||| place r.fifo.length 16
  | 0x00C => place r.log.length 0 ||| place (min 2047 (r.erased / 512)) 21
  | 0x010 => v.p0
  | 0x014 => v.p1
  | 0x018 => v.p2
  | 0x01C => v.p3
  | 0x024 => v.result.setWidth 32
  | 0x02C => r.lostBytes 0
  | 0x030 => r.lostBytes 4
  | 0x034 => r.suppressed
  | 0x038 => r.dropped
  | 0x03C => r.flushCount.setWidth 32 ||| place r.flushReason.toNat 16 ||| place r.flushWritten.toNat 19
  | 0x040 => v.ctIndex.setWidth 32
  | 0x044 => r.entry v.ctIndex.toNat
  | _ => 0

/-- A record committed through REC_SUB of a view (R437, R448). -/
def execRecSub (v : View) (w : Word) (s : State) : Host.Outcome State Fault Refusal :=
  ok (match v with
    | .runtime l => s.recCommit l w
    | v => s.denyWrite v 0xF0009020)

/-- The oldest record leaves the FIFO for the volatile buffer (R438, R439). -/
def execFifoDrain (s : State) : Host.Outcome State Fault Refusal := ok s.drainOne

/-- The next refill instant of a bucket that is not full, in operating time (R435). -/
def Recorder.nextRefill (r : Recorder) (c : Nat) : Option Nat :=
  let e := r.entry c
  let b := r.bucket c
  if entryDepth e = 0 || entryDepth e ≤ b.tokens then none
  else some (b.refillStart + (b.refills + 1) * (entryPeriod e * 10000000))

/-- The refill instant of a bucket: one token, with the summary of what was suppressed (R435, R436). -/
def execBucketRefill (code : BitVec 12) (s : State) : Host.Outcome State Fault Refusal :=
  ok (match s.recorder.nextRefill code.toNat with
    | none => s
    | some t => (s.passTime (t - s.guard.optime)).refill code.toNat)

/-- REC_CMD written through a view (R440, R448). -/
def execFlush (v : View) (w : Word) (s : State) : Host.Outcome State Fault Refusal :=
  ok (match v with
    | .runtime _ => s.recCommand w
    | v => s.denyWrite v 0xF0009028)

/-- A trigger whose condition holds starts its flush (R440). -/
def execFlushStart (s : State) : Host.Outcome State Fault Refusal :=
  ok (match s.recorder.flushing, s.recorder.trigger with
    | none, some r =>
      if s.recorder.mayStart r then { s with recorder := { s.recorder with flushing := some r, trigger := none } } else s
    | _, _ => s)

/-- The records that a flush writes: those of the buffer, and for POWER_FAIL those of the FIFO after them (R440);
the number tells how many were written. -/
def State.flushRun (s : State) (fifoToo : Bool) : Nat → State × Nat
  | 0 => s.flushAll s.recorder.buffer.length
  | n + 1 =>
    let r := s.flushAll s.recorder.buffer.length
    if !fifoToo || r.1.recorder.fifo = [] then r
    else
      let t := r.1.drainOne.flushRun fifoToo n
      (t.1, r.2 + t.2)

/-- The running flush ends (R440 to R446): places that failed to program are deleted, the records are written, and
the registers report the flush; in POWER_FAIL the operating time is saved again (R360, R372). -/
def State.flushEnd (s : State) (failed : Nat) : State :=
  match s.recorder.flushing with
  | none => s
  | some reason =>
    let s := s.failPlaces failed
    let r := if s.recorder.logFault then (s, 0) else s.flushRun (reason = 1) (s.recorder.fifo.length)
    let s := if r.1.md.mode = .powerFail then { r.1 with guard := { r.1.guard with optimeSaved := r.1.guard.optime } } else r.1
    { s with recorder := { r.1.recorder with
        flushing := none, trigger := none, flushCount := satInc r.1.recorder.flushCount, flushReason := reason
        flushWritten := BitVec.ofNat 13 (min r.2 8191)
        savedWritten := if reason = 1 then r.2 else r.1.recorder.savedWritten } }

/-- The running flush ends (R440); the injection LOG_PROGRAM has one place more fail to program (R463). -/
def execFlushDone (failedPlaces : Nat) (s : State) : Host.Outcome State Fault Refusal :=
  ok (if s.recorder.flushing.isSome && s.injected 0x3F none then s.fire.flushEnd (failedPlaces + 1)
    else s.flushEnd failedPlaces)

/-- A compaction frees the deleted places of a block with the most of them (R444). How many the block holds is a free
value within what the count of all blocks allows. -/
def execCompaction (s : State) : Host.Outcome State Fault Refusal :=
  let r := s.recorder
  let lo := (r.deleted + 255) / 256
  let n := lo + (Config.freeWord s.freeCtr).toNat % (min 4096 r.deleted - lo + 1)
  ok (if r.flushing.isSome || r.deleted = 0 || r.logFault then s
    else { s with recorder := { r with deleted := r.deleted - n }, freeCtr := s.freeCtr + 1 })

/-- REC_CT_DATA written through a view (R434, R448). -/
def execRecCtData (v : View) (w : Word) (s : State) : Host.Outcome State Fault Refusal :=
  ok (match v with
    | .runtime l => s.recOffer l w
    | v => s.denyWrite v 0xF0009044)

end Sys2Proof.Machine
end

