-- ==== Sys2Proof/Machine/Mailbox.lean ====
section
/-! DEFINITION. Mailbox channels, doorbells, the staging buffer for change packages, and the SEMA locks (R413 to
R427). -/

namespace Sys2Proof.Machine

/-- A channel of a lane. -/
def Lane.chan (x : Lane) : Channel → Chan
  | .secure => x.mbSec
  | .nonSecure => x.mbNon

/-- A channel of a lane changed. -/
def Lane.updChan (x : Lane) (ch : Channel) (f : Chan → Chan) : Lane :=
  match ch with
  | .secure => { x with mbSec := f x.mbSec }
  | .nonSecure => { x with mbNon := f x.mbNon }

/-- A channel raises the lane's mailbox event: a visible inbound word, an unmasked doorbell, EMPTY_EVT or STALL
(R417). -/
def Chan.event (c : Chan) : Bool := c.inq ≠ [] || c.dbLane &&& c.maskLane ≠ 0 || c.errLane &&& 0x0C ≠ 0

/-- EVENTS.MBOX brought up to date (R128, R417). -/
def Lane.mboxEvent (x : Lane) : Lane :=
  let e := x.mbSec.event || x.mbNon.event
  { x with core := { x.core with events := if e then x.core.events ||| 1 else x.core.events &&& 0xFE } }

/-- A channel changed, and the lane's event with it. -/
def State.onChan (s : State) (l : LaneId) (ch : Channel) (f : Chan → Chan) : State :=
  s.updLane l (fun x => (x.updChan ch f).mboxEvent)

/-- The service processor's word for a lane: pending on the secure channel until the next cycle start (R414, R415). -/
def Chan.svcPost (c : Chan) (pend : Bool) (w : Word) : Chan :=
  if c.inq.length + c.hidden.length < 8 then
    if pend then { c with hidden := c.hidden ++ [w] } else { c with inq := c.inq ++ [w] }
  else { c with errSvc := c.errSvc ||| 1, refFullSvc := satInc c.refFullSvc }

/-- A lane reads MB_IN: the word and the channel after it (R414, R417). -/
def Chan.laneTake (c : Chan) : Word × Chan :=
  match c.inq with
  | [] => (0, { c with errLane := c.errLane ||| 2, refEmptyLane := satInc c.refEmptyLane })
  | w :: r =>
    let c := { c with inq := r }
    (w, if r = [] && c.hidden = [] && c.emptySvc then { c with errSvc := c.errSvc ||| 4, emptySvc := false } else c)

/-- The service processor reads MB_IN (R414, R417). -/
def Chan.svcTake (c : Chan) : Word × Chan :=
  match c.out with
  | [] => (0, { c with errSvc := c.errSvc ||| 2, refEmptySvc := satInc c.refEmptySvc })
  | w :: r =>
    let c := { c with out := r }
    (w, if r = [] && c.emptyLane then { c with errLane := c.errLane ||| 4, emptyLane := false } else c)

/-- Pending secure words and doorbells become visible at the cycle start (R415, R416). -/
def Chan.reveal (c : Chan) : Chan :=
  { c with inq := c.inq ++ c.hidden, hidden := [], dbLane := c.dbLane ||| c.dbHidden, dbHidden := 0 }

/-- MB_STATUS as the lane sees it (R424). -/
def Chan.statusLane (c : Chan) : Word :=
  place c.out.length 0 ||| place c.inq.length 4 ||| place c.hidden.length 8 ||| flag (c.out.length = 8) 12 |||
    flag (c.inq = []) 13 ||| flag c.emptySvc 14

/-- MB_STATUS as the service processor sees it (R424). -/
def Chan.statusSvc (c : Chan) : Word :=
  let n := c.inq.length + c.hidden.length
  place n 0 ||| place c.out.length 4 ||| flag (n = 8) 12 ||| flag (c.out = []) 13 ||| flag c.emptyLane 14

/-- A channel register written from the lane's side (R423). -/
def Chan.laneWrite (c : Chan) (off : Nat) (w : Word) : Chan :=
  match off with
  | 0x00 => c.post w
  | 0x0C => { c with errLane := c.errLane &&& ~~~ (w.setWidth 8 &&& 0x0F) }
  | 0x10 => { c with emptyLane := bitN w 0 }
  | 0x14 => { c with dbLane := c.dbLane &&& ~~~w }
  | 0x18 => { c with maskLane := w }
  | 0x1C => { c with dbSvc := c.dbSvc ||| w }
  | _ => c

/-- A channel register written from the service processor's side; `pend` tells the secure channel (R415, R423). -/
def Chan.svcWrite (c : Chan) (pend : Bool) (off : Nat) (w : Word) : Chan :=
  match off with
  | 0x00 => c.svcPost pend w
  | 0x0C => { c with errSvc := c.errSvc &&& ~~~ (w.setWidth 8 &&& 0x3F) }
  | 0x10 => { c with emptySvc := bitN w 0 }
  | 0x14 => { c with dbSvc := c.dbSvc &&& ~~~w }
  | 0x18 => { c with maskSvc := w }
  | 0x1C => if pend then { c with dbHidden := c.dbHidden ||| w } else { c with dbLane := c.dbLane ||| w }
  | _ => c

/-- A channel register read from the lane's side, with what the read does (R8, R423). -/
def Chan.laneRead (c : Chan) (off : Nat) : Word × Chan :=
  match off with
  | 0x04 => c.laneTake
  | 0x08 => (c.statusLane, c)
  | 0x0C => (c.errLane.setWidth 32, c)
  | 0x10 => (flag c.emptyLane 0, c)
  | 0x14 => (c.dbLane, c)
  | 0x18 => (c.maskLane, c)
  | 0x1C => (c.dbSvc, c)
  | 0x20 => (c.refEmptyLane ++ c.refFullLane, { c with refFullLane := 0, refEmptyLane := 0 })
  | _ => (0, c)

/-- A channel register read from the service processor's side (R423). -/
def Chan.svcRead (c : Chan) (off : Nat) : Word × Chan :=
  match off with
  | 0x04 => c.svcTake
  | 0x08 => (c.statusSvc, c)
  | 0x0C => (c.errSvc.setWidth 32, c)
  | 0x10 => (flag c.emptySvc 0, c)
  | 0x14 => (c.dbSvc, c)
  | 0x18 => (c.maskSvc, c)
  | 0x1C => (c.dbLane ||| c.dbHidden, c)
  | 0x20 => (c.refEmptySvc ++ c.refFullSvc, { c with refFullSvc := 0, refEmptySvc := 0 })
  | _ => (0, c)

/-- A non-secure access to a secure channel: ACCESS is set and nothing else happens (R413). -/
def Chan.accessErr (c : Chan) : Chan := { c with errSvc := c.errSvc ||| 0x10 }

/-- A channel register written through a view (R413). -/
def State.chanWrite (s : State) (v : View) (ch : Channel) (off : Nat) (w : Word) : State :=
  match v, ch with
  | .app _, _ => s.denyWrite v (0xF0007040 + off + (if ch = .secure then 0 else 0x40))
  | .runtime l, ch => s.onChan l ch (·.laneWrite off w)
  | .service l false, .secure => s.onChan l .secure Chan.accessErr
  | .service l _, .secure => s.onChan l .secure (·.svcWrite true off w)
  | .service l _, .nonSecure => s.onChan l .nonSecure (·.svcWrite false off w)

/-- A channel register read through a view; the value goes to readData (R413). -/
def State.chanRead (s : State) (v : View) (ch : Channel) (off : Nat) : State :=
  match v, ch with
  | .app _, _ => s.denyWrite v (0xF0007040 + off + (if ch = .secure then 0 else 0x40))
  | .runtime l, ch =>
    { s.onChan l ch (fun c => (c.laneRead off).2) with readData := (((s.lane l).chan ch).laneRead off).1 }
  | .service l false, .secure => { s.onChan l .secure Chan.accessErr with readData := 0 }
  | .service l _, ch =>
    { s.onChan l ch (fun c => (c.svcRead off).2) with readData := (((s.lane l).chan ch).svcRead off).1 }

/-- A word broadcast to the secure queues of every lane whose fence latch is clear: to all or to none (R415). -/
def State.broadcast (s : State) (l : LaneId) (w : Word) : State :=
  if s.servingLanes.all (fun k => (s.lane k).mbSec.inq.length + (s.lane k).mbSec.hidden.length < 8) then
    s.servingLanes.foldl (fun s k => s.onChan k .secure (·.svcPost true w)) s
  else s.onChan l .secure (fun c => { c with errSvc := c.errSvc ||| 0x20 })

/-- Doorbells broadcast (R424 MB_BCAST_DB). -/
def State.broadcastDb (s : State) (w : Word) : State :=
  s.servingLanes.foldl (fun s k => s.onChan k .secure (·.svcWrite true 0x1C w)) s

/-- A write to a shared register of MBOX that the secure attribute opens; anything else is ignored (R413, R422). -/
def State.secureOnly (s : State) (v : View) (f : LaneId → State) : State :=
  match v with
  | .service l true => f l
  | .service l false => s.onChan l .secure Chan.accessErr
  | .app _ => s.denyWrite v 0xF0007100
  | .runtime _ => s

/-- The debug release is accepted: HOLD with latched SW1 bit 14 set (R124, R424). -/
def State.canRelease (s : State) : Bool := s.md.mode = .hold && s.sealSt.sw1.getLsbD 14

/-- MB_SVC_CMD written (R424): HOLD_RELEASE waits for the next t0; anything else is ignored and recorded. -/
def State.svcCommand (s : State) (w : Word) : State :=
  if fieldN w 8 8 ≠ 0xC3 then s
  else if fieldN w 0 8 = 1 && s.canRelease then
    { s with md := { s.md with events := if s.md.events.contains .holdReleased then s.md.events
                                          else s.md.events ++ [.holdReleased] } }
  else s.recSvc .mboxCmdRefused [w]

/-- CHG_CTRL written from the service processor's side (R421). -/
def ChgBuf.control (c : ChgBuf) (w : Word) : ChgBuf :=
  if fieldN w 8 8 ≠ 0x3C then c
  else
    let c := if bitN w 1 then { c with armed := false } else c
    if bitN w 0 then
      if c.busy then { c with refused := true } else { c with armed := true, refused := false }
    else c

/-- A word of the staging buffer written: ignored while ARMED or BUSY (R421). -/
def ChgBuf.write (c : ChgBuf) (i : Nat) (w : Word) : ChgBuf :=
  if c.armed || c.busy then { c with refused := true }
  else { c with bytes := (List.range 4).foldl (fun b j => vset b (4 * i + j) (byteOf w j)) c.bytes }

/-- A word of the staging buffer. -/
def ChgBuf.word (c : ChgBuf) (i : Nat) : Word :=
  wordOfBytes (vget c.bytes (4 * i) 0) (vget c.bytes (4 * i + 1) 0) (vget c.bytes (4 * i + 2) 0) (vget c.bytes (4 * i + 3) 0)

/-- CHG_STATUS (R424). -/
def ChgBuf.status (c : ChgBuf) : Word := flag c.armed 0 ||| flag c.busy 1 ||| flag c.refused 2

/-- A package that the service processor has staged is remembered with its session; an ACTIVATE package closes uploads
(R408, R419). -/
def Svc.remember (v : Svc) (sid : Option Nat) (bs : List Byte) : Svc :=
  { v with
    packages := (v.packages ++ [(sid, bs)]).drop (v.packages.length - 1)
    activating := v.activating || leAt bs 6 1 = 3 }

/-- The staging buffer after a step of the service processor, which remembers a package newly armed (R419, R421). -/
def State.staged (s : State) (sid : Option Nat) (c : ChgBuf) : State :=
  { s with
    chg := c
    svc := if c.armed && !s.chg.armed then s.svc.remember sid c.bytes.toList else s.svc }

/-- A register of MBOX written through a view (R422, R423). -/
def State.mboxWrite (s : State) (v : View) (off : Nat) (w : Word) : State :=
  if 0x040 ≤ off && off < 0x080 then s.chanWrite v .secure (off - 0x040) w
  else if 0x080 ≤ off && off < 0x0C0 then s.chanWrite v .nonSecure (off - 0x080) w
  else if off = 0x100 then s.secureOnly v (fun l => s.broadcast l w)
  else if off = 0x104 then s.secureOnly v (fun _ => s.broadcastDb w)
  else if off = 0x110 then s.secureOnly v (fun _ => s.svcCommand w)
  else
    match v with
    | .service _ _ =>
      if off = 0x200 then s.staged none (s.chg.control w)
      else if 0x400 ≤ off && off < 0x800 then { s with chg := s.chg.write ((off - 0x400) / 4) w }
      else s
    | .app _ => s.denyWrite v (0xF0007000 + off)
    | .runtime _ => s

/-- A register of MBOX read through a view, the value in readData (R422, R423). -/
def State.mboxRead (s : State) (v : View) (off : Nat) : State :=
  if 0x040 ≤ off && off < 0x080 then s.chanRead v .secure (off - 0x040)
  else if 0x080 ≤ off && off < 0x0C0 then s.chanRead v .nonSecure (off - 0x080)
  else
    { s with readData :=
        if off = 0 then 0x00090007
        else if off = 0x204 then s.chg.status
        else if 0x400 ≤ off && off < 0x800 then s.chg.word ((off - 0x400) / 4)
        else 0 }

/-- Who an accessor of the locks is: 1 runtime, 2 the secure service processor, 3 the non-secure one (R425). -/
def semaOwner : View → Nat
  | .app _ => 0
  | .runtime _ => 1
  | .service _ true => 2
  | .service _ false => 3

/-- The lane whose block a view reaches. -/
def semaLane : View → LaneId
  | .app l => l
  | .runtime l => l
  | .service l _ => l

/-- A lock read: acquired where it is free (R425); the value goes to readData. -/
def State.semaRead (s : State) (v : View) (n : Nat) : State :=
  let k := (s.lane (semaLane v)).sema
  let me := semaOwner v
  let o := (vget k.owner n 0).toNat
  let granted := o = 0
  let k := { k with
    owner := if granted then vset k.owner n (BitVec.ofNat 2 me) else k.owner
    contend := if o ≠ 0 && o ≠ me then satInc k.contend else k.contend }
  { s.updLane (semaLane v) (fun x => { x with sema := k }) with
    readData := place (if granted then me else o) 0 ||| flag granted 31 }

/-- A lock written: 0 by the owner releases it; any other write is an error (R425). -/
def State.semaWrite (s : State) (v : View) (n : Nat) (w : Word) : State :=
  s.updLane (semaLane v) fun x =>
    let k := x.sema
    if w = 0 && (vget k.owner n 0).toNat = semaOwner v then { x with sema := { k with owner := vset k.owner n 0 } }
    else { x with sema := { k with err := k.err ||| BitVec.ofNat 32 (2 ^ n) } }

/-- A register of SEMA written through a view (R426). -/
def State.semaBlockWrite (s : State) (v : View) (off : Nat) (w : Word) : State :=
  match v with
  | .app _ => s.denyWrite v (0xF0008000 + off)
  | _ =>
    if 0x040 ≤ off && off < 0x080 then s.semaWrite v ((off - 0x040) / 4) w
    else if off = 0x084 then
      s.updLane (semaLane v) (fun x => { x with sema := { x.sema with err := x.sema.err &&& ~~~w } })
    else s

/-- A register of SEMA read through a view, the value in readData (R426). -/
def State.semaBlockRead (s : State) (v : View) (off : Nat) : State :=
  let l := semaLane v
  let k := (s.lane l).sema
  if semaOwner v = 0 then s.denyWrite v (0xF0008000 + off)
  else if 0x040 ≤ off && off < 0x080 then s.semaRead v ((off - 0x040) / 4)
  else
    match off with
    | 0x000 => { s with readData := 0x00090008 }
    | 0x080 => { s with readData := (List.range 16).foldl (fun w n => w ||| place (vget k.owner n 0).toNat (2 * n)) 0 }
    | 0x084 => { s with readData := k.err }
    | 0x088 => { s.updLane l (fun x => { x with sema := { k with contend := 0 } }) with readData := k.contend }
    | _ => { s with readData := 0 }

/-- Locks held by some owners released in a lane (R425). -/
def Lane.freeLocks (x : Lane) (p : BitVec 2 → Bool) : Lane :=
  { x with sema := { x.sema with owner := x.sema.owner.map (fun o => if p o then 0 else o) } }

/-- MB_OUT written (R414, R415). -/
def execMbOut (v : View) (ch : Channel) (w : Word) (s : State) : Host.Outcome State Fault Refusal :=
  ok (s.chanWrite v ch 0x00 w)

/-- MB_IN read: the oldest visible word (R414). -/
def execMbIn (v : View) (ch : Channel) (s : State) : Host.Outcome State Fault Refusal := ok (s.chanRead v ch 0x04)

/-- MB_DB_OUT written (R416). -/
def execMbDbOut (v : View) (ch : Channel) (w : Word) (s : State) : Host.Outcome State Fault Refusal :=
  ok (s.chanWrite v ch 0x1C w)

/-- EMPTY_WAIT armed (R417). -/
def execEmptyWait (v : View) (ch : Channel) (s : State) : Host.Outcome State Fault Refusal :=
  ok (s.chanWrite v ch 0x10 1)

/-- Both queues of a channel full with both sides waiting for more than 1 ms (R417). -/
def execMailboxStall (l : LaneId) (ch : Channel) (s : State) : Host.Outcome State Fault Refusal :=
  let c := (s.lane l).chan ch
  ok (if c.out.length = 8 && c.inq.length = 8 && c.emptyLane && c.emptySvc then
      (s.onChan l ch (fun c => { c with errLane := c.errLane ||| 8, errSvc := c.errSvc ||| 8 })).recL l .mailboxStall
        [place l.num 0, flag (ch = .nonSecure) 0]
    else s)

/-- MB_BCAST written (R415). -/
def execMbBcast (v : View) (w : Word) (s : State) : Host.Outcome State Fault Refusal := ok (s.mboxWrite v 0x100 w)

/-- MB_BCAST_DB written (R424). -/
def execMbBcastDb (v : View) (w : Word) (s : State) : Host.Outcome State Fault Refusal := ok (s.mboxWrite v 0x104 w)

/-- CHG_CTRL.ARM written with a key (R421). -/
def execChgArm (v : View) (key : Byte) (s : State) : Host.Outcome State Fault Refusal :=
  ok (s.mboxWrite v 0x200 (1 ||| place key.toNat 8))

/-- CHG_CTRL.DISARM written with a key (R421). -/
def execChgDisarm (v : View) (key : Byte) (s : State) : Host.Outcome State Fault Refusal :=
  ok (s.mboxWrite v 0x200 (2 ||| place key.toNat 8))

/-- A lock read (R425). -/
def execSemaAcquire (v : View) (n : Fin 16) (s : State) : Host.Outcome State Fault Refusal :=
  ok (s.semaBlockRead v (0x040 + 4 * n.val))

/-- A lock written (R425). -/
def execSemaRelease (v : View) (n : Fin 16) (w : Word) (s : State) : Host.Outcome State Fault Refusal :=
  ok (s.semaBlockWrite v (0x040 + 4 * n.val) w)

/-- MB_SVC_CMD written through a view (R124, R424). -/
def execHoldRelease (v : View) (w : Word) (s : State) : Host.Outcome State Fault Refusal := ok (s.mboxWrite v 0x110 w)

end Sys2Proof.Machine
end

