-- ==== Sys2Proof/Machine/SealRows.lean ====
section
/-! DEFINITION. The seal check, the OTP with its burns, the measurement registers, and the flash (chapter 13,
R403 to R407). -/

namespace Sys2Proof.Machine

/-- The value of a switch bank: ON closed and OFF open reads 1, an invalid switch 0 (R376, R397). -/
def swValue (on off : Half) : Half := on &&& ~~~off

/-- The invalid switches of a bank: both contacts alike (R376). -/
def swInvalid (on off : Half) : Half := ~~~(on ^^^ off)

/-- SEAL_LIVE and SEAL_INVALID after a reading (R397). -/
def Seal.readings (k : Seal) (r : SwitchReading) : Seal :=
  { k with
    live1 := swValue r.on1 r.off1, live2 := swValue r.on2 r.off2
    inv1 := swInvalid r.on1 r.off1, inv2 := swInvalid r.on2 r.off2 }

/-- The last reading equals the latched value with no invalid switch (R379). -/
def Seal.steady (k : Seal) : Bool := k.live1 = k.sw1 && k.live2 = k.sw2 && k.inv1 = 0 && k.inv2 = 0

/-- The seal check runs from the end of priming until POWER_FAIL (R379). -/
def State.sealChecked (s : State) : Bool := s.guard.priming == .done && s.md.mode ≠ .powerFail

/-- A reading of both banks: one that differs asks for a second (R379). -/
def execSealReading (r : SwitchReading) (s : State) : Host.Outcome State Fault Refusal :=
  ok (if s.sealChecked then
      let k := s.sealSt.readings r
      { s with sealSt := { k with reread := !k.steady } }
    else s)

/-- The second reading differs: SEAL_CHANGED, SAFE_STOP and the record (R379). -/
def State.sealChange (s : State) : State :=
  let k := s.sealSt
  let s := { s with sealSt := { k with changed := true } }
  (s.safeStop .seal 1).recG .sealChange [k.sw2 ++ k.sw1, k.live2 ++ k.live1]

/-- The second reading is as latched: a glitch, recorded at most once in 10 s (R379). -/
def State.sealGlitch (s : State) : State :=
  let k := s.sealSt
  let due := match k.glitchAt with
    | none => true
    | some t => decide (t + 1000000000 ≤ s.guard.optime)
  let s := { s with sealSt := { k with
    glitch := satInc k.glitch, glitchAt := if due then some s.guard.optime else k.glitchAt } }
  if due then s.recG .sealGlitch else s

/-- The second reading decides (R379). -/
def execSealReread (r : SwitchReading) (s : State) : Host.Outcome State Fault Refusal :=
  ok (if s.sealChecked && s.sealSt.reread then
      let k := s.sealSt.readings r
      let s := { s with sealSt := { k with reread := false } }
      if k.steady then s.sealGlitch else s.sealChange
    else s)

/-- A word of the fuses. -/
def Seal.fuse (k : Seal) (w : Nat) : DWord := vget k.otp w 0

/-- A word of GUARD's copy. -/
def Seal.word (k : Seal) (w : Nat) : DWord := vget k.view w 0

/-- A generation's bits are all 0 (R383). -/
def genUnburned (f : Nat → DWord) (g : Nat) : Bool := (List.range 4).all (fun i => f (8 + 4 * g + i) = 0)

/-- CHECK of the words of a generation (R382). -/
def genCheck (g : Nat) (w0 w1 w2 : DWord) : Word :=
  crc32c (BitVec.ofNat 32 (0xC0000 + g)) (dwordBytes w0 ++ dwordBytes w1 ++ dwordBytes w2)

/-- A generation qualifies apart from RETIRE (R383). -/
def genValid (f : Nat → DWord) (g : Nat) : Bool :=
  let w (i : Nat) := f (8 + 4 * g + i)
  (w 0).toNat % 256 = 0xA5 && (w 0).toNat / 512 = 0 && (w 1).toNat / 2 ^ 32 = 0 && w 2 = 0 &&
    (w 3).toNat / 2 ^ 32 % 2 ^ 31 = 0 && (w 3).setWidth 32 = genCheck g (w 0) (w 1) (w 2)

/-- RETIRE of a generation (R382). -/
def genRetired (f : Nat → DWord) (g : Nat) : Bool := (f (11 + 4 * g)).getLsbD 63

/-- The active generation: the highest that qualifies and is not retired (R383). -/
def genActive (f : Nat → DWord) : Option Nat := [3, 2, 1, 0].find? (fun g => genValid f g && !genRetired f g)

/-- The generations that are recorded as OTP_GEN_INVALID (R383). -/
def genInvalid (f : Nat → DWord) : List Nat :=
  (List.range 4).filter (fun g => !genUnburned f g && !(genValid f g && !genRetired f g))

/-- The security version: the burned bits of word 45 (R381). -/
def svnCount (f : Nat → DWord) : Nat := popcount (f 45)

/-- Bits of a fuse word burned (R381). -/
def Seal.burn (k : Seal) (w : Nat) (v : DWord) : Seal := { k with otp := vset k.otp w (k.fuse w ||| v) }

/-- GUARD executes burns: MAINTENANCE, and SW1 bit 13 in the latched and the live reading (R384). -/
def State.burnAllowed (s : State) : Bool :=
  s.md.mode = .maintenance && s.sealSt.sw1.getLsbD 13 && s.sealSt.live1.getLsbD 13

/-- A burn executed and recorded with its kind (R384). -/
def State.burned (s : State) (kind arg : Nat) (k : Seal) : State :=
  ({ s with sealSt := k }).recG .otpBurn [place kind 0, place arg 0]

/-- A byte of the flash. -/
def Svc.byte (v : Svc) (a : Nat) : Byte := ~~~ Memory.read v.flash a

/-- Bytes of the flash. -/
def Svc.bytes (v : Svc) (a n : Nat) : List Byte := (Memory.bytes v.flash a n).map (fun b => ~~~b)

/-- Bytes written into erased flash; what stood there is replaced. -/
def Svc.put (v : Svc) (a : Nat) (bs : List Byte) : Svc :=
  { v with flash := Memory.writeList v.flash a (bs.map (fun b => ~~~b)) }

/-- A range of the flash erased. -/
def Svc.erase (v : Svc) (lo hi : Nat) : Svc := { v with flash := Memory.clear v.flash lo hi }

/-- A designation record as read (R405). -/
structure Desig where
  counter : Nat
  region : Bool
  trial : Bool
  deriving DecidableEq, Repr

/-- A copy of the designation record, where it is valid (R405). -/
def Svc.desigCopy (v : Svc) (i : Nat) : Option Desig :=
  let b := v.bytes (0x8000 * i) 32
  if leAt b 0 4 = 0x00090012 && BitVec.ofNat 32 (leAt b 0x1C 4) = crc32c 0x120000 (b.take 0x1C) then
    some { counter := leAt b 4 4, region := leAt b 8 1 % 2 = 1, trial := leAt b 8 1 / 2 % 2 = 1 }
  else none

/-- The copy in use: the valid one with the higher COUNTER, copy 0 where they are equal (R405). -/
def Svc.desigInUse (v : Svc) : Option (Nat × Desig) :=
  match v.desigCopy 0, v.desigCopy 1 with
  | some a, some b => if a.counter < b.counter then some (1, b) else some (0, a)
  | some a, none => some (0, a)
  | none, some b => some (1, b)
  | none, none => none

/-- The designation in force: P0 is slot A where no copy is valid (R405). -/
def Svc.desig (v : Svc) : Desig := (v.desigInUse.map (·.2)).getD { counter := 0, region := false, trial := false }

/-- A designation record as bytes (R405). -/
def Desig.encode (d : Desig) : List Byte :=
  let b := natLe 4 0x00090012 ++ natLe 4 d.counter ++
    natLe 4 ((if d.region then 1 else 0) + (if d.trial then 2 else 0)) ++ List.replicate 16 0
  b ++ wordBytes (crc32c 0x120000 b)

/-- The copy of the designation record that is not in use (R405, R406). -/
def Svc.spareCopy (v : Svc) : Nat :=
  match v.desigInUse with
  | some (0, _) => 1
  | _ => 0

/-- The designation written into the copy that is not in use, with the next COUNTER (R406). -/
def Svc.rewriteDesig (v : Svc) (region trial : Bool) : Svc :=
  let d : Desig := { counter := (v.desig.counter + 1) % 2 ^ 32, region := region, trial := trial }
  (v.erase (0x8000 * v.spareCopy) (0x8000 * (v.spareCopy + 1))).put (0x8000 * v.spareCopy) d.encode

/-- Base of region P0 or P1 (R403). -/
def regionBase (p1 : Bool) : Nat := if p1 then 0x03100000 else 0x00100000

/-- Base of slot A (R403). -/
def Svc.slotA (v : Svc) : Nat := regionBase v.desig.region

/-- Base of slot B (R403). -/
def Svc.slotB (v : Svc) : Nat := regionBase (!v.desig.region)

/-- Offset of an image in its region (R403). -/
def imageOffset : ImageType → Nat
  | .runtime => 0
  | .program => 0x00400000
  | .station => 0x00C00000

/-- The four words of a generation burned (R382). -/
def Seal.burnFour (k : Seal) (g : Nat) (w0 w1 w2 w3 : DWord) : Seal :=
  let b := 8 + 4 * g
  (((k.burn b w0).burn (b + 1) w1).burn (b + 2) w2).burn (b + 3) w3

/-- BURN: a configuration generation (R384); of one that the supply interrupts the bits in `torn` are burned, and it is
not recorded as executed (log 93). -/
def State.doBurnGeneration (s : State) (w0 w1 w2 w3 : DWord) (torn : Option (BitVec 256)) : Option State :=
  let k := s.sealSt
  match (List.range 4).find? (fun g => genUnburned k.fuse g) with
  | none => none
  | some g =>
    if s.burnAllowed && w3.setWidth 32 = genCheck g w0 w1 w2 && !w3.getLsbD 63 then
      match torn with
      | none => some (s.burned 0 g (k.burnFour g w0 w1 w2 w3))
      | some m =>
        let part (i : Nat) : DWord := (m >>> (64 * i)).setWidth 64
        some { s with sealSt := k.burnFour g (w0 &&& part 0) (w1 &&& part 1) (w2 &&& part 2) (w3 &&& part 3) }
    else none

/-- BURN: RETIRE of a generation that is burned (R384). -/
def State.doBurnRetire (s : State) (g : Nat) : Option State :=
  if s.burnAllowed && !genUnburned s.sealSt.fuse g then
    some (s.burned 1 g (s.sealSt.burn (11 + 4 * g) (BitVec.ofNat 64 (2 ^ 63))))
  else none

/-- The hash of an authority key slot burned (R381). -/
def Seal.burnHash (k : Seal) (slot : Nat) (hash : BitVec 512) : Seal :=
  (List.range 8).foldl (fun k i => k.burn (24 + 8 * slot + i) ((hash >>> (64 * i)).setWidth 64)) k

/-- BURN: the hash of an authority key slot with its BURNED bit (R384); of one that the supply interrupts the bits of the
hash in `torn` are burned, with BURNED where `torn` says so. -/
def State.doBurnKeySlot (s : State) (slot : Nat) (hash : BitVec 512) (torn : Option (BitVec 512 × Bool)) :
    Option State :=
  let mark (k : Seal) : Seal := k.burn 40 (BitVec.ofNat 64 (2 ^ (2 * slot)))
  if s.burnAllowed && !(s.sealSt.fuse 40).getLsbD (2 * slot) then
    match torn with
    | none => some (s.burned 2 slot (mark (s.sealSt.burnHash slot hash)))
    | some (m, b) =>
      let k := s.sealSt.burnHash slot (hash &&& m)
      some { s with sealSt := if b then mark k else k }
  else none

/-- BURN: REVOKED of a slot that is burned (R384). -/
def State.doBurnRevoked (s : State) (slot : Nat) : Option State :=
  if s.burnAllowed && (s.sealSt.fuse 40).getLsbD (2 * slot) then
    some (s.burned 3 slot (s.sealSt.burn 40 (BitVec.ofNat 64 (2 ^ (2 * slot + 1)))))
  else none

/-- The bits that a burn of four words reaches, where the supply interrupts it. -/
def reached (w0 w1 w2 w3 : BurnWord) : Option (BitVec 256) :=
  let m : BitVec 256 := w3.reach ++ w2.reach ++ w1.reach ++ w0.reach
  if m = BitVec.allOnes 256 then none else some m

/-- BURN_GENERATION (R384); a burn that GUARD refuses changes nothing. -/
def execBurnGeneration (w0 w1 w2 w3 : BurnWord) (s : State) : Host.Outcome State Fault Refusal :=
  ok ((s.doBurnGeneration w0.word w1.word w2.word w3.word (reached w0 w1 w2 w3)).getD s)

/-- BURN_RETIRE (R384). -/
def execBurnRetire (g : Fin 4) (s : State) : Host.Outcome State Fault Refusal := ok ((s.doBurnRetire g.val).getD s)

/-- BURN_KEY_SLOT (R384). -/
def execBurnKeySlot (slot : Fin 2) (hash : HashBurn) (s : State) : Host.Outcome State Fault Refusal :=
  ok ((s.doBurnKeySlot slot.val hash.hash hash.torn).getD s)

/-- BURN_REVOKED (R384). -/
def execBurnRevoked (slot : Fin 2) (s : State) : Host.Outcome State Fault Refusal :=
  ok ((s.doBurnRevoked slot.val).getD s)

/-- OTP_STATUS (R397). -/
def Seal.otpStatus (k : Seal) : Word :=
  let f := k.word
  let bits (p : Nat → Bool) : Nat := (List.range 4).foldl (fun n g => if p g then n + 2 ^ g else n) 0
  place (k.activeGen.getD 0) 0 ||| flag k.activeGen.isNone 2 ||| place (bits (fun g => !genUnburned f g)) 4 |||
    place (bits (genValid f)) 8 ||| place (bits (genRetired f)) 12 ||| place ((f 40).toNat % 16) 16 |||
    place (svnCount f) 20 ||| flag ((f 46).getLsbD 0) 27

/-- A register of SEAL read (R396, R397). -/
def State.readSeal (s : State) (off : Nat) : Word :=
  let k := s.sealSt
  match off with
  | 0x000 => 0x0009000C
  | 0x004 => flag k.changed 0 ||| flag k.primingDiff 1
  | 0x008 => k.sw2 ++ k.sw1
  | 0x00C => k.live2 ++ k.live1
  | 0x010 => k.inv2 ++ k.inv1
  | 0x014 => k.glitch
  | 0x020 => k.otpStatus
  | _ =>
    if 0x100 ≤ off && off < 0x300 then
      let m := (off - 0x100) / 4
      let w := if 41 ≤ m / 2 && m / 2 ≤ 44 then 0 else k.word (m / 2)
      if m % 2 = 0 then w.setWidth 32 else (w >>> 32).setWidth 32
    else 0

/-- What a read through a lane's view clears (R8, R397). -/
def State.clearSeal (s : State) (off : Nat) : State :=
  if off = 0x014 then { s with sealSt := { s.sealSt with glitch := 0 } } else s

/-- The digest of MEAS_DIGEST (R400). -/
def Measure.x (m : Measure) : List Byte := m.digest.toList.flatMap wordBytes

/-- A measurement register extended with a digest (R389). -/
def Measure.extend (m : Measure) (i : Nat) (x : List Byte) : BitVec 512 :=
  digestBits (sha512 (bitsDigest (vget m.m i 0) ++ x))

/-- A measurement written at the end of its extension (R389, R400). -/
def Measure.done (m : Measure) (i : Nat) (v : BitVec 512) : Measure :=
  { m with m := vset m.m i v, extended := m.extended ||| BitVec.ofNat 5 (2 ^ i),
           count := if i = 3 then satInc m.count else m.count }

/-- An extension carried out at once: the boot ROM's, and that of an applied package (R191, R389). -/
def Measure.extendNow (m : Measure) (i : Nat) (x : List Byte) : Measure := m.done i (m.extend i x)

/-- The running extension completes (R398). -/
def Measure.settle (m : Measure) : Measure :=
  match m.busy with
  | none => m
  | some (i, v) => { m.done i v with busy := none }

/-- MEAS_CTRL written at runtime level (R398, R400). -/
def Measure.control (m : Measure) (startup : Bool) (w : Word) : Measure :=
  let i := fieldN w 0 3
  if m.busy.isSome then { m with refused := true }
  else if fieldN w 8 8 ≠ 0xE5 then m
  else if !(i = 3 || (startup && (i = 1 || i = 2 || i = 4))) then { m with refused := true }
  else { m with busy := some (i, m.extend i m.x), refused := false }

/-- A register of MEASURE written at runtime level (R399). -/
def State.writeMeas (s : State) (l : LaneId) (off : Nat) (w : Word) : State :=
  s.updLane l fun y =>
    let m := y.meas
    if off = 0x008 then { y with meas := m.control (s.laneMode l = 2) w }
    else if 0x040 ≤ off && off < 0x080 then
      { y with meas := if m.busy.isSome then { m with refused := true }
                       else { m with digest := vset m.digest ((off - 0x040) / 4) w } }
    else y

/-- A read of a measurement register waits for the running extension (R398). -/
def State.settleMeas (s : State) (l : LaneId) (off : Nat) : State :=
  if 0x100 ≤ off && off < 0x240 then s.updLane l (fun y => { y with meas := y.meas.settle }) else s

/-- A register of MEASURE read (R399, R400). -/
def State.readMeas (s : State) (l : LaneId) (off : Nat) : Word :=
  let m := (s.lane l).meas
  match off with
  | 0x000 => 0x0009000E
  | 0x004 => flag m.busy.isSome 0 ||| flag m.refused 1 ||| place m.extended.toNat 4
  | 0x00C => m.count
  | _ =>
    if 0x040 ≤ off && off < 0x080 then vget m.digest ((off - 0x040) / 4) 0
    else if 0x100 ≤ off && off < 0x240 then
      ((vget m.m ((off - 0x100) / 0x40) 0) >>> (32 * ((off - 0x100) % 0x40 / 4))).setWidth 32
    else 0

/-- MEAS_CTRL written through a view (R398). -/
def execMeasCtrl (v : View) (w : Word) (s : State) : Host.Outcome State Fault Refusal :=
  ok (match v with
    | .runtime l => s.writeMeas l 0x008 w
    | v => s.denyWrite v 0xF000E008)

/-- The running extension of a lane completes (R389). -/
def execMeasExtensionDone (l : LaneId) (s : State) : Host.Outcome State Fault Refusal :=
  ok (s.updLane l (fun y => { y with meas := y.meas.settle }))

end Sys2Proof.Machine
end

