-- ==== Sys2Proof/Machine/Trust.lean ====
section
/-! DEFINITION. The chain of trust (R385 to R391): authority keys, image envelopes, the seal record, and what the boot
ROM of a lane does with its image set. -/

namespace Sys2Proof.Machine

/-- The 64 bytes of the hash of an authority key slot (R381). -/
def Seal.slotHash (k : Seal) (slot : Nat) : List Byte :=
  (List.range 8).flatMap (fun i => dwordBytes (k.word (24 + 8 * slot + i)))

/-- BURNED of a slot (R381). -/
def Seal.slotBurned (k : Seal) (slot : Nat) : Bool := (k.word 40).getLsbD (2 * slot)

/-- REVOKED of a slot (R381). -/
def Seal.slotRevoked (k : Seal) (slot : Nat) : Bool := (k.word 40).getLsbD (2 * slot + 1)

/-- The message that a key endorsement signs (R385). -/
def Seal.endorsed (k : Seal) : List Byte := natLe 4 0x0009000F ++ dwordBytes (k.word 0) ++ k.slotHash 1

/-- The key endorsement in flash verifies (R385). -/
def State.endorsement (s : State) : Bool :=
  let e := s.svc.bytes 0x00010000 96
  sha512 (e.take 32) == s.sealSt.slotHash 0 && Config.ed25519Verify (e.take 32) s.sealSt.endorsed (e.drop 32)

/-- An authority key slot is valid (R385). -/
def State.slotValid (s : State) (slot : Nat) : Bool :=
  let k := s.sealSt
  k.slotBurned slot && !k.slotRevoked slot && (k.slotHash slot).any (· ≠ 0) && (slot = 0 || s.endorsement)

/-- Some slot is valid (R386). -/
def State.anySlot (s : State) : Bool := s.slotValid 0 || s.slotValid 1

/-- The valid slots, bit k for slot k (R385). -/
def State.validSlots (s : State) : BitVec 2 := (if s.slotValid 0 then 1 else 0) ||| (if s.slotValid 1 then 2 else 0)

/-- Slot 1 is burned and not endorsed (R385). -/
def State.unendorsed (s : State) : Bool := s.sealSt.slotBurned 1 && !s.endorsement

/-- An authority key (R386). -/
def State.authorityKey (s : State) (key : List Byte) : Bool :=
  [0, 1].any (fun slot => s.slotValid slot && sha512 key == s.sealSt.slotHash slot)

/-- An authority key by the slots that a lane has found valid in STARTUP_TEST (R385, R386). -/
def Lane.authorityKey (x : Lane) (k : Seal) (key : List Byte) : Bool :=
  [0, 1].any (fun slot => x.change.slots.getLsbD slot && sha512 key == k.slotHash slot)

/-- TYPE of an image (R387). -/
def typeCode : ImageType → Nat
  | .runtime => 1 | .program => 2 | .station => 3

/-- LOAD of an image (R387). -/
def loadOf : ImageType → Nat
  | .runtime => 0x00600000 | .program => 0 | .station => 0x00800000

/-- The longest body of an image (R387). -/
def bodyMax : ImageType → Nat
  | .runtime => 0x00200000 | .program => 0x00600000 | .station => 0x01800000

/-- LENGTH of an envelope (R387). -/
def envLength (e : List Byte) : Nat := leAt e 8 4

/-- TYPE and LENGTH of an envelope keep R387. -/
def envShape (ty : ImageType) (e : List Byte) : Bool :=
  leAt e 4 1 = typeCode ty && envLength e % 4 = 0 && envLength e ≤ bodyMax ty

/-- An envelope whose MAGIC, TYPE, LOAD, LENGTH and reserved fields are right (R387, R391 step 3). -/
def envFormat (ty : ImageType) (e : List Byte) : Bool :=
  leAt e 0 4 = 0x0009000D && envShape ty e && leAt e 5 3 = 0 && leAt e 12 4 = loadOf ty &&
    (if ty = .runtime then leAt e 16 1 ≤ 64 else leAt e 16 1 = 0) && leAt e 17 3 = 0 &&
    (ty = .station || leAt e 20 2 = 0) && leAt e 22 2 = 0 && leAt e 24 8 = 0

/-- The envelope of an image in a region. -/
def Svc.envelope (v : Svc) (base : Nat) (ty : ImageType) : List Byte := v.bytes (base + imageOffset ty) 192

/-- The body of an image in a region. -/
def Svc.body' (v : Svc) (base : Nat) (ty : ImageType) : List Byte :=
  v.bytes (base + imageOffset ty + 192) (envLength (v.envelope base ty))

/-- A runtime envelope stands in a region, with an SVN at least equal to a count (R384, R387). -/
def Svc.runtimeSvn (v : Svc) (base n : Nat) : Bool :=
  let e := v.envelope base .runtime
  envFormat .runtime e && n ≤ leAt e 16 1

/-- BURN: one further bit of the security version (R384). -/
def State.doBurnSvn (s : State) : Option State :=
  let n := svnCount s.sealSt.fuse
  match (List.range 64).find? (fun i => !(s.sealSt.fuse 45).getLsbD i) with
  | none => none
  | some i =>
    if s.burnAllowed && s.svc.runtimeSvn s.svc.slotA (n + 1) && s.svc.runtimeSvn s.svc.slotB (n + 1) then
      some (s.burned 4 (n + 1) (s.sealSt.burn 45 (BitVec.ofNat 64 (2 ^ i))))
    else none

/-- BURN_SVN (R384). -/
def execBurnSvn (s : State) : Host.Outcome State Fault Refusal := ok (s.doBurnSvn.getD s)

/-- What is wrong with an image, by the checks of R391 steps 3 to 6 in their order. -/
def State.imageFault (s : State) (base : Nat) (ty : ImageType) : Option RecName :=
  let e := s.svc.envelope base ty
  let key := (e.drop 0x60).take 32
  if ty ≠ .runtime && !s.anySlot then some .authNoKey
  else if !envFormat ty e then some .bootFormat
  else if !(if ty = .runtime then key == Config.deneneKey else s.authorityKey key) then some .bootKeyUnknown
  else if !Config.ed25519Verify key (e.take 0x80) ((e.drop 0x80).take 64) then some .bootSignature
  else if ty = .runtime && leAt e 16 1 < svnCount s.sealSt.word then some .bootRollback
  else if sha512 (s.svc.body' base ty) ≠ (e.drop 0x20).take 64 then some .bootHash
  else none

/-- The seal record (R390). -/
def State.sealRecord (s : State) : List Byte :=
  let k := s.sealSt
  natLe 2 k.sw1.toNat ++ natLe 2 k.sw2.toNat ++ natLe 1 (k.activeGen.getD 0xFF) ++ [0, 0, 0] ++
    (match k.activeGen with
     | some g => (List.range 4).flatMap (fun i => dwordBytes (k.word (8 + 4 * g + i)))
     | none => List.replicate 32 0) ++
    k.slotHash 0 ++ k.slotHash 1 ++ dwordBytes (k.word 40) ++ dwordBytes (k.word 45) ++ dwordBytes (k.word 0)

/-- The region whose image set a lane boots (R403, R404). -/
def State.bootBase (s : State) (l : LaneId) : Nat :=
  if s.md.role = .split then
    match l with
    | .A => s.svc.slotA
    | .B => 0x08100000
    | .C => 0x0B100000
  else s.svc.slotA

/-- One image copied to its place, with the measurement that its body extends (R389, R391). -/
def Lane.load (x : Lane) (v : Svc) (base : Nat) (ty : ImageType) : Lane :=
  let b := v.body' base ty
  { x.poke (loadOf ty) b with meas := x.meas.extendNow (typeCode ty) (sha512 b) }

/-- A check that fails: its record with P0 and P1. -/
abbrev Failure := RecName × List Word

/-- The first failure of a list. -/
def firstOf (fs : List (Option Failure)) : Option Failure := fs.findSome? id

/-- The first condition of a rule that does not hold, under the record of its group (R488; P1 by the order in which
this model lists the conditions, log 22). -/
def failing (name : RecName) (p0 : Nat) (conds : List Bool) : Option Failure :=
  (conds.findIdx? (· = false)).map (fun i => (name, [place p0 0, place (i + 1) 0]))

/-- An application trap may be named in AMASK (R149). -/
def amaskOnlyApp (m : Half) : Bool := m &&& ~~~amaskBits = 0

/-- The program header (R132): P0 is the offset of the failing field, P1 the number of the condition in R132's list; the
limits of CODE_END and the reserved words, which that list leaves out, are numbered after it. -/
def Lane.programHeader (x : Lane) : Option Failure :=
  let w (i : Nat) := x.rd32 (4 * i)
  let e := x.codeEnd
  let inCode (a : Nat) : Bool := 0x40 ≤ a && a < e && a % 4 = 0
  let amask : Half := (w 3).setWidth 16
  let h (off k : Nat) (b : Bool) : Option Failure :=
    if b then none else some (.programHeaderInvalid, [place off 0, place k 0])
  firstOf [
    h 0x00 1 (w 0 = 0x00090004),
    h 0x10 5 (e % 4 = 0 && 0x44 ≤ e && e ≤ 0x00600000),
    h 0x04 2 (inCode (w 1).toNat),
    h 0x08 3 (w 2 = 0 || inCode (w 2).toNat),
    h 0x0C 4 (amaskOnlyApp amask && (w 2 ≠ 0 || amask = 0)),
    h 0x0C 6 (fieldN (w 3) 16 16 = 0),
    h 0x14 6 ((List.range 11).all (fun i => w (5 + i) = 0))]

/-- The station identity (R377): SW2, the station header and the envelope agree. -/
def State.stationFault (s : State) (base : Nat) (x : Lane) : Option Failure :=
  let id := (s.sealSt.sw2).toNat
  if id = 0 || fieldN (x.rd32 0x00800004) 0 16 ≠ id || leAt (s.svc.envelope base .station) 20 2 ≠ id then
    some (.sealStationMismatch, [place id 0])
  else none

/-- An image with a fault: its body is copied before a wrong hash is found, and not at all before any other (R391
step 4). -/
def Lane.unloaded (x : Lane) (v : Svc) (base : Nat) (ty : ImageType) (f : RecName) : Lane :=
  if f = .bootHash then x.poke (loadOf ty) (v.body' base ty) else x

/-- The boot ROM of a lane (R391 steps 1 to 6), over a store that the march test has left at 0: the lane, and the
first failure. -/
def State.bootLane (s : State) (l : LaneId) : Lane × Option Failure :=
  let base := s.bootBase l
  let x := { s.lane l with store := Store.init }
  let x := { x with meas := x.meas.extendNow 4 (sha512 s.sealRecord) }
  match s.imageFault base .runtime with
  | some f => (x.unloaded s.svc base .runtime f, some (f, [place 1 0]))
  | none =>
    let x := x.load s.svc base .runtime
    match s.imageFault base .program with
    | some f => (x.unloaded s.svc base .program f, some (f, [place 2 0]))
    | none =>
      let y := x.poke 0 (s.svc.body' base .program)
      match y.programHeader with
      | some f => (y, some f)
      | none =>
        let x := x.load s.svc base .program
        match s.imageFault base .station with
        | some f => (x.unloaded s.svc base .station f, some (f, [place 3 0]))
        | none =>
          let y := x.poke 0x00800000 (s.svc.body' base .station)
          match s.stationFault base y with
          | some f => (y, some f)
          | none => (x.load s.svc base .station, none)

end Sys2Proof.Machine
end

