-- ==== Sys2Proof/Machine/Change.lean ====
section
/-! DEFINITION. Online change and forcing (chapter 06): change packages, their validation, their application at one
cycle number, the force table and the change journal. -/

namespace Sys2Proof.Machine

/-- COUNT of a package (R184). -/
def pkgCount (b : List Byte) : Nat := leAt b 8 1 % 128

/-- KIND of a package (R184). -/
def pkgKind (b : List Byte) : Nat := leAt b 6 1

/-- Length of a package (R184). -/
def pkgLength (b : List Byte) : Nat := 0x80 + 12 * pkgCount b + 64

/-- A word of a package. -/
def pkgWord (b : List Byte) (off : Nat) : Word := BitVec.ofNat 32 (leAt b off 4)

/-- An entry of a package (R185). -/
structure PkgEntry where
  target : Word
  old : Word
  new : Word
  deriving DecidableEq, Repr

/-- The entries of a package (R184, R185). -/
def pkgEntries (b : List Byte) : List PkgEntry :=
  (List.range (pkgCount b)).map fun i =>
    { target := pkgWord b (0x80 + 12 * i), old := pkgWord b (0x84 + 12 * i), new := pkgWord b (0x88 + 12 * i) }

/-- TARGET (R185). -/
def PkgEntry.index (e : PkgEntry) : Nat := fieldN e.target 0 14

/-- TARGET_KIND (R185). -/
def PkgEntry.kind (e : PkgEntry) : Nat := fieldN e.target 16 2

/-- TARGET and TARGET_KIND suit the kind of the package, and the reserved bits are 0 (R185). -/
def PkgEntry.formatOk (e : PkgEntry) (kind : Nat) : Bool :=
  fieldN e.target 14 2 = 0 && fieldN e.target 18 14 = 0 &&
    (e.kind = 0 || (e.kind = 1 && (kind = 4 || kind = 5) && e.index ≤ 65))

/-- The kinds that carry a signature (R184). -/
def signedKind (k : Nat) : Bool := k = 1 || k = 2 || k = 3

/-- The kinds that force (R184). -/
def forceKind (k : Nat) : Bool := k = 4 || k = 5

/-- Check 1 of R189. -/
def pkgFormat (b : List Byte) : Bool :=
  let k := pkgKind b
  leAt b 0 4 = 0x00090006 && (signedKind k || forceKind k) && leAt b 7 1 = 0 && leAt b 8 4 < 128 &&
    (if k = 2 || k = 3 then pkgCount b = 0 else 1 ≤ pkgCount b && pkgCount b ≤ 64) && leAt b 0x18 8 = 0 &&
    (pkgEntries b).all (·.formatOk k) && distinct ((pkgEntries b).map (fun e => e.target.toNat))

/-- A value is valid for the type of a slot (R183). -/
def Lane.typeAdmits (x : Lane) (ty : Nat) (v : Word) : Bool :=
  match ty with
  | 0x01 | 0x02 | 0x04 => true
  | 0x03 => codedValid v
  | 0x05 => 1 ≤ v.toNat && v.toNat ≤ 65535
  | 0x06 => v.toNat < x.engine.cfgElements.toNat
  | 0x07 => v.toNat < x.engine.cfgRoutes.toNat
  | _ => false

/-- Whether a target is forced (R200). -/
def Change.forced (c : Change) (target : Word) : Bool := c.forces.any (·.target = target)

/-- The checks of order 11 for one entry, 0 where it passes (R189). -/
def Lane.entryVerdict (x : Lane) (kind : Nat) (e : PkgEntry) : Nat :=
  if e.kind = 1 then (if kind = 4 && 1 < e.new.toNat then 0x08 else 0)
  else
    let tag := x.rd32 (slotAddr e.index + 4)
    let ty := fieldN tag 0 8
    if ty = 0 || (kind = 1 && !bitN tag 12) then 0x07
    else if kind = 1 && x.change.forced e.target then 0x0A
    else if kind ≠ 5 && !x.typeAdmits ty e.new then 0x08
    else if kind = 1 && x.rd32 (slotAddr e.index) ≠ e.old then 0x09
    else 0

/-- The first entry that fails, with its code (R189). -/
def Lane.entriesVerdict (x : Lane) (kind : Nat) (es : List PkgEntry) : Nat × Nat :=
  match es.findIdx? (fun e => x.entryVerdict kind e ≠ 0) with
  | none => (0, 0)
  | some i => ((es[i]?.map (x.entryVerdict kind)).getD 0, i)

/-- A kind is permitted in a mode with the SW1 bit that it needs (R190). -/
def State.kindPermitted (s : State) (k : Nat) : Bool :=
  match k, s.md.mode with
  | 1, .run | 1, .degraded | 1, .resync | 1, .stop | 1, .maintenance => true
  | 2, .run | 2, .degraded | 2, .resync => true
  | 3, .stop | 3, .maintenance => true
  | 4, .maintenance | 5, .maintenance => s.sealSt.sw1.getLsbD 13
  | 4, .hold | 5, .hold => s.sealSt.sw1.getLsbD 14
  | _, _ => false

/-- The forces that a lane would hold after a FORCE package (R200). -/
def Change.forcesAfter (c : Change) (es : List PkgEntry) : Nat :=
  c.forces.length + (es.filter (fun e => !c.forced e.target)).length

/-- The packages of the journal of a region, oldest first (R407). -/
def Svc.journal (v : Svc) (base : Nat) : List (List Byte) :=
  let e (i : Nat) := v.bytes (base + 0x02C00000 + 1024 * i) 1024
  ((List.range 256).map e).takeWhile (fun b => leAt b 0x3FC 4 = 0x00090013)

/-- The checks 2 to 8 of R189 for a signed kind that a journal keeps: `held` packages stand in it already. -/
def State.signedVerdict (s : State) (x : Lane) (b : List Byte) (held : Nat) : Nat :=
  let key := (b.drop 0x60).take 32
  let n := 0x80 + 12 * pkgCount b
  if !x.authorityKey s.sealSt key then 0x02
  else if !Config.ed25519Verify key (b.take n) ((b.drop n).take 64) then 0x03
  else if digestBits ((b.drop 0x20).take 64) ≠ vget x.meas.m 3 0 then 0x05
  else if (pkgWord b 0x0C).toNat ≤ x.change.lastSeq.toNat then 0x06
  else if pkgKind b = 1 && 256 ≤ held then 0x0D
  else 0

/-- The cycle of application: the later of the cycle after the verdict and NOT_BEFORE (R191). -/
def applyCycle (v : Word) (b : List Byte) : Word :=
  let nb := pkgWord b 0x10
  if nb ≠ 0 && newer nb (v + 1) then nb else v + 1

/-- The verdict on a package with the index of the failing entry (R189). In a reapplication of the journal the
checks MODE and EXPIRE are left out (R194); `v` is the verdict cycle. -/
def State.verdict (s : State) (x : Lane) (b : List Byte) (journal : Bool) (held : Nat) (v : Word) : Nat × Nat :=
  let k := pkgKind b
  let expire := pkgWord b 0x14
  let sv := if signedKind k then s.signedVerdict x b held else 0
  if !pkgFormat b then (0x01, 0)
  else if leAt b 4 2 ≠ s.sealSt.sw2.toNat then (0x04, 0)
  else if !journal && !s.kindPermitted k then (0x0B, 0)
  else if sv ≠ 0 then (sv, 0)
  else if k = 4 && 64 < x.change.forcesAfter (pkgEntries b) then (0x0E, 0)
  else if !journal && expire ≠ 0 && newer (applyCycle v b) expire then (0x0C, 0)
  else x.entriesVerdict k (pkgEntries b)

/-- A force of one target, or the force that stands replaced (R200). -/
def Lane.force (x : Lane) (e : PkgEntry) : Lane :=
  let held := if e.kind = 1 then place (if bitN (x.rd32 (0x02000020 + e.index / 32 * 4)) (e.index % 32) then 1 else 0) 0
    else x.rd32 (slotAddr e.index)
  let f := if x.change.forced e.target then
      x.change.forces.map (fun f => if f.target = e.target then { f with value := e.new } else f)
    else x.change.forces ++ [{ target := e.target, value := e.new, previous := held }]
  let y := { x with change := { x.change with forces := f } }
  if e.kind = 1 then y else y.wr32 (slotAddr e.index) e.new

/-- A bit of the local inputs in the header (R90). -/
def Lane.headerBit (x : Lane) (i : Nat) (b : Bool) : Lane :=
  let a := 0x02000020 + i / 32 * 4
  x.wrNew a (setBit (x.rd32 a) (i % 32) b)

/-- A force ended: the target holds what it held before (R200). -/
def Lane.unforce (x : Lane) (hold : Bool) (e : PkgEntry) : Lane :=
  match x.change.forces.find? (·.target = e.target) with
  | none => x
  | some f =>
    let y := { x with change := { x.change with forces := x.change.forces.filter (·.target ≠ e.target) } }
    if e.kind = 1 then (if hold then y.headerBit e.index (f.previous = 1) else y)
    else y.wr32 (slotAddr e.index) f.previous

/-- An agreed word with the forced inputs in the place of the agreed bits (R200). -/
def Lane.forcedOver (x : Lane) (w : RawWord) : RawWord :=
  x.change.forces.foldl (fun w f =>
    if fieldN f.target 16 2 = 1 then setBit w (fieldN f.target 0 14) (f.value = 1) else w) w

/-- The forced inputs put over the local inputs of the header (R200). -/
def Lane.forceHeader (x : Lane) : Lane :=
  x.change.forces.foldl (fun y f =>
    if fieldN f.target 16 2 = 1 then y.headerBit (fieldN f.target 0 14) (f.value = 1) else y) x

/-- A PARAMETER package written: slots, sequence, M3 (R191). -/
def Lane.writeParameters (x : Lane) (b : List Byte) : Lane :=
  let y := (pkgEntries b).foldl (fun y e => y.wr32 (slotAddr e.index) e.new) x
  { y with
    change := { y.change with lastSeq := pkgWord b 0x0C }
    meas := y.meas.extendNow 3 (sha512 (b.take (pkgLength b))) }

/-- An accepted package applied by a lane (R191, R197, R200); `t0` is the start of the cycle. -/
def Lane.applyPackage (x : Lane) (b : List Byte) (hold : Bool) : Lane :=
  let count := place (pkgCount b) 0
  let sequence := pkgWord b 0x0C
  match pkgKind b with
  | 1 =>
    let y := (x.writeParameters b).postSecure [(0x80000000 : Word) ||| count, sequence]
    { y with change := { y.change with feeds := [(0x54000000 : Word) ||| count, sequence] } }
  | 2 => { x with change := { x.change with lastSeq := sequence } }
  | 3 =>
    ({ x with change := { x.change with lastSeq := sequence, swapWait := some x.tb.t0 } }).postSecure
      [(0x82000000 : Word) ||| (x.cycleLo &&& 0xFFFFFF)]
  | 4 => let y := (pkgEntries b).foldl Lane.force x
         if hold then y.forceHeader else y
  | 5 => (pkgEntries b).foldl (fun y e => y.unforce hold e) x
  | _ => x

/-- Every applied force and unforce recorded with target and value (R200). -/
def State.recordForces (s : State) (b : List Byte) (rc : State → List Word → State) : State :=
  if forceKind (pkgKind b) then (pkgEntries b).foldl (fun s e => rc s [e.target, e.new]) s else s

/-- The staging buffer released by the lanes (R188). -/
def State.releaseBuffer (s : State) : State := { s with chg := { s.chg with busy := false } }

/-- The lanes take no package any more. -/
def State.dropPending (s : State) : State :=
  s.mapLanes (fun x => { x with change := { x.change with pend := none } })

/-- The package that the lowest-lettered serving lane has pending; the others hold the same (R187). -/
def State.pendingPackage (s : State) : Option PendingChange :=
  match s.servingLanes with
  | [] => none
  | l :: _ => (s.lane l).change.pend

/-- The pending package applied by every serving lane, or removed with verdict MODE where its kind is no longer
permitted (R191, R192, R196). -/
def State.applyNow (s : State) (p : PendingChange) : State :=
  let k := pkgKind p.bytes
  if !s.kindPermitted k then
    let s := s.servingLanes.foldl (fun s l => s.updLane l (·.removePackage 0x0B)) s
    (s.recM .changeVerdict [verdictWord k 0 0x0B, packageSequence p.bytes]).releaseBuffer
  else
    let s := s.servingLanes.foldl (fun s l => s.updLane l (·.applyPackage p.bytes false)) s
    let s := s.dropPending.releaseBuffer
    let s := s.recordForces p.bytes (fun s ps => s.recM .forced ps)
    if k = 3 then s.recM .imageActivate [p.apply] else s.recM .changeApplied [place k 0, packageSequence p.bytes]

/-- The cycle of the lowest-lettered serving lane, low 32 bits. -/
def State.cycleLo (s : State) : Word := s.cycleNow

/-- A cycle number has come: not later than the present one, modulo 2^32 (R87, R184). -/
def State.cycleReached (s : State) (a : Word) : Bool := !newer a s.cycleLo

/-- An accepted package other than STOP is applied between t0(a) and the start of the application (R191). -/
def State.applyDue (s : State) (kinds : List Nat) : State :=
  match s.pendingPackage with
  | some p =>
    if p.posted && p.verdict.map (·.1) = some 0 && kinds.contains (pkgKind p.bytes) && s.cycleReached p.apply then
      s.applyNow p
    else s
  | none => s

/-- An accepted STOP package whose output cut t0(a) ends the present cycle (R196). -/
def State.stopDue (s : State) : Option PendingChange :=
  s.pendingPackage.filter fun p =>
    p.posted && p.verdict.map (·.1) = some 0 && pkgKind p.bytes = 2 && s.cycleReached (p.apply - 1)

/-- The modes in which a cycle has a vote (R215). -/
def Mode.votes : Mode → Bool
  | .stop | .run | .degraded | .resync | .maintenance => true
  | _ => false

/-- The bytes of the staging buffer. -/
def ChgBuf.all (c : ChgBuf) : List Byte := c.bytes.toList

/-- The arming of the staging buffer latched at t0, for all serving lanes at once (R186); in HOLD at the boundary
that would be a t0 (R201). SPLIT accepts no package (R190). DESIGN CHOICE (log 23): no arming is latched in a mode that has
no vote, HOLD apart. -/
def State.latchChange (s : State) : State :=
  if !s.chg.armed || s.chg.busy || s.pendingPackage.isSome then s
  else if s.md.mode = .hold then { s with chg := { s.chg with armed := false, busy := true } }
  else if s.md.mode.votes then
    let b := s.chg.all
    let s := { s with chg := { s.chg with armed := false, busy := true } }
    s.servingLanes.foldl (fun s l => s.updLane l (fun x =>
      let p : PendingChange :=
        { bytes := b, intake := x.cycleLo, slices := 0, verdict := none, posted := false, apply := 0 }
      { x with change := { x.change with pend := some p } })) s
  else s

/-- The package copied into the change work area (R187). -/
def Lane.workArea (x : Lane) (b : List Byte) : Lane :=
  x.wrWords 0x02FE0000 ((List.range 256).map (fun i => pkgWord b (4 * i)))

/-- The verdict cycle of a pending package has come (R188). DESIGN CHOICE (log 24): a package of no valid kind counts as a
signed one, and that of FORCE and UNFORCE is the intake cycle in every mode with a vote, though the rule names
MAINTENANCE alone. -/
def PendingChange.verdictDue (p : PendingChange) (cycle : Word) : Bool :=
  if forceKind (pkgKind p.bytes) then true else 15 ≤ (cycle - p.intake).toNat

/-- One change slice of a lane (R187): the copy in the first, the verdict with its two feeds in the last (R188). -/
def State.changeSlice (s : State) (l : LaneId) : State :=
  match (s.lane l).change.pend with
  | none => s
  | some p =>
    let s := if p.slices = 0 then s.updLane l (·.workArea p.bytes) else s
    let p := { p with slices := p.slices + 1 }
    let x := s.lane l
    if p.verdict.isSome || !p.verdictDue x.cycleLo then
      s.updLane l (fun x => { x with change := { x.change with pend := some p } })
    else
      let v := s.verdict x p.bytes false (s.svc.journal s.svc.slotA).length x.cycleLo
      let q := { p with verdict := some (BitVec.ofNat 8 v.1, BitVec.ofNat 8 v.2), apply := applyCycle x.cycleLo p.bytes }
      let y := { x with change := { x.change with pend := some q } }
      s.setLane l (y.feedAll s.md.mode [verdictWord (packageKind p.bytes) v.2 v.1, packageSequence p.bytes])

/-- After the vote of the verdict cycle the serving lanes post the verdict and record it; a refused package is
removed and the buffer released (R188). -/
def State.postVerdict (s : State) : State :=
  match s.pendingPackage with
  | none => s
  | some p =>
    match p.verdict, p.posted with
    | some (code, entry), false =>
      let w := verdictWord (packageKind p.bytes) entry.toNat code.toNat
      let n := packageSequence p.bytes
      let s := s.servingLanes.foldl (fun s l => s.updLane l (fun x =>
        let x := x.postSecure [w, n]
        { x with change := { x.change with
          pend := if code = 0 then x.change.pend.map (fun q => { q with posted := true }) else none } })) s
      let s := s.recM .changeVerdict [w, n]
      if code = 0 then s else s.dropPending.releaseBuffer
    | _, _ => s

/-- A lane in HOLD takes the package at the start of a cycle that the debugger starts (R201): every check at once,
the application, the feeds. -/
def State.holdTake (s : State) (l : LaneId) : State :=
  let x := s.lane l
  if !s.chg.busy || x.change.pend.isSome then s
  else
    let b := s.chg.all
    let x := x.workArea b
    let v := s.verdict x b false 0 x.cycleLo
    let p : PendingChange :=
      { bytes := b, intake := x.cycleLo, slices := 1, verdict := some (BitVec.ofNat 8 v.1, BitVec.ofNat 8 v.2),
        posted := false, apply := x.cycleLo }
    let x := if v.1 = 0 then x.applyPackage b true else x
    let x := x.feedAll s.md.mode [verdictWord (packageKind b) v.2 v.1, packageSequence b]
    let s := s.setLane l { x with change := { x.change with pend := some p } }
    if v.1 = 0 then s.recordForces b (fun s ps => s.recL l .forced ps) else s

/-- The journal of the active slot reapplied by a lane (R194): the lane, and the index of a package that fails. -/
def State.reapply (s : State) (x : Lane) (i : Nat) : List (List Byte) → Lane × Option Nat
  | [] => (x, none)
  | b :: r =>
    if pkgKind b = 1 && (s.verdict x b true i 0).1 = 0 then s.reapply (x.writeParameters b) (i + 1) r
    else (x, some i)

end Sys2Proof.Machine
end

