-- ==== Sys2Proof/Machine/Ring.lean ====
section
/-! DEFINITION. The ring port (chapter 09): the adopted schedule, frames, the guardians, what a frame that arrives does,
the port's own frames, and the readings of Invar. -/

namespace Sys2Proof.Machine

/-- SLOTS (R279). -/
def RingSt.slots (r : RingSt) : Nat := fieldN (r.hdr 2) 16 13

/-- The master addresses in list order (R279). -/
def RingSt.masters (r : RingSt) : List Nat :=
  (List.range (min 16 (fieldN (r.hdr 3) 0 5))).map (fun i => fieldN (r.hdr (4 + i / 2)) (16 * (i % 2)) 10)

/-- A word of the adopted slot entries (R280). -/
def RingSt.entry (r : RingSt) (i : Nat) : Word := (alook i r.entries).getD 0

/-- OWNER, LENGTH and START of a slot (R280). -/
def RingSt.owner (r : RingSt) (n : Nat) : Nat := fieldN (r.entry (2 * n)) 0 10
def RingSt.length (r : RingSt) (n : Nat) : Nat := fieldN (r.entry (2 * n)) 16 12
def RingSt.start (r : RingSt) (n : Nat) : Nat := fieldN (r.entry (2 * n + 1)) 0 21

/-- The slots of a node in slot order. -/
def RingSt.owned (r : RingSt) (node : Nat) : List Nat := (List.range r.slots).filter (fun n => r.owner n = node)

/-- The sync slot of a master (R280). -/
def RingSt.sync (r : RingSt) (node : Nat) : Option Nat := (r.owned node).head?

/-- The stored link delay of a port; 0 until its first measurement (R273). -/
def RingPort.linkDelay (p : RingPort) : Nat := if p.valid then p.delay.toNat else 0

/-- L_R of the path that enters at a port (R272, R381). -/
def State.repeaterDelay (s : State) (p : Port) : Nat :=
  match p with
  | .W => (s.sealSt.word 1).toNat / 65536 % 256
  | .E => (s.sealSt.word 1).toNat / 16777216 % 256

/-- A frame as received (R275). -/
structure Frame where
  version : Nat
  null : Bool
  notVital : Bool
  healed : Bool
  /-- false X, true Y -/
  ring : Bool
  cold : Bool
  source : Nat
  slot : Nat
  bodyLen : Nat
  nc : Nat
  sched : Word
  delay : Nat
  /-- the reserved bits are 0 -/
  clean : Bool
  crcOk : Bool
  body : List Byte
  deriving DecidableEq, Repr

/-- The fields of a frame (R275). -/
def parseFrame (b : List Byte) : Frame :=
  let n := b.length - 4
  let f := leAt b 1 1
  { version := leAt b 0 1 % 16, null := f.testBit 0, notVital := f.testBit 1, healed := f.testBit 2
    ring := f.testBit 3, cold := f.testBit 4, source := leAt b 2 2 % 1024, slot := leAt b 4 2 % 4096
    bodyLen := leAt b 6 2 % 4096, nc := leAt b 8 6, sched := BitVec.ofNat 32 (leAt b 0x10 4), delay := leAt b 0x14 4
    clean := leAt b 0 1 / 16 = 0 && f / 32 = 0 && leAt b 2 2 / 1024 = 0 && leAt b 4 2 / 4096 = 0 &&
      leAt b 6 2 / 4096 = 0 && leAt b 0xE 2 = 0
    crcOk := 28 ≤ b.length && BitVec.ofNat 32 (leAt b n 4) = ringCrc (b.take n)
    body := (b.take n).drop 24 }

/-- The PDUs of a body, where walking them ends exactly at its end (R277). -/
def walkBody : Nat → List Byte → Option (List (List Byte))
  | _, [] => some []
  | 0, _ => none
  | n + 1, b =>
    let l := 24 + leAt b 12 1
    if b.length < 16 || 96 < leAt b 12 1 || b.length < l then none
    else (walkBody n (b.drop l)).map (b.take l :: ·)

/-- The PDUs of a frame whose body is valid (R277). -/
def Frame.pdus (f : Frame) : Option (List (List Byte)) :=
  if f.body.length = f.bodyLen && f.bodyLen ≤ 2020 then walkBody 96 f.body else none

/-- The bytes of a frame with another DELAY and a fresh ring CRC, complemented where the old one had failed (R273). -/
def redelay (b : List Byte) (delay : Nat) (good : Bool) : List Byte :=
  let n := b.length - 4
  let h := b.take 0x14 ++ natLe 4 (delay % 2 ^ 32) ++ (b.take n).drop 0x18
  h ++ wordBytes (if good then ringCrc h else ~~~ ringCrc h)

/-- The output that repeats what arrives at a port: the other one, or the same where that is looped (R302). -/
def State.outputOf (s : State) (p : Port) : Port := if (s.ring.port (otherPort p)).looped then p else otherPort p

/-- A frame forwarded (R273, R302): out of the other port, or back where that is looped; `ns` is its start. -/
def State.forward (s : State) (p : Port) (f : Frame) (bytes : List Byte) (ns : Nat) : State :=
  let d := f.delay + (s.ring.port p).linkDelay + s.repeaterDelay p
  s.updPort (s.outputOf p) (fun k => { k with
    outFrame := redelay bytes d f.crcOk, outCut := false, busyUntil := ns + s.repeaterDelay p + frameTime bytes.length })

/-- The node has no network time and waits; its silence wait starts anew (R291). -/
def State.coldCollision (s : State) : State :=
  let n := s.ring.collisions + 1
  let s := s.updRing (fun r => { r with
    tx := false, acquired := false, armed := false, armNext := false, wholeCycle := false
    cold := if 8 ≤ n then 0 else 3, collisions := n, coldExhausted := 8 ≤ n, quietFrom := s.guard.optime })
  let s := s.recRing .coldstartCollision
  if 8 ≤ n then s.recRing .coldstartExhausted else s

/-- A guardian cut (R297 to R299); reason 5 is unattributed, as every cut is while the block entries are full. In the cold start phase it is a collision (R291). -/
def State.ringCut (s : State) (p : Port) (source reason : Nat) : State :=
  let blocked := s.ring.blocks.contains (source, p == .E)
  let un := reason = 5 || (32 ≤ s.ring.blocks.length && !blocked)
  let n := (alook source (s.ring.port p).cuts).getD 0 + 1
  let s := s.updRing (fun r => { r with
    lastCut := place (if un then 0 else source) 0 ||| place (portBit p) 12 ||| place (if un then 5 else reason) 13 })
  let s := s.updPort p (fun k => { k with cutCount := satInc k.cutCount })
  let s := if un then
      let m := (s.ring.port p).unattr + 1
      s.updPort p (fun k => { k with unattr := m, due := if 3 ≤ m then k.due ||| 16 else k.due })
    else
      let s := s.updPort p (fun k => { k with cuts := aset source n k.cuts })
      if 3 ≤ n && !blocked then
        (s.updRing (fun r => { r with blocks := r.blocks ++ [(source, p == .E)] })).recRing .guardianBlock
          [place source 0, place (portBit p) 0]
      else s
  if s.ring.cold = 2 then s.coldCollision else s

/-- The expected start of a frame at a port in ns (R292, R297). -/
def State.expected (s : State) (p : Port) (f : Frame) : Nat :=
  f.nc * s.ring.tn10 * 10 + s.ring.start f.slot * 10 + f.delay + (s.ring.port p).linkDelay

/-- What a guardian decides (R297): 0 forwarded, 6 dropped without a cut, otherwise the reason of the cut. -/
def State.guardianSays (s : State) (p : Port) (f : Frame) (ns : Nat) : Nat :=
  let e := s.expected p f
  if !(1 ≤ f.source && f.source ≤ 1000 && f.slot < s.ring.slots) then 5
  else if s.ring.owner f.slot ≠ f.source then 2
  else if f.sched ≠ s.ring.hdr 1 || f.nc ≠ e / (s.ring.tn10 * 10) then 3
  else if ns + 1000 < e || e + 1000 < ns then 1
  else if s.ring.blocks.contains (f.source, p == .E) then 6
  else 0

/-- An instance of a port's guardian is disabled or under test (R300, R460). -/
def State.guardOut (s : State) (p : Port) (g : Nat) : Bool :=
  let i := 2 * portBit p + g
  s.bist.disabled.getLsbD i || s.bist.shared = some i

/-- The armed guardian of a port decides on a frame (R297, R300). With G1 inverted by an injection the instances disagree,
and the more restrictive outcome applies: the frame is not forwarded, and the cut of the instance that finds one counts.
DESIGN CHOICE (log 87): an inverted decision to forward drops the frame without a cut. The flag tells that it is
forwarded. -/
def State.guardian (s : State) (p : Port) (f : Frame) (ns : Nat) : State × Bool :=
  let d := s.guardianSays p f ns
  if !s.ring.armed then (s, true)
  else if s.injected 0x2A none && s.injParam % 2 = portBit p && !s.guardOut p 0 && !s.guardOut p 1 then
    let s := (s.fire).updRing (fun r => { r with guardDiff := satInc r.guardDiff })
    let s := s.recRing .ringGuardDiff [place (portBit p) 0]
    (if d = 0 || d = 6 then s else s.ringCut p f.source d, false)
  else if d = 0 then (s, true)
  else if d = 6 then (s, false)
  else (s.ringCut p f.source d, false)

/-- The end of the window of a frame in ns: E + T(LENGTH) + 1 us (R297). -/
def State.windowEnd (s : State) (p : Port) (f : Frame) : Nat :=
  s.expected p f + frameTime (s.ring.length f.slot) + 1000

/-- A frame that is still running at the end of its window (R297). -/
def State.overruns (s : State) (p : Port) (f : Frame) (len ns : Nat) : Bool :=
  s.ring.armed && decide (s.windowEnd p f < ns + frameTime len)

/-- A frame that the armed guardian of a port lets pass, until the end of its window (R297). -/
def State.watch (s : State) (p : Port) (f : Frame) (len ns : Nat) : State :=
  if s.ring.armed then
    s.updPort p (fun k => { k with passing := some (f.source, ns, ns + frameTime len, s.windowEnd p f) })
  else s

/-- The frame that passes a port truncated at the end of its window (R270, R297): the output closes it with /V/ after the
bytes that have left. -/
def State.truncate (s : State) (p : Port) (start limit : Nat) : State :=
  let s := s.updPort p (fun k => { k with passing := none })
  let room := (limit - start - s.repeaterDelay p) / 8 - 1
  s.updPort (s.outputOf p) (fun k => { k with outFrame := k.outFrame.take room, outCut := true, busyUntil := limit })

/-- The index of a master whose sync slot a frame was sent in (R280). -/
def RingSt.syncOf (r : RingSt) (f : Frame) : Option Nat :=
  if r.sync f.source = some f.slot then r.masters.findIdx? (fun m => m = f.source) else none

/-- The SYNC frame of a master, good and of the node's own schedule. -/
def State.masterFrame (s : State) (f : Frame) : Option Nat :=
  if f.crcOk && f.version = 1 && s.ring.schedOk && f.sched = s.ring.hdr 1 then s.ring.syncOf f else none

/-- A reading of Invar taken (R292): the first copy on each ring. -/
def State.reading (s : State) (p : Port) (f : Frame) (i ns : Nat) (fwd : Bool) : State :=
  let r : Int := (ns : Int) + s.tb.slew.toInt - (s.expected p f : Int)
  let near := decide (-10000 ≤ r ∧ r ≤ 10000)
  if !(s.ring.acquired && f.nc = s.netCycle && (if s.ring.armed then fwd else near)) then s
  else if f.ring then
    if (vget s.ring.readY i none).isSome then s else s.updRing (fun k => { k with readY := vset k.readY i (some r) })
  else if (vget s.ring.readX i none).isSome then s else s.updRing (fun k => { k with readX := vset k.readX i (some r) })

/-- The links without a fault have been measured (R288). -/
def RingSt.measured (r : RingSt) : Bool := (r.w.fresh || r.w.fault) && (r.e.fresh || r.e.fault)

/-- A port that has a fault loops once the node has acquired (R302, R303). -/
def RingPort.loopAcquired (k : RingPort) : RingPort := if k.fault then { k with looped := true } else k

/-- Network time acquired (R288, R290): NT loaded, NTF and RATE 0, the guardians to be armed. -/
def State.acquire (s : State) (nt : Nat) (armedNow : Bool) : State :=
  let s := { s with tb := { s.tb with nt := BitVec.ofNat 64 nt, ntf := 0, rate := 0, slew := 0, slewD := 0, slewTicks := 0 } }
  s.updRing (fun r => { r with
    acquired := true, cycleNo := nt / r.tn10, armed := armedNow, armNext := !armedNow, wholeCycle := armedNow, badCycle := false
    ncDiffers := false, cold := if armedNow then 2 else 0, readX := Vector.replicate 16 none
    readY := Vector.replicate 16 none, deltas := [], noReadRun := 0, w := r.w.loopAcquired, e := r.e.loopAcquired })

/-- The node may acquire: JOINING, without network time, its links measured (R288, R291). -/
def State.mayAcquire (s : State) : Bool :=
  s.md.mode = .joining && !s.ring.acquired && s.ring.schedOk && s.ring.measured

/-- The interval of a master's sync frames in consecutive network cycles, rounded to 5, 10 or 20 ms: the TN code. -/
def observedTn (ns : Nat) : Nat := if ns < 7500000 then 0 else if ns < 15000000 then 1 else 2

/-- SAFE_STOP requested by the lanes on a fault that all of them see (R352): the record's code is the reason. -/
def State.lanesStop (s : State) (name : RecName) (ps : List Word) : State :=
  (s.recM name ps).safeStop .lane ((codeOf name).setWidth 16)

/-- TN observed in JOINING, for each master by its own sync frames (R86, R289). -/
def State.observeTn (s : State) (f : Frame) (ns : Nat) : State :=
  let prev := alook f.source s.ring.lastSync
  let s := s.updRing (fun r => { r with lastSync := aset f.source (f.nc, ns) r.lastSync })
  match prev with
  | some (nc, at0) =>
    if nc + 1 = f.nc && observedTn (ns - at0) ≠ fieldN (s.ring.hdr 2) 0 2 then
      s.lanesStop .cycleTnMismatch [place (observedTn (ns - at0)) 0]
    else s
  | none => s

/-- A master's sync frame (R86, R288, R289, R292). -/
def State.syncFrame (s : State) (p : Port) (f : Frame) (i ns : Nat) (fwd : Bool) : State :=
  let s := if s.md.mode = .joining && !s.ring.joined then s.observeTn f ns else s
  if s.md.mode ≠ .safeStop && s.mayAcquire then s.acquire ((s.expected p f + 5) / 10) false
  else if s.ring.acquired && f.nc ≠ s.netCycle then s.updRing (fun r => { r with badCycle := true, ncDiffers := true })
  else s.reading p f i ns fwd

/-- Something that R289 and R291 look for in a frame of another node. -/
def State.observe (s : State) (p : Port) (f : Frame) (ns : Nat) (fwd : Bool) : State :=
  if !f.crcOk then s
  else
    let s := s.updRing (fun r => { r with quietFrom := s.guard.optime, healedNow := r.healedNow || f.healed })
    let s := if f.version = 1 && f.source = (s.ring.port p).nAddr.toNat then s.updPort p (fun k => { k with heard := true })
      else s
    let foreign := s.ring.schedOk && f.sched ≠ s.ring.hdr 1 && !s.ring.joined && s.md.mode = .joining
    let due := match s.ring.mismatchAt with
      | some t => decide (t + 1000000000 ≤ s.guard.optime)
      | none => true
    let s := if foreign then s.updRing (fun r => { r with badCycle := true }) else s
    let s := if foreign && due then
        (s.updRing (fun r => { r with mismatchAt := some s.guard.optime })).recRing .ringSchedMismatch [f.sched]
      else s
    if s.ring.cold = 2 && (f.cold || f.nc ≠ s.netCycle) then s.coldCollision
    else
      match s.masterFrame f with
      | some i => s.syncFrame p f i ns fwd
      | none => s

/-- The lanes have supply and are out of reset. -/
def State.lanesUp (s : State) : Bool := s.md.mode ≠ .priming && s.md.mode ≠ .powerFail

/-- A copy put in a lane's receive buffer of 2,048 (R319). -/
def Lane.receive (x : Lane) (c : Copy) : Lane :=
  x.slUpd (fun k => if k.rx.length < 2048 then { k with rx := k.rx ++ [c] } else { k with rxOver := k.rxOver + 1 })

/-- A node from which the station data of a lane configures a receiving connection (R278). -/
def Lane.receivesFrom (x : Lane) (source : Nat) : Bool :=
  (List.range 512).any (fun c => x.connRx c && x.connPartner c = source)

/-- The conditions of R278 but for the body. -/
def State.deliverable (s : State) (p : Port) (f : Frame) : Bool :=
  f.crcOk && f.version = 1 && f.clean && s.ring.schedOk && f.sched = s.ring.hdr 1 && s.ring.acquired &&
    f.nc = s.netCycle && f.slot < s.ring.slots && s.ring.owner f.slot = f.source && !f.null &&
    !s.ring.blocks.contains (f.source, p == .E) && (!f.notVital || s.md.role = .split) && !s.ring.clkUnq && s.lanesUp

/-- The stamp of a frame that starts at `ns` (R92): its last byte follows /S/ and the bytes before it. -/
def stampOf (ns len : Nat) : Nat := ns + (len + 1) * 8

/-- The copies of a frame delivered to the lanes' receive buffers (R278, R92). -/
def State.deliver (s : State) (p : Port) (f : Frame) (stamp : Nat) : State :=
  if !s.deliverable p f then s
  else
    match f.pdus with
    | none => s.updRing (fun r => { r with rxBody := satInc r.rxBody })
    | some ps =>
      let key := (f.source, f.slot, f.ring)
      if s.ring.delivered.contains key || !LaneId.list.any (fun l => (s.lane l).receivesFrom f.source) then s
      else
        let s := s.updRing (fun r => { r with rxCount := satInc r.rxCount, delivered := r.delivered ++ [key] })
        s.mapLanes (fun x =>
          if x.receivesFrom f.source then
            ps.foldl (fun x b => x.receive { source := BitVec.ofNat 10 f.source, healed := f.healed, bytes := b, stamp := stamp }) x
          else x)

/-- An own-address frame that matches no frame sent (R284). -/
def State.impostor (s : State) : State :=
  ((s.updRing (fun r => { r with tx := false })).recRing .ringAddressConflict).safeStop .impostor

/-- A frame with the node's own SOURCE (R274, R284, R289): in the cold start phase the node's own frames return (R290,
R298); any other counts in JOINING as the address being in use. -/
def State.ownFrame (s : State) (p : Port) (f : Frame) (bytes : List Byte) (ns : Nat) : State :=
  let s := if f.ring = (p == .E) || s.ring.anyLooped then s else s.forward p f bytes ns
  if !(f.crcOk && f.version = 1) then s
  else
    let s := s.updRing (fun r => { r with quietFrom := s.guard.optime })
    let own := s.ring.sent.contains (f.slot, f.nc, f.ring, crcWithoutDelay bytes)
    if !s.ring.joined then
      if s.ring.cold = 2 && own then s.updRing (fun r => { r with returned := true })
      else if s.md.mode = .joining then s.updRing (fun r => { r with ownSeen := true, badCycle := true })
      else s
    else if s.injected 0x2D none then (s.fire).impostor
    else if own then s.updRing (fun r => { r with returned := true })
    else s.impostor

/-- A frame arrives at a port (R272 to R278, R284, R288 to R292, R297 to R300). A collision that a cut makes ends what the
node does with the frame (R291); one that overruns its window gives no reading and is not delivered. -/
def State.frameIn (s : State) (p : Port) (bytes : List Byte) (ns : Nat) : State :=
  let s := s.advanceTo (ns / 10)
  if !s.ring.alive || (s.ring.port p).looped then s
  else if bytes.length < 24 then s.updRing (fun r => { r with rxCrc := satInc r.rxCrc })
  else
    let f := parseFrame bytes
    let s := if f.crcOk then s else s.updRing (fun r => { r with rxCrc := satInc r.rxCrc })
    if f.source = s.node && s.node ≠ 0 then s.ownFrame p f bytes ns
    else
      let cold := s.ring.cold
      let s := s.updPort p (fun k => { k with seen := insertNat f.source k.seen })
      let g := s.guardian p f ns
      let s := if g.2 then (g.1.forward p f bytes ns).watch p f bytes.length ns else g.1
      if cold = 2 && s.ring.cold ≠ 2 then s
      else
        let whole := g.2 && !s.overruns p f bytes.length ns
        let s := s.observe p f ns whole
        if whole then s.deliver p f (stampOf ns bytes.length) else s

/-- The module sends in its slots (R283, R296, R298). -/
def State.sends (s : State) : Bool :=
  s.ring.alive && s.ring.tx && !s.ring.selfSilent && !s.ring.listenOnly &&
    s.md.mode ≠ .priming && s.md.mode ≠ .startupTest && s.md.mode ≠ .powerFail

/-- The longest run of leading PDUs whose bytes fit (R283). -/
def fitPdus (room : Nat) : List Pdu → List Pdu × List Pdu
  | [] => ([], [])
  | p :: ps =>
    if p.bytes.length ≤ room then
      let r := fitPdus (room - p.bytes.length) ps
      (p :: r.1, r.2)
    else ([], p :: ps)

/-- The modes in which own slots carry PDUs (R283). -/
def Mode.sendsPdus : Mode → Bool
  | .stop | .run | .degraded | .resync | .maintenance => true
  | _ => false

/-- A repeated frame still running at the own slot start is truncated (R301). -/
def State.ringClash (s : State) (running : Option (BitVec 10)) : State :=
  match running with
  | none => s
  | some src => (s.updRing (fun r => { r with clash := satInc r.clash })).recRing .ringClash [src.setWidth 32]

/-- The lane whose share an own slot is in SPLIT (R19). -/
def State.splitLane (s : State) (slot : Nat) : LaneId :=
  ((LaneId.ofNum ((s.ring.owned s.node).findIdx (fun n => n = slot) % 3))).getD .A

/-- The body that an own slot carries, and the state without its PDUs (R283): PDUs go in the first network cycle of
the interlocking cycle alone. -/
def State.slotBody (s : State) (slot : Nat) : List Byte × State :=
  let room := s.ring.length slot - 28
  let first (x : Lane) : Bool := x.tb.started && x.tb.t0.toNat = s.netCycle * s.ring.tn10
  if s.md.mode = .split then
    let l := s.splitLane slot
    if first (s.lane l) then
      let r := fitPdus room (s.lane l).sl.release
      (r.1.flatMap (·.bytes), s.updLane l (fun x => x.slUpd (fun k => { k with release := r.2 })))
    else ([], s)
  else if s.md.mode.sendsPdus && first s.lead then
    let r := fitPdus room s.md.released
    (r.1.flatMap (·.bytes), { s with md := { s.md with released := r.2 } })
  else ([], s)

/-- The start of an own slot (R283, R301). -/
def State.ownSlot (s : State) (slot : Nat) (runX runY : Option (BitVec 10)) : State :=
  let s := s.advanceTo (s.netCycle * s.ring.tn10 + s.ring.start slot)
  if !(s.sends && slot < s.ring.slots && s.ring.owner slot = s.node && s.node ≠ 0) then s
  else if s.ring.w.looped && s.ring.e.looped then s
  else
    let s := if s.ring.e.looped then s else s.ringClash runX
    let s := if s.ring.w.looped then s else s.ringClash runY
    let s := if s.injected 0x29 none then s.fire else s
    let r := s.slotBody slot
    (r.2.sendOut slot .E r.1).sendOut slot .W r.1

/-- A quotient rounded to the nearest integer, halves away from zero (R292, R293). -/
def roundDiv (a : Int) (b : Nat) : Int :=
  let n := (2 * a.natAbs + b) / (2 * b)
  if a < 0 then -(n : Int) else (n : Int)

/-- The reading of a master (R292): the mean of the two rings, 0 for the node itself. -/
def State.masterReading (s : State) (i : Nat) : Option Int :=
  if s.ring.masters[i]? = some s.node then some 0
  else
    match vget s.ring.readX i none, vget s.ring.readY i none with
    | some x, some y => some (roundDiv (x + y) 2)
    | some x, none => some x
    | none, some y => some y
    | none, none => none

/-- A reading put in its place among ascending ones. -/
def insertReading (p : Int × Nat) : List (Int × Nat) → List (Int × Nat)
  | [] => [p]
  | q :: r => if p.1 ≤ q.1 then p :: q :: r else q :: insertReading p r

/-- The readings kept out of an ascending list (R293). -/
def keptReadings (ps : List (Int × Nat)) : List (Int × Nat) :=
  let k := ps.length
  let cut := if k ≤ 2 then 0 else if k ≤ 6 then 1 else 2
  (ps.take (k - cut)).drop cut

/-- δ and the masters whose readings were kept (R293). -/
def deltaOf (ps : List (Int × Nat)) : Option Int × List Nat :=
  let kept := keptReadings (ps.foldl (fun acc p => insertReading p acc) [])
  if kept = [] then (none, []) else (some (roundDiv (kept.foldl (fun n p => n + p.1) 0) kept.length), kept.map (·.2))

/-- A reading as RING_MDEV shows it (R306). -/
def mdevWord : Option Int → Word
  | none => 0
  | some v => place ((BitVec.ofInt 16 (max (-32767) (min 32767 v))).toNat) 0 ||| flag true 31

end Sys2Proof.Machine
end

