-- ==== Sys2Proof/Machine/RingRows.lean ====
section
/-! DEFINITION. The rows of the ring and of Invar (chapter 09): frames, slots, network cycle boundaries, link probes,
healing and restoration, cold start, the commit of the schedule, and the RING registers. -/

namespace Sys2Proof.Machine

/-- A frame arrives (R278). -/
def execFrameArrival (p : Port) (bytes : List Byte) (ns : Nat) (s : State) : Host.Outcome State Fault Refusal :=
  ok (s.frameIn p bytes ns)

/-- The frame of a SOURCE that passes a port and is still running at the end of its window: its start and that end. -/
def State.overrunning (s : State) (p : Port) (source : Nat) : Option (Nat × Nat) :=
  if !(s.ring.alive && s.ring.armed && !(s.ring.port p).looped) then none
  else
    match (s.ring.port p).passing with
    | some (src, start, stop, limit) => if src = source && limit < stop then some (start, limit) else none
    | none => none

/-- A frame that is still running at the end of its window is truncated, a cut with reason OVERRUN (R297). -/
def execGuardianOverrun (p : Port) (source : BitVec 10) (s : State) : Host.Outcome State Fault Refusal :=
  ok (match s.overrunning p source.toNat with
    | some (start, limit) => ((s.advanceTo (limit / 10)).truncate p start limit).ringCut p source.toNat 4
    | none => s)

/-- The start of an own slot (R283). -/
def execOwnSlotStart (slot : BitVec 12) (runningX runningY : Option (BitVec 10)) (s : State) :
    Host.Outcome State Fault Refusal :=
  ok (s.ownSlot slot.toNat runningX runningY)

/-- δ of the network cycle that ends, with RING_MDEV, RING_INVAR_DEV and RING_INVAR_K (R292, R293, R306); the
injection INVAR_DEV adds 800 ns (R463). -/
def State.formDelta (s : State) : State × Option Int :=
  let rs := (List.range s.ring.masters.length).filterMap (fun i => (s.masterReading i).map (fun v => (v, i)))
  let d := deltaOf rs
  let inj := s.injected 0x2C none && d.1.isSome
  let s := if inj then s.fire else s
  let delta := if inj then d.1.map (· + 800) else d.1
  let used := d.2.foldl (fun n i => n + 2 ^ i) 0
  (s.updRing (fun r => { r with
    dev := match delta with
      | none => 0x80000000
      | some v => BitVec.ofInt 32 v
    kWord := place rs.length 0 ||| place used 16
    mdev := Vector.ofFn (fun i => mdevWord (if i.val < s.ring.masters.length then s.masterReading i.val else none))
    readX := Vector.replicate 16 none, readY := Vector.replicate 16 none }), delta)

/-- An offset correction decided, to be spread over the next network cycle (R106, R294). -/
def State.slewBy (s : State) (d : Int) : State :=
  let w := BitVec.ofInt 32 d
  { s with tb := { s.tb with slew := w, slewD := w, slewTicks := s.ring.tn10 } }

/-- What a node that is not listen-only does with δ (R294). -/
def State.applyDelta (s : State) (delta : Option Int) : State :=
  match delta with
  | none =>
    let n := s.ring.noReadRun + 1
    (s.slewBy 0).updRing (fun r => { r with
      noRead := satInc r.noRead, noReadRun := n, listenDue := r.listenDue || 16 ≤ n })
  | some d =>
    let s := s.updRing (fun r => { r with noReadRun := 0 })
    if d.natAbs ≤ 750 then
      let s := s.slewBy (-d)
      { s with tb := { s.tb with synced := d.natAbs ≤ 500 } }
    else
      let s := (s.slewBy 0).updRing (fun r => { r with listenDue := true })
      { s with tb := { s.tb with synced := false } }

/-- What a listen-only node does at a boundary (R108, R296): after a full network cycle of listen-only it rejoins on an
acceptable δ, re-arms at the next boundary and transmits from the cycle that begins there, once it has joined. -/
def State.listenBoundary (s : State) (delta : Option Int) : State :=
  let s := s.updRing (fun r => { r with
    listenFor := r.listenFor + 1, noRead := if delta.isNone then satInc r.noRead else r.noRead })
  if s.ring.ncDiffers then s.lanesStop .cycleNcMismatch []
  else
    match delta with
    | none => s
    | some d =>
      if d.natAbs ≤ 750 && s.ring.listenFrom ≤ s.ring.cycleNo * s.ring.tn10 then
        let s := (s.slewBy (-d)).updRing (fun r => { r with
          listenOnly := false, listenDue := false, armNext := true, noReadRun := 0
          txAt := if r.joined then some (r.cycleNo + 2) else none })
        { s with tb := { s.tb with synced := d.natAbs ≤ 500 } }
      else s

/-- The node joins (R289, R290): it transmits, and JOINING ends at the coming output cut (R25). -/
def State.join (s : State) : State :=
  let s := s.updRing (fun r => { r with tx := true, joined := true, lostCycles := 0 })
  if s.md.mode = .joining then { s with md := { s.md with events := s.md.events ++ [.joined] } } else s

/-- A network cycle examined while joining (R25, R289): the node's own address seen in JOINING, before the acquisition too,
stops the module (R284). -/
def State.judgeCycle (s : State) (delta : Option Int) : State :=
  if s.md.mode ≠ .joining || s.ring.joined then s
  else if s.ring.ownSeen then s.lanesStop .ringAddressConflict []
  else if s.ring.cold ≠ 0 || !s.ring.wholeCycle then s
  else
    match delta with
    | some d => if d.natAbs ≤ 500 && !s.ring.badCycle then s.join else s
    | none => s

/-- What a port closes at a boundary: the counts of the network cycle, and cause 3 (R287, R298, R299). -/
def RingPort.endCycle (k : RingPort) (acquired : Bool) : RingPort :=
  let n := if k.nTx && !k.heard then k.silent + 1 else 0
  { k with
    silent := n, heard := false, unattr := 0, cuts := [], seen := []
    due := if acquired && 3 ≤ n then k.due ||| 8 else k.due }

/-- The blocks that lift: no frame of the SOURCE arrived at the port (R298). -/
def RingSt.liftBlocks (r : RingSt) : RingSt :=
  { r with blocks := r.blocks.filter (fun b => (if b.2 then r.e.seen else r.w.seen).contains b.1) }

/-- Own frames that return on neither ring for 2 network cycles silence the node for one (R298). -/
def State.silenceCheck (s : State) : State :=
  let r := s.ring
  if r.selfSilent then s.updRing (fun r => { r with selfSilent := false, lostCycles := 0 })
  else if !r.sentNow || r.returned || (r.w.looped && r.e.looped) then s.updRing (fun r => { r with lostCycles := 0 })
  else if r.lostCycles + 1 < 2 then s.updRing (fun r => { r with lostCycles := r.lostCycles + 1 })
  else (s.updRing (fun r => { r with lostCycles := 0, selfSilent := true })).recRing .ringSelfSilence

/-- A network cycle boundary (R289, R294, R296 to R298). -/
def State.ringBoundary (s : State) : State :=
  if !s.ring.acquired then s
  else
    let next := s.ring.cycleNo + 1
    let s := s.advanceTo (next * s.ring.tn10)
    let r := s.formDelta
    let listening := s.ring.listenOnly
    let s := if listening then r.1.listenBoundary r.2 else r.1.applyDelta r.2
    let s := (s.judgeCycle r.2).silenceCheck
    s.updRing (fun k =>
      let k := k.liftBlocks
      let arm := k.armNext && !(listening && !k.listenOnly) && k.schedOk
      { k with
        w := k.w.endCycle k.acquired, e := k.e.endCycle k.acquired
        deltas := ((if listening then none else r.2) :: k.deltas).take 16
        rateDue := decide (next % 16 = 0)
        cycleNo := next
        armed := k.armed || arm
        armNext := k.armNext && !arm
        tx := k.tx || k.txAt = some next
        txAt := if k.txAt = some next then none else k.txAt
        healedSeen := k.healedNow, healedNow := false
        wholeCycle := true, badCycle := false, ncDiffers := false
        sentNow := false, returned := false, delivered := []
        sent := k.sent.filter (fun f => next ≤ f.2.1 + 1) })

/-- A network cycle boundary (R294). -/
def execNetworkCycleBoundary (s : State) : Host.Outcome State Fault Refusal := ok s.ringBoundary

/-- The limit of RATE (R106). -/
def rateLimit : Int := 858993

/-- RATE after its update (R295): rate - round(2^31 x sum / (16 x tn in ns)). -/
def newRate (rate sum : Int) (tnNs : Nat) : Int := rate - roundDiv (2147483648 * sum) (16 * tnNs)

/-- The rate update at a boundary that ends 16 network cycles (R106, R295). -/
def State.updateRate (s : State) : State :=
  if !s.ring.rateDue then s
  else
    let s := s.updRing (fun r => { r with rateDue := false })
    if s.ring.deltas.length < 16 || s.ring.deltas.any (·.isNone) then s
    else
      let sum := s.ring.deltas.foldl (fun n d => n + d.getD 0) 0
      let v := newRate s.tb.rate.toInt sum (s.ring.tn10 * 10)
      let c := max (-rateLimit) (min rateLimit v)
      let s := { s with tb := { s.tb with rate := BitVec.ofInt 32 c } }
      if c = v then s
      else (s.updRing (fun r => { r with clips := satInc r.clips })).recRing .invarRateClip [BitVec.ofInt 32 v]

/-- The rate update (R295). -/
def execInvarRateUpdate (s : State) : Host.Outcome State Fault Refusal := ok s.updateRate

/-- The node goes listen-only (R108, R296). -/
def execInvarListenOnly (s : State) : Host.Outcome State Fault Refusal :=
  ok (if s.ring.listenDue && !s.ring.listenOnly then
      ((s.slewBy 0).updRing (fun r => { r with
        listenOnly := true, listenDue := false, listenFor := 0, listenFrom := s.tb.nt.toNat, tx := false, txAt := none, armed := false
        armNext := false, listenCount := satInc r.listenCount })).recRing .invarListenOnly
        [s.ring.dev, place (fieldN s.ring.kWord 0 5) 0]
    else s)

/-- No rejoin within 100 network cycles: SAFE_STOP (R296, R352). -/
def execInvarNoRejoin (s : State) : Host.Outcome State Fault Refusal :=
  ok (if s.ring.listenOnly && 100 ≤ s.ring.listenFor then s.lanesStop .invarNoRejoin [] else s)

/-- One bit of the CRC-16 of a probe (R285). -/
def crc16Bit (c : Half) : Half := if c.getLsbD 15 then (c <<< 1) ^^^ 0x1021 else c <<< 1

/-- The CRC-16 of a probe (R285). -/
def crc16 (bs : List Byte) : Half :=
  bs.foldl (fun (c : Half) (b : Byte) => crc16Bit^[8] (c ^^^ (b.setWidth 16 <<< 8))) 0xFFFF

/-- The bytes of a probe (R285): `kind` 1 request, 2 reply. -/
def State.probeBytes (s : State) (p : Port) (kind : Nat) (seq : Byte) (turn : Nat) : List Byte :=
  let k := s.ring.port p
  let b0 := kind + (if s.ring.acquired then 16 else 0) + (if s.sends then 32 else 0) + (if k.looped then 64 else 0) +
    (if k.ready then 128 else 0)
  let b := natLe 1 b0 ++ natLe 2 s.node ++ [seq] ++ natLe 2 turn ++ natLe 2 (k.restore.getD 0) ++ [0]
  b ++ natLe 2 (crc16 b).toNat

/-- Stability lost: READY clears, the proposal lapses, the 10 s start again with a new measurement (R303). -/
def RingPort.unstable (k : RingPort) (now : Option Nat) : RingPort :=
  { k with ready := false, restore := none, echoed := false, stableFrom := now, count := 0, sum := 0, fresh := false }

/-- An own slot on an output opens within 1.2 us (R286). -/
def State.slotNear (s : State) (p : Port) : Bool :=
  let now := s.tb.nt.toNat
  s.sends && !(s.ring.port p).looped && (s.ring.owned s.node).any fun n =>
    [s.netCycle, s.netCycle + 1].any fun c =>
      let t := c * s.ring.tn10 + s.ring.start n
      decide (now ≤ t ∧ t < now + 120)

/-- A port waits with a probe (R286): it sends or repeats a frame, or an own slot opens. The window of a guardian depends
on the DELAY of a frame that has not yet come and is left out (log 87). -/
def State.probeWaits (s : State) (p : Port) : Bool :=
  decide (s.tb.nt.toNat * 10 < (s.ring.port p).busyUntil) || s.slotNear p

/-- A probe request sent (R286), once the port need not wait; the fourth consecutive one without a valid reply is cause 2 (R287). -/
def execProbeRequest (p : Port) (s : State) : Host.Outcome State Fault Refusal :=
  let k := s.ring.port p
  let missed := if k.waiting.isSome then k.missed + 1 else k.missed
  ok (if !s.ring.alive || s.probeWaits p then s
    else
      let b := s.probeBytes p 1 (k.seq + 1) 0
      s.updPort p (fun k =>
        let k := if 0 < missed && k.looped then k.unstable (if k.signal then some s.guard.optime else none)
          else if 0 < missed then { k with count := 0, sum := 0 } else k
        { k with
          missed := min missed 4, seq := k.seq + 1, waiting := some (k.seq + 1), outProbe := b
          due := if 4 ≤ missed then k.due ||| 4 else k.due }))

/-- A probe that is valid (R285). -/
def probeOk (b : List Byte) : Bool :=
  b.length = 11 && (leAt b 0 1 % 16 = 1 || leAt b 0 1 % 16 = 2) && leAt b 9 2 = (crc16 (b.take 9)).toNat

/-- The neighbour as a probe shows it (R285, R287 cause 6, R306). -/
def RingPort.neighbour (k : RingPort) (b : List Byte) (acquired : Bool) : RingPort :=
  let f := leAt b 0 1
  { k with
    nAcq := f.testBit 4, nTx := f.testBit 5, nLooped := f.testBit 6, nReady := f.testBit 7
    nAddr := BitVec.ofNat 10 (leAt b 1 2), nRestore := BitVec.ofNat 16 (leAt b 6 2)
    due := if f.testBit 6 && !k.looped && acquired then k.due ||| 64 else k.due }

/-- A valid reply to the request that waits: one measurement, `m` being twice its value (R286); the sixteenth consecutive
one that differs from the stored delay by more than 50 ns is cause 5 (R287). -/
def RingPort.measure (k : RingPort) (m : Nat) : RingPort :=
  let old := 2 * k.delay.toNat
  let d := if k.valid && 100 < (max m old) - (min m old) then k.drift + 1 else 0
  { k with
    waiting := none, missed := 0, count := min 64 (k.count + 1), sum := if k.count < 64 then k.sum + m else k.sum
    drift := d, due := if 16 ≤ d then k.due ||| 32 else k.due }

/-- The first multiple of 16 that is at least a network cycle plus 8, its low 16 bits (R303). -/
def restoreFrom (nc : Nat) : Nat := ((nc + 8 + 15) / 16 * 16) % 65536

/-- The first network cycle from one on whose low 16 bits are given. -/
def ncOf (now v : Nat) : Nat := now + (v + 65536 - now % 65536) % 65536

/-- The node's part in the agreement on a restore cycle (R303, rules 1 and 4). -/
def State.propose (s : State) (p : Port) : State :=
  let k := s.ring.port p
  let nc := s.netCycle
  let theirs := k.nRestore.toNat
  if !s.ring.acquired then
    if theirs ≠ 0 && s.ring.w.restore.isNone && s.ring.e.restore.isNone then
      s.updRing (fun r => (r.updPort .W (fun k => { k with restore := some theirs, echoed := true })).updPort .E
        (fun k => { k with restore := some theirs, echoed := true }))
    else s
  else if !(k.looped && k.ready && (k.nReady || !k.nAcq)) then s
  else
    match k.restore with
    | some v => if theirs = v then s.updPort p (fun k => { k with echoed := true }) else s
    | none =>
      if !k.nAcq then
        if theirs ≠ 0 && nc + 2 ≤ ncOf nc theirs then s.updPort p (fun k => { k with restore := some theirs, echoed := true })
        else s.updPort p (fun k => { k with restore := some (restoreFrom nc), echoed := false })
      else if s.node < k.nAddr.toNat then
        s.updPort p (fun k => { k with restore := some (restoreFrom nc), echoed := false })
      else if theirs ≠ 0 then s.updPort p (fun k => { k with restore := some theirs, echoed := true })
      else s

/-- The answer to a request: the turn is a free value within 20 us (R286); the injection PROBE_DROP withholds it. -/
def State.probeReply (s : State) (p : Port) (seq : Byte) : State :=
  let s := if s.injParam % 2 = portBit p then s.fireLasting 0x2B none 4 else s
  match s.lasting 0x2B none with
  | some j =>
    if j.param % 2 = portBit p then s.passLasting 0x2B none
    else s
  | none =>
    let turn := (Config.freeWord s.freeCtr).toNat % 20001
    let b := s.probeBytes p 2 seq turn
    { s.updPort p (fun k => { k with outProbe := b }) with freeCtr := s.freeCtr + 1 }

/-- A probe arrives (R285 to R287, R303). -/
def execProbeArrival (p : Port) (bytes : List Byte) (roundTrip : Nat) (s : State) : Host.Outcome State Fault Refusal :=
  ok (if !(s.ring.alive && (s.ring.port p).signal && probeOk bytes) then s
    else
      let s := s.updPort p (fun k => k.neighbour bytes s.ring.acquired)
      let seq : Byte := BitVec.ofNat 8 (leAt bytes 3 1)
      let turn := leAt bytes 4 2
      let s := if leAt bytes 0 1 % 16 = 1 then s.probeReply p seq
        else if (s.ring.port p).waiting = some seq && turn ≤ roundTrip then
          s.updPort p (fun k => k.measure (roundTrip - turn))
        else s
      s.propose p)

/-- 64 consecutive measurements give the stored link delay, in JOINING and before a restoration (R286). -/
def execLinkDelayMeasured (p : Port) (s : State) : Host.Outcome State Fault Refusal :=
  let k := s.ring.port p
  ok (if 64 ≤ k.count && !k.fresh && (k.looped || s.md.mode = .joining) then
      s.updPort p (fun k => { k with
        delay := BitVec.ofNat 24 ((k.sum + 64) / 128), valid := true, fresh := true, count := 0, sum := 0, drift := 0 })
    else s)

/-- Loss of signal or of synchronisation (R287). -/
def execLossOfSignal (p : Port) (s : State) : Host.Outcome State Fault Refusal :=
  ok (s.updPort p (fun k => { k.unstable none with signal := false, due := k.due ||| 2 }))

/-- A port with a cause of R287 loops (R302); a node that has not acquired uses causes 1, 2 and 5 alone, and holds no
loop until it has acquired. -/
def execLinkFault (p : Port) (cause : BitVec 3) (s : State) : Host.Outcome State Fault Refusal :=
  let k := s.ring.port p
  let c := cause.toNat
  ok (if s.ring.alive && 1 ≤ c && c ≤ 6 && k.due.getLsbD c && !k.fault && (s.ring.acquired || c ∈ [1, 2, 5]) then
      (s.updPort p (fun k => { k.unstable (if k.signal then some s.guard.optime else none) with
        fault := true, cause := cause, looped := s.ring.acquired, due := 0, missed := 0, drift := 0, silent := 0 })).recRing
        .ringHeal [place (portBit p) 0, place c 0]
    else s)

/-- A port regains signal and synchronisation: the stability time of its looped link starts (R303). -/
def execLinkSynchronised (p : Port) (s : State) : Host.Outcome State Fault Refusal :=
  ok (if (s.ring.port p).signal then s
    else s.updPort p (fun k =>
      let k := { k.unstable (if k.looped then some s.guard.optime else none) with
        signal := true, due := k.due &&& ~~~2, missed := 0, waiting := none }
      if k.looped then k else { k with fault := false, cause := 0 }))

/-- A looped link stable for 10 s, with its delay measured anew, shows READY (R303). -/
def execLinkStable (p : Port) (s : State) : Host.Outcome State Fault Refusal :=
  let k := s.ring.port p
  ok (match k.stableFrom with
    | some t =>
      if k.looped && k.signal && k.fresh && !k.ready then
        let s := s.passTime (t + 1000000000 - s.guard.optime)
        (s.updPort p (fun k => { k with ready := true })).propose p
      else s
    | none => s)

/-- The loop of a port undone at its restore cycle (R303). -/
def RingPort.restored (k : RingPort) (v : Nat) : RingPort :=
  if k.echoed && k.restore = some v then
    { k.unstable none with looped := false, fault := false, cause := 0, due := 0 }
  else k

/-- NC_res: both ends undo their loops (R303). -/
def execRestoreCycle (s : State) : Host.Outcome State Fault Refusal :=
  let v := if s.ring.w.echoed then s.ring.w.restore else if s.ring.e.echoed then s.ring.e.restore else none
  ok (match v with
    | some v =>
      if s.ring.acquired then
        let s := s.advanceTo (ncOf s.ring.cycleNo v * s.ring.tn10)
        s.updRing (fun r => (r.updPort .W (·.restored v)).updPort .E (·.restored v))
      else s
    | none => s)

/-- A proposal without an echo by NC_res - 2 lapses (R303). -/
def execRestoreLapse (p : Port) (s : State) : Host.Outcome State Fault Refusal :=
  let k := s.ring.port p
  ok (match k.restore with
    | some v =>
      if k.echoed || !s.ring.acquired then s
      else
        let s := s.advanceTo ((ncOf s.ring.cycleNo v - 2) * s.ring.tn10)
        s.updPort p (fun k => k.unstable (some s.guard.optime))
    | none => s)

/-- SW1 bit 12 and a master entry: the node may cold start (R290). -/
def State.coldEnabled (s : State) : Bool := s.sealSt.sw1.getLsbD 12 && s.ring.masters.contains s.node

/-- A cold start (R290, R291): the silence wait has passed, no neighbour has network time. -/
def execColdStart (s : State) : Host.Outcome State Fault Refusal :=
  let r := s.ring
  let wait := if r.cold = 3 then (2 + 4 * s.node) * r.tn10 else (2 + s.node % 64) * r.tn10
  ok (if s.mayAcquire && r.alive && s.coldEnabled && !r.coldExhausted && (r.cold = 1 || r.cold = 3) && !r.w.nAcq && !r.e.nAcq
    then
      let s := s.passTime (r.quietFrom + wait - s.guard.optime)
      (s.acquire 0 true).updRing (fun r => { r with tx := true })
    else s)

/-- The cold start phase of 3 network cycles ends without a collision and counts as the valid network cycle (R290). -/
def execColdPhaseEnd (s : State) : Host.Outcome State Fault Refusal :=
  ok (if s.ring.cold = 2 then
      let s := (s.advanceTo (3 * s.ring.tn10)).updRing (fun r => { r with cold := 0 })
      if s.ring.ownSeen then s.lanesStop .ringAddressConflict [] else s.join
    else s)

/-- JOINING is entered (R288, R290): the links are measured anew, and the node has no network time. -/
def State.enterJoining (s : State) : State :=
  let cold := s.coldEnabled && !s.ring.coldExhausted
  let fresh (k : RingPort) : RingPort := { k with fresh := false, count := 0, sum := 0, drift := 0 }
  let s := { s with md := { s.md with mode := .joining } }
  let s := s.updRing (fun r => { r with
    acquired := false, armed := false, armNext := false, tx := false, txAt := none, joined := false, listenOnly := false
    listenDue := false, wholeCycle := false, badCycle := false, ownSeen := false, ncDiffers := false, lastSync := []
    cold := if cold then 1 else 0, quietFrom := s.guard.optime, w := fresh r.w, e := fresh r.e, delivered := [], sent := []
    selfSilent := false, sentNow := false, returned := false, lostCycles := 0 })
  if s.sealSt.sw1.getLsbD 12 && !s.ring.masters.contains s.node then s.recRing .coldstartNotMaster else s

/-- The schedule copies of two views are alike (R281). -/
def RingView.same (a b : RingView) : Bool := a.header == b.header && a.entries == b.entries

/-- The port compares the committed copies and adopts them (R281). -/
def State.adoptSchedule (s : State) : State :=
  let ls := s.servingLanes
  if !ls.all (fun l => (s.lane l).ring.committed) then s
  else
    match ls with
    | [] => s
    | l :: rest =>
      let v := (s.lane l).ring
      if rest.all (fun k => v.same (s.lane k).ring) then
        s.updRing (fun r => { r with schedOk := true, header := v.header, entries := v.entries })
      else s.lanesStop .ringSchedDiff []

/-- RING_CTRL.COMMIT written by a runtime while LANE_MODE is 2 (R281, R304). -/
def State.commitSchedule (s : State) (l : LaneId) : State :=
  if s.laneMode l ≠ 2 then s
  else (s.updLane l (fun x => { x with ring := { x.ring with committed := true } })).adoptSchedule

/-- RING_CTRL.COMMIT written through a view (R281). -/
def execCommit (v : View) (s : State) : Host.Outcome State Fault Refusal :=
  ok (match v with
    | .runtime l => s.commitSchedule l
    | v => s.denyWrite v 0xF800000C)

/-- A register of RING written at runtime level (R304, R305). -/
def State.writeRing (s : State) (l : LaneId) (off : Nat) (w : Word) : State :=
  if s.laneMode l ≠ 2 then s
  else if off = 0x00C then (if w = 1 then s.commitSchedule l else s)
  else if 0x7FC0 ≤ off && off < 0x8000 then
    s.updLane l (fun x => { x with ring := { x.ring with header := vset x.ring.header ((off - 0x7FC0) / 4) w } })
  else if 0x8000 ≤ off && off < 0x10000 then
    let i := (off - 0x8000) / 4
    s.updLane l (fun x => { x with ring := { x.ring with
      entries := if w = 0 then aerase i x.ring.entries else aset i w x.ring.entries } })
  else s

/-- RING_STATUS (R306). -/
def State.ringStatus (s : State) : Word :=
  let r := s.ring
  flag r.qualified 0 ||| flag r.clkUnq 1 ||| flag r.schedOk 2 ||| flag r.acquired 3 ||| flag r.armed 4 ||| flag r.tx 5 |||
    flag r.listenOnly 6 ||| flag s.tb.synced 7 ||| place r.cold.toNat 8 ||| flag r.w.looped 10 ||| flag r.e.looped 11 |||
    flag r.healedSeen 12 ||| flag r.selfSilent 13 ||| flag r.coldExhausted 14

/-- RING_NODE (R306): loaded once the schedule is adopted. -/
def State.ringNode (s : State) : Word :=
  let m := s.ring.masters.contains s.node
  place s.node 0 ||| flag m 10 ||| flag (m && s.sealSt.sw1.getLsbD 12) 11 ||| place (s.ring.owned s.node).length 16

/-- RING_LINK_W or RING_LINK_E (R306). -/
def RingPort.linkWord (k : RingPort) : Word :=
  k.delay.setWidth 32 ||| flag k.valid 24 ||| flag k.fault 25 ||| place k.cause.toNat 26

/-- The stable time of a looped link in 100 ms units (R306). -/
def RingPort.stable (k : RingPort) (now : Nat) : Nat :=
  match k.stableFrom with
  | some t => if k.looped then min 255 ((now - t) / 10000000) else 0
  | none => 0

/-- RING_HEAL (R306). -/
def State.ringHealWord (s : State) : Word :=
  let agreed (k : RingPort) : Nat := if k.echoed then k.restore.getD 0 else 0
  let v := if agreed s.ring.w ≠ 0 then agreed s.ring.w else agreed s.ring.e
  place (s.ring.w.stable s.guard.optime) 0 ||| place (s.ring.e.stable s.guard.optime) 8 ||| place v 16

/-- RING_GUARD (R306): the deciding instance of port W, and whether an instance is under test. -/
def State.ringGuard (s : State) : Word :=
  let testing := match s.bist.shared with
    | some q => decide (q < 4)
    | none => false
  let live := if s.guardOut .W 0 || s.guardOut .E 0 then true
    else if s.guardOut .W 1 || s.guardOut .E 1 then false else s.netCycle % 2 = 1
  flag live 0 ||| flag testing 1

/-- A register of RING read through a lane's view (R305, R306). -/
def State.readRing (s : State) (l : LaneId) (off : Nat) : Word :=
  let r := s.ring
  let v := (s.lane l).ring
  match off with
  | 0x000 => 0x00090010
  | 0x004 => s.ringStatus
  | 0x008 => if r.schedOk then s.ringNode else if s.guard.priming = .done then place s.node 0 else 0
  | 0x010 => if r.schedOk then r.hdr 1 else 0
  | 0x014 => if r.acquired then BitVec.ofNat 32 s.netCycle else 0
  | 0x018 => v.ncHi.setWidth 32
  | 0x01C => r.dev
  | 0x020 => r.kWord
  | 0x024 => place r.noRead.toNat 0 ||| place r.listenCount.toNat 16 ||| place r.clips.toNat 24
  | 0x028 => r.w.linkWord
  | 0x02C => r.e.linkWord
  | 0x030 => place r.w.nAddr.toNat 0 ||| flag r.w.nAcq 10 ||| flag r.w.nLooped 11 ||| place r.e.nAddr.toNat 16 |||
      flag r.e.nAcq 26 ||| flag r.e.nLooped 27
  | 0x034 => s.ringHealWord
  | 0x038 => r.rxCount
  | 0x03C => place r.rxCrc.toNat 0 ||| place r.rxBody.toNat 16
  | 0x040 => r.txCount
  | 0x044 => r.nullCount
  | 0x048 => place r.w.cutCount.toNat 0 ||| place r.e.cutCount.toNat 16
  | 0x04C => r.lastCut
  | 0x050 => place r.clash.toNat 0
  | 0x054 => s.ringGuard
  | 0x058 => r.guardDiff
  | _ =>
    if 0x100 ≤ off && off < 0x140 then vget r.mdev ((off - 0x100) / 4) 0
    else if 0x200 ≤ off && off < 0x280 then
      match r.blocks[(off - 0x200) / 4]? with
      | some b => place b.1 0 ||| flag b.2 12 ||| flag true 31
      | none => 0
    else if 0x7FC0 ≤ off && off < 0x8000 then vget v.header ((off - 0x7FC0) / 4) 0
    else if 0x8000 ≤ off && off < 0x10000 then (alook ((off - 0x8000) / 4) v.entries).getD 0
    else 0

/-- What a read through a lane's own view does: a latch, and what it clears (R8, R305, R306). -/
def State.afterReadRing (s : State) (l : LaneId) (off : Nat) : State :=
  match off with
  | 0x014 => s.updLane l (fun x => { x with ring := { x.ring with
      ncHi := if s.ring.acquired then BitVec.ofNat 16 (s.netCycle / 2 ^ 32) else 0 } })
  | 0x024 => s.updRing (fun r => { r with noRead := 0, listenCount := 0, clips := 0 })
  | 0x038 => s.updRing (fun r => { r with rxCount := 0 })
  | 0x03C => s.updRing (fun r => { r with rxCrc := 0, rxBody := 0 })
  | 0x040 => s.updRing (fun r => { r with txCount := 0 })
  | 0x044 => s.updRing (fun r => { r with nullCount := 0 })
  | 0x048 => s.updRing (fun r => (r.updPort .W (fun k => { k with cutCount := 0 })).updPort .E (fun k => { k with cutCount := 0 }))
  | 0x050 => s.updRing (fun r => { r with clash := 0 })
  | 0x058 => s.updRing (fun r => { r with guardDiff := 0 })
  | _ => s

end Sys2Proof.Machine
end

