-- ==== Sys2Proof/Machine/Startup.lean ====
section
/-! DEFINITION. STARTUP_TEST (R451 step 4, R488): the checks of the loaded station data in a lane, each with the record
of its group; P0 is the index of the failing entry or the offset of the failing field. -/

namespace Sys2Proof.Machine

/-- ELEMENTS, ROUTES, CHAINS, PACKS and XRULES of the station header (R34). -/
def Lane.hdrElements (x : Lane) : Nat := fieldN (x.rd32 0x00800008) 0 15
def Lane.hdrRoutes (x : Lane) : Nat := fieldN (x.rd32 0x0080000C) 0 14
def Lane.hdrChains (x : Lane) : Nat := fieldN (x.rd32 0x00800010) 0 11
def Lane.hdrPacks (x : Lane) : Nat := fieldN (x.rd32 0x00800014) 0 4
def Lane.hdrRules (x : Lane) : Nat := fieldN (x.rd32 0x00800014) 8 8

/-- CYCLE of the station header (R86). -/
def Lane.hdrCycle (x : Lane) : Word := x.rd32 0x0080001C

/-- The station header (R34, R86, R97). -/
def Lane.checkHeader (x : Lane) (oc : Bool) : Option Failure :=
  let h (off : Nat) (c : List Bool) := failing .stationHeaderInvalid off c
  let top := (x.stackTop).toNat
  firstOf [
    h 0x000 [x.rd32 0x00800000 = 0x00090001],
    h 0x004 [fieldN (x.rd32 0x00800004) 16 16 = 0],
    h 0x008 [1 ≤ x.hdrElements, x.hdrElements ≤ 16384, fieldN (x.rd32 0x00800008) 15 17 = 0],
    h 0x00C [x.hdrRoutes ≤ 8192, !oc || x.hdrRoutes = 0, fieldN (x.rd32 0x0080000C) 14 18 = 0],
    h 0x010 [x.hdrChains ≤ 1024, fieldN (x.rd32 0x00800010) 11 21 = 0],
    h 0x014 [1 ≤ x.hdrPacks, x.hdrPacks ≤ 8, fieldN (x.rd32 0x00800014) 4 4 = 0, fieldN (x.rd32 0x00800014) 16 16 = 0,
      ((List.range 8).filter x.packPresent).length = x.hdrPacks],
    h 0x018 [x.rd32 0x00800018 = crc32c 0 (x.bytesAt 0x00800000 0x18)],
    h 0x01C [fieldN x.hdrCycle 0 2 ≠ 3, fieldN x.hdrCycle 2 2 = 0, fieldN x.hdrCycle 8 24 = 0],
    h 0x020 [top % 16 = 0, 0x03000010 ≤ top, top ≤ 0x03F00000],
    h 0x024 [(x.bytesAt 0x00800024 0xFDC).all (· = 0)]]

/-- A neighbour of an element: an element or none (R36). -/
def Lane.isElement (x : Lane) (n : Nat) : Bool := n = 0xFFFF || n < x.hdrElements

/-- One element record (R36, R37, R39). -/
def Lane.checkElement (x : Lane) (e : Nat) : Option Failure :=
  let w (off : Nat) := x.rd32 (recAddr e + off)
  let b (off : Nat) := (x.rd8 (recAddr e + off)).toNat
  failing .elementRecordInvalid e [
    x.elemIndex e = e,
    fieldN (w 0) 14 2 = 0 && fieldN (w 0) 27 5 = 0 && fieldN (w 4) 10 6 = 0 && fieldN (w 4) 26 6 = 0 &&
      fieldN (w 0x1C) 9 7 = 0 && fieldN (w 0x1C) 25 7 = 0 && fieldN (w 0x24) 24 8 = 0 && fieldN (w 0x28) 12 20 = 0,
    typeValid (x.elemType e),
    fieldN (w 4) 16 10 ≤ 511 || fieldN (w 4) 16 10 = 0x3FF,
    x.isElement (fieldN (w 8) 0 16) && x.isElement (fieldN (w 8) 16 16) && x.isElement (fieldN (w 0xC) 0 16) &&
      x.isElement (fieldN (w 0xC) 16 16),
    (List.range 4).all (fun i => b (0x10 + i) ≤ 63 || b (0x10 + i) = 0xFF),
    (List.range 4).all (fun i => b (0x14 + i) ≤ 47 || b (0x14 + i) = 0xFF),
    (fieldN (w 0x1C) 0 9 ≤ 255 || fieldN (w 0x1C) 0 9 = 0x1FF) && (fieldN (w 0x1C) 16 9 ≤ 255 || fieldN (w 0x1C) 16 9 = 0x1FF),
    x.isElement (fieldN (w 0x20) 0 16) && x.isElement (fieldN (w 0x20) 16 16),
    x.recordCheck e]

/-- A rule of the transition table that both packs declare (R64). -/
def Lane.ruleJoins (x : Lane) (i a b : Nat) : Bool :=
  let w := x.rd32 (ruleAddr i)
  i < x.hdrRules && fieldN w 8 3 = a && fieldN w 12 3 = b && bitN w 16 && bitN w 17

/-- The places of a path where the pack area changes (R45). -/
def crossings : List Nat → List (Nat × Nat)
  | a :: b :: r => if a = b then crossings (b :: r) else (a, b) :: crossings (b :: r)
  | _ => []

/-- XRULE0 and XRULE1 name rules that cover exactly the crossings of the path (R45). -/
def Lane.rulesCover (x : Lane) (r : Nat) : Bool :=
  let x0 := fieldN (x.rw r 0xC) 8 8
  let x1 := fieldN (x.rw r 0xC) 16 8
  match crossings (((x.refs r).take (x.nPath r)).map (fun e => x.elemPack e.elem)) with
  | [] => x0 = 0xFF && x1 = 0xFF
  | [c] => x.ruleJoins x0 c.1 c.2 && x1 = 0xFF
  | [c, d] => x.ruleJoins x0 c.1 c.2 && x.ruleJoins x1 d.1 d.2
  | _ => false

/-- One route descriptor (R43, R44, R45). -/
def Lane.checkRoute (x : Lane) (r : Nat) : Option Failure :=
  failing .routeDescInvalid r [
    x.routeHeaderOk r, x.routeCheck r, x.routePadOk r, x.routeNamesOk x.hdrElements r,
    x.routeRefsOk x.hdrElements r, (x.refs r).all (fun e => x.recordFits e.elem), x.rulesCover r]

/-- Word j of row r of the conflict matrix holds a set bit (R47). -/
def Lane.rowWord (x : Lane) (r j : Nat) : Bool := (x.bytesAt (0x00C00000 + r * 0x400 + j * 8) 8).any (· ≠ 0)

/-- One row of the conflict matrix with its summary (R46, R47, R48). -/
def Lane.checkRow (x : Lane) (r : Nat) : Option Failure :=
  let n := x.hdrRoutes
  failing .conflictMatrixInvalid r [
    (List.range n).all (fun c => x.conflictBit r c = x.conflictBit c r),
    !x.conflictBit r r,
    if n ≤ r then (List.range 128).all (fun j => !x.rowWord r j)
      else (List.range (8192 - n)).all (fun i => !x.conflictBit r (n + i)),
    (List.range 128).all (fun j => x.summaryBit r j = x.rowWord r j),
    (x.marked r).length ≤ 16]

/-- Two members of a chain suit each other (R54). -/
def Lane.membersSuit (x : Lane) (a b : Nat) : Bool :=
  !x.conflictBit a b &&
    (x.refs a).all (fun e => (x.refs b).all (fun f => e.elem ≠ f.elem || e.pos = f.pos))

/-- One chain descriptor (R54). -/
def Lane.checkChain (x : Lane) (c : Nat) : Option Failure :=
  let ms := x.members c
  failing .chainDescInvalid c [
    x.chainOk x.hdrRoutes c,
    ms.all (fun a => ms.all (fun b => a = b || x.membersSuit a b))]

/-- One directory entry (R62). -/
def Lane.checkPack (x : Lane) (p : Nat) : Option Failure :=
  let w (off : Nat) := x.rd32 (packAddr p + off)
  let here := x.packPresent p
  failing .packDirInvalid p [
    fieldN (w 0) 8 8 ≤ 1,
    !here || fieldN (w 0) 0 3 = p,
    !here || (fieldN (w 0) 3 5 = 0 && fieldN (w 0x18) 8 24 = 0 && (x.bytesAt (packAddr p + 0x20) 0x1C).all (· = 0)),
    !here || (w 0x14).toNat < 0x00600000,
    !here || (8 ≤ fieldN (w 0x18) 0 8 && fieldN (w 0x18) 0 8 ≤ 64),
    !here || w 0x3C = crc32c (BitVec.ofNat 32 (0x50000 + p)) (x.bytesAt (packAddr p) 0x3C)]

/-- One transition rule (R64). -/
def Lane.checkRule (x : Lane) (i : Nat) : Option Failure :=
  let w (off : Nat) := x.rd32 (ruleAddr i + off)
  let fn (v own : Nat) : Bool := v = own || (8 ≤ v && v ≤ 63)
  failing .packDirInvalid i [
    fieldN (w 0) 0 8 = i,
    fieldN (w 0) 11 1 = 0 && fieldN (w 0) 15 1 = 0 && fieldN (w 0) 18 6 = 0 && fieldN (w 0) 28 4 = 0 && fieldN (w 8) 16 16 = 0,
    x.packPresent (fieldN (w 0) 8 3) && x.packPresent (fieldN (w 0) 12 3),
    bitN (w 0) 16 && bitN (w 0) 17,
    fn (fieldN (w 4) 0 16) 6 && fn (fieldN (w 4) 16 16) 7,
    w 0xC = crc32c (BitVec.ofNat 32 (0x40000 + i)) (x.bytesAt (ruleAddr i) 0xC)]

/-- The PACK fields of elements and routes (R62). -/
def Lane.checkPackUse (x : Lane) : Option Failure :=
  ((List.range x.hdrElements).findSome? (fun e => failing .packDirInvalid e [x.packPresent (x.elemPack e)])).orElse fun _ =>
    (List.range x.hdrRoutes).findSome? (fun r => failing .packDirInvalid r [x.packPresent (fieldN (x.rw r 0xC) 0 3)])

/-- SOURCE of an input in the I/O configuration table (R244). -/
def Lane.ioSource (x : Lane) (i : Nat) : Nat := (x.rd8 (0x00B24000 + i)).toNat % 16

/-- TP_USED of the table (R244). -/
def Lane.ioUsed (x : Lane) (src : Nat) : Bool := bitN (x.rd32 0x00B24080) (8 + src)

/-- The I/O configuration table (R245): P0 is the offset of the failing field. -/
def Lane.checkIo (x : Lane) : Option Failure :=
  let h (off : Nat) (c : List Bool) := failing .ioConfigInvalid off c
  firstOf ([h 0xFC [x.rd32 0x00B240FC = crc32c 0x60000 (x.bytesAt 0x00B24000 0xFC)]] ++
    (List.range 66).map (fun i =>
      h i [true, x.ioSource i ≤ 7 || x.ioSource i = 15, x.ioSource i = 15 || x.ioUsed (x.ioSource i)]) ++
    [h 0x80 [true, true, true, fieldN (x.rd32 0x00B24080) 0 8 ≤ 199],
     h 0x40 [true, true, true, true, x.ioSource 64 ≠ 15 && x.ioSource 65 ≠ 15, x.ioSource 64 ≠ x.ioSource 65]])

/-- A word of the federation schedule's header (R279). -/
def Lane.schedWord (x : Lane) (off : Nat) : Word := x.rd32 (0x00B80000 + off)

/-- The schedule header of the station data (R279). -/
def Lane.schedHeader (x : Lane) : Vector Word 16 := Vector.ofFn fun i => x.schedWord (4 * i.val)

/-- The schedule entries of the station data as words, by index (R280). -/
def Lane.schedEntries (x : Lane) : List (Nat × Word) :=
  ((List.range (2 * fieldN (x.schedWord 8) 16 13)).map (fun i => (i, x.schedWord (0x40 + 4 * i)))).filter (·.2 ≠ 0)

/-- The schedule of the station data in the form in which the port holds an adopted one. -/
def Lane.schedule (x : Lane) : RingSt := { RingSt.init with header := x.schedHeader, entries := x.schedEntries }

/-- An address is a node's (R280). -/
def nodeOk (a : Nat) : Bool := 1 ≤ a && a ≤ 1000

/-- A slot is at most the 64th of its owner and begins late enough after the owner's previous one (R281). -/
def RingSt.slotFits (r : RingSt) (k : Nat) : Bool :=
  let before := (r.owned (r.owner k)).filter (· < k)
  decide (before.length < 64) &&
    (match before.getLast? with
     | some a => decide (r.start a * 10 + frameTime (r.length a) + 1000 ≤ r.start k * 10)
     | none => true)

/-- The federation schedule (R281). -/
def Lane.checkSchedule (x : Lane) (node : Nat) : Option Failure :=
  let r := x.schedule
  let n := r.slots
  let slots := List.range n
  let tnNs := r.tn10 * 10
  let masters := fieldN (x.schedWord 0xC) 0 5
  let h (k : Nat) (i : Nat) (b : Bool) : Option Failure :=
    if b then none else some (.ringSchedInvalid, [place i 0, place k 0])
  firstOf ([
    h 1 0 (x.schedWord 0 = 0x00090009 && x.schedWord 0x3C = crc32c 0x0008F000 (x.bytesAt 0x00B80000 0x3C) &&
      x.schedWord 4 = crc32c 0x00080000 (x.bytesAt 0x00B80040 (8 * n))),
    h 2 8 (fieldN (x.schedWord 8) 0 2 = fieldN x.hdrCycle 0 2),
    h 3 8 (1 ≤ n && n ≤ 4096 && 1 ≤ masters && masters ≤ 16),
    h 4 0x10 (distinct r.masters && r.masters.all (fun m => slots.any (fun i => r.owner i = m)))] ++
    slots.map (fun i => h 5 i (nodeOk (r.owner i) && 28 ≤ r.length i && r.length i ≤ 2048)) ++
    slots.map (fun i => h 6 i (i = 0 || r.start (i - 1) ≤ r.start i)) ++
    slots.map (fun i => h 7 i (r.start i * 10 + frameTime (r.length i) + 100000 ≤ tnNs)) ++
    slots.map (fun i => h 8 i (r.slotFits i)) ++ [h 9 0 (r.owned node ≠ [])])

/-- A word of the code table (R434). -/
def Lane.codeEntry (x : Lane) (c : Nat) : Word := x.rd32 (0x00B90040 + 4 * c)

/-- The record code table (R434). -/
def Lane.checkCodes (x : Lane) : Option Failure :=
  (failing .codeTableInvalid 0 [
    x.rd32 0x00B90000 = 0x00090015,
    x.rd32 0x00B9003C = crc32c 0x00150000 (x.bytesAt 0x00B90000 0x3C ++ x.bytesAt 0x00B90040 16384)]).orElse fun _ =>
  (List.range 4096).findSome? (fun c =>
    let w := x.codeEntry c
    failing .codeTableInvalid c [entryDepth w = 0 || entryPeriod w ≠ 0, fieldN w 16 16 = 0])

/-- TN and TI of a lane's station data in ms (R86). -/
def Lane.hdrTn (x : Lane) : Nat := tnUnits (fieldN x.hdrCycle 0 2) / 10
def Lane.hdrTi (x : Lane) : Nat := (fieldN x.hdrCycle 4 4 + 1) * x.hdrTn

/-- One connection entry (R308, R309). -/
def Lane.connOk (x : Lane) (node c : Nat) : Bool :=
  let w (off : Nat) := x.rd32 (connAddr c + off)
  let mask := fieldN (w 8) 1 8
  let rx := !bitN (w 0) 16
  let age := fieldN (w 0xC) 0 8
  let sup := fieldN (w 0xC) 16 16
  let same (d : Nat) : Bool := d ≠ c && x.connUsed d && (bitN (x.rd32 (connAddr d)) 16 = bitN (w 0) 16) &&
    x.connPartner d = x.connPartner c && x.connId d = x.connId c
  w 0x1C = crc32c (BitVec.ofNat 32 (0x000A0000 + c)) (x.bytesAt (connAddr c) 0x1C) &&
    (!x.connUsed c ||
      (nodeOk (x.connPartner c) && x.connPartner c ≠ node && mask ≠ 0 && x.connId c ≠ 65535 &&
       !(List.range 512).any same &&
       (!(mask.testBit 5) || mask = 2 ^ 5) && (!(mask.testBit 6) || mask = 2 ^ 6) &&
       (if rx then decide (x.hdrTn + x.hdrTi ≤ age ∧ age + x.hdrTi ≤ sup) else age = 0 && sup = 0)))

/-- The connection table (R309). -/
def Lane.checkConns (x : Lane) (node : Nat) : Option Failure :=
  let bad (p0 : Nat) (b : Bool) : Option Failure := if b then none else some (.slConfigInvalid, [place p0 0])
  (bad 0 (x.rd32 0x00B70000 = 0x0009000A && x.slEntries ≤ 512 &&
    x.rd32 0x00B7003C = crc32c 0x000AF000 (x.bytesAt 0x00B70000 0x3C))).orElse fun _ =>
  ((List.range x.slEntries).findSome? (fun c => bad c (x.connOk node c))).orElse fun _ =>
  (List.range x.hdrElements).findSome? (fun e =>
    let k := fieldN (x.rd32 (recAddr e + 4)) 16 10
    bad e (k = 0x3FF || x.connRx k))

/-- The checks of a lane's station data, in the order of R488 (R451 step 4). -/
def State.checkLane (s : State) (x : Lane) : Option Failure :=
  (x.checkHeader (s.md.role = .oc)).orElse fun _ =>
  ((List.range x.hdrElements).findSome? x.checkElement).orElse fun _ =>
  ((List.range x.hdrRoutes).findSome? x.checkRoute).orElse fun _ =>
  ((List.range 8192).findSome? x.checkRow).orElse fun _ =>
  ((List.range x.hdrChains).findSome? x.checkChain).orElse fun _ =>
  ((List.range 8).findSome? x.checkPack).orElse fun _ =>
  x.checkPackUse.orElse fun _ =>
  ((List.range x.hdrRules).findSome? x.checkRule).orElse fun _ =>
  x.checkIo.orElse fun _ =>
  (x.checkSchedule s.node).orElse fun _ =>
  x.checkCodes.orElse fun _ =>
  x.checkConns s.node

/-- A CLK_UNQUALIFIED flag is set (R371). -/
def State.unqualified (s : State) : Bool :=
  s.tb.clkUnq || s.ring.clkUnq || LaneId.list.any (fun l => (s.lane l).vio.clkUnq)

/-- The checks that concern the module: the seal, the address, a block released early (R377, R380, R284, R371). -/
def State.checkModule (s : State) : Option Failure :=
  if s.sealSt.changed then some (.sealChangedPending, [])
  else if s.sealSt.sw1.getLsbD 15 then some (.sealReservedSet, [])
  else if !nodeOk s.node then some (.ringAddressInvalid, [place s.node 0])
  else if s.unqualified then some (.clkNotQualified, [])
  else none

/-- What the runtime of a lane copies from verified station data into its blocks (R34, R109, R132, R244, R333, R457). -/
def Lane.configure (x : Lane) : Lane :=
  let vio := { x.vio with
    tpMap := Vector.ofFn fun i => (List.range 8).foldl (fun w k =>
      if 8 * i.val + k < 66 then w ||| place (x.ioSource (8 * i.val + k)) (4 * k) else w) 0
    loadMin := Vector.ofFn fun i => x.rd32 (0x00B24048 + 4 * i.val)
    cfg := x.rd32 0x00B24080 &&& 0xFFFF }
  { x with
    core := { x.core with ahvec := x.rd32 0x08, amask := (x.rd32 0x0C).setWidth 16 &&& amaskBits }
    engine := { x.engine with
      cfgElements := BitVec.ofNat 15 x.hdrElements, cfgRoutes := BitVec.ofNat 14 x.hdrRoutes
      cfgChains := BitVec.ofNat 11 x.hdrChains }
    tb := { x.tb with
      tn := BitVec.ofNat 2 (fieldN x.hdrCycle 0 2), km1 := BitVec.ofNat 4 (fieldN x.hdrCycle 4 4), cfgValid := true }
    vio := vio
    sl := { x.sl with cfgOk := true, enable := true }
    ring := { x.ring with header := x.schedHeader, entries := x.schedEntries, committed := true }
    bist := { x.bist with rotate := true, startupDone := true } }

end Sys2Proof.Machine
end

