-- ==== Sys2Proof/Machine/Power.lean ====
section
/-! DEFINITION. Resets, supply, rails, temperatures and clocks (chapter 12): the commands of GUARD. Durations come with
the command that reports a condition; a condition that does not meet its threshold changes nothing. -/

namespace Sys2Proof.Machine

/-- No flush runs and none waits to start (R361, R365); a log fault ends every flush (R446). -/
def Recorder.flushed (r : Recorder) : Bool := r.flushing.isNone && (r.trigger.isNone || r.logFault)

/-- SY_RESET: the pending SY is applied once its flush has ended (R365). -/
def execSyReset (s : State) : Host.Outcome State Fault Refusal :=
  ok (match s.guard.pendingReset with
    | some (.sy, cs) => if s.recorder.flushed then s.doSy cs else s
    | _ => s)

/-- PO_RESET: the pending PO is applied once its flush has ended (R365). -/
def execPoReset (s : State) : Host.Outcome State Fault Refusal :=
  ok (match s.guard.pendingReset with
    | some (.po, cs) => if s.recorder.flushed then s.doPo cs else s
    | _ => s)

/-- A lane's RESET_REQ with REQ = 1: two serving lanes in one cycle raise LANE_REQUEST (R364, R375). -/
def State.requestSy (s : State) (l : LaneId) (reason : Half) : State :=
  let s := s.updLane l (fun x => { x with reqSy := some reason })
  let asked := s.servingLanes.filter (fun k => (s.lane k).reqSy.isSome)
  if 2 ≤ asked.length then (s.mapLanes (fun x => { x with reqSy := none })).raise .laneRequest none else s

/-- The modes in which one lane's SAFE_STOP request is enough (R352). -/
def Mode.oneIsEnough : Mode → Bool
  | .priming | .startupTest | .joining | .split => true
  | _ => false

/-- A request of another serving lane that is not more than 1 ms old (R352). -/
def State.pairedStop (s : State) (l : LaneId) : Option Half :=
  ([l.next, l.prev].find? (fun k => s.serves k && ((s.lane k).reqStop.map (fun q =>
    decide (s.tb.nt.toNat ≤ q.1.toNat + 100000))).getD false)).bind (fun k => ((s.lane k).reqStop).map (·.2))

/-- A lane's RESET_REQ with REQ = 2 (R352): in the modes with a vote two lanes within 1 ms act, and a lane that asked
must decide STOP. -/
def State.requestStop (s : State) (l : LaneId) (reason : Half) : State :=
  if !s.serves l then s
  else if s.md.mode.oneIsEnough then s.safeStop .lane reason
  else if s.md.mode.votes then
    let s := s.updLane l (fun x => { x with reqStop := some (s.tb.nt, reason), cyc := { x.cyc with ownStop := true } })
    match s.pairedStop l with
    | some first => (s.mapLanes (fun x => { x with reqStop := none })).safeStop .lane first
    | none => s
  else s

/-- RESET_REQ written at runtime level (R373, R375). -/
def State.resetReq (s : State) (l : LaneId) (req : Nat) (key : Byte) (reason : Half) : State :=
  if key ≠ 0x5A then s
  else if req = 1 then s.requestSy l reason
  else if req = 2 then s.requestStop l reason
  else s

/-- RESET_REQ_SY: RESET_REQ written with REQ = 1 (R364, R373). -/
def execResetReqSy (l : LaneId) (key : Byte) (reason : Half) (s : State) : Host.Outcome State Fault Refusal :=
  ok (s.resetReq l 1 key reason)

/-- RESET_REQ_SAFE_STOP: RESET_REQ written with REQ = 2 (R352, R373). -/
def execResetReqSafeStop (l : LaneId) (key : Byte) (reason : Half) (s : State) : Host.Outcome State Fault Refusal :=
  ok (s.resetReq l 2 key reason)

/-- POWER_GOOD: the bus above 17.5 V for 10 ms (R354); a priming that waited for it starts (R368), and an occurrence of
SUPPLY_LOW ends with the bus at 18.0 V or more. -/
def execPowerGood (bus : BitVec 12) (us : Nat) (s : State) : Host.Outcome State Fault Refusal :=
  ok (if 700 < bus.toNat && 10000 ≤ us then
      let g := { s.guard with
        powerGood := true
        supplyLow := if 720 ≤ bus.toNat then false else s.guard.supplyLow }
      { s with guard := { g with priming := if g.priming = .blocked then g.primingAnew else g.priming } }
    else s)

/-- GUARD's sequencer reinitialised (R359): what no reset clears is kept, the operating time resumes from its stored
value (R363, R372), and the pin stays as it is. -/
def Guard.reborn (g : Guard) : Guard :=
  { Guard.init with
    causeLast := g.causeLast, causeLevel := g.causeLevel, causeLane := g.causeLane, seen := g.seen, mrst := g.mrst
    restarts := g.restarts, pcycle := g.pcycle, optime := g.optimeSaved, optimeSaved := g.optimeSaved
    hist0 := g.hist0, hist1 := g.hist1, lockedOut := g.lockedOut, powerGood := false, priming := .blocked }

/-- GUARD's brown-out detector: power-on reset, at once and without a flush (R358, R359, R441). -/
def State.brownOut (s : State) : State :=
  let s := s.doPo [.powerOn]
  { s with guard := s.guard.reborn }

/-- BROWN_OUT (R359): the operating time resumes from its stored value (R372). -/
def execBrownOut (s : State) : Host.Outcome State Fault Refusal := ok s.brownOut

/-- EVENTS.POWER in every lane that is released and has its supply (R128, R354, R355). -/
def State.powerEvents (s : State) : State :=
  if s.md.mode = .priming || s.md.mode = .powerFail then s
  else
    LaneId.list.foldl (fun s l =>
      if s.guard.railHeld.get l then s else s.updCore l (fun c => { c with events := c.events ||| 0x80 })) s

/-- SUPPLY_LOW: the bus below 18.0 V for 1 ms (R354); recorded once per occurrence. -/
def State.supplyLow (s : State) : State :=
  let s := s.powerEvents
  if s.guard.supplyLow then s else ({ s with guard := { s.guard with supplyLow := true } }).recG .supplyLow

/-- SUPPLY_LOW (R354). -/
def execSupplyLow (bus : BitVec 12) (us : Nat) (s : State) : Host.Outcome State Fault Refusal :=
  ok (if bus.toNat < 720 && 1000 ≤ us then s.supplyLow else s)

/-- DOMAIN_OK of the domains that run from the hold-up store: PD7, PD9, PD12 (R360). -/
def holdupDomains : BitVec 12 := 0x940

/-- POWER_FAIL entered (R27, R354, R360, R362): the restrictive state, the domains without supply, the flush. -/
def State.enterPowerFail (s : State) : State :=
  let s := s.dropEvents .powerFail s.cutEvents
  let s := s.discardChange
  let s := ((s.restrictive).endResync).bistAbort
  let s := s.mapLanes (fun x =>
    { x with core := { x.core with run := .held }, cyc := { x.cyc with events := [], initCalls := none } })
  let s := { s with
    md := { s.md with mode := .powerFail, events := [], holdExit := false, vital := false }
    guard := { s.guard with
      pendingReset := none, powerGood := false, svcHeld := true, svcClock := false
      priming := .done, domainHeld := false
      railHeld := PerLane.all false
      domainOk := s.guard.domainOk &&& holdupDomains, optimeSaved := s.guard.optime } }
  let s := (s.recG .powerFail).lapseByMode
  let r := s.recorder
  { s with recorder := { r with
    savedUnflushed := r.buffer.length + r.fifo.length, savedWritten := 0
    flushing := if r.flushing.isSome then some 1 else none
    trigger := if r.flushing.isSome then none else some 1 } }

/-- POWER_FAIL: the bus below 17.0 V for 200 us (R354, R360). -/
def execPowerFail (bus : BitVec 12) (us : Nat) (s : State) : Host.Outcome State Fault Refusal :=
  ok (if bus.toNat < 680 && 200 ≤ us && s.md.mode ≠ .powerFail && s.guard.powerGood then s.enterPowerFail else s)

/-- POWER_FAIL_END: the flush has ended and power-good holds: a PO (R29, R361). -/
def execPowerFailEnd (s : State) : Host.Outcome State Fault Refusal :=
  ok (if s.md.mode = .powerFail && s.guard.powerGood && s.recorder.flushed then s.doPo [.powerFailEnd] else s)

/-- SUPPLY_HIGH: the bus above 34.0 V for 1 ms (R354). -/
def execSupplyHigh (bus : BitVec 12) (us : Nat) (s : State) : Host.Outcome State Fault Refusal :=
  ok (if 1360 < bus.toNat && 1000 ≤ us then s.safeStop .supplyHigh else s)

/-- A feed's measured voltage with its OK bit (R375). -/
def Guard.feed (g : Guard) (f : Feed) (volt : BitVec 12) : Guard :=
  match f with
  | .A => { g with feedA := volt, feedAOk := decide (680 < volt.toNat) }
  | .B => { g with feedB := volt, feedBOk := decide (680 < volt.toNat) }

/-- FEED_LOSS of a feed is in force. -/
def Guard.feedLost (g : Guard) : Feed → Bool
  | .A => g.feedLossA
  | .B => g.feedLossB

/-- FEED_LOSS of a feed entered or ended. -/
def Guard.setFeedLost (g : Guard) (f : Feed) (b : Bool) : Guard :=
  match f with
  | .A => { g with feedLossA := b }
  | .B => { g with feedLossB := b }

/-- The number of a feed: 0 A, 1 B. -/
def feedNum : Feed → Nat
  | .A => 0 | .B => 1

/-- The other feed. -/
def feedOther : Feed → Feed
  | .A => .B | .B => .A

/-- FEED_LOSS recorded once per occurrence (R354). -/
def State.feedLoss (s : State) (f : Feed) : State :=
  if s.guard.feedLost f then s
  else ({ s with guard := s.guard.setFeedLost f true }).recG .feedLoss [place (feedNum f) 0]

/-- FEED_LOSS: one feed below 17.0 V for 200 us, the other at 17.0 V or more (R354). -/
def execFeedLoss (f : Feed) (volt other : BitVec 12) (us : Nat) (s : State) : Host.Outcome State Fault Refusal :=
  let s := { s with guard := (s.guard.feed f volt).feed (feedOther f) other }
  ok (if volt.toNat < 680 && 680 ≤ other.toNat && 200 ≤ us then s.feedLoss f else s)

/-- FEED_RETURN: a feed above 17.0 V again (R354, R375). -/
def execFeedReturn (f : Feed) (volt : BitVec 12) (s : State) : Host.Outcome State Fault Refusal :=
  let g := s.guard.feed f volt
  ok { s with guard := if 680 < volt.toNat then g.setFeedLost f false else g }

/-- OVERTEMPERATURE: a sensor above 100 C or below -45 C for 1 s (R357), in units of 0.25 C. -/
def execOvertemperature (sensor : Fin 2) (t : BitVec 12) (ms : Nat) (s : State) : Host.Outcome State Fault Refusal :=
  let g := if sensor = 0 then { s.guard with t0 := t } else { s.guard with t1 := t }
  let s := { s with guard := g }
  ok (if (400 < t.toInt || t.toInt < -180) && 1000 ≤ ms then s.safeStop .temperature else s)

/-- TEMP_SENSOR_DIFF: the sensors differ by more than 10 C for 10 s (R357). -/
def execTempSensorDiff (t0 t1 : BitVec 12) (ms : Nat) (s : State) : Host.Outcome State Fault Refusal :=
  let s := { s with guard := { s.guard with t0 := t0, t1 := t1 } }
  ok (if 40 < (t0.toInt - t1.toInt).natAbs && 10000 ≤ ms then
      s.recG .tempSensorDiff [t0.signExtend 32, t1.signExtend 32] else s)

/-- Bit of a domain in DOMAIN_OK: PD1 is bit 0. -/
def Guard.domainUp (g : Guard) (pd : Nat) : Bool := g.domainOk.getLsbD (pd - 1)

/-- A domain's bit in DOMAIN_OK set or cleared. -/
def Guard.setDomain (g : Guard) (pd : Nat) (b : Bool) : Guard := { g with domainOk := setBit g.domainOk (pd - 1) b }

/-- The lane whose core (PD1 to PD3) or store (PD4 to PD6) a domain supplies (R355). -/
def domainLane (pd : Nat) : Option LaneId := if 1 ≤ pd && pd ≤ 6 then LaneId.ofNum ((pd - 1) % 3) else none

/-- The service processor started afresh: sessions are lost, and its locks are released (R425, log 21). -/
def State.svcReset (s : State) : State :=
  { s.mapLanes (fun x => x.freeLocks (fun o => o = 2 || o = 3)) with svc := s.svc.restarted }

/-- The service processor held where its rail or its clock is missing (R358, R370). -/
def State.svcHold (s : State) : State :=
  let held := !(s.guard.domainUp 11 && s.guard.svcClock)
  let s := if held && !s.guard.svcHeld then s.svcReset else s
  { s with guard := { s.guard with svcHeld := held } }

/-- A lane's rail out of tolerance (R358): LANE_RAIL, and the core held. -/
def State.laneRail (s : State) (l : LaneId) : State :=
  let s := { s with guard := { s.guard with railHeld := s.guard.railHeld.set l true } }
  let s := s.updLane l (fun x => { x.loseCycle with core := { x.core with run := .held } })
  s.raise .laneRail (some l)

/-- A rail leaves its tolerance (R358). -/
def State.railFault (s : State) (pd : Nat) : State :=
  let s := { s with guard := s.guard.setDomain pd false }
  match domainLane pd with
  | some l => s.laneRail l
  | none =>
    if pd = 7 then s.brownOut
    else if pd = 11 then (s.recG .serviceRail).svcHold
    else s.safeStop .domain

/-- RAIL_FAULT (R358). -/
def execRailFault (pd : Fin 12) (s : State) : Host.Outcome State Fault Refusal := ok (s.railFault (pd.val + 1))

/-- RAIL_RECOVERED: in tolerance for 10 ms; a lane with both its rails leaves CO, PD11 releases the service processor
(R358). The core of a lane stays in the resynchronisation wait of its boot ROM (R228). -/
def execRailRecovered (pd : Fin 12) (s : State) : Host.Outcome State Fault Refusal :=
  let n := pd.val + 1
  let s := { s with guard := s.guard.setDomain n true }
  ok (match domainLane n with
    | some l =>
      let both := s.guard.domainUp (1 + l.num) && s.guard.domainUp (4 + l.num)
      { s with guard := { s.guard with railHeld := if both then s.guard.railHeld.set l false else s.guard.railHeld } }
    | none => if n = 11 then s.svcHold else s)

/-- The power-up order (R355). -/
def powerUpOrder : List (List Nat) := [[7], [12], [8], [9], [4, 5, 6], [1, 2, 3], [10], [11]]

/-- The domains of the orders before a domain's own. -/
def domainsBefore (pd : Nat) : List Nat := (powerUpOrder.takeWhile (fun ds => !ds.contains pd)).flatten

/-- DOMAIN_UP: an enabled domain reports its rail in tolerance for 1 ms (R355). -/
def execDomainUp (pd : Fin 12) (s : State) : Host.Outcome State Fault Refusal :=
  let n := pd.val + 1
  let held := (domainLane n).any s.guard.railHeld.get
  ok (if (domainsBefore n).all s.guard.domainUp && !held then
      let s := { s with guard := s.guard.setDomain n true }
      if n = 11 then s.svcHold else s
    else s)

/-- DOMAIN_FAIL: a domain not up within 20 ms of its enable holds the sequence (R355). -/
def execDomainFail (pd : Fin 12) (s : State) : Host.Outcome State Fault Refusal :=
  let n := pd.val + 1
  ok (if s.md.mode = .priming && (domainsBefore n).all s.guard.domainUp && !s.guard.domainUp n then
      ({ s with guard := { s.guard with domainHeld := true } }).recG .domainFail [place n 0]
    else s)

/-- DOMAIN_RETRY: the sequence is tried again from order 2 (R355). -/
def execDomainRetry (s : State) : Host.Outcome State Fault Refusal :=
  ok (if s.guard.domainHeld then
      { s with guard := { s.guard with domainHeld := false, domainOk := s.guard.domainOk &&& 0x040 } } else s)

/-- HOLDUP_READY follows the stored energy; its loss is recorded (R356). -/
def execHoldupReady (ready : Bool) (s : State) : Host.Outcome State Fault Refusal :=
  let lost := s.guard.holdup && !ready
  let s := { s with guard := { s.guard with holdup := ready } }
  ok (if lost then s.recG .holdupNotReady else s)

/-- On trial the lanes report a failed STARTUP_TEST before they ask for SAFE_STOP (R198). -/
def State.trialReport (s : State) : State :=
  if s.svc.desig.trial && s.md.role ≠ .split then
    (s.servingLanes.foldl (fun s l => s.updLane l (·.postSecure [0x85000000])) s).recM .imageTrialFailed
  else s

/-- STARTUP_TEST fails because a wait of R356 or R370 has run out (R198, R351). -/
def State.waitFailed (s : State) (name : RecName) : State := s.trialReport.lanesStop name []

/-- HOLDUP_NOT_READY: 5 s after priming without HOLDUP_READY (R356). -/
def execHoldupNotReady (s : State) : Host.Outcome State Fault Refusal :=
  ok (if s.md.mode = .startupTest && !s.guard.holdup then s.waitFailed .holdupNotReady else s)

/-- PRIMING_DELAY: the wait of 1 s is over (R368). -/
def execPrimingDelay (s : State) : Host.Outcome State Fault Refusal :=
  ok (if s.guard.priming = .delay then
      let s := s.passTime 100000000
      { s with guard := { s.guard with priming := .active } }
    else s)

/-- A low level on MRST_N is accepted by its duration: below 1 us never, from 1.3 us on always, in between freely
(R369). -/
def mrstAccepted (ns : Nat) (free : Bool) : Bool := 1300 ≤ ns || (1000 ≤ ns && free)

/-- MRST_N: a PO with source PIN at once, for which no flush completes; the domains are held until the pin is released
(R369, R441). -/
def execMrstN (ns : Nat) (s : State) : Host.Outcome State Fault Refusal :=
  let again := s.guard.priming ≠ .done
  let ctr := s.freeCtr
  let s := { s with freeCtr := s.freeCtr + 1 }
  ok (if mrstAccepted ns (Config.freeBool ctr) && !s.guard.mrst then
      let n := if again then satInc s.guard.restartCount else s.guard.restartCount
      let s := s.doPo [.pin]
      { s with guard := { s.guard with mrst := true, priming := .blocked, restartCount := n } }
    else s)

/-- MRST_RELEASE: priming starts 10 us after the release (R369), from the eighth restart on after 1 s (R368). -/
def execMrstRelease (s : State) : Host.Outcome State Fault Refusal :=
  ok (if s.guard.mrst then
      let s := s.passTime 1000
      let g := { s.guard with mrst := false }
      { s with guard := { g with priming := if g.priming = .blocked then g.primingAnew else g.priming } }
    else s)

/-- CLOCK_QUALIFIED: a qualifier has reported lock for 1 ms (R370); none runs while MRST_N holds the domains in reset
(R369). -/
def execClockQualified (c : ClockBlock) (s : State) : Host.Outcome State Fault Refusal :=
  ok (if s.guard.mrst then s else match c with
    | .timebase => if s.md.mode = .powerFail then s else { s with tb := { s.tb with qualified := true } }
    | .ring => { s with ring := { s.ring with qualified := true } }
    | .vio l => if s.md.mode = .powerFail then s
      else s.updLane l (fun x => { x with vio := { x.vio with qualified := true } })
    | .service => if s.md.mode = .powerFail then s else ({ s with guard := { s.guard with svcClock := true } }).svcHold)

/-- The loss of lock of TIMEBASE or RING: SAFE_STOP with origin CLOCK, and CLK_LOSS (R351, R370). -/
def State.clockLost (s : State) : State := (s.safeStop .clock).raise .clkLoss none

/-- CLK_LOSS (R370): a loss of lock after the release of a block, which is then held in reset; CLK_UNQUALIFIED stays until
an SY (R371). -/
def State.clkLoss (s : State) (c : ClockBlock) : State :=
  match c with
  | .timebase =>
    if s.tb.runs then ({ s with tb := { s.tb with qualified := false, early := false } }).clockLost else s
  | .ring =>
    if s.ring.alive then ({ s with ring := { s.ring with qualified := false, early := false } }).clockLost else s
  | .vio l => s.updLane l (fun x => { x with vio := { x.vio with qualified := false } })
  | .service =>
    if s.guard.svcClock then ({ s with guard := { s.guard with svcClock := false } }).recG .serviceClock |>.svcHold else s

/-- CLK_LOSS (R370). -/
def execClkLoss (c : ClockBlock) (s : State) : Host.Outcome State Fault Refusal := ok (s.clkLoss c)

/-- The clocks that STARTUP_TEST waits for are qualified (R370). -/
def State.clocksReady (s : State) : Bool :=
  s.tb.qualified && s.ring.qualified && LaneId.list.all (fun l => (s.lane l).vio.qualified)

/-- CLK_NOT_QUALIFIED: 100 ms after priming a clock is still not qualified (R370). -/
def execClkNotQualified (s : State) : Host.Outcome State Fault Refusal :=
  ok (if s.md.mode = .startupTest && !s.clocksReady then s.waitFailed .clkNotQualified else s)

/-- A session that may debug: the DEBUG permission and control (R410, R412). -/
def State.debugSession (s : State) (i : Nat) : Bool :=
  match vget s.svc.sessions i none with
  | some k => bitN k.mask 3 && k.control
  | none => false

/-- EARLY_CLOCK_RELEASE: during priming a debug session releases a block before its clock is qualified (R371). -/
def execEarlyClockRelease (c : ClockBlock) (session : Fin 4) (s : State) : Host.Outcome State Fault Refusal :=
  let s1 := { s with guard := { s.guard with dbg := satInc s.guard.dbg } }
  ok (if s.md.mode = .priming && !s.guard.mrst && s.debugSession session.val && s.sealSt.sw1.getLsbD 14 then
      match c with
      | .timebase => if s.tb.qualified then s else { s1 with tb := { s.tb with clkUnq := true, early := true } }
      | .ring => if s.ring.qualified then s else { s1 with ring := { s.ring with clkUnq := true, early := true } }
      | .vio l =>
        if (s.lane l).vio.qualified then s
        else s1.updLane l (fun x => { x with vio := { x.vio with clkUnq := true } })
      | .service => s
    else s)

/-- OPTIME_SAVE: the operating time written to the non-volatile store (R372). -/
def execOptimeSave (s : State) : Host.Outcome State Fault Refusal :=
  ok { s with guard := { s.guard with optimeSaved := s.guard.optime } }

/-- SERVICE_PROCESSOR_RESET (R425): its locks in all three lanes are released. -/
def execServiceProcessorReset (s : State) : Host.Outcome State Fault Refusal := ok s.svcReset

end Sys2Proof.Machine
end

