-- ==== Sys2Proof/Machine/Secure.lean ====
section
/-! DEFINITION. The commands that the service processor sends on the secure channels (R415, R418), the maintenance
release of a lane (R227), and the exchange of images as the lanes see it (R197). -/

namespace Sys2Proof.Machine

/-- VOTE_RELEASE takes effect: two lanes other than the released one have written it in one cycle (R227). -/
def State.releaseDue (s : State) (k : LaneId) : Bool :=
  (s.lane k.next).vote.release = some k && (s.lane k.prev).vote.release = some k

/-- The lock-out and the fence history of a lane cleared (R227). -/
def State.unlockLane (s : State) (k : LaneId) : State :=
  let none : FenceEntry := { minute := 0, valid := false }
  let s := { s with
    guard := { s.guard with
      lockedOut := s.guard.lockedOut.set k false, hist0 := s.guard.hist0.set k none, hist1 := s.guard.hist1.set k none } }
  let s := s.mapLanes (fun x => { x with vote := { x.vote with release := Option.none } })
  s.recM .fenceRelease [place k.num 0]

/-- The maintenance release is permitted (R227). -/
def State.mayRelease (s : State) : Bool := s.md.mode = .maintenance && s.sealSt.sw1.getLsbD 13

/-- VOTE_RELEASE written by the runtime of a lane (R227, R241, R243). -/
def State.voteRelease (s : State) (l : LaneId) (w : Word) : State :=
  match LaneId.ofNum (fieldN w 0 2) with
  | none => s
  | some k =>
    if !s.mayRelease || fieldN w 8 8 ≠ 0xA5 || fieldN w 2 6 ≠ 0 || fieldN w 16 16 ≠ 0 then s
    else
      let s := s.updLane l (fun x => { x with vote := { x.vote with release := some k } })
      if s.releaseDue k then s.unlockLane k else s

/-- VOTE_RELEASE written (R227). -/
def execVoteRelease (l : LaneId) (w : Word) (s : State) : Host.Outcome State Fault Refusal := ok (s.voteRelease l w)

/-- A swap of images is awaited, and its 5 s have not passed (R197). -/
def State.swapAwaited (s : State) (x : Lane) : Bool :=
  match x.change.swapWait with
  | some t => decide (s.tb.nt.toNat ≤ t.toNat + 500000000)
  | none => false

/-- A debug halt is accepted (R123). -/
def State.mayHalt (s : State) : Bool :=
  (s.md.mode = .stop || s.md.mode = .run) && s.sealSt.sw1.getLsbD 14

/-- The result of a secure command: 0 accepted, 1 refused, 2 not a command of the table; none where it is ignored
(R418). -/
def State.secureResult (s : State) (x : Lane) (w : Word) : Option Nat :=
  let arg := fieldN w 0 24
  let when (b : Bool) : Option Nat := some (if b then 0 else 1)
  match fieldN w 24 8 with
  | 1 => if arg ≠ 0 then some 2 else when (s.md.mode = .stop && s.sealSt.sw1.getLsbD 13)
  | 2 => if arg ≠ 0 then some 2 else when (s.md.mode = .maintenance)
  | 3 => if arg ≠ 0 then some 2 else when s.mayHalt
  | 4 => if 2 < arg then some 2 else when s.mayRelease
  | 6 => if arg ≠ 0 then some 2 else if s.swapAwaited x then some 0 else none
  | _ => some 2

/-- An event accepted by a lane in this cycle (R487). -/
def Lane.acceptEvent (x : Lane) (e : ModeEvent) : Lane :=
  if x.cyc.events.contains e then x else { x with cyc := { x.cyc with events := x.cyc.events ++ [e] } }

/-- A lane acts on a secure command that it has accepted (R418). -/
def State.secureAct (s : State) (l : LaneId) (w : Word) : State :=
  match fieldN w 24 8 with
  | 1 => s.updLane l (·.acceptEvent .enterMaint)
  | 2 => s.updLane l (·.acceptEvent .leaveMaint)
  | 3 => s.updLane l (·.acceptEvent .debugHalt)
  | 4 => s.voteRelease l ((0x0000A500 : Word) ||| place (fieldN w 0 2) 0)
  | 6 => (s.updLane l (fun x => { x with change := { x.change with swapWait := none } })).requestSy l 0
  | _ => s

/-- A lane reads a secure word: fed, acted on, answered (R415, R418). -/
def State.secureWord (s : State) (l : LaneId) (w : Word) : State :=
  let s := s.feed l w
  match s.secureResult (s.lane l) w with
  | none => s
  | some r =>
    let s := if r = 0 then s.secureAct l w else s.recJoint l .mboxCmdRefused [w]
    s.updLane l (·.postSecure [(0x83000000 : Word) ||| place (fieldN w 24 8) 8 ||| place r 0])

/-- The words taken from a queue one after another (R414). -/
def Chan.laneTakeAll (c : Chan) : Nat → Chan
  | 0 => c
  | n + 1 => c.laneTake.2.laneTakeAll n

/-- The runtime of a lane reads every visible secure word (R415). -/
def State.secureRead (s : State) (l : LaneId) : State :=
  let ws := (s.lane l).mbSec.inq
  let s := s.onChan l .secure (fun c => c.laneTakeAll ws.length)
  ws.foldl (fun s w => s.secureWord l w) s

/-- A secure word as every serving lane reads it after input agreement (R415). -/
def State.secureAll (s : State) (w : Word) : State :=
  if s.md.mode.votes && !s.md.holdExit && s.md.step = .evaluation then
    s.servingLanes.foldl (fun s l => s.secureWord l w) s
  else s

/-- ENTER_MAINT (R418, R25). -/
def execEnterMaint (s : State) : Host.Outcome State Fault Refusal := ok (s.secureAll 0x01000000)

/-- LEAVE_MAINT (R418, R25). -/
def execLeaveMaint (s : State) : Host.Outcome State Fault Refusal := ok (s.secureAll 0x02000000)

/-- DEBUG_HALT (R418, R123). -/
def execDebugHalt (s : State) : Host.Outcome State Fault Refusal := ok (s.secureAll 0x03000000)

/-- FENCE_RELEASE with its argument (R418, R227). -/
def execFenceRelease (l : BitVec 24) (s : State) : Host.Outcome State Fault Refusal :=
  ok (s.secureAll ((0x04000000 : Word) ||| l.setWidth 32))

/-- SWAP_DONE (R418, R197). -/
def execSwapDone (s : State) : Host.Outcome State Fault Refusal := ok (s.secureAll 0x06000000)

/-- IMAGE_SWAP_TIMEOUT: no SWAP_DONE within 5 s; the lanes stay in their mode with the old images (R197). -/
def execImageSwapTimeout (s : State) : Host.Outcome State Fault Refusal :=
  ok (match s.servingLanes with
    | [] => s
    | l :: _ =>
      match (s.lane l).change.swapWait with
      | none => s
      | some t =>
        let s := s.advanceTo (t.toNat + 500000000)
        let s := s.mapLanes (fun x => { x with change := { x.change with swapWait := none } })
        { s.recM .imageSwapTimeout with svc := { s.svc with activating := false } })

/-- A cycle with a vote is under way before its cut. -/
def State.inVoteCycle (s : State) : Bool := s.md.mode.votes && !s.md.holdExit && s.md.step ≠ .idle

/-- PARAMETER: the accepted package takes effect from the cycle of its application (R191). -/
def execParameter (s : State) : Host.Outcome State Fault Refusal :=
  ok (if s.inVoteCycle && s.md.step = .agreement then s.applyDue [1] else s)

/-- ACTIVATE: the lanes report it and wait for the exchange (R197). -/
def execActivate (s : State) : Host.Outcome State Fault Refusal :=
  ok (if s.inVoteCycle && s.md.step = .agreement then s.applyDue [3] else s)

/-- FORCE: in MAINTENANCE the accepted package is applied by every serving lane (R200, R201). -/
def execForce (s : State) : Host.Outcome State Fault Refusal :=
  ok (if s.inVoteCycle && s.md.step = .agreement then s.applyDue [4] else s)

/-- UNFORCE (R200, R201). -/
def execUnforce (s : State) : Host.Outcome State Fault Refusal :=
  ok (if s.inVoteCycle && s.md.step = .agreement then s.applyDue [5] else s)

end Sys2Proof.Machine
end

