-- ==== Sys2Proof/Machine/StartupRows.lean ====
section
/-! DEFINITION. The end of priming (R368, R17, R383, R443) and STARTUP_TEST from its entry to its outcome (R451, R226,
R391, R194). -/

namespace Sys2Proof.Machine

/-- What the runtime clears on entry to STARTUP_TEST: the counts of R250, the restart state of R262, the tokens of
R265. -/
def Store.startupClear (t : Store) : Store :=
  ((t.clearRange 0x02F07000 0x02F07142).clearRange 0x02F07200 0x02F0720C).clearRange 0x02F07400 0x02F07C00

/-- The registers of a core that starts the boot code of STARTUP_TEST afresh: nothing written in HOLD stays (R206). -/
def Core.restarted (c : Core) : Core :=
  { Core.init with
    cve := c.cve, cvcount := c.cvcount, instret := c.instret, events := c.events, cvCycle := c.cvCycle, run := .running }

/-- A lane that takes part in STARTUP_TEST: its core executes the boot ROM, unless it has halted or has no supply; its
changes and forces are gone (R192, R195, R200). -/
def Lane.enterTest (x : Lane) (held : Bool) : Lane :=
  let idle : Bool := held || x.core.run = .stopped
  { x with
    store := x.store.startupClear
    core := if idle then x.core else x.core.restarted
    cyc := Cycle.init
    change := Change.init
    blk := { x.blk with layout := false, mirrored := false, inputs := PerLane.all none, breakpoints := [] }
    ring := { x.ring with committed := false }
    bist := { x.bist with startupDone := false }
    vote := { x.vote with pending := [], unattributable := false, lines := none }
    reqSy := none
    reqStop := none }

/-- STARTUP_TEST entered (R25, R226, R252): every fence latch clears but those of locked-out lanes. -/
def State.enterStartupTest (s : State) : State :=
  let s := s.discardChange
  let out := s.guard.lockedOut
  let s := { s with
    md := { s.md with
      mode := .startupTest, fenced := out, probation := none, gateGm := .none, gateRing := .none
      step := .idle, voted := false, vital := false, firstRun := false, released := [], compared := none, late := none, holdExit := false
      events := [] }
    guard := { s.guard with noneMapped := PerLane.all false, sstopAt := none }
    resync := Resync.init
    stage := { s.stage with groupFault := 0, backNow := 0, holdOff := true, on := 0 }
    ring := { s.ring with tx := false } }
  ((s.servingLanes.foldl (fun s l => s.updLane l (·.enterTest (s.guard.railHeld.get l))) s).holdVote).lapseByMode

/-- The role that SW1[11:10] codes (R17, R377). -/
def roleOf (sw1 : Half) : Role :=
  match (sw1.toNat / 1024) % 4 with
  | 1 => .ixl
  | 2 => .oc
  | 3 => .split
  | _ => .none

/-- The domains that must be up for priming to complete (R355): those of orders 1 to 7, a lane whose rail has failed
excepted. -/
def State.powered (s : State) : Bool :=
  [7, 12, 8, 9, 10].all s.guard.domainUp &&
    LaneId.list.all (fun l => s.guard.railHeld.get l || (s.guard.domainUp (1 + l.num) && s.guard.domainUp (4 + l.num)))

/-- The records that the recorder enters ahead of every other submission (R443). -/
def State.recorderStart (s : State) : State :=
  let r := s.recorder
  let x := { s.stampRec 0x7F0 1 7 with
    p0 := BitVec.ofNat 32 (r.savedUnflushed - r.savedWritten)
    p1 := BitVec.ofNat 32 (s.guard.pcycle.toNat - 1)
    p2 := s.guard.causeLast.setWidth 32
    p3 := BitVec.ofNat 32 r.log.length }
  let s := (s.submit x).1
  { s with recorder := { s.recorder with savedUnflushed := 0, savedWritten := 0, fullRecorded := false } }

/-- GUARD's copy of the fuses, the active generation and the options that it holds (R367, R368, R383). -/
def State.loadOtp (s : State) : State :=
  let k := { s.sealSt with view := s.sealSt.otp }
  let gen := genActive k.word
  let w (i : Nat) : DWord := match gen with
    | some g => k.word (8 + 4 * g + i)
    | none => 0
  let ty4 := (w 0).getLsbD 8
  let g := { s.guard with ty4 := ty4, map := if ty4 then (w 1).setWidth 32 else 0 }
  let g := { g with levels := g.levelsWord }
  let s := { s with sealSt := { k with activeGen := gen }, guard := g }
  let s := (genInvalid k.word).foldl (fun s g => s.recG .otpGenInvalid [place g 0]) s
  let s := if gen.isNone then s.recG .otpGenNone else s
  if !ty4 then s
  else
    (Source.all.drop 1).foldl (fun s src =>
      if src.permits (Level.ofCode (fieldN s.guard.map (2 * src.num) 2)) then s
      else s.recG .resetMapOverride [place src.num 0]) s

/-- The two readings of priming agree and show no invalid switch (R368, R376). -/
def primingSteady (a b : SwitchReading) : Bool :=
  a = b && swInvalid a.on1 a.off1 = 0 && swInvalid a.on2 a.off2 = 0

/-- The seal latched at the second reading; the role is adopted after a PO (R20, R378). -/
def State.latchSeal (s : State) (b : SwitchReading) : State :=
  let k := s.sealSt.readings b
  let k := { k with sw1 := k.live1, sw2 := k.live2, reread := false }
  { s with
    sealSt := k
    md := { s.md with role := if s.guard.fresh then roleOf k.sw1 else s.md.role }
    guard := { s.guard with fresh := false } }

/-- The boot ROM measures itself when GUARD releases the lanes (R389). -/
def bootDigest : List Byte := sha512 ((List.range 0x40000).map Config.bootRom)

/-- The lanes released: M0 extended (R389), VOTE_STATUS.LOCKED_OUT taken from GUARD (R243), the mode by the role (R25,
R17). -/
def State.releaseLanes (s : State) : State :=
  let s := s.mapLanes (fun x => { x with meas := x.meas.extendNow 0 bootDigest })
  let s := { s with md := { s.md with lockedOut := s.guard.lockedOut } }
  if roleOf s.sealSt.sw1 = .none then
    let s := LaneId.list.foldl (fun s l =>
      if s.guard.railHeld.get l then s else s.updCore l (fun c => { c with run := .ended })) s
    (s.recG .sealRoleInvalid).enterSafeStop .seal 2
  else s.enterStartupTest

/-- The words of a reading of the OTP with at least a number of bits wrong; a reading lists, with their words, the bits
that it shows inverted: 64 of the word and 8 of its check bits (R381). -/
def otpWrong (otp : List (Fin 64 × BitVec 72)) (n : Nat) : List (Fin 64 × BitVec 72) := otp.filter (fun e => n ≤ popcount e.2)

/-- The single-bit errors of a reading, corrected and counted (R368, R375). -/
def State.countCorrected (s : State) (otp : List (Fin 64 × BitVec 72)) : State :=
  { s with guard := { s.guard with otpCorrected := BitVec.ofNat 8 (min 255 (otpWrong otp 1).length) } }

/-- The seal readings compared, and what follows where they agree (R368, R397). -/
def State.primingSeal (s : State) (first second : SwitchReading) : State :=
  if !primingSteady first second then
    ({ s with sealSt := { (s.sealSt.readings second) with primingDiff := decide (first ≠ second) } }).raise .sealUnstable none
  else
    let n := s.guard.restartCount
    let s := s.latchSeal second
    let s := { s with guard := { s.guard with
      priming := .done, restarts := n, restartCount := 0 } }
    (s.recG .primingDone [n]).releaseLanes

/-- PRIMING_COMPLETE (R368): GUARD reads the OTP, raises OTP_DED for a double-bit error, and loads it before it compares
the readings of SW1 and SW2 at 5 ms and 25 ms. DESIGN CHOICE (log 53): more than two wrong bits in a word count as a
double-bit error. -/
def State.primingComplete (s : State) (first second : SwitchReading) (otp : List (Fin 64 × BitVec 72)) : State :=
  let s := s.recorderStart
  if otpWrong otp 2 ≠ [] then s.raise .otpDed none
  else (s.loadOtp.countCorrected otp).primingSeal first second

/-- PRIMING_COMPLETE (R368): the two readings of the switches, and what the reading of the OTP shows wrong. -/
def execPrimingComplete (switches : SealReadings) (otp : List (Fin 64 × BitVec 72)) (s : State) :
    Host.Outcome State Fault Refusal :=
  ok (if s.md.mode = .priming && s.guard.priming = .active && !s.guard.domainHeld && s.guard.powerGood && s.powered then
      s.primingComplete switches.first switches.second otp
    else s)

/-- What the hardware tests of each lane found. -/
abbrev TestReport := LaneId → StartupTests

/-- The first lane for which a test fails, as a failure with the lane in P0. -/
def firstLane (ls : List LaneId) (name : RecName) (good : LaneId → Bool) : Option Failure :=
  (ls.find? (fun l => !good l)).map (fun l => (name, [place l.num 0]))

/-- Step 1 (R451): a core that does not run gives no PASS. -/
def State.testStep1 (s : State) (t : TestReport) : Option Failure :=
  firstLane s.servingLanes .bistStartupFail (fun l => (t l).bistPass && (s.lane l).core.run = Run.running)

/-- Step 2 (R451). -/
def State.testStep2 (s : State) (t : TestReport) : Option Failure :=
  firstLane s.servingLanes .storeTestFail (fun l => (t l).storePass)

/-- A step of STARTUP_TEST that every lane carries out for itself (R391): all of them do, and the failure of the
lowest-lettered lane that fails ends the test. -/
def State.laneStep (s : State) (f : State → LaneId → State × Option Failure) : List LaneId → State × Option Failure
  | [] => (s, none)
  | l :: ls =>
    let r := f s l
    let t := r.1.laneStep f ls
    (t.1, r.2.or t.2)

/-- Step 3 (R391, R451): the boot ROM of a lane, in the mirrored layout; the lane decides which authority key slots are
valid (R385). -/
def State.testBoot (s : State) (l : LaneId) : State × Option Failure :=
  let s := if s.unendorsed then s.recL l .authSlotUnendorsed else s
  let s := if s.svc.desigInUse.isNone then s.recL l .flashDesigNone else s
  let r := s.bootLane l
  let x := { r.1 with change := { r.1.change with slots := s.validSlots } }
  (s.setLane l x, r.2)

/-- A trap at runtime level while the tests ran (R451). -/
def State.testTrap (s : State) (t : TestReport) : Option Failure :=
  (s.servingLanes.find? (fun l => (t l).runtimeTrap)).map (fun l =>
    (.runtimeTrap, [(s.lane l).core.tcause, (s.lane l).core.tpc, (s.lane l).core.tval]))

/-- Step 4 (R451, R488). -/
def State.testChecks (s : State) : Option Failure :=
  s.checkModule.orElse fun _ => s.servingLanes.findSome? (fun l => s.checkLane (s.lane l))

/-- Steps 5 to 7 (R451): the digests of the two layouts agree. -/
def State.testLayouts (s : State) (t : TestReport) : Option Failure :=
  firstLane s.servingLanes .layoutDigestDiff (fun l => (t l).layoutAgrees)

/-- What the lanes compare in step 8: the images and M1 to M4 (R451). -/
def Lane.identity (x : Lane) : List (BitVec 512) := (x.meas.m.toList).drop 1

/-- The images of two lanes are alike: the range of the digest of step 5. -/
def sameImages (a b : Lane) : Bool :=
  (a.store.cells.filter (fun c => c.1 < 0x02000000)) == (b.store.cells.filter (fun c => c.1 < 0x02000000))

/-- Step 8 (R451); SPLIT compares nothing (R391). -/
def State.testExchange (s : State) : Option Failure :=
  if s.md.role = .split then none
  else
    match s.servingLanes with
    | [] => none
    | l :: ls =>
      (firstLane ls .layoutDigestDiff (fun k => sameImages (s.lane l) (s.lane k))).orElse fun _ =>
        firstLane ls .measureDiff (fun k => (s.lane l).identity == (s.lane k).identity)

/-- Step 9 (R194, R195, R451): the journal of slot A reapplied in a lane, whose blocks have their configuration by then;
SPLIT has none (R404). -/
def State.testJournal (s : State) (l : LaneId) : State × Option Failure :=
  if s.md.role = .split then (s, none)
  else
    let r := s.reapply ((s.lane l).configure) 0 (s.svc.journal s.svc.slotA)
    (s.setLane l r.1, r.2.map (fun i => (.changeJournalFailed, [place i 0])))

/-- Step 1 passed in every lane (R466). -/
def State.bistPassed (s : State) : State :=
  s.servingLanes.foldl (fun s l => s.updLane l (fun x => { x with bist := { x.bist with startupDone := true } })) s

/-- The steps 1 to 9 in their order, up to the first that fails (R451). -/
def State.runTests (s : State) (t : TestReport) : State × Option Failure :=
  match s.testStep1 t with
  | some e => (s, some e)
  | none =>
    let s := s.bistPassed
    match s.testStep2 t with
    | some e => (s, some e)
    | none =>
      match s.laneStep State.testBoot s.servingLanes with
      | (s, some e) => (s, some e)
      | (s, none) =>
        match firstOf [s.testTrap t, s.testChecks, s.testLayouts t, s.testExchange] with
        | some e => (s, some e)
        | none => s.laneStep State.testJournal s.servingLanes

/-- Locked-out lanes stop STARTUP_TEST: two of them always, one unless SW1 bit 13 is set (R226). -/
def State.lockOutFails (s : State) : Bool :=
  let n := (LaneId.list.filter s.guard.lockedOut.get).length
  2 ≤ n || (n = 1 && !s.sealSt.sw1.getLsbD 13)

/-- LANE_LOCKED_OUT for each locked-out lane (R226). -/
def State.recLockedOut (s : State) : State :=
  (LaneId.list.filter s.guard.lockedOut.get).foldl (fun s l => s.recM .laneLockedOut [place l.num 0]) s

/-- The first connection of a table that fails, as SL_ERR_INFO names it (R333). -/
def Lane.badConn (x : Lane) (node : Nat) : Nat := ((List.range x.slEntries).find? (fun c => !x.connOk node c)).getD 0

/-- SL_ERR.CFG in the lanes whose connection table has failed (R309, R333). -/
def State.noteTable (s : State) : State :=
  s.servingLanes.foldl (fun s l => s.updLane l (fun x =>
    if (x.checkConns s.node).isSome then x.slUpd (·.setErr 0 (x.badConn s.node)) else x)) s

/-- A failed STARTUP_TEST (R25, R451). -/
def State.startupFailed (s : State) (e : Failure) : State :=
  let s := if e.1 = .slConfigInvalid then s.noteTable else s
  s.trialReport.lanesStop e.1 e.2

/-- The code table of the station data applied through the recorder's views (R434). -/
def State.applyCodes (s : State) (l : LaneId) : State :=
  let x := s.lane l
  (List.range 4096).foldl (fun s c => s.applyEntry c (x.codeEntry c)) s

/-- The table that a lane has offered (R434). -/
def Lane.offerCodes (x : Lane) : Lane :=
  { x with recv := { x.recv with offers := (List.range 4096).map (fun c => (c, x.codeEntry c)) } }

/-- A passed STARTUP_TEST: the secure words read (R415), the runtime's configuration, the code table, the schedule,
JOINING (R25, R109, R281). -/
def State.startupPassed (s : State) : State :=
  let ls := s.servingLanes
  let s := ls.foldl State.secureRead s
  let s := ls.foldl (fun s l => s.updLane l (fun x => x.configure.offerCodes)) s
  let s := ls.foldl (fun s l => s.updCore l (fun c => { c with run := .ended })) s
  let coded := if s.md.role = .split then ls else ls.take 1
  let s := (coded.foldl State.applyCodes s).adoptSchedule
  if s.md.mode = .startupTest then s.enterJoining else s

/-- The waits of R356 and R370 are over. -/
def State.waitsOver (s : State) : Bool := s.guard.holdup && s.clocksReady

/-- STARTUP_TEST completes (R25, R451): all steps are carried out on the state; where everything passes but a wait of
R356 or R370, nothing changes until it is over. -/
def State.startupDone (s : State) (t : TestReport) : State :=
  let r := s.recLockedOut.runTests t
  match r.2 with
  | some e => r.1.startupFailed e
  | none =>
    if s.lockOutFails then r.1.trialReport.safeStop .lane ((codeOf .laneLockedOut).setWidth 16)
    else if s.waitsOver then r.1.startupPassed
    else s

/-- STARTUP_TEST_DONE (R25, R451): what the hardware tests found in lanes A, B, C. -/
def execStartupTestDone (a b c : StartupTests) (s : State) : Host.Outcome State Fault Refusal :=
  let t : TestReport := fun l => match l with
    | .A => a
    | .B => b
    | .C => c
  ok (if s.md.mode = .startupTest then s.startupDone t else s)

end Sys2Proof.Machine
end

