-- ==== Sys2Proof/Machine/Links.lean ====
section
/-! DEFINITION. The lanes that take part in a cycle, and the messages of the inter-lane links (R213, R214). -/

namespace Sys2Proof.Machine

/-- The fenced lane that runs its shadow cycle (R233). -/
def State.shadowLane (s : State) : Option LaneId :=
  if s.md.mode = .resync && s.resync.phase = .shadow then some s.resync.lane else none

/-- A lane that runs the cycle and exchanges messages: a serving lane, or the lane in its shadow cycle (R233). -/
def State.joins (s : State) (l : LaneId) : Bool := s.serves l || s.shadowLane = some l

/-- The lanes that run the cycle, in letter order. -/
def State.joining (s : State) : List LaneId := LaneId.list.filter s.joins

/-- A lane whose core takes part in a cycle: it has not halted, and it has left the reset and the wait of the boot ROM. -/
def Lane.alive (x : Lane) : Bool := x.core.run ≠ .stopped && x.core.run ≠ .held

/-- A lane whose core continues in every cycle of SAFE_STOP: any that has not halted and has its supply; one that waits in
its boot ROM runs the restart evaluation from there (R263, R264). -/
def State.awake (s : State) (l : LaneId) : Bool := (s.lane l).core.run ≠ .stopped && !s.guard.railHeld.get l

/-- A vote takes place in the cycle (R215); the one cycle of STOP after a debug release runs no application and has
none (R124). -/
def State.voting (s : State) : Bool := s.md.mode.votes && !s.md.holdExit

/-- The bytes that CHECK covers (R214). -/
def msgBytes (m : LinkMsg) : List Byte :=
  [m.typ, m.route] ++ natLe 2 m.length.toNat ++ wordBytes m.cycle ++ m.body

/-- The CHECK of a message (R214). -/
def msgCheck (m : LinkMsg) : Word :=
  crc32c (0x00070000 ||| (m.typ.setWidth 32 <<< 8) ||| m.route.setWidth 32) (msgBytes m)

/-- The sender that ROUTE names (R214). -/
def msgSender (m : LinkMsg) : Option LaneId := LaneId.ofNum (m.route.toNat % 4)

/-- TYPE, ROUTE, LENGTH and CYCLE are as the receiver expects, and CHECK is right (R214). -/
def msgGood (m : LinkMsg) (dst : LaneId) (typ len : Nat) (cycle : Word) : Bool :=
  m.typ.toNat = typ && m.route.toNat / 4 = dst.num && m.length.toNat = len && m.body.length = len &&
    m.cycle = cycle && m.check = msgCheck m

/-- A link after a message: the receiver's view of it, and the count of rejected messages (R240). -/
def Lane.noteLink (x : Lane) (dst k : LaneId) (good : Bool) : Lane :=
  let b := x.blk
  { x with blk :=
      if k = dst.next then { b with upNext := good, errNext := if good then b.errNext else satInc b.errNext }
      else { b with upPrev := good, errPrev := if good then b.errPrev else satInc b.errPrev } }

/-- The sender's lane whose message has arrived at a lane: as ROUTE names it; of a message with no readable sender the
link is a free value. -/
def State.linkOf (s : State) (dst : LaneId) (m : LinkMsg) : LaneId :=
  match msgSender m with
  | some k => if k = dst then (if Config.freeBool s.freeCtr then dst.next else dst.prev) else k
  | none => if Config.freeBool s.freeCtr then dst.next else dst.prev

/-- The injection LINK_CHECK inverts the CHECK of the next message of its lane on one link (R463). -/
def State.checkHit (s : State) (dst k : LaneId) : Bool :=
  s.injected 0x0B (some k) && dst = (if s.injParam = 0 then k.next else k.prev)

/-- A message arrives at a lane (R214): `act` is what a message as expected does, given its sender. -/
def State.linkArrive (s : State) (dst : LaneId) (m : LinkMsg) (typ len : Nat) (act : State → LaneId → State) : State :=
  let k := s.linkOf dst m
  let hit := s.checkHit dst k
  let good := !hit && msgSender m = some k && msgGood m dst typ len ((s.lane dst).cycleLo)
  let s := if hit then s.fire else s
  let s := { s.updLane dst (·.noteLink dst k good) with freeCtr := s.freeCtr + 1 }
  if good then act s k else s

/-- A message of a lane is withheld by an injection: the copy for one receiver is passed over (R463). -/
def State.withheld (s : State) (id : Nat) (k : LaneId) : Bool := (s.lasting id (some k)).isSome

end Sys2Proof.Machine
end

