-- ==== Sys2Proof/Machine/Quote.lean ====
section
/-! DEFINITION. Attestation (R392, R393): the quote, when it is read, and how often one is answered. -/

namespace Sys2Proof.Machine

/-- LENGTH of a body (R392, R411, R447), at most 65,536; the manual does not lay out the bodies of STATUS and DEBUG. -/
def Reply.size : Reply → Nat
  | .empty => 0
  | .status .. => min 65536 Config.statusLength
  | .records _ _ _ rs => 16 + 32 * rs.length
  | .quote b => b.length
  | .debug .. => min 65536 Config.debugLength

/-- A response of the maintenance protocol sent (R411). -/
def State.respond (s : State) (sid : Nat) (service : Half) (req : Word) (code : Nat) (r : Reply) : State :=
  { s with svc := { s.svc with
      response := some { session := sid, service := service, code := code, req := req, length := r.size, reply := r } } }

/-- Bytes signed by the device identity key: 64 bytes (R394). -/
def deviceSign (b : List Byte) : List Byte := (List.range 64).map (fun i => (Config.ed25519Sign b).getD i 0)

/-- Bytes 0x000 to 0x41F of a quote (R392). -/
def State.quoteBody (s : State) (nonce : BitVec 256) : List Byte :=
  let sw := s.sealSt.sw1
  let l := s.servingLanes.headD .A
  let w1 := (sw.setWidth 12).setWidth 32 ||| place s.md.mode.code 16
  let w7 := flag s.md.debugBroken 0 ||| flag s.sealSt.changed 1 ||| flag s.svc.desig.trial 2 |||
    place s.md.serving.toNat 4 ||| flag s.md.lockedOut.a 8 ||| flag s.md.lockedOut.b 9 ||| flag s.md.lockedOut.c 10
  natLe 4 0x00090011 ++ wordBytes w1 ++ dwordBytes (s.sealSt.word 0) ++ natLe 6 s.optMs.toNat ++ [0, 0] ++
    wordBytes s.guard.pcycle ++ wordBytes w7 ++ wordBytes s.cycleNow ++ wordBytes (s.lane l).change.lastSeq ++
    List.replicate 24 0 ++ natLe 32 nonce.toNat ++
    LaneId.list.flatMap (fun k => (List.range 5).flatMap (fun i => bitsDigest (vget (s.lane k).meas.m i 0)))

/-- A quote of 1,120 bytes with its signature by the device identity key (R392). -/
def State.quoteOf (s : State) (nonce : BitVec 256) : List Byte :=
  let b := s.quoteBody nonce
  b ++ deviceSign b

/-- A quote can be read now: in the gap after a vote deadline, or where no cycle with a vote is under way (R393). -/
def State.quoteTime (s : State) : Bool := !s.md.mode.votes || s.md.step = .voted

/-- The quotes that wait are read, signed and answered in order of their requests (R393). -/
def State.answerQuotes (s : State) : State :=
  if s.svc.asked = [] || !s.quoteTime then s
  else
    let t := s.svc.asked.foldl (fun s q => s.respond q.1 0x0011 q.2.1 0 (.quote (s.quoteOf q.2.2))) s
    { t with svc := { t.svc with asked := [] } }

/-- The quotes accepted in the last second of operating time (R393). -/
def State.recentQuotes (s : State) : List Nat := s.svc.quotes.filter (fun t => s.guard.optime < t + 100000000)

/-- A quote requested (R393): refused for a nonce of zeros, and beyond ten in a second. -/
def State.askQuote (s : State) (sid : Nat) (req : Word) (nonce : BitVec 256) : State :=
  let recent := s.recentQuotes
  if nonce = 0 then s.respond sid 0x0011 req 5 .empty
  else if 10 ≤ recent.length then s.respond sid 0x0011 req 3 .empty
  else
    { s with svc := { s.svc with
        quotes := recent ++ [s.guard.optime], asked := s.svc.asked ++ [(sid, req, nonce)] } }.answerQuotes

end Sys2Proof.Machine
end

