-- ==== Sys2Proof/Machine/Vote.lean ====
section
/-! DEFINITION. The vote (chapter 07): the rounds of signatures and views, the odd set and each lane's decision, the
two gates, the decision of the module, the two-key comparison. -/

namespace Sys2Proof.Machine

/-- The comparison that a 2-bit code of a row spells (R243); the unused code reads as missing. -/
def cmpOf : Nat → Cmp
  | 0 => .equal | 1 => .different | _ => .missing

/-- The four bits of a row (R243). -/
def Row.code (r : Row) : Nat := r.next.code + 4 * r.prev.code

/-- The row that four bits spell. -/
def rowOf (n : Nat) : Row := { next := cmpOf (n % 4), prev := cmpOf (n / 4 % 4) }

/-- m(l, j): what the row of lane l says of lane j. -/
def Row.says (r : Row) (l j : LaneId) : Cmp := if j = l.next then r.next else r.prev

/-- m(l, j) as a lane holds it: MISSING where it holds no row of l (R216). -/
def VoteBlk.m (v : VoteBlk) (l j : LaneId) : Cmp :=
  match v.rows.get l with
  | none => .missing
  | some r => r.says l j

/-- VOTE_VIEW (R243): the rows held, those not held reading 2, and ROWS. -/
def VoteBlk.viewWord (v : VoteBlk) : BitVec 15 :=
  let part (l : LaneId) : Nat := (((v.rows.get l).map (·.code)).getD 10) * 16 ^ l.num
  let held (l : LaneId) : Nat := if (v.rows.get l).isSome then 4096 * 2 ^ l.num else 0
  BitVec.ofNat 15 (part .A + part .B + part .C + held .A + held .B + held .C)

/-- One signature compared with another (R216). -/
def compareSig (own other : Option DWord) : Cmp :=
  match own, other with
  | some a, some b => if a = b then .equal else .different
  | _, _ => .missing

/-- The row that a lane forms from the signatures it holds: of a lane that takes no part nothing has arrived. -/
def VoteBlk.ownRow (v : VoteBlk) (l : LaneId) : Row :=
  let c (j : LaneId) : Cmp := compareSig (v.sigs.get l) (v.sigs.get j)
  { next := c l.next, prev := c l.prev }

/-- A SIGNATURE message is taken: the signature of a lane that takes part is held (R215, R128). -/
def State.takeSignature (s : State) (dst : LaneId) (m : LinkMsg) (k : LaneId) : State :=
  if s.joins k then
    s.updLane dst fun x =>
      { x with
        vote := { x.vote with sigs := x.vote.sigs.set k (some (BitVec.ofNat 64 (leAt m.body 0 8))) }
        core := { x.core with events := x.core.events ||| 0x08 } }
  else s

/-- SIGNATURE_MESSAGE (R214, R215): before the close of the round. -/
def execSignatureMessage (dst : LaneId) (m : LinkMsg) (s : State) : Host.Outcome State Fault Refusal :=
  ok (if !s.joins dst || !s.voting then s
    else
      let k := s.linkOf dst m
      if s.withheld 0x09 k then s.passLasting 0x09 (some k)
      else s.linkArrive dst m 2 12 fun s k => if s.md.step = .evaluation then s.takeSignature dst m k else s)

/-- A lane's core still executes its cycle. -/
def Lane.evaluating (x : Lane) : Bool :=
  match x.core.run with
  | .running | .waiting _ | .stalled _ => x.tb.phase = .evaluation
  | _ => false

/-- The signature round closes in a lane: its row, held only where the lane has sent a signature (R215, R216), and the
signatures as VOTE_SIG shows them (R243). -/
def Lane.closeRound (x : Lane) (l : LaneId) (lie : Bool) : Lane :=
  let row := if lie then { next := .different, prev := .different } else x.vote.ownRow l
  { x with vote := { x.vote with
      rows := if x.cyc.done then x.vote.rows.set l (some row) else x.vote.rows
      sigRegs := x.vote.sigs.map (·.getD 0) } }

/-- The signature round closes in one lane; the injection VIEW_LIE makes its row accuse both others (R463). -/
def State.closeLane (s : State) (l : LaneId) : State :=
  let lie := s.injected 0x0A (some l) && (s.lane l).cyc.done
  (if lie then s.fire else s).updLane l (·.closeRound l lie)

/-- SIGNATURE_ROUND_CLOSE: at t0 + TI - 3.4 ms, every lane past its budget limit (R215, R98). -/
def execSignatureRoundClose (s : State) : Host.Outcome State Fault Refusal :=
  ok (if s.voting && s.md.step = .evaluation && s.joining.all (fun l => !(s.lane l).evaluating) then
      let s := s.advanceTo (s.lead.beforeEnd 340000)
      let s := s.joining.foldl State.closeLane s
      { s with md := { s.md with step := .compared } }
    else s)

/-- A VIEW message is taken: the sender's row in the place that VOTE_VIEW gives it (R214, R243). -/
def State.takeView (s : State) (dst : LaneId) (m : LinkMsg) (k : LaneId) : State :=
  if s.serves k then
    let r := rowOf (leAt m.body 0 2 / 16 ^ k.num)
    s.updLane dst (fun x => { x with vote := { x.vote with rows := x.vote.rows.set k (some r) } })
  else s

/-- VIEW_MESSAGE (R214, R215): before the close of the view round. -/
def execViewMessage (dst : LaneId) (m : LinkMsg) (s : State) : Host.Outcome State Fault Refusal :=
  ok (if !s.joins dst || !s.voting then s
    else s.linkArrive dst m 3 2 fun s k => if s.md.step = .compared then s.takeView dst m k else s)

/-- The first test of R216: every other serving lane finds j not EQUAL. -/
def VoteBlk.accused (v : VoteBlk) (srv : List LaneId) (j : LaneId) : Bool :=
  (srv.filter (· ≠ j)).all (fun l => v.m l j ≠ .equal)

/-- The second test of R216: l accuses a lane that a third one finds EQUAL. -/
def VoteBlk.accuser (v : VoteBlk) (srv : List LaneId) (l : LaneId) : Bool :=
  srv.any fun j => j ≠ l && v.m l j ≠ .equal && srv.any (fun k => k ≠ l && k ≠ j && v.m k j = .equal)

/-- A pending cause names a lane. -/
def VoteBlk.pends (v : VoteBlk) (l : LaneId) : Bool := v.pending.any (·.1 = l)

/-- The odd set (R216). -/
def VoteBlk.odd (v : VoteBlk) (srv : List LaneId) : List LaneId :=
  if v.unattributable then srv else srv.filter (fun l => v.pends l || v.accused srv l || v.accuser srv l)

/-- The table of R216. -/
def decide216 (serving : Nat) (mode : Mode) (odd : List LaneId) (rejoin : Option LaneId) : Decision :=
  match serving, mode, odd with
  | 3, .run, [] | 3, .stop, [] | 3, .maintenance, [] => .cont
  | 3, .run, [x] => .fence x
  | 2, .resync, [] => match rejoin with
    | some x => .rejoin x
    | none => .cont
  | 2, .degraded, [] | 2, .stop, [] | 2, .maintenance, [] => .cont
  | _, _, _ => .stop

/-- Probation is in force: fewer than 64 audit steps since the rejoin (R237). -/
def State.inProbation (s : State) : Bool := (s.md.probation.map (fun n => decide (n < 64))).getD false

/-- The lane that a FENCE must not name during probation: the partner of the resynchronisation (R228, R237). -/
def State.partner (s : State) : LaneId := s.resync.lane.prev

/-- FENCE of the partner becomes STOP during probation (R237). -/
def State.underProbation (s : State) (d : Decision) : Decision :=
  if s.inProbation && d = .fence s.partner then .stop else d

/-- A STOP package that the lane has accepted takes effect at the coming output cut (R196). -/
def Lane.stopsNow (x : Lane) : Bool :=
  match x.change.pend with
  | some p => p.verdict.map (·.1) = some 0 && pkgKind p.bytes = 2 && p.apply - 1 = x.cycleLo
  | none => false

/-- The lane that may rejoin at this vote (R236). -/
def State.rejoining (s : State) (x : Lane) : Option LaneId :=
  if s.md.mode = .resync && s.resync.phase = .rejoin && !x.cyc.stopCmd && !x.stopsNow then some s.resync.lane else none

/-- The decision that a lane computes (R216, R95, R237). -/
def State.decision (s : State) (l : LaneId) : Decision :=
  let x := s.lane l
  let srv := s.servingLanes
  let odd := x.vote.odd srv
  if x.cyc.ownStop then .stop
  else if x.cyc.marker && !odd.contains l then .stop
  else s.underProbation (decide216 srv.length s.md.mode odd (s.rejoining x))

/-- The decision of a code (R217). -/
def Decision.ofCode : Nat → Decision
  | 1 => .cont
  | 2 => .fence .A
  | 3 => .fence .B
  | 4 => .fence .C
  | 5 => .rejoin .A
  | 6 => .rejoin .B
  | 7 => .rejoin .C
  | 8 => .stop
  | _ => .none

/-- A lane drives its decision lines, unless its core has halted, and has met a duty to decide STOP (R352); the injection DECISION_LINE puts another code in place
of its own (R216, R463). -/
def State.driveLane (s : State) (l : LaneId) : State :=
  let x := s.lane l
  let s := s.updLane l (fun x => { x with vote := { x.vote with view := x.vote.viewWord } })
  if !x.alive || !s.serves l then s
  else
    let d := s.decision l
    let set (s : State) (d : Decision) : State :=
      s.updLane l (fun x => { x with vote := { x.vote with lines := some d }, cyc := { x.cyc with ownStop := false } })
    if s.injected 0x0D (some l) && 1 ≤ s.injParam && s.injParam ≤ 8 then set s.fire (Decision.ofCode s.injParam)
    else set s d

/-- A serving lane whose element differed at the last cut is a pending cause (R254). -/
def State.switchCauses (s : State) : State :=
  let ls := (s.servingLanes).filter (fun l => s.stage.swLatched.getLsbD l.num)
  s.mapLanes (fun x => { x with vote := { x.vote with
    pending := x.vote.pending ++ (ls.filter (fun l => !x.vote.pending.contains (l, .input))).map (fun l => (l, .input)) } })

/-- VIEW_ROUND_CLOSE: at t0 + TI - 3.0 ms each lane computes its decision (R215, R216). -/
def execViewRoundClose (s : State) : Host.Outcome State Fault Refusal :=
  ok (if s.voting && s.md.step = .compared then
      let s := s.advanceTo (s.lead.beforeEnd 300000)
      let s := s.joining.foldl State.driveLane s.switchCauses
      { s with md := { s.md with step := .viewed } }
    else s)

/-- Serving lanes that drive a decision. -/
def State.drives (s : State) (d : Decision) : List LaneId :=
  s.servingLanes.filter (fun l => (s.lane l).vote.lines = some d)

/-- The decision that a gate forms (R218, R237). -/
def State.gate (s : State) : Decision :=
  let many (d : Decision) : Bool := 2 ≤ (s.drives d).length
  let d : Decision :=
    match s.servingLanes with
    | [_, _, _] =>
      match LaneId.list.find? (fun x => many (.fence x)) with
      | some x => .fence x
      | none => if many .cont then .cont else .stop
    | [_, _] =>
      if many .cont then .cont
      else match LaneId.list.find? (fun x => many (.rejoin x)) with
        | some x => .rejoin x
        | none => .stop
    | _ => .stop
  s.underProbation d

/-- Why a lane is odd: the first of 4, 5, 2, 1, 3 that applies (R243). -/
def VoteBlk.causeOf (v : VoteBlk) (srv : List LaneId) (j : LaneId) : Nat :=
  if v.pending.contains (j, .input) then 4
  else if v.pending.contains (j, .audit) then 5
  else if v.accused srv j then (if (srv.filter (· ≠ j)).any (fun l => v.m l j = .missing) then 2 else 1)
  else if v.accuser srv j then 3
  else 0

/-- VOTE_RESULT.CAUSE of a lane (R243); `shadow` tells a vote at which a shadow cycle failed. -/
def State.cause (s : State) (x : Lane) (d : Decision) (shadow : Bool) : Nat :=
  let srv := s.servingLanes
  let odd := x.vote.odd srv
  match odd with
  | [] => if shadow then 6 else 0
  | j :: _ =>
    if x.vote.unattributable then 8
    else if s.md.mode = .run && srv.length = 3 && s.inProbation && odd = [s.partner] then 7
    else
      match d with
      | .fence k => x.vote.causeOf srv k
      | _ => x.vote.causeOf srv j

/-- The vote of the shadow cycle: 0 none, 1 passed, 2 failed (R233). -/
def State.shadowVerdict (s : State) : Nat :=
  match s.shadowLane with
  | none => 0
  | some f =>
    if s.servingLanes.all (fun l => (s.lane l).vote.rows.get l |>.any (fun r => r.says l f = .equal)) then 1 else 2

/-- The result of the vote in a lane (R219, R243); a lane that drove nothing feeds own equal to module where it took no
part. -/
def Lane.noteVote (x : Lane) (joins serving : Bool) (module : Decision) (cause : Nat) : Lane :=
  let own : Nat := if serving then (x.vote.lines.map (·.code)).getD 0 else module.code
  { x with
    tb := { x.tb with phase := if joins then .gap else x.tb.phase }
    core := { x.core with events := x.core.events ||| 0x08 }
    vote := { x.vote with
      module := BitVec.ofNat 4 module.code, own := BitVec.ofNat 4 own, cause := BitVec.ofNat 4 cause
      cycle := x.cycleLo, pending := [], unattributable := false } }

/-- A lane that decided STOP while the module goes on drops its own enables and copies for the cut (R219). -/
def State.dropOwn (s : State) (d : Decision) : State :=
  if d = .stop then s
  else (s.drives .stop).foldl (fun s l => s.updLane l (fun x =>
    { x with cyc := { x.cyc with enables := some 0, handed := some [] } })) s

/-- Single requests for SAFE_STOP recorded (R352). -/
def State.singleRequests (s : State) : State :=
  let asked := s.servingLanes.filter (fun l => (s.lane l).reqStop.isSome)
  let s := asked.foldl (fun s l =>
    s.recG .sstopReqSingle [place l.num 0, (((s.lane l).reqStop.map (fun (q : DWord × Half) => q.2)).getD 0).setWidth 32]) s
  s.mapLanes (fun x => { x with reqStop := none })

/-- The last lane slice judged by the lead has failed on a lane. -/
def Lane.sliceFailed (x : Lane) (l : LaneId) : Bool :=
  fieldN x.bist.last 8 3 = 2 && fieldN x.bist.last 6 2 = l.num && fieldN x.bist.last 24 8 = 0x57

/-- The records of a vote: the BIST failure whose cause was pending (R459), and a mismatch of signatures (R223). -/
def State.recordVote (s : State) (x : Lane) : State :=
  let srv := s.servingLanes
  (x.vote.odd srv).foldl (fun s l =>
    let c := x.vote.causeOf srv l
    let s := if c = 5 && x.sliceFailed l then s.recM .bistFail [x.bist.last] else s
    if c = 1 || c = 2 || c = 3 then s.recM .signatureMismatch [place l.num 0, place c 0] else s) s

/-- The first serving lane whose decision is that of the module: its odd set is what the module acted on. -/
def State.retainedLead (s : State) (d : Decision) : Lane :=
  match s.drives d with
  | l :: _ => s.lane l
  | [] => s.lead

/-- The gates sample the lines (R218, R219). -/
def State.sampleGates (s : State) : State :=
  let ring := s.gate
  let hit := s.injected 0x0E none
  let s := if hit then s.fire else s
  let gm := if hit then .stop else ring
  let verdict := s.shadowVerdict
  let s := s.recordVote (s.retainedLead gm)
  let cause (l : LaneId) : Nat := s.cause (s.lane l) gm (verdict = 2)
  let ca := cause .A
  let cb := cause .B
  let cc := cause .C
  let s := s.dropOwn gm
  let s := { s with
    lanes := { a := s.lanes.a.noteVote (s.joins .A) (s.serves .A) gm ca
               b := s.lanes.b.noteVote (s.joins .B) (s.serves .B) gm cb
               c := s.lanes.c.noteVote (s.joins .C) (s.serves .C) gm cc }
    resync := { s.resync with shadowOk := verdict = 1, shadowBad := verdict = 2 }
    md := { s.md with step := .voted, voted := gm = ring, gateGm := gm, gateRing := ring } }
  if gm = ring then s
  else
    let s := s.recM .gateDiff [place gm.code 0, place ring.code 0]
    { s with md := { s.md with gateDiff := true } }.safeStop .gateDiff

/-- A lane audits in the gap: it serves, and the decision does not fence it (R222). -/
def State.auditors (s : State) : List LaneId :=
  s.servingLanes.filter (fun l => s.md.gateGm ≠ .fence l)

/-- The gap has its audit step and its slices: after a vote, outside RESYNC (R222, R235, R457). -/
def State.gapDuties (s : State) : Bool := s.voting && s.md.mode ≠ .resync && s.md.step = .voted

/-- The audit step of this gap begins (R222). -/
def State.startAudit (s : State) : State :=
  if !s.gapDuties then s
  else s.auditors.foldl (fun s l => s.updLane l (fun x =>
    { x with vote := { x.vote with auditing := true, digests := PerLane.all none } })) s

/-- The lane position passed over while its lane is fenced (R457). -/
def State.skipLanes (s : State) (p : Nat) : Nat → Nat
  | 0 => p
  | n + 1 => if s.serves (lanePosition p).1 then p else s.skipLanes ((p + 1) % 144) n

/-- The lane slice of this gap begins (R457): none where the lane's signature is missing. -/
def State.startSlice (s : State) : State :=
  if !s.gapDuties || !s.lead.bist.rotate then s
  else
    let p := s.skipLanes s.bist.p 3
    let t := lanePosition p
    let inc := if p = s.bist.p then s.bist.incP else 0
    let b := { s.bist with p := p, incP := inc, done := none }
    if (s.lead.vote.sigs.get t.1).isNone then { s with bist := b }
    else { s with bist := { b with lane := some t, laneStop := none } }

/-- The vote deadline (R218): the decision, SAFE_STOP at once on STOP, otherwise the duties of the gap. -/
def State.voteDeadline (s : State) : State :=
  let s := s.advanceTo (s.lead.beforeEnd 250000)
  let s := s.singleRequests.sampleGates
  if s.md.mode = .safeStop then s
  else if s.md.gateGm = .stop then s.safeStop .vote
  else ((s.postVerdict).startAudit).startSlice

/-- VOTE_DEADLINE: at t0 + TI - 2.5 ms (R215, R218); quotes that wait are read in the gap that follows (R393). -/
def execVoteDeadline (s : State) : Host.Outcome State Fault Refusal :=
  ok (if s.voting && s.md.step = .viewed then s.voteDeadline.answerQuotes else s)

/-- The two lanes whose copies the ring port compares (R221). -/
def State.keyLanes (s : State) : List LaneId :=
  match s.md.gateRing with
  | .fence x => (s.servingLanes.filter (· ≠ x)).take 2
  | .cont => if s.servingLanes.length = 3 then (s.drives .cont).take 2 else s.servingLanes
  | .rejoin _ => s.servingLanes
  | _ => []

/-- One byte of the first PDU of a list inverted (R463). -/
def spoilPdu (i : Nat) : List Pdu → List Pdu
  | [] => []
  | p :: ps => { p with bytes := p.bytes.mapIdx (fun k b => if k = i then ~~~ b else b) } :: ps

/-- The copies that a lane has handed over, with the injection TWO_KEY (R463). -/
def State.handedBy (s : State) (l : LaneId) : List Pdu :=
  let h := (s.lane l).cyc.handed.getD []
  if s.injected 0x0F (some l) then spoilPdu s.injParam h else h

/-- The injection TWO_KEY meets the first copy of its lane. -/
def State.spoiled (s : State) : Bool :=
  s.keyLanes.any (fun l => s.injected 0x0F (some l) && ((s.lane l).cyc.handed.getD []).length ≠ 0)

/-- The two copies differ: every PDU of the cycle is withheld, and the module stops (R221). -/
def State.twoKeyDiffers (s : State) : State :=
  let s := { s with md := { s.md with compared := some [], twoKeyFault := true } }
  (s.recRing .twoKeyMismatch).safeStop .twoKey

/-- A comparison that completes after the cut of its cycle releases the PDUs into the slots that are left (R102). -/
def State.compareLate (s : State) (a b : List Pdu) (keep : Bool) : State :=
  let s := { s with md := { s.md with late := none } }
  if a = b then { s with md := { s.md with released := if keep then a else [] } }
  else
    let s := { s with md := { s.md with twoKeyFault := true } }
    (s.recRing .twoKeyMismatch).safeStop .twoKey

/-- The two-key comparison: identical copies are released, otherwise everything is withheld and the module stops
(R221). -/
def State.twoKey (s : State) : State :=
  let release (s : State) (ps : List Pdu) : State := { s with md := { s.md with compared := some ps } }
  match s.keyLanes with
  | [l, k] =>
    let a := s.handedBy l
    let b := s.handedBy k
    let s := if s.spoiled then s.fire else s
    if a = b then release s a else s.twoKeyDiffers
  | _ => release s []

/-- TWO_KEY_COMPARE (R221): once after the vote deadline of a decision other than STOP; after the cut it completes what it
had not completed (R102). -/
def execTwoKeyCompare (s : State) : Host.Outcome State Fault Refusal :=
  ok (match s.md.late with
    | some (a, b, keep) => s.compareLate a b keep
    | none => if s.voting && s.md.step = .voted && s.md.compared.isNone then s.twoKey else s)

end Sys2Proof.Machine
end

