-- ==== Sys2Proof/Machine/Gap.lean ====
section
/-! DEFINITION. The gap (R101): the state audit (R222, R223), the slices of the self-test (R455 to R460), what is
abandoned before the next cycle start, and the commands of BIST and INJECT. -/

namespace Sys2Proof.Machine

/-- What the runtime vital state holds of online change beside the work area: the last applied sequence and the force
table (R195, R200). DESIGN CHOICE (log 88): the manual gives them no address, and they are digested with the page of the
work area. -/
def Change.auditBytes (c : Change) : List Byte :=
  wordBytes c.lastSeq ++ c.forces.flatMap (fun f => wordBytes f.target ++ wordBytes f.value ++ wordBytes f.previous)

/-- The bytes of a page of the audited region as the audit reads them (R187, R195, R222). -/
def Lane.auditPage (x : Lane) (a : Nat) : List Byte :=
  x.bytesAt a 4096 ++ (if a = 0x02FE0000 then x.change.auditBytes else [])

/-- The digests of a lane's audit step: one for each page of 4 KiB (R222); the step starts at 0x0200_0000, so that scratch
is never compared (R224). -/
def Lane.auditDigests (x : Lane) : List DWord :=
  (List.range 64).map fun i =>
    crc64 (BitVec.allOnes 64) (x.auditPage (0x02000000 + x.vote.auditStep.toNat * 0x40000 + i * 4096))

/-- What the digests of a page tell (R223): agreement, one odd lane, or a difference without a lane. -/
inductive PageVerdict | same | odd (l : LaneId) | unknown
  deriving DecidableEq, Repr

/-- The digests of one page compared (R223). -/
def judgePage : List (LaneId × DWord) → PageVerdict
  | [(a, x), (b, y), (c, z)] =>
    if x = y && y = z then .same
    else if y = z then .odd a
    else if x = z then .odd b
    else if x = y then .odd c
    else .unknown
  | [(_, x), (_, y)] => if x = y then .same else .unknown
  | _ => .same

/-- The digests that a lane holds of the lanes that audit, page by page. -/
def VoteBlk.page (v : VoteBlk) (ls : List LaneId) (i : Nat) : PageVerdict :=
  judgePage (ls.map (fun l => (l, (((v.digests.get l).getD [])[i]?).getD 0)))

/-- Every digest of the step is held (R222). -/
def VoteBlk.allDigests (v : VoteBlk) (ls : List LaneId) : Bool := ls.all (fun l => (v.digests.get l).isSome)

/-- The first difference since SY in VOTE_AUDIT_DIFF (R243). -/
def VoteBlk.noteDiff (v : VoteBlk) (page : Nat) (lane : Nat) : VoteBlk :=
  if bitN v.auditDiff 16 then v
  else { v with auditDiff := place page 0 ||| place lane 12 ||| flag true 16 }

/-- A page's verdict taken by a lane as a pending cause, with its record (R223). -/
def State.takePage (s : State) (d : LaneId) (page : Nat) : PageVerdict → State
  | .same => s
  | .odd l =>
    let s := s.updLane d (fun x =>
      let v := x.vote.noteDiff page l.num
      { x with vote := { v with pending := v.pending ++ [(l, CauseKind.audit)] } })
    s.recJoint d .auditMismatch [BitVec.ofNat 32 (0x02000000 + page * 4096), place l.num 0]
  | .unknown =>
    let s := s.updLane d (fun x => { x with vote := { x.vote.noteDiff page 3 with unattributable := true } })
    s.recJoint d .auditMismatch [BitVec.ofNat 32 (0x02000000 + page * 4096), place 3 0]

/-- A lane's audit step completed: the next step, and the pass after the last one (R222, R243). -/
def VoteBlk.stepDone (v : VoteBlk) : VoteBlk :=
  { v with
    auditing := false
    auditStep := v.auditStep + 1
    auditPasses := if v.auditStep = 63 then satInc v.auditPasses else v.auditPasses }

/-- Probation counts an audit step that has completed (R237). -/
def State.countProbation (s : State) (d : LaneId) : State :=
  if s.auditors.head? = some d then { s with md := { s.md with probation := s.md.probation.map (· + 1) } } else s

/-- A lane compares once it holds the digests of every lane that audits (R222, R223). -/
def State.compareAudit (s : State) (d : LaneId) : State :=
  let v := (s.lane d).vote
  let ls := s.auditors
  if !v.auditing || !v.allDigests ls then s
  else
    let base := v.auditStep.toNat * 64
    let s := (List.range 64).foldl (fun s i => s.takePage d (base + i) (v.page ls i)) s
    (s.updLane d (fun x => { x with vote := x.vote.stepDone })).countProbation d

/-- AUDIT_READ_COMPLETE: the lane forms its digests and sends them (R222). -/
def execAuditReadComplete (l : LaneId) (s : State) : Host.Outcome State Fault Refusal :=
  ok (if s.gapDuties && (s.lane l).vote.auditing && ((s.lane l).vote.digests.get l).isNone then
      let s := s.updLane l (fun x =>
        { x with vote := { x.vote with digests := x.vote.digests.set l (some x.auditDigests) } })
      s.compareAudit l
    else s)

/-- The digests in the body of an AUDIT message (R214). -/
def bodyDigests (body : List Byte) : List DWord :=
  (List.range 64).map (fun i => BitVec.ofNat 64 (leAt body (8 * i) 8))

/-- AUDIT_MESSAGE: 64 page digests of another lane that audits (R214, R222, R223). -/
def execAuditMessage (dst : LaneId) (m : LinkMsg) (s : State) : Host.Outcome State Fault Refusal :=
  ok (if !s.joins dst || !s.gapDuties then s
    else s.linkArrive dst m 4 512 fun s k =>
      if s.auditors.contains k && (s.lane dst).vote.auditing then
        let s := s.updLane dst (fun x =>
          { x with vote := { x.vote with digests := x.vote.digests.set k (some (bodyDigests m.body)) } })
        s.compareAudit dst
      else s)

/-- PROBATION_END: 64 audit steps since the rejoin have completed (R237). -/
def execProbationEnd (s : State) : Host.Outcome State Fault Refusal :=
  ok (if (s.md.probation.map (fun n => decide (64 ≤ n))).getD false then
      { s with md := { s.md with probation := none } }
    else s)

/-- Gap duties that still run are abandoned: the slices report ABORTED, the audit step is repeated (R101, R456). -/
def State.abandonGap (s : State) : State :=
  s.bistAbort.mapLanes (fun x => { x with vote := { x.vote with auditing := false } })

/-- The gap ends: what still runs is abandoned; a freeze that has not completed is attempted in the next cycle (R101,
R232). -/
def State.closeGap (s : State) : State :=
  let s := s.abandonGap
  if s.resync.frozen then
    { s with resync := { s.resync with
      frozen := false, phase := if s.resync.phase = .freezeM then .copyM else .copyN } }
  else s

/-- GAP_ABANDON: at t0(n+1) - 0.1 ms (R101). -/
def execGapAbandon (s : State) : Host.Outcome State Fault Refusal :=
  ok (if s.voting && s.md.step = .voted then (s.advanceTo (s.lead.beforeEnd 10000)).closeGap else s)

/-- The position of the lane rotation moves on (R457). -/
def BistSt.advanceLane (b : BistSt) (r : BistResult) : BistSt :=
  let n := bistNext 144 b.p b.incP r
  { b with p := n.1, incP := n.2 }

/-- The position of the shared rotation moves on (R457). -/
def BistSt.advanceShared (b : BistSt) (r : BistResult) : BistSt :=
  let n := bistNext 8 b.q b.incQ r
  { b with q := n.1, incQ := n.2 }

/-- The injection inverts a bit of the MISR (R463). -/
def State.spoilMisr (s : State) (id : Nat) (l : Option LaneId) (misr : DWord) : State × DWord :=
  if s.injected id l then (s.fire, misr ^^^ BitVec.ofNat 64 (2 ^ (s.injParam % 64))) else (s, misr)

/-- A lane slice released (R455, R458): the tested lane judges its own result, and the checkpoints go to the others. -/
def State.releaseLane (s : State) (l : LaneId) (slice : Nat) (misr : DWord) (restoreOk : Bool) (time : Word) : State :=
  let r := s.spoilMisr 0x3C (some l) misr
  let s := r.1
  let n := s.bist.laneStop.getD 8
  let d : BistDone :=
    { lane := l, slice := slice, misr := r.2, checkpoints := n, restoreOk := restoreOk, time := time, inc := s.bist.incP }
  let b := { s.bist with lane := none, laneStop := none, done := some d }
  let b := b.advanceLane (bistJudge false slice r.2 n d.inc restoreOk)
  { s with bist := b }.judgeSlice l

/-- The guardian instance of a shared slice disabled (R460); both of a port stop the module. -/
def State.disableGuardian (s : State) (q : Nat) : State :=
  let b := setBit s.bist.disabled q true
  let s := ({ s with bist := { s.bist with disabled := b } }).recM .guardianDisabled [place q 0]
  if b.getLsbD (q / 2 * 2) && b.getLsbD (q / 2 * 2 + 1) then s.lanesStop .bistSharedFail [place q 0] else s

/-- The reaction to the result of a shared slice (R459, R460). -/
def State.sharedResult (s : State) (q : Nat) (w : Word) : BistResult → State
  | .fail =>
    let s := s.recM .bistFail [w]
    if q < 4 then s.disableGuardian q else s.lanesStop .bistSharedFail [place q 0]
  | .incomplete => s.recM .bistIncomplete [w]
  | _ => s

/-- A shared slice released (R458): each lane reads its MISR directly and judges it. -/
def State.releaseShared (s : State) (q : Nat) (misr : DWord) (restoreOk : Bool) : State :=
  let t := s.spoilMisr 0x3D none misr
  let s := t.1
  let n := s.bist.sharedStop.getD 8
  let r := bistJudge true q t.2 n s.bist.incQ restoreOk
  let s := s.servingLanes.foldl (fun s l => s.updLane l (·.noteShared q r n)) s
  let b := { s.bist with shared := none, sharedStop := none }
  { s with bist := b.advanceShared r }.sharedResult q (bistWord q 3 r n) r

/-- SLICE_RELEASE (R455, R458): the MISR at the last completed checkpoint, whether the restore passed, and the time from
isolation in 10 ns. -/
def execSliceRelease (shared : Bool) (misr : DWord) (restoreOk : Bool) (time : Word) (s : State) :
    Host.Outcome State Fault Refusal :=
  ok (match shared, s.bist.lane, s.bist.shared with
    | false, some (l, i), _ => s.releaseLane l i misr restoreOk time
    | true, _, some q => s.releaseShared q misr restoreOk
    | _, _, _ => s)

/-- BIST_RUN_STOP: after 1.42 ms the run stops at the last completed checkpoint (R455). -/
def execBistRunStop (shared : Bool) (checkpoints : Fin 9) (s : State) : Host.Outcome State Fault Refusal :=
  ok (if checkpoints.val = 8 then s
    else if shared then
      { s with bist := { s.bist with sharedStop := if s.bist.shared.isSome then some checkpoints.val else none } }
    else { s with bist := { s.bist with laneStop := if s.bist.lane.isSome then some checkpoints.val else none } })

/-- The shared position passed over while its guardian instance or the partner is disabled (R457, R460). -/
def skipGuardians (disabled : BitVec 4) (q : Nat) : Nat → Nat
  | 0 => q
  | n + 1 =>
    if q < 4 && (disabled.getLsbD (q / 2 * 2) || disabled.getLsbD (q / 2 * 2 + 1)) then
      skipGuardians disabled ((q + 1) % 8) n
    else q

/-- The start conditions of the shared slice of this gap (R457): they are met by t0 + TI - 2.0 ms, and the gap has not
had its slice. -/
def State.sharedDue (s : State) : Bool :=
  s.gapDuties && s.lead.bist.rotate && s.md.compared.isSome && s.bist.shared.isNone &&
    s.lead.bist.feedShared.isNone && decide (s.tb.nt.toNat ≤ s.lead.beforeEnd 200000)

/-- SHARED_SLICE_START: at t0 + TI - 2.0 ms, once the two-key comparison has completed (R457). -/
def execSharedSliceStart (s : State) : Host.Outcome State Fault Refusal :=
  ok (if s.sharedDue then
      let s := s.advanceTo (s.lead.beforeEnd 200000)
      let q := skipGuardians s.bist.disabled s.bist.q 5
      let inc := if q = s.bist.q then s.bist.incQ else 0
      { s with bist := { s.bist with q := q, incQ := inc, shared := some q, sharedStop := none } }
    else s)

/-- CONTROL_MESSAGE: the checkpoints of the lane slice released last reach another lane, which judges them (R214,
R458). -/
def execControlMessage (dst : LaneId) (m : LinkMsg) (s : State) : Host.Outcome State Fault Refusal :=
  ok (if !s.joins dst || !s.voting then s
    else s.linkArrive dst m 6 m.body.length fun s k =>
      match s.bist.done with
      | none => s
      | some d => if d.lane = k && s.serves dst && (s.lane dst).bist.feedLane.isNone then s.judgeSlice dst else s)

/-- BIST_CTRL written through a view (R464, R466): at runtime level in LANE_MODE 2 alone. -/
def State.bistCtrl (s : State) (v : View) (w : Word) : State :=
  match v with
  | .runtime l =>
    if s.laneMode l = 2 then
      s.updLane l (fun x => { x with bist := { x.bist with rotate := bitN w 0, full := x.bist.full || bitN w 1 } })
    else s
  | v => s.denyWrite v 0xF000A008

/-- BIST_ROTATE: BIST_CTRL written with ROTATE (R457, R466). -/
def execBistRotate (v : View) (on : Bool) (s : State) : Host.Outcome State Fault Refusal :=
  ok (s.bistCtrl v (flag on 0))

/-- BIST_FULL: BIST_CTRL written with FULL, ROTATE as it stands (R466). -/
def execBistFull (v : View) (s : State) : Host.Outcome State Fault Refusal :=
  ok (s.bistCtrl v (flag (s.lane (viewLane v)).bist.rotate 0 ||| flag true 1))

/-- INJ_ARM written (R461, R467). -/
def execInjArm (v : View) (w : Word) (s : State) : Host.Outcome State Fault Refusal :=
  ok (match v with
    | .service _ secure => s.writeInject secure 0x008 w
    | v => s.denyWrite v 0xF000D008)

/-- INJ_DISARM written (R462, R467). -/
def execInjDisarm (v : View) (w : Word) (s : State) : Host.Outcome State Fault Refusal :=
  ok (match v with
    | .service _ secure => s.writeInject secure 0x010 w
    | v => s.denyWrite v 0xF000D010)

/-- INJECT_LAPSED: an arming that has not fired within 200 cycles, or whose mode has gone (R462). -/
def execInjectLapsed (s : State) : Host.Outcome State Fault Refusal :=
  ok (match s.inject.armed with
    | some a => if 200 ≤ a.cycles then s.endArming false else s.lapseByMode
    | none => s)

end Sys2Proof.Machine
end

