-- ==== Sys2Proof/Machine/Resync.lean ====
section
/-! DEFINITION. Resynchronisation (R228 to R236): the copy engine, dirty rounds, the freezes, the shadow cycle, the
rejoin, and how an attempt ends. -/

namespace Sys2Proof.Machine

/-- The donor: the serving lane that follows the fenced lane cyclically (R228). -/
def State.donor (s : State) : LaneId := s.resync.lane.next

/-- A change of the sequencer. -/
def State.updResync (s : State) (f : Resync → Resync) : State := { s with resync := f s.resync }

/-- The copy engine sends pages: in a copy phase, or in a freeze that runs (R230, R232). -/
def State.copying (s : State) : Bool :=
  s.md.mode = .resync &&
    (s.resync.phase = .copyM || s.resync.phase = .copyN || s.resync.frozen)

/-- Pages are sent in index order: the next one is the lowest that is still to be copied (R231). -/
def nextPage (todo : BitVec 12288) (p : Nat) : Bool := todo.getLsbD p && todo.toNat % 2 ^ p = 0

/-- A page taken into a store from the body of a COPY message. -/
def Store.takePage (t : Store) (p : Nat) (body : List Byte) : Store :=
  { t with
    cells := Memory.writeList t.cells (p * 4096) body
    badParity := t.badParity.filter (fun a => a < p * 4096 || p * 4096 + 4096 ≤ a) }

/-- A page of the donor marked clean or dirty (R231). -/
def State.markPage (s : State) (p : Nat) (dirty : Bool) : State :=
  s.updLane s.donor (fun x => { x with store := { x.store with dirty := setBit x.store.dirty p dirty } })

/-- A page that has arrived is copied: it is written into the fenced lane's store and is due no more (R231). -/
def State.pageArrived (s : State) (p : Nat) (body : List Byte) : State :=
  let s := (s.markPage p false).updResync (fun r => { r with todo := setBit r.todo p false })
  s.updLane s.resync.lane (fun x => { x with store := x.store.takePage p body })

/-- One page of the donor sent to the fenced lane: its dirty bit clears as its first byte is read (R231), and the fenced
lane judges the message (R214). DESIGN CHOICE (log 41): a page that does not arrive is dirty again and is sent again
before the next one. -/
def State.copyPage (s : State) (p : Nat) (m : LinkMsg) : State :=
  let donor := s.donor
  (s.markPage p true).linkArrive s.resync.lane m 5 4096 fun s k => if k = donor then s.pageArrived p m.body else s

/-- COPY_MESSAGE (R214, R230, R231). -/
def execCopyMessage (page : Fin 12288) (m : LinkMsg) (s : State) : Host.Outcome State Fault Refusal :=
  ok (if s.copying && nextPage s.resync.todo page.val then s.copyPage page.val m else s)

/-- COPY_PASS_COMPLETE: the bulk pass or a dirty round has copied its last page, and the next round starts with the
donor's dirty pages (R231). -/
def execCopyPassComplete (s : State) : Host.Outcome State Fault Refusal :=
  let r := s.resync
  ok (if s.md.mode = .resync && (r.phase = .copyM || r.phase = .copyN) && r.todo = 0 then
      s.updResync (fun r => { r with
        bulkDone := true, round := satInc r.round, todo := (s.lane s.donor).store.dirty })
    else s)

/-- The freeze may start: after the bulk pass, once the donor has completed step 5 of CYCEND with at most 256 pages dirty
at that instant, before t0(n + 1) - 0.1 ms (R232). -/
def State.mayFreeze (s : State) : Bool :=
  let r := s.resync
  let d := s.lane s.donor
  s.md.mode = .resync && (r.phase = .copyM || r.phase = .copyN) && r.bulkDone && d.cyc.done && s.md.step ≠ .idle &&
    popcount d.cyc.dirtyEnd ≤ 256 && s.tb.nt.toNat ≤ s.lead.beforeEnd 10000

/-- FREEZE (R232). -/
def execFreeze (s : State) : Host.Outcome State Fault Refusal :=
  ok (if s.mayFreeze then
      s.updResync (fun r => { r with
        phase := if r.phase = .copyM then .freezeM else .freezeN
        frozen := true, todo := (s.lane s.donor).store.dirty })
    else s)

/-- The freeze of the normal layout has completed before the vote of its cycle (R236). -/
def State.beforeVote (s : State) : Bool :=
  s.md.step = .agreement || s.md.step = .evaluation || s.md.step = .compared

/-- The donor's M3 written into the fenced lane (R389). -/
def State.copyM3 (s : State) : State :=
  let m3 := vget (s.lane s.donor).meas.m 3 0
  s.updLane s.resync.lane (fun x => { x with meas := { x.meas with m := vset x.meas.m 3 m3 } })

/-- FREEZE_COMPLETE: every dirty page has been copied (R232). The shadow cycle follows the first freeze (R233), the
rejoin the second; where the vote has passed, the freeze is attempted in the next cycle (R236). -/
def execFreezeComplete (s : State) : Host.Outcome State Fault Refusal :=
  let r := s.resync
  ok (if !r.frozen || r.todo ≠ 0 || s.md.mode ≠ .resync then s
    else if r.phase = .freezeM then s.updResync (fun r => { r with frozen := false })
    else if s.beforeVote then s.copyM3.updResync (fun r => { r with phase := .rejoin, frozen := false })
    else s.updResync (fun r => { r with phase := .copyN, frozen := false, todo := (s.lane s.donor).store.dirty }))

/-- The instant by which the latch must have cleared (R234). -/
def State.resyncLimit (s : State) : Nat := s.resync.start.toNat + 3 * s.lead.tb.ti10 + 50000000

/-- RESYNC_FAILED: the limit has passed, and the resynchronisation is abandoned at the next t0 (R234). -/
def execResyncFailed (s : State) : Host.Outcome State Fault Refusal :=
  ok (if s.md.mode = .resync && s.resync.phase ≠ .idle && !s.resync.failed && s.resyncLimit ≤ s.lead.beforeEnd 0 then
      (s.advanceTo s.resyncLimit).updResync (fun r => { r with failed := true })
    else s)

/-- The store of the fenced lane as a copy phase begins in another layout: every page is copied anew, and what is not
copied is undefined (R224, R229): a free value. -/
def State.newLayout (s : State) (mirrored : Bool) : State :=
  let cells := Memory.normal storeTop (Config.freeCells s.freeCtr)
  let s := s.updLane s.resync.lane (fun x => { x with
    store := { Store.init with cells := cells }
    blk := { x.blk with mirrored := mirrored } })
  { s with freeCtr := s.freeCtr + 1 }

/-- A copy phase begins (R230). -/
def State.startCopy (s : State) (mirrored : Bool) : State :=
  (s.newLayout mirrored).updResync (fun r => { r with
    phase := if mirrored then .copyM else .copyN
    bulkDone := false, round := 0, todo := BitVec.allOnes 12288, frozen := false, shadowOk := false, shadowBad := false })

/-- RESYNC begins at the present instant, a t0 (R228, R230). -/
def State.startResync (s : State) (x : LaneId) : State :=
  let s := s.updResync (fun r => { r with
    lane := x, start := s.tb.nt, failed := false
    attempts := r.attempts.set x (r.attempts.get x + 1) })
  s.startCopy true

/-- The attempt has failed: counted in every view, the records, and the wait of 20 cycles from cycle `d` on (R234).
DESIGN CHOICE (log 90): the cause in RESYNC_FAILED is 1 for the limit, 2 for the shadow cycle. -/
def State.failResync (s : State) (d : Nat) : State :=
  let x := s.resync.lane
  let cause : Word := if s.resync.shadowBad then 2 else 1
  let s := s.endResync.updResync (fun r => { r with earliest := d + 20, shadowBad := false })
  let s := s.mapLanes (fun y => { y with blk := { y.blk with resyncFailed := satInc y.blk.resyncFailed } })
  let s := s.recM .resyncFailed [cause]
  if 3 ≤ s.resync.attempts.get x then s.recM .resyncExhausted else s

/-- The control registers that the runtime sets up again in the fenced lane before its shadow cycle, as they stand in the
donor (R233). -/
def Core.setUp (c d : Core) : Core :=
  { c with
    cve := d.cve, tvec := d.tvec, ahvec := d.ahvec, amask := d.amask, evmask := d.evmask
    wpbase := d.wpbase, wplim := d.wplim, run := if c.run = .stopped then .stopped else .ended }

/-- The shadow cycle begins at the present t0 (R233): the core leaves the boot ROM unless its rail is gone. -/
def State.startShadow (s : State) : State :=
  let f := s.resync.lane
  let d := s.lane s.donor
  let s := s.updLane f (fun x => { x with
    core := if s.guard.railHeld.get f then x.core else x.core.setUp d.core
    change := d.change
    engine := { x.engine with queue := [], digests := [] }
    bist := { x.bist with feedLane := d.bist.feedLane, feedShared := d.bist.feedShared }
    vote := { x.vote with auditStep := d.vote.auditStep, pending := [], unattributable := false, lines := none } })
  s.updResync (fun r => { r with phase := .shadow })

/-- The fenced lane waits again in the boot ROM while it is copied in the normal layout. -/
def State.endShadow (s : State) : State :=
  (s.updLane s.resync.lane (fun x => { x with core := { x.core with run := .held } })).startCopy false

/-- A count of R250 cleared for a lane and for the two-lane counts, at an output cut. -/
def Lane.clearCounts (x : Lane) (l : LaneId) : Lane :=
  { x with store :=
      (x.store.clearRange (0x02F07000 + l.num * 0x50) (0x02F07000 + l.num * 0x50 + 66)).clearRange 0x02F07100 0x02F07142 }

/-- The serving set has changed by a lane (R250). -/
def State.clearCounts (s : State) (l : LaneId) : State := s.mapLanes (·.clearCounts l)

/-- The lane rejoins at the present t0 (R236, R237). -/
def State.rejoin (s : State) (x : LaneId) : State :=
  let d := s.lane s.donor
  let s := s.updLane x (fun y => { y with
    core := if s.guard.railHeld.get x then y.core else y.core.setUp d.core
    change := d.change
    blk := { y.blk with mirrored := false }
    engine := { y.engine with queue := [], digests := [] }
    bist := { y.bist with feedLane := d.bist.feedLane, feedShared := d.bist.feedShared }
    vote := { y.vote with auditStep := d.vote.auditStep, pending := [], unattributable := false, lines := none } })
  let s := s.endResync
  let s := { s with
    md := { s.md with fenced := s.md.fenced.set x false, probation := some 0 }
    resync := { s.resync with attempts := s.resync.attempts.set x 0 } }
  let s := s.mapLanes (fun y => { y with blk := { y.blk with resyncDone := satInc y.blk.resyncDone } })
  s.clearCounts x

end Sys2Proof.Machine
end

