-- ==== Sys2Proof/Machine/Cut.lean ====
section
/-! DEFINITION. The output cut (R102): fence latches and the fence history (R218, R225), the mode that the events of the
cycle decide (R25, R28), outputs and PDUs (R120). -/

namespace Sys2Proof.Machine

/-- The modes whose cycles are evaluated with VITAL TRUE (R90, R120). -/
def Mode.vital : Mode → Bool
  | .run | .degraded | .resync => true
  | _ => false

/-- In SAFE_STOP the cycles run on Constantan's own count where there is no network time or no configuration (R264). -/
def State.localCycle (s : State) : Bool := s.md.mode = .safeStop && (!s.ring.acquired || !s.lead.tb.cfgValid)

/-- The instant of the output cut that ends the cycle under way (R102, R264). -/
def State.cutInstant (s : State) : Nat :=
  if s.localCycle then s.lead.tb.t0.toNat + 1000000 else s.lead.beforeEnd 0

/-- A fence of a lane in GUARD's history (R225). -/
def Guard.noteFence (g : Guard) (minute : BitVec 24) (x : LaneId) : Guard :=
  let h1 := g.hist1.get x
  { g with
    lockedOut := if h1.valid && (minute - h1.minute).toNat ≤ 10080 then g.lockedOut.set x true else g.lockedOut
    hist1 := g.hist1.set x (g.hist0.get x)
    hist0 := g.hist0.set x { minute := minute, valid := true } }

/-- A fence counted: the history, the lock-out, VOTE_FENCE_COUNT (R225, R243). -/
def State.countFence (s : State) (x : LaneId) : State :=
  let g := s.guard.noteFence (BitVec.ofNat 24 s.optMinute) x
  let s := { s with guard := g, md := { s.md with lockedOut := g.lockedOut } }
  s.mapLanes (fun y => { y with vote := { y.vote with
    fenceCount := y.vote.fenceCount.set x (satInc (y.vote.fenceCount.get x)) } })

/-- The CO reset of a fenced lane that is not locked out (R228). -/
def State.fenceReset (s : State) (x : LaneId) : State :=
  if s.guard.lockedOut.get x then s else s.raise .resync (some x)

/-- A fence latch sets (R218, R225, R228, R250). -/
def State.setLatch (s : State) (x : LaneId) : State :=
  let s := s.countFence x
  let s := { s with
    md := { s.md with fenced := s.md.fenced.set x true }
    resync := { s.resync with attempts := s.resync.attempts.set x 0 } }
  let s := s.updLane x (fun y => { y with cyc := { y.cyc with ownStop := false } })
  (((s.recM .fence).clearCounts x)).fenceReset x

/-- The latch that the vote of the cycle changes (R218): none where the gates differed. -/
def State.applyLatch (s : State) : State :=
  if !s.md.voted then s
  else
    match s.md.gateGm with
    | .fence x => if s.serves x then s.setLatch x else s
    | .rejoin x => if s.serves x || s.resync.failed then s else s.rejoin x
    | _ => s

/-- A shadow cycle that failed counts as a fence, and an attempt that has failed ends (R233, R234). -/
def State.endAttempt (s : State) : State :=
  let x := s.resync.lane
  let s := if s.resync.shadowBad then (s.countFence x).fenceReset x else s
  if s.resync.shadowBad || s.resync.failed then s.failResync s.nextCycleNo else s

/-- The mode after JOINING (R25, R226). -/
def State.joinedMode (s : State) : Mode :=
  if s.md.role = .split then .split
  else if s.guard.lockedOut.a || s.guard.lockedOut.b || s.guard.lockedOut.c then .maintenance
  else .stop

/-- The mode to which an event leads from the present one (R25). -/
def State.target (s : State) : ModeEvent → Option Mode
  | .mismatch => if s.md.mode = .run then some .degraded else none
  | .debugHalt => if s.md.mode = .stop || s.md.mode = .run then some .hold else none
  | .stopCommand => if s.md.mode.vital then some .stop else none
  | .enterMaint => if s.md.mode = .stop then some .maintenance else none
  | .leaveMaint => if s.md.mode = .maintenance then some .startupTest else none
  | .restart _ =>
    if s.md.mode = .stop then some (if s.servingLanes.length = 3 then .run else .startupTest) else none
  | .resyncFailed => if s.md.mode = .resync then some .degraded else none
  | .rejoin _ => if s.md.mode = .resync then some .run else none
  | .startResync => if s.md.mode = .degraded then some .resync else none
  | .joined => if s.md.mode = .joining then some s.joinedMode else none
  | _ => none

/-- The precedence of the events, the highest first (R28). -/
def ModeEvent.order : ModeEvent → Nat
  | .mismatch => 0
  | .debugHalt => 1
  | .stopCommand => 2
  | .enterMaint => 3
  | .leaveMaint => 4
  | .restart _ => 5
  | .resyncFailed => 6
  | .rejoin _ => 7
  | .startResync => 8
  | _ => 9

/-- The event that ranks highest. -/
def firstEvent : List ModeEvent → Option ModeEvent
  | [] => none
  | e :: es =>
    match firstEvent es with
    | some k => if k.order < e.order then some k else some e
    | none => some e

/-- The event that decides the mode (R28). -/
def State.deciding (s : State) (es : List ModeEvent) : Option ModeEvent :=
  firstEvent (es.filter (fun e => (s.target e).isSome))

/-- A mode entered with nothing else to do. -/
def State.setMode (s : State) (m : Mode) : State := { s with md := { s.md with mode := m } }

/-- HOLD entered (R123, R202): the applications halt for the debugger. -/
def State.enterHold (s : State) : State :=
  let s := ((s.discardChange).recM .debugHalt [s.cycleNow]).holdVote
  let s := s.mapLanes (fun x => if x.alive then
      { x with core := { x.core with run := .debug }, blk := { x.blk with dbgReason := 0, dbgSteps := none } }
    else x)
  { s with md := { s.md with mode := .hold, debugBroken := true } }

/-- The report that ends the trial, when the module first enters RUN with the new images (R198, R419). -/
def State.trialOver (s : State) : State :=
  if s.svc.desig.trial && s.md.role ≠ .split then
    s.servingLanes.foldl (fun s l => s.updLane l (·.postSecure [0x84000000])) s
  else s

/-- RUN entered by a restart event (R119, R121). -/
def State.enterRun (s : State) : State :=
  let s := s.trialOver
  { s with md := { s.md with mode := .run, firstRun := true } }

/-- What starts afresh in a lane at the exit from JOINING into STOP or MAINTENANCE (R78, R166, R116, R170, R311). -/
def Lane.startAfresh (x : Lane) : Lane :=
  let t := ((x.store.clearRange 0x02F00000 0x02F06004).clearRange 0x02F10000 0x02F30000).clearRange 0x02F80000 0x02FA0000
  let x := { x with store := t }
  let x := (List.range 256).foldl (fun x i => x.poke (0x02F0000C + 16 * i) (wordBytes codedFalse)) x
  (x.engineInit).slViews

/-- JOINING left (R25, R78). -/
def State.exitJoining (s : State) : State :=
  let m := s.joinedMode
  let s := s.setMode m
  if m = .split then s
  else
    let s := s.servingLanes.foldl (fun s l => s.updLane l (fun x =>
      (x.eng (fun g => { g with enable := false, queue := [], digests := [] })).startAfresh)) s
    if s.md.role = .oc then s else s.servingLanes.foldl (fun s l => s.engineEnable l true) s

/-- The mode change that an event decides (R25). -/
def State.changeMode (s : State) (e : ModeEvent) : State :=
  match e with
  | .mismatch => s.setMode .degraded
  | .debugHalt => s.enterHold
  | .stopCommand => (s.endResync).setMode .stop
  | .enterMaint => s.setMode .maintenance
  | .leaveMaint => s.enterStartupTest
  | .restart _ => if s.servingLanes.length = 3 then s.enterRun else s.enterStartupTest
  | .resyncFailed => s.setMode .degraded
  | .rejoin _ => s.setMode .run
  | .startResync =>
    match s.resyncTarget s.nextCycleNo with
    | some x => (s.startResync x).setMode .resync
    | none => s
  | .joined => s.exitJoining
  | _ => s

/-- The mode after the cut, with the dropped events recorded (R25, R28): a single-lane mismatch ranks above the events
that the lanes accept. -/
def State.decideMode (s : State) (es : List ModeEvent) : State :=
  match s.deciding es with
  | none => s
  | some e =>
    let s := s.changeMode e
    s.dropEvents s.md.mode (es.erase e)

/-- The STOP command of an accepted STOP package, where its kind is permitted in the mode before the cut (R196). -/
def State.stopEvent (s : State) (es : List ModeEvent) : List ModeEvent :=
  if s.stopDue.isSome && s.kindPermitted 2 && !es.contains .stopCommand then [.stopCommand] else []

/-- The accepted STOP package applied at the cut that is t0(a), or removed with verdict MODE (R191, R196); a debug halt
that decides the mode leaves it to the entry to HOLD, which discards it (R192). DESIGN CHOICE (log 85): a package whose
stop command another event outranks is applied none the less. -/
def State.stopPackage (s : State) (es : List ModeEvent) : State :=
  match s.stopDue with
  | none => s
  | some p => if s.deciding es = some .debugHalt then s else s.applyNow p

/-- The resynchronisation moves on to the phase that starts at a t0 (R230). -/
def State.nextPhase (s : State) : State :=
  if s.md.mode ≠ .resync then s
  else
    match s.resync.phase with
    | .freezeM => if s.resync.frozen then s else s.startShadow
    | .shadow => if s.resync.shadowOk then s.endShadow else s
    | .rejoin => s.updResync (fun r => { r with phase := .copyN, todo := (s.lane s.donor).store.dirty })
    | _ => s

/-- The enables that CYCEND has latched become the lane's enables at the cut (R163). -/
def Lane.takeEnables (x : Lane) : Lane := { x with vio := { x.vio with en := x.cyc.enables.getD x.vio.en } }

/-- The enables that the lanes latched in the cycle reach the stage, the stage latches its faults, and the outputs
conduct unless they are held off (R102, R120, R256). -/
def State.applyOutputs (s : State) (vital : Bool) : State :=
  let s := s.mapLanes Lane.takeEnables
  let s := LaneId.list.foldl (fun s l => s.passLasting 0x15 (some l)) s
  (({ s with stage := { s.stage with holdOff := !(vital && s.md.mode.vital) } }).stageLatch).conduct

/-- The copies that the two-key comparison has still to compare at the cut (R102). -/
def State.lateCopies (s : State) : Option (List Pdu × List Pdu) :=
  if s.md.step ≠ .voted || s.md.mode = .safeStop || s.md.compared.isSome then none
  else
    match s.keyLanes with
    | [l, k] => some (s.handedBy l, s.handedBy k)
    | _ => none

/-- The PDUs of the cycle released for the coming network cycle, unless the mode withholds them (R102, R120); those whose
comparison has not completed wait for it. -/
def State.releasePdus (s : State) (vital : Bool) (late : Option (List Pdu × List Pdu)) : State :=
  let keep := s.md.mode.sendsPdus && !(vital && !s.md.mode.vital)
  { s with md := { s.md with
      released := if keep then s.md.compared.getD [] else []
      late := late.map (fun p => (p.1, p.2, keep)) } }

/-- VOTE_STATUS.SERVING follows the fence latches (R243). -/
def State.showServing (s : State) : State :=
  { s with md := { s.md with serving := BitVec.ofNat 3 ((s.servingLanes.map (fun l => 2 ^ l.num)).foldl (· + ·) 0) } }

/-- What belongs to the ended cycle alone. -/
def State.clearCycle (s : State) : State :=
  let s := s.showServing
  let s := s.mapLanes (fun x => { x with
    cyc := { x.cyc with events := [], initCalls := none, stopCmd := false }
    vote := { x.vote with release := none }
    reqSy := none })
  { s with
    md := { s.md with step := .idle, voted := false, compared := none, events := [], firstRun := s.md.firstRun }
    resync := { s.resync with shadowOk := false, shadowBad := false }
    bist := { s.bist with done := none } }

/-- The cut of a cycle with a vote, or of one in SAFE_STOP. -/
def State.cut (s : State) : State :=
  let s := s.advanceTo s.cutInstant
  let s := if s.md.step = .voted && s.md.mode ≠ .safeStop then s.closeGap else s
  let vital := s.md.vital
  let late := s.lateCopies
  let s := if late.isSome && s.spoiled then s.fire else s
  let es := if s.md.mode = .safeStop then [] else s.cutEvents ++ s.stopEvent s.cutEvents
  let s := { s with md := { s.md with firstRun := false } }
  let s := (s.applyLatch).endAttempt
  let s := if s.md.mode = .safeStop then s else (((s.stopPackage es).decideMode es).nextPhase)
  if s.md.mode = .startupTest || s.guard.pendingReset.isSome then s.stageLatch.clearCycle
  else (((s.applyOutputs vital).releasePdus vital late).clearCycle).lapseByMode

/-- STOP: the output cut t0(a) comes at which an accepted STOP package takes effect (R196). -/
def execStop (s : State) : Host.Outcome State Fault Refusal :=
  ok (if s.voting && s.md.step = .voted && s.stopDue.isSome then s.cut else s)

/-- The cut that ends the one cycle of STOP after a debug release (R124). -/
def State.cutHoldExit (s : State) : State := (((s.advanceTo s.cutInstant).enterStartupTest).stageLatch).clearCycle

/-- The next multiple of a lane's TI that is not past. -/
def State.nextStart (s : State) (x : Lane) : Nat :=
  if x.tb.ti10 = 0 then s.tb.nt.toNat else (s.tb.nt.toNat + x.tb.ti10 - 1) / x.tb.ti10 * x.tb.ti10

/-- The output cut at which the module leaves JOINING (R25, R27). -/
def State.cutJoining (s : State) : State :=
  let s := s.advanceTo (s.nextStart s.lead)
  let es := s.md.events
  (((s.decideMode es).applyOutputs false).clearCycle).lapseByMode

/-- In SPLIT the stage latches its faults at the end of the earliest cycle of a lane, and the enables of the lanes whose
cycle ends there take effect (R163, R253, R256, R268). -/
def State.cutSplit (s : State) : State :=
  match (LaneId.list.filter (fun l => (s.lane l).tb.started)).map (fun l => (s.lane l).beforeEnd 0) with
  | [] => s
  | t :: ts =>
    let t := ts.foldl min t
    let s := (s.advanceTo t).mapLanes (fun x => if x.tb.started && x.beforeEnd 0 = t then x.takeEnables else x)
    (s.stageLatch).conduct

/-- OUTPUT_CUT (R102): after the vote in the modes that have one, at the end of the cycle in SAFE_STOP. -/
def execOutputCut (s : State) : Host.Outcome State Fault Refusal :=
  ok (match s.md.mode with
    | .joining => if s.md.events.contains .joined then s.cutJoining else s
    | .split => s.cutSplit
    | .safeStop => if s.md.step = .idle then s else s.answerQuotes.cut
    | .stop =>
      if s.md.holdExit then (if s.md.step = .idle then s else s.cutHoldExit)
      else if s.md.step = .voted then s.cut else s
    | m => if m.votes && s.md.step = .voted then s.cut else s)

end Sys2Proof.Machine
end

