-- ==== Sys2Proof/Machine/Inputs.lean ====
section
/-! DEFINITION. The vital inputs (R93, R95, R246): the raw word of a lane, the agreement of the serving lanes' words, the
disagreement counts (R96, R250), the process image header (R90), the restart pair (R262). -/

namespace Sys2Proof.Machine

/-- A truth value for each of the 66 inputs as a word. -/
def inputBits (f : Nat → Bool) : RawWord :=
  BitVec.ofNat 66 ((List.range 66).foldl (fun n i => if f i then n + 2 ^ i else n) 0)

/-- The raw word of five samples: 1 where at least three of them read high (R93). -/
def sampledWord (v : Vector (Option RawWord) 5) : RawWord :=
  inputBits fun i => 3 ≤ (v.toList.filter (fun o => (o.getD 0).getLsbD i)).length

/-- The raw word of a lane for the cut, with the substitutions of R248; the samples are used up. -/
def Lane.takeRaw (x : Lane) (flip : RawWord) : Lane :=
  { x with vio := { x.vio with
      raw := (sampledWord x.vio.samples &&& ~~~ x.vio.pfail) ^^^ flip
      samples := Vector.replicate 5 none } }

/-- INPUT_SAMPLE: the lanes' circuits sample every input, five times before a t0 (R93). -/
def execInputSample (k : Fin 5) (a b c : RawWord) (s : State) : Host.Outcome State Fault Refusal :=
  let take (x : Lane) (w : RawWord) : Lane :=
    { x with vio := { x.vio with samples := vset x.vio.samples k.val (some w) } }
  ok { s with lanes := { a := take s.lanes.a a, b := take s.lanes.b b, c := take s.lanes.c c } }

/-- INPUT_MESSAGE (R95, R214): before the end of input agreement. A lane whose clock was released before qualification
sends none (R246). -/
def execInputMessage (dst : LaneId) (m : LinkMsg) (s : State) : Host.Outcome State Fault Refusal :=
  ok (if s.md.step ≠ .agreement then s
    else
      let k := s.linkOf dst m
      if (s.lane k).vio.clkUnq then s
      else if s.withheld 0x11 k then s.passLasting 0x11 (some k)
      else s.linkArrive dst m 1 9 fun s k =>
        if s.serves k then
          s.updLane dst (fun x => { x with blk := { x.blk with
            inputs := x.blk.inputs.set k (some (BitVec.ofNat 66 (leAt m.body 0 9))) } })
        else s)

/-- The words of the serving lanes that a lane holds (R95). -/
def State.words (s : State) (x : Lane) : List (LaneId × RawWord) :=
  s.servingLanes.filterMap (fun k => (x.blk.inputs.get k).map (fun w => (k, w)))

/-- The agreed word (R95): the majority of three, 1 only where both of two are 1, none with fewer. -/
def agreedWord : List (LaneId × RawWord) → Option RawWord
  | [a, b, c] => some ((a.2 &&& b.2) ||| (b.2 &&& c.2) ||| (c.2 &&& a.2))
  | [a, b] => some (a.2 &&& b.2)
  | _ => none

/-- The bits on which a lane's word differs: every bit where it did not arrive (R96). -/
def differs (agreed : RawWord) : Option RawWord → RawWord
  | some w => w ^^^ agreed
  | none => BitVec.allOnes 66

/-- A row of 66 byte counts brought up to date: one more where the bit is set, 0 where it is not (R96, R250). -/
def Lane.putCounts (x : Lane) (base : Nat) (bad : RawWord) : Lane :=
  let byte (x : Lane) (a : Nat) : Byte :=
    if base ≤ a && a < base + 66 then (if bad.getLsbD (a - base) then satInc (x.rd8 a) else 0) else x.rd8 a
  (List.range 17).foldl (fun x i =>
    let a := base + 4 * i
    x.wrNew a (wordOfBytes (byte x a) (byte x (a + 1)) (byte x (a + 2)) (byte x (a + 3)))) x

/-- The address of a lane's counts (R250). -/
def countBase (l : LaneId) : Nat := 0x02F07000 + l.num * 0x50

/-- The counts of R250 after an agreement, in the store of one lane. -/
def State.countInputs (s : State) (x : Lane) (agreed : RawWord) : Lane :=
  let srv := s.servingLanes
  let x := srv.foldl (fun x k => x.putCounts (countBase k) (differs agreed (x.blk.inputs.get k))) x
  match srv with
  | [j, k] =>
    match x.blk.inputs.get j, x.blk.inputs.get k with
    | some a, some b => x.putCounts 0x02F07100 (a ^^^ b)
    | _, _ => x.putCounts 0x02F07100 (BitVec.allOnes 66)
  | _ => x

/-- The agreed pair held at 1 by the injection RESTART_JAMMED (R463). -/
def State.jamPair (s : State) (w : RawWord) : RawWord :=
  if (s.lasting 0x1B none).isSome then w ||| BitVec.ofNat 66 (3 * 2 ^ 64) else w

/-- A coded truth value. -/
def codedOf (b : Bool) : Word := if b then codedTrue else codedFalse

/-- SERVING of the header: the lanes that take part in the vote of the cycle (R90). -/
def State.servingField (s : State) : Nat :=
  if s.voting then (s.servingLanes.map (fun l => 2 ^ l.num)).foldl (· + ·) 0 else 0

/-- T(n) in units of 100 us (R90, R264). -/
def State.headerTime (s : State) (x : Lane) : Nat :=
  if s.localCycle then x.tb.cycle.toNat * 100 else x.tb.cycle.toNat * x.tb.tiUnits

/-- The process image header without the local inputs (R90). -/
def State.writeHeader (s : State) (x : Lane) (deg disagree : Bool) : Lane :=
  let t := s.headerTime x
  let x := x.wr32 0x02000000 (x.tb.cycle.setWidth 32)
  let x := x.wr32 0x02000004 ((x.tb.cycle >>> 32).setWidth 32)
  let x := x.wr32 0x02000008 (BitVec.ofNat 32 t)
  let x := x.wr32 0x0200000C (BitVec.ofNat 32 (t / 2 ^ 32))
  let x := x.wr32 0x02000010 (place s.md.mode.code 0 ||| place s.servingField 4 ||| place x.tb.km1.toNat 8 |||
    place x.tb.tn.toNat 12)
  let x := x.wr32 0x02000014 (codedOf s.md.mode.vital)
  let x := x.wr32 0x02000018 (codedOf s.md.firstRun)
  x.wr32 0x0200001C (flag deg 0 ||| flag disagree 1)

/-- The local inputs of the header, forced ones over them (R90, R200); the rest of the 64 bytes is reserved and 0. -/
def Lane.writeInputs (x : Lane) (agreed : RawWord) : Lane :=
  let w := x.forcedOver agreed
  let x := x.wr32 0x02000020 (w.setWidth 32)
  let x := x.wr32 0x02000024 ((w >>> 32).setWidth 32)
  let x := x.wr32 0x02000028 ((w >>> 64).setWidth 32)
  x.zeroWords 0x0200002C 5

/-- The words that arrived, as VIO_AGREED_RST shows them (R268). -/
def arrivedBits (ws : List (LaneId × RawWord)) : BitVec 3 :=
  BitVec.ofNat 3 ((ws.map (fun p => 2 ^ p.1.num)).foldl (· + ·) 0)

/-- The disagreements of a lane's word, each with its event (R96): a lane reports its own. DESIGN CHOICE (log 86): P0 is the
input, P1 the lane. -/
def State.disagreeing (s : State) (l k : LaneId) (bad : RawWord) : State :=
  (setBits bad).foldl (fun s i => s.recL l .inputDisagree [place i 0, place k.num 0]) s

/-- The serving lanes whose word did not arrive at a lane, where that lane reports them: the lowest-lettered of the other
serving lanes does (R96, log 86). -/
def State.absent (s : State) (l : LaneId) : List LaneId :=
  s.servingLanes.filter fun k =>
    k ≠ l && ((s.lane l).blk.inputs.get k).isNone && (s.servingLanes.filter (· ≠ k)).head? = some l

/-- The agreement of a lane that holds at least two words (R95, R96, R246). -/
def State.agree (s : State) (l : LaneId) (w : RawWord) : State :=
  let x := s.lane l
  let ws := s.words x
  let bad := s.servingLanes.any (fun k => differs w (x.blk.inputs.get k) ≠ 0)
  let own := differs w (x.blk.inputs.get l)
  let x := s.countInputs x w
  let x := { x with vio := { x.vio with
    agreed := s.jamPair w
    words := arrivedBits ws
    degAgree := ws.length = 2
    disCount := if s.serves l then satAdd x.vio.disCount (popcount own) else x.vio.disCount } }
  let x := (s.writeHeader x (ws.length = 2) bad).writeInputs (s.jamPair w)
  let s := s.setLane l x
  if s.serves l then (s.absent l).foldl (fun s k => s.disagreeing l k (BitVec.allOnes 66)) (s.disagreeing l l own) else s

/-- A lane with fewer than two words (R95): it gives the cycle up and asks for SAFE_STOP; in SAFE_STOP it only records
the failure. -/
def State.agreementFails (s : State) (l : LaneId) : State :=
  let s := s.recL l .inputAgreementFailed
  let s := s.updLane l (fun x => { x with vio := { x.vio with words := arrivedBits (s.words x), degAgree := false } })
  if s.md.mode = .safeStop || !s.serves l then s
  else
    let s := s.updLane l (fun x => { x with
      core := { x.core with run := if x.alive then .ended else x.core.run }
      tb := { x.tb with phase := .waiting }
      cyc := { x.cyc with lost := true, ownStop := true } })
    s.requestStop l ((codeOf .inputAgreementFailed).setWidth 16)

/-- The input agreement of one lane (R95). -/
def State.agreeLane (s : State) (l : LaneId) : State :=
  match agreedWord (s.words (s.lane l)) with
  | some w => s.agree l w
  | none => s.agreementFails l

/-- The evaluation of the restart pair (R262) as data: STATE, SPLIT, TH, TS, and what it records. -/
structure PairState where
  state : Nat
  split : Bool
  th : Word
  ts : Word
  edge : Bool
  recs : List RecName
  deriving DecidableEq, Repr

/-- The split of the pair timed (R262). -/
def PairState.timeSplit (p : PairState) (a b : Bool) (t : Word) : PairState :=
  if a = b then { p with split := false }
  else if !p.split then { p with split := true, ts := t }
  else if 5000 < (t - p.ts).toNat then { p with split := false, state := 0, recs := p.recs ++ [.restartSplit] }
  else p

/-- The state machine of the pair (R262). -/
def PairState.next (p : PairState) (a b : Bool) (t : Word) : PairState :=
  match p.state with
  | 0 => if !a && !b then { p with state := 1 } else p
  | 1 => if a && b then { p with state := 2, th := t } else p
  | 2 =>
    if a && b && 50000 < (t - p.th).toNat then { p with state := 3, recs := p.recs ++ [.restartJammed] }
    else if !a && !b then
      if (t - p.th).toNat < 1000 then { p with state := 1, recs := p.recs ++ [.restartShort] }
      else if (t - p.th).toNat ≤ 50000 then { p with state := 1, edge := true }
      else { p with state := 1, recs := p.recs ++ [.restartJammed] }
    else p
  | _ => if !a && !b then { p with state := 1 } else p

/-- The state of R262 as the lane's store holds it. -/
def Lane.pairState (x : Lane) : PairState :=
  let w := x.rd32 0x02F07200
  { state := fieldN w 0 2, split := bitN w 8, th := x.rd32 0x02F07204, ts := x.rd32 0x02F07208, edge := false, recs := [] }

/-- The state of R262 written back. -/
def Lane.putPair (x : Lane) (p : PairState) : Lane :=
  let x := x.wrNew 0x02F07200 (place p.state 0 ||| flag p.split 8)
  let x := x.wrNew 0x02F07204 p.th
  x.wrNew 0x02F07208 p.ts

/-- The restart pair evaluated by a lane on the levels of its header (R262). -/
def Lane.evalPair (x : Lane) : Lane × PairState :=
  let w := x.rd32 0x02000028
  let p := (x.pairState.timeSplit (bitN w 0) (bitN w 1) (x.rd32 0x02000008)).next (bitN w 0) (bitN w 1) (x.rd32 0x02000008)
  (x.putPair p, p)

/-- The modes in which restart events are evaluated (R263). -/
def Mode.hearsRestart : Mode → Bool
  | .stop | .safeStop | .run | .degraded | .resync => true
  | _ => false

end Sys2Proof.Machine
end

