-- ==== Sys2Proof/Machine/Cycle.lean ====
section
/-! DEFINITION. The start of the interlocking cycle (R88, R186, R462), the end of input agreement with the start of the
application (R95, R97, R119), and the events that follow from the inputs (R96, R317, R318). -/

namespace Sys2Proof.Machine

/-- The next t0 of a lane's view: the first multiple of TI that is not past and has not been delivered (R88). -/
def State.nextT0 (s : State) (x : Lane) : Nat :=
  let t := s.nextStart x
  if x.tb.started && t ≤ x.tb.t0.toNat then x.tb.t0.toNat + x.tb.ti10 else t

/-- The cycle-start event as a view takes it (R88, R112, R128): the copies stamped before it are the cut of the cycle (R92),
the mailbox words become visible with it (R415), and every check-value unit returns to its reset values (R336). -/
def Lane.startView (x : Lane) (t n : Nat) : Lane :=
  let x := { x with
    tb := { x.tb with cycle := BitVec.ofNat 48 n, t0 := BitVec.ofNat 64 t, started := true }
    mbSec := x.mbSec.reveal
    cvu := Vector.replicate 4 Cvu.zero
    sl := { x.sl with
      cut := x.sl.rx.filter (fun p => p.stamp < t * 10), cutOver := x.sl.rxOver
      rx := x.sl.rx.filter (fun p => t * 10 ≤ p.stamp), rxOver := 0 } }
  ({ x with core := { x.core with events := x.core.events ||| 0x10, instret := 0 } }).mboxEvent.slViews

/-- What a lane that runs the cycle starts from (R100, R145, R209, R211, R215); in the modes without a vote the VOTE block
keeps the values of the last one (R241). A duty to decide STOP that a single request left is kept until a vote has met it
(R352). -/
def Lane.startCycle (x : Lane) (voted : Bool) : Lane :=
  let v := x.vote
  let x := { x with
    cyc := { Cycle.init with ownStop := x.cyc.ownStop }
    tb := { x.tb with phase := .agreement }
    core := { x.core with cvCycle := 0 }
    engine := { x.engine with sweepPut := false }
    vote := if voted then { v with
        s := sigStart (x.tb.cycle.setWidth 32), feeds := 0, h := 0, still := false, sigs := PerLane.all none
        rows := PerLane.all none, lines := none, digests := PerLane.all none, auditing := false }
      else { v with still := true }
    blk := { x.blk with inputs := PerLane.all none } }
  x.clearStaged

/-- The own raw word of a lane: its VIO block sends none where its clock was released before qualification (R246). -/
def Lane.ownWord (x : Lane) (l : LaneId) (flip : RawWord) : Lane :=
  let x := x.takeRaw flip
  if x.vio.clkUnq || !x.vio.qualified then x
  else { x with blk := { x.blk with inputs := x.blk.inputs.set l (some x.vio.raw) } }

/-- The raw word of a lane formed, with the injection INPUT_WORD (R463). -/
def State.formWord (s : State) (l : LaneId) : State :=
  if s.injected 0x10 (some l) && s.injParam < 66 then
    let m : RawWord := BitVec.ofNat 66 (2 ^ s.injParam)
    s.fire.updLane l (·.ownWord l m)
  else s.updLane l (·.ownWord l 0)

/-- The output image page: the values latched at the cut (R256). -/
def State.outputPage (s : State) (x : Lane) : Lane :=
  let t := s.stage
  let w (v : OutBits) (a : Nat) (x : Lane) : Lane := (x.wr32 a (v.setWidth 32)).wr32 (a + 4) ((v >>> 32).setWidth 32)
  let x := w t.ofault 0x02001010 x
  let x := (List.range 6).foldl (fun x m => x.wr32 (0x02001018 + 4 * m)
    ((List.range 8).foldl (fun v j => v ||| place (vget t.ocode (8 * m + j) 0).toNat (4 * j)) 0)) x
  let x := x.wr32 0x02001030 ((List.range 3).foldl (fun v g =>
    v ||| flag (0 < vget t.vfGood g 0 && !t.vfHeld.getLsbD g) g) 0)
  w t.on 0x02001034 x

/-- Timers IDLE and the bound edge words PRIMED at RUN entry (R118, R121, R166, R170). -/
def Lane.runEntry (x : Lane) : Lane :=
  let x := (List.range 256).foldl (fun x i => x.wr32 (0x02F0000C + 16 * i) codedFalse) x
  (List.range (min 4096 (x.rd32 0x02F06000).toNat)).foldl (fun x i => x.wr32 (0x02F02000 + 4 * i) 0) x

/-- The lanes that run a cycle with votes, or one in SAFE_STOP (R233, R263). -/
def State.cycleLanes (s : State) : List LaneId :=
  if s.md.mode = .safeStop then LaneId.list.filter s.awake else s.joining

/-- An injection that fires as soon as its t0 has come (R462, R463). -/
def State.fireAtStart (s : State) : State :=
  match s.inject.armed with
  | none => s
  | some a =>
    if !a.effective then s
    else
      let p := s.injParam
      let f := s.fire
      match a.ident, a.lane with
      | 0x01, some l => f.updLane l (fun x => { x with store := { x.store with
          badParity := if p < storeTop then insertNat p x.store.badParity else x.store.badParity } })
      | 0x02, some l => f.updLane l (fun x =>
          if 0x02000000 ≤ p && p < 0x03000000 then
            { x with store := { x.store with cells := Memory.write x.store.cells p (x.rd8 p ^^^ 3) } }
          else x)
      | 0x1C, some l => f.clkLoss (.vio l)
      | 0x1F, some l => f.updLane l (fun x => { x with store := { x.store with
          cells := if p < 16384 then Memory.writeList x.store.cells (stAddr p + 0x0C) [0, 0, 0, 0] else x.store.cells } })
      | 0x26, some l => f.updLane l (fun x => { x with cvu := vset x.cvu (p % 4) { vget x.cvu (p % 4) Cvu.zero with parity := true } })
      | 0x27, none =>
        let l := (LaneId.ofNum (p / 2 % 3)).getD .A
        (f.onChan l (if p % 2 = 0 then .secure else .nonSecure) (fun c =>
          { c with errLane := c.errLane ||| 8, errSvc := c.errSvc ||| 8 })).recL l .mailboxStall [place l.num 0, place (p % 2) 0]
      | 0x2E, none => f.raise .paritySched none
      | 0x2F, none => f.clkLoss .ring
      | 0x30, none => f.raise .otpDed none
      | 0x31, none => f.sealGlitch
      | 0x32, none => { f with sealSt := { f.sealSt with live1 := f.sealSt.live1 ||| 0x8000 } }.sealChange
      | 0x33, none => f.supplyLow
      | 0x34, none => f.feedLoss (if p = 0 then .A else .B)
      | 0x35, none => f.safeStop .supplyHigh
      | 0x36, none => f.safeStop .temperature
      | 0x37, none => f.recG .tempSensorDiff
      | 0x38, some l => f.laneRail l
      | 0x39, some l => f.raise .parityLanectl (some l)
      | 0x3A, some l => f.raise .parityVote (some l)
      | 0x3B, none => f.clkLoss .timebase
      | 0x3E, none => f.startLasting 0x3E none 16
      | _, _ => s

/-- An arming becomes effective at the first t0 after it, and its cycles are counted (R462). -/
def State.countArming (s : State) : State :=
  { s with inject := { s.inject with
      armed := s.inject.armed.map (fun a => { a with effective := true, cycles := a.cycles + 1 })
      lasting := s.inject.lasting.filter (fun k => k.ident ≠ 0x09 && k.ident ≠ 0x11) } }

/-- What acts over this cycle from its start: INPUT_MSG withheld from both receivers (R463). -/
def State.armCycle (s : State) : State :=
  LaneId.list.foldl (fun s l => s.fireLasting 0x11 (some l) 2) (s.countArming).fireAtStart

/-- The views take the event at `t`, with the cycle number that each of them counts (R87, R264). -/
def State.startViews (s : State) (t : Nat) (loc : Bool) (p : Lane → Bool) : State :=
  let num (x : Lane) : Nat :=
    if loc then (if x.tb.started && t < x.tb.t0.toNat + 1500000 && x.tb.t0.toNat + 500000 < t then x.tb.cycle.toNat + 1 else 0)
    else t / x.tb.ti10
  s.mapLanes (fun x => if p x then x.startView t (num x) else x)

/-- A cycle of the module begins at `t` (R88): in every mode with a vote, and in SAFE_STOP. -/
def State.startAt (s : State) (t : Nat) (loc : Bool) : State :=
  let s := s.advanceTo t
  let s := s.startViews t loc (fun x => loc || x.tb.cfgValid)
  let s := s.cycleLanes.foldl (fun s l => s.updLane l (fun x => x.startCycle s.md.mode.votes)) s
  let s := s.armCycle
  let s := LaneId.list.foldl State.formWord s
  let s := if s.md.mode = .safeStop then s
    else s.joining.foldl (fun s l => s.updLane l (fun x =>
      s.outputPage (if s.md.firstRun then x.runEntry else x))) s
  let s := { s with md := { s.md with step := .agreement, vital := s.md.mode.vital } }
  if s.md.holdExit then s else s.latchChange

/-- SPLIT: the lanes whose view reaches its t0 at the earliest instant start a cycle of their own; their PDUs of the last
one are released (R19, R86). -/
def State.startSplit (s : State) : State :=
  let due := LaneId.list.map (fun l => s.nextT0 (s.lane l))
  let t := (due.drop 1).foldl min (due.headD 0)
  let ls := LaneId.list.filter (fun l => s.nextT0 (s.lane l) = t)
  if ls.any (fun l => (s.lane l).evaluating) then s
  else
    let s := (s.advanceTo t).countArming
    let s := ls.foldl (fun s l => s.updLane l (fun x =>
      let ps := x.cyc.handed.getD []
      let x := (x.startView t (t / x.tb.ti10)).slUpd (fun k => { k with release := ps })
      x.startCycle false)) s
    ls.foldl State.formWord s.fireAtStart

/-- The debug release takes effect at the next t0 (R124): one cycle of STOP, in which no application runs. -/
def State.leaveHold (s : State) : State :=
  let t := s.nextT0 s.lead
  let s := s.dropPending.releaseBuffer
  let s := s.mapLanes (fun x => if x.core.run = .debug then { x with core := { x.core with run := .ended } } else x)
  let s := { s with md := { s.md with mode := .stop, holdExit := true, events := [] } }
  (s.startAt t false).lapseByMode

/-- The views alone take the event: in JOINING and STARTUP_TEST no cycle runs (R288). -/
def State.viewsOnly (s : State) : State :=
  let t := s.nextT0 s.lead
  ((s.advanceTo t).startViews t false (·.tb.cfgValid)).countArming

/-- The valid commands of a kind among copies, by the checks of R316 at the instant `t`: connection and payload. -/
def State.holdCommands (s : State) (x : Lane) (t kind : Nat) (ps : List Copy) : List (Nat × List Byte) :=
  ps.filterMap fun p =>
    match s.checkCopy x (t / 100) p with
    | .ok c => if x.kindPermitted c kind && pduKind p.bytes = kind then some (c, pduPayload p.bytes) else none
    | .error _ => none

/-- The tokens of commands put in the places of R265, and whether one of them changed. -/
def State.holdTokens (s : State) (x : Lane) (ps : List (Nat × List Byte)) : Lane × Bool :=
  ps.foldl (fun (r : Lane × Bool) p =>
    match s.restartToken p.2 with
    | none => r
    | some w =>
      let a := 0x02F07400 + p.1 * 4
      (r.1.wrNew a w, r.2 || (r.1.rd32 a ≠ 0 && r.1.rd32 a ≠ w))) (x, false)

/-- The restart pair in HOLD, as the serving lanes sample it (R123, R262). -/
def State.holdPair (s : State) (t : Nat) : PairState :=
  let high (i : Nat) : Bool :=
    2 ≤ (s.servingLanes.filter (fun l => (sampledWord (s.lane l).vio.samples).getLsbD i)).length
  let w := BitVec.ofNat 32 (t / 10000)
  (s.lead.pairState.timeSplit (high 64) (high 65) w).next (high 64) (high 65) w

/-- What a stop command, a restart edge and a remote restart token leave in HOLD: a record (R123). DESIGN CHOICE (log 89):
at each boundary that would be a t0 the runtime looks at the copies received and at the pair sampled since the last one,
and both are used up. -/
def State.holdWatch (s : State) (t : Nat) : State :=
  let x := s.lead
  let cut := x.sl.rx.filter (fun p => p.stamp < t * 10)
  let stop := (s.holdCommands x t 7 cut).any (fun p => p.2.length = 4 && leAt p.2 0 4 = s.node)
  let tokens := s.holdCommands x t 6 cut
  let token := (s.holdTokens x tokens).2
  let sampled := x.vio.samples.toList.any (·.isSome)
  let pair := s.holdPair t
  let mode := place s.md.mode.code 0
  let s := if stop then s.recM .stopIgnored else s
  let s := if sampled && pair.edge then s.recM .restartEdge [mode] else s
  let s := if token then s.recM .remoteRestart [mode] else s
  let s := s.servingLanes.foldl (fun s l => s.updLane l (fun x =>
    let x := (s.holdTokens x tokens).1
    if sampled then x.putPair pair else x)) s
  s.mapLanes (fun x => { x with
    vio := { x.vio with samples := Vector.replicate 5 none }
    sl := { x.sl with rx := x.sl.rx.filter (fun p => t * 10 ≤ p.stamp), rxOver := 0 } })

/-- A boundary in HOLD that would be a t0: an arming is latched (R201), and what has no effect is recorded (R123). -/
def State.holdBoundary (s : State) : State :=
  let t := s.nextStart s.lead
  ((s.advanceTo t).holdWatch t).latchChange

/-- CYCLE_START (R88). -/
def execCycleStart (s : State) : Host.Outcome State Fault Refusal :=
  ok (match s.md.mode with
    | .hold =>
      if s.md.events.contains .holdReleased then s.leaveHold else s.holdBoundary
    | .joining | .startupTest => if s.ring.acquired then s.viewsOnly else s
    | .split => s.startSplit
    | .safeStop =>
      if s.localCycle || s.md.step ≠ .idle || s.guard.pendingReset.isSome then s else s.startAt (s.nextT0 s.lead) false
    | m => if m.votes && s.md.step = .idle then s.startAt (s.nextT0 s.lead) false else s)

/-- The next instant of the 10 ms count that drives the cycles in SAFE_STOP without network time (R264). -/
def State.nextLocal (s : State) : Nat :=
  let t := (s.tb.nt.toNat + 999999) / 1000000 * 1000000
  if s.lead.tb.started && t ≤ s.lead.tb.t0.toNat then t + 1000000 else t

/-- The local cycle number: 0 at the first event after the entry to SAFE_STOP, then one more for each 10 ms (R264). -/
def State.localNumber (s : State) (t : Nat) : Nat :=
  match s.guard.sstopAt with
  | some e => (t - (e.toNat + 999999) / 1000000 * 1000000) / 1000000
  | none => 0

/-- The local cycle begins (R264). -/
def State.startLocal (s : State) : State :=
  let t := s.nextLocal
  let n := s.localNumber t
  let s := s.startAt t true
  s.mapLanes (fun x => { x with tb := { x.tb with cycle := BitVec.ofNat 48 n } })

/-- LOCAL_CYCLE_START (R264). -/
def execLocalCycleStart (s : State) : Host.Outcome State Fault Refusal :=
  ok (if s.localCycle && s.md.step = .idle && s.guard.pendingReset.isNone then s.startLocal else s)

/-- A lane whose signature feeds count in this cycle: its runtime feeds the decision word of the last vote, the results
of the self-test and the words of a change applied in this cycle (R191, R210, R458). -/
def State.openingFeeds (s : State) (l : LaneId) : State :=
  let x := s.lane l
  let word : Word := (0x56000000 : Word) ||| place x.vote.own.toNat 4 ||| place x.vote.module.toNat 0
  let words := word :: (s.bistFeeds x ++ x.change.feeds)
  s.updLane l (fun x =>
    let x := x.feedAll s.md.mode words
    { x with change := { x.change with feeds := [] }, bist := { x.bist with feedLane := none, feedShared := none } })

/-- What became of the connections of a lane at its cut, recorded with connection and partner (R317). -/
def State.recordLinks (s : State) (l : LaneId) (es : List SlEvent) : State :=
  es.foldl (fun s e =>
    match e with
    | .lost c => s.recJoint l .slLost [place c 0, place ((s.lane l).connPartner c) 0]
    | .failed c => s.recJoint l .slFailed [place c 0, place ((s.lane l).connPartner c) 0]) s

/-- Copies of one connection changed by an injection at the cut of a lane (R463): `f` acts on the first of them. -/
def Lane.spoilCopy (x : Lane) (c : Nat) (f : Copy → List Copy) : Lane :=
  match x.sl.cut.findIdx? (fun p => x.connOf p = some c) with
  | none => x
  | some i => x.slUpd (fun k => { k with cut := k.cut.take i ++ ((k.cut.drop i).take 1).flatMap f ++ k.cut.drop (i + 1) })

/-- A copy with its safety code formed anew for the connection (R315). -/
def State.reseal (s : State) (p : Copy) : Copy :=
  let n := pduLength p.bytes
  let body := p.bytes.take (16 + n)
  let code := safetyCode p.source.toNat s.node (leAt body 0 2) (leAt body 2 2) body
  { p with bytes := body ++ dwordBytes code }

/-- A copy with some bytes replaced. -/
def Copy.patch (p : Copy) (i : Nat) (bs : List Byte) : Copy :=
  { p with bytes := p.bytes.take i ++ bs ++ p.bytes.drop (i + bs.length) }

/-- What an injection does to the next copy of its connection (R463). -/
def State.spoil (s : State) (id : Nat) (p : Copy) : List Copy :=
  let n := p.bytes.length
  match id with
  | 0x21 => [p.patch (n - 8) ((p.bytes.drop (n - 8)).map (~~~ ·))]
  | 0x22 =>
    if pduLength p.bytes = 0 then [p]
    else [p, s.reseal (p.patch 16 [~~~ ((p.bytes.drop 16).headD 0)])]
  | 0x23 => [s.reseal (p.patch 8 (natLe 4 ((BitVec.ofNat 32 (pduTime p.bytes) - 300000 : Word).toNat)))]
  | 0x24 => [p.patch 2 (natLe 2 (leAt p.bytes 2 2 + 1))]
  | _ => [p]

/-- A copy of the connection that the armed injection names is in the cut of a lane. -/
def Lane.hasCopy (x : Lane) (c : Nat) : Bool := x.sl.cut.any (fun p => x.connOf p = some c)

/-- Cycles for which SL_SILENCE withholds the copies of a connection: SUP_TIMEOUT + TI (R463). -/
def Lane.silence (x : Lane) (c : Nat) : Nat := (x.connTimeout c * 10 + 2 * x.tb.tiUnits - 1) / x.tb.tiUnits

/-- The injections at the cut of the lanes (R463). -/
def State.spoilCuts (s : State) (ls : List LaneId) : State :=
  let p := s.injParam
  let all (s : State) (id : Nat) : State := ls.foldl (fun s l => s.updLane l (fun x => x.spoilCopy p (s.spoil id))) s
  let s := match ls.find? (fun l => s.injected 0x21 (some l) && (s.lane l).hasCopy p) with
    | some l => s.fire.updLane l (fun x => x.spoilCopy p (s.spoil 0x21))
    | none => s
  let s := [0x22, 0x23, 0x24].foldl (fun s id =>
    if s.injected id none && ls.any (fun l => (s.lane l).hasCopy p) then all s.fire id else s) s
  let s := s.fireLasting 0x25 none (s.lead.silence p)
  match s.lasting 0x25 none with
  | some k =>
    (ls.foldl (fun s l => s.updLane l (fun x => x.slUpd (fun b =>
      { b with cut := b.cut.filter (fun q => x.connOf q ≠ some k.param) }))) s).passLasting 0x25 none
  | none => s

/-- The SAFELINK block of a lane checks the cut (R316, R317, R319), where it is enabled (R333). -/
def State.receive (s : State) (l : LaneId) : State :=
  let x := s.lane l
  if !x.sl.enable then s
  else
    let r := s.slReceive x
    let s := (s.setLane l r.1).recordLinks l r.2
    if x.sl.cutOver = 0 then s else s.recJoint l .slRxOverflow [place x.sl.cutOver 0]

/-- Restart events of a lane in this cycle (R262, R265), with their records (R263): one, and whether a remote token alone
made it. -/
def State.restartEvents (s : State) (l : LaneId) : State × Option Bool :=
  if !s.md.mode.hearsRestart then (s, none)
  else
    let e := (s.lane l).evalPair
    let s := s.setLane l e.1
    let s := e.2.recs.foldl (fun s r => s.recJoint l r []) s
    let t := s.remoteRestart (s.lane l)
    let s := s.setLane l t.1
    let mode := place s.md.mode.code 0
    let s := if e.2.edge then s.recJoint l .restartEdge [mode] else s
    let s := if t.2 then s.recJoint l .remoteRestart [mode] else s
    (s, if e.2.edge then some false else if t.2 then some true else none)

/-- The packs that are resident, in number order (R62). -/
def Lane.residentPacks (x : Lane) : List Nat := (List.range 8).filter x.packPresent

/-- The application of a lane starts (R97); on a RUN request the INIT functions of the packs are called before it
(R119). -/
def State.startApp (s : State) (l : LaneId) (request : Option Bool) : State :=
  s.updLane l fun x =>
    let x := { x with tb := { x.tb with phase := .evaluation } }
    if !x.alive then x
    else
    let x := x.clearOutputs
    match request with
    | none => x.enterApp
    | some remote =>
      match x.residentPacks with
      | [] => (x.acceptEvent (.restart remote)).enterApp
      | p :: ps => ({ x with cyc := { x.cyc with initCalls := some (p :: ps), remote := remote } }).enterInit p

/-- What a restart event does in a lane (R119, R263): some where it is a RUN request. -/
def State.actRestart (s : State) (l : LaneId) : Option Bool → State × Option Bool
  | none => (s, none)
  | some remote =>
    match s.md.mode with
    | .stop =>
      if s.servingLanes.length = 3 then (s, some remote) else (s.updLane l (·.acceptEvent (.restart remote)), none)
    | .safeStop => (s.updLane l (·.acceptEvent (.restart remote)), none)
    | _ => (s, none)

/-- A STOP PDU in the cut of a lane (R320). -/
def State.stopPdu (s : State) (l : LaneId) : State :=
  if !s.stopInCut (s.lane l) then s
  else if s.md.mode.vital then
    s.updLane l (fun x => if x.cyc.stopCmd then x
      else { x with cyc := { x.cyc with stopCmd := true, events := x.cyc.events ++ [.stopCommand] } })
  else s.recJoint l .stopIgnored []

/-- The work of a lane's runtime between input agreement and the application, in a cycle with a vote: restart events, the
opening feeds, the change slice, the secure words, the STOP command. -/
def State.prepare (s : State) (l : LaneId) : State :=
  let s := s.receive l
  let r := s.restartEvents l
  let s := (r.1.openingFeeds l).changeSlice l
  let s := (s.secureRead l).stopPdu l
  let t := s.actRestart l r.2
  if t.1.md.mode = .safeStop then t.1 else t.1.startApp l t.2

/-- Lanes whose agreement has succeeded and whose core works. -/
def State.ready (s : State) (l : LaneId) : Bool := (s.lane l).alive && !(s.lane l).cyc.lost

/-- The end of input agreement in a cycle with a vote (R95). A force package is applied ahead of the agreement, so that
the header of its cycle a shows it (R191, R200, R201). -/
def State.agreementVote (s : State) : State :=
  let ls := s.joining
  let s := s.fireLasting 0x1B none ((55000 + s.lead.tb.tiUnits - 1) / s.lead.tb.tiUnits)
  let s := ls.foldl State.agreeLane (s.applyDue [4, 5])
  let s := s.passLasting 0x1B none
  let s := { s with md := { s.md with step := .evaluation } }
  if s.md.mode = .safeStop then s
  else
    let s := (s.spoilCuts ls).applyDue [1, 3]
    (ls.filter s.ready).foldl State.prepare s

/-- The end of input agreement in the cycle of STOP after a debug release: the cut is checked, but no application runs
(R124, R316, R320). -/
def State.agreementIdle (s : State) : State :=
  let s := s.joining.foldl State.agreeLane s
  let s := s.joining.foldl (fun s l => (((s.receive l).restartEvents l).1).stopPdu l) s
  { s with md := { s.md with step := .evaluation } }

/-- The end of input agreement in SAFE_STOP (R263). -/
def State.agreementSafe (s : State) : State :=
  let ls := s.cycleLanes
  let s := ls.foldl State.agreeLane s
  let ok (l : LaneId) : Bool := (agreedWord (s.words (s.lane l))).isSome
  let s := (ls.filter ok).foldl (fun s l =>
    let s := if s.localCycle then s else s.receive l
    let r := s.restartEvents l
    (r.1.actRestart l r.2).1) s
  { s with md := { s.md with step := .evaluation } }

/-- The end of agreement of a lane in SPLIT: its own word is its input (R19). -/
def State.agreementSplit (s : State) (l : LaneId) : State :=
  let x := s.lane l
  let w := x.vio.raw
  let x := { x with vio := { x.vio with agreed := w, words := BitVec.ofNat 3 (2 ^ l.num), degAgree := false } }
  let x := s.outputPage ((s.writeHeader x false false).writeInputs w)
  (((s.setLane l x).receive l).stopPdu l).startApp l none

/-- The lanes of SPLIT in their agreement phase, with the earliest end. -/
def State.splitDue (s : State) : List LaneId :=
  let ls := LaneId.list.filter (fun l => (s.lane l).tb.started && (s.lane l).tb.phase = .agreement)
  let t := (ls.map (fun l => (s.lane l).tb.t0.toNat)).foldl min (2 ^ 64)
  ls.filter (fun l => (s.lane l).tb.t0.toNat = t)

/-- What the runtime does once input agreement has ended, unless it finds a block that was released before its clock was
qualified: SAFE_STOP with origin CLOCK (R371). -/
def State.checkClocks (s : State) (act : State → State) : State := if s.unqualified then s.safeStop .clock else act s

/-- INPUT_AGREEMENT_END: at t0 + 0.5 ms (R95, R97). -/
def execInputAgreementEnd (s : State) : Host.Outcome State Fault Refusal :=
  ok (match s.md.mode with
    | .split =>
      match s.splitDue with
      | [] => s
      | l :: ls =>
        let s := s.advanceTo ((s.lane l).tb.t0.toNat + 50000)
        s.checkClocks fun s => (l :: ls).foldl State.agreementSplit (s.spoilCuts (l :: ls))
    | m =>
      if s.md.step ≠ .agreement then s
      else
        let s := s.advanceTo (s.lead.tb.t0.toNat + 50000)
        if m = .safeStop then s.agreementSafe
        else s.checkClocks fun s => if s.md.holdExit then s.agreementIdle else s.agreementVote)

/-- A pending cause noted by every lane that takes part in the vote (R216). -/
def State.addCause (s : State) (l : LaneId) : State :=
  s.joining.foldl (fun s k => s.updLane k (fun x => { x with vote := { x.vote with
    pending := if x.vote.pending.contains (l, .input) then x.vote.pending
               else x.vote.pending ++ [(l, CauseKind.input)] } })) s

/-- An unattributable cause noted by every lane that takes part in the vote (R216). -/
def State.addUnattributable (s : State) : State :=
  s.joining.foldl (fun s k => s.updLane k (fun x => { x with vote := { x.vote with unattributable := true } })) s

/-- The cycle is under way from the end of input agreement to the vote. -/
def State.beforeDecision (s : State) : Bool := s.md.step = .evaluation || s.md.step = .compared

/-- INPUT_DISAGREEMENT_LIMIT: a count of R250 has reached 5 (R96). -/
def execInputDisagreementLimit (l : LaneId) (input : Fin 66) (s : State) : Host.Outcome State Fault Refusal :=
  ok (if !s.voting || !s.beforeDecision then s
    else if s.servingLanes.length = 3 then
      if 5 ≤ (s.lead.rd8 (countBase l + input.val)).toNat then s.addCause l else s
    else if 5 ≤ (s.lead.rd8 (0x02F07100 + input.val)).toNat then s.addUnattributable
    else s)

/-- The lanes whose connections are brought up to date in the cycle under way. -/
def State.receivers (s : State) : List LaneId :=
  if s.md.mode = .split then LaneId.list.filter (fun l => (s.lane l).tb.phase = .evaluation)
  else if s.md.step = .evaluation then s.cycleLanes
  else []

/-- SUPERVISION_TIMEOUT: a connection without an accepted PDU becomes LOST once its timeout has passed (R317). -/
def execSupervisionTimeout (l : LaneId) (conn : Fin 512) (s : State) : Host.Outcome State Fault Refusal :=
  let x := s.lane l
  let c := conn.val
  ok (if s.receivers.contains l && s.checked x c && x.stgState c = 1 && !x.stgFlag c 4 && x.slTimedOut (x.tb.t0.toNat / 100) c
    then
      let s := s.updLane l (fun x =>
        let x := x.slLose c
        (x.wr32 (stgAddr c + 0xC) (satInc (x.rd32 (stgAddr c + 0xC)))).slViews)
      s.recordLinks l [.lost c]
    else s)

/-- LOST_CONNECTION_FORGOTTEN: after 1,000,000 cuts in LOST a connection is IDLE (R317). -/
def execLostConnectionForgotten (l : LaneId) (conn : Fin 512) (s : State) : Host.Outcome State Fault Refusal :=
  let x := s.lane l
  let c := conn.val
  ok (if s.receivers.contains l && s.checked x c && x.stgState c = 2 && x.rd32 (stgAddr c + 0xC) = 1000000 then
      s.updLane l (fun x => (x.slForget c).slViews)
    else s)

/-- TWIN_MISSING: a PDU accepted at the previous cut has found no twin by the end of this one (R318). -/
def execTwinMissing (l : LaneId) (conn : Fin 512) (s : State) : Host.Outcome State Fault Refusal :=
  let c := conn.val
  ok (if (s.lane l).sl.twinDue.contains c then
      let s := s.updLane l (fun x =>
        let x := x.wr32 (stgAddr c + 0x98) (satInc (x.rd32 (stgAddr c + 0x98)))
        x.slUpd (fun k => { k with twinMissing := satInc k.twinMissing, twinDue := k.twinDue.filter (· ≠ c) }))
      s.recJoint l .slTwinMissing [place c 0]
    else s)

end Sys2Proof.Machine
end

