-- ==== Sys2Proof/Machine/StageRows.lean ====
section
/-! DEFINITION. The commands of the Gunmetal stage (R254 to R261), of the test-pulse sources (R247 to R249) and the
restart request in SAFE_STOP (R263). A condition acts only where the counts that the evaluations keep show it. -/

namespace Sys2Proof.Machine

/-- The stage evaluates from the end of priming until the entry to POWER_FAIL (R255). -/
def State.stageRuns (s : State) : Bool := s.md.mode ≠ .priming && s.md.mode ≠ .powerFail && s.guard.priming = .done

/-- The next multiple of a period, shifted by a phase, that is not before an instant. -/
def nextOf (t period phase : Nat) : Nat :=
  if t ≤ phase then phase else (t - phase + period - 1) / period * period + phase

/-- The instant of the next evaluation: a multiple of 1 ms of NT (R255). -/
def State.nextEval (s : State) : Nat :=
  let t := nextOf s.tb.nt.toNat 100000 0
  match s.stage.evalAt with
  | some e => if t ≤ e.toNat then e.toNat + 100000 else t
  | none => t

/-- An output's voltage replaced in a reading. -/
def setVolt (r : Readback) (o : Nat) (f : Nat → Nat) : Readback :=
  { r with volt := vset r.volt o (BitVec.ofNat 12 (min 4095 (f (voltOf o r)))) }

/-- An output's current replaced in a reading. -/
def setCurrent (r : Readback) (o v : Nat) : Readback :=
  { r with current := vset r.current o (BitVec.ofNat 12 v) }

/-- What the injections of module scope make of a lane's readings (R463). -/
def State.injectReading (s : State) (r : Readback) : Readback :=
  let r := match s.lasting 0x16 none with
    | some k => setCurrent r k.param 0
    | none => r
  let r := match s.lasting 0x19 none with
    | some k => if s.stage.on.getLsbD k.param then r else setVolt r k.param (fun _ => 960)
    | none => r
  match s.lasting 0x1A none with
  | some k => { r with vf := vset r.vf k.param 2800 }
  | none => r

/-- What the injections on one lane make of its readings: a monitor that reports closed, a voltage 3 V high (R463). -/
def State.injectLane (s : State) (l : LaneId) (r : Readback) : Readback :=
  let r := match s.lasting 0x14 (some l) with
    | some k => { r with elem0 := r.elem0 ||| BitVec.ofNat 48 (2 ^ k.param) }
    | none => r
  match s.lasting 0x15 (some l) with
  | some k => setVolt r k.param (· + 120)
  | none => r

/-- The injections that start at an evaluation (R462, R463). -/
def State.startEvalInjections (s : State) : State :=
  let s := [(0x16, 25), (0x19, 10), (0x1A, 10)].foldl (fun s p => s.fireLasting p.1 none p.2) s
  LaneId.list.foldl (fun s l => (s.fireLasting 0x14 (some l) 2).fireLasting 0x15 (some l) 5) s

/-- One evaluation of the injections that are counted in evaluations has passed. -/
def State.passEvalInjections (s : State) : State :=
  let s := [0x16, 0x19, 0x1A].foldl (fun s i => s.passLasting i none) s
  LaneId.list.foldl (fun s l => s.passLasting 0x14 (some l)) s

/-- The outputs that an injection has the stage take for conducting (R463). -/
def State.forcedOn (s : State) : OutBits :=
  match s.lasting 0x16 none with
  | some k => BitVec.ofNat 48 (2 ^ k.param)
  | none => 0

/-- An output tripped: every branch opened, counted, recorded (R255). -/
def State.tripOutput (s : State) (o : Nat) : State :=
  if s.stage.trip.getLsbD o then s
  else
    let s := { s with stage := { s.stage with
      trip := setBit s.stage.trip o true, tripCount := satInc s.stage.tripCount } }
    ((s.noteFault o 2).conduct).recStage .outputTrip [place o 0]

/-- OUTPUT_EVALUATION: the readings of the three lanes at the next multiple of 1 ms of NT (R255). -/
def execOutputEvaluation (a b c : Readback) (s : State) : Host.Outcome State Fault Refusal :=
  ok (if !s.stageRuns then s
    else
      let s := s.advanceTo s.nextEval
      let s := { s with stage := { s.stage with evalAt := some s.tb.nt } }
      let s := s.startEvalInjections
      let read (l : LaneId) (r : Readback) (x : Lane) : Lane :=
        { x with vio := { x.vio with readback := s.injectLane l (s.injectReading r) } }
      let t := ((s.updLane .A (read .A a)).updLane .B (read .B b)).updLane .C (read .C c)
      let t := (t.evaluate s.forcedOn).passEvalInjections
      if t.injected 0x17 none && t.injParam < 48 then (t.fire).tripOutput s.injParam else t)

/-- OPEN_LOAD: 20 evaluations below LOAD_MIN (R255). -/
def execOpenLoad (o : Fin 48) (s : State) : Host.Outcome State Fault Refusal :=
  ok (if s.stageRuns && 20 ≤ s.stage.openRun[o] && !s.stage.openNow.getLsbD o.val then
      let s := { s with stage := { s.stage with openNow := setBit s.stage.openNow o.val true } }
      (s.noteFault o.val 1).recStage .outputFault [place o.val 0, 1]
    else s)

/-- One value of the serving lanes' three readings, judged as at an evaluation (R255). -/
def State.judgeThree (s : State) (pick : Nat → Nat → Nat) (v : PerLane Nat) : Nat := judged pick (s.servingLanes.map v.get)

/-- TRIPPED: above 1.1 A in 100 evaluations, or above 1.5 A for 100 us (R255). -/
def execTripped (o : Fin 48) (r : TripReading) (s : State) : Host.Outcome State Fault Refusal :=
  let high : Bool := 100 ≤ r.us && 1500 < s.judgeThree max { a := r.a.toNat, b := r.b.toNat, c := r.c.toNat }
  ok (if s.stageRuns && (high || 100 ≤ s.stage.overRun[o]) then s.tripOutput o.val else s)

/-- A running off-pulse in a group ended without result (R261). -/
def State.discardIn (s : State) (g : Nat) : State :=
  match s.stage.pulse with
  | none => s
  | some (o, _) => if groupOf o.val = g then { s.discardPulse with stage := { s.discardPulse.stage with
      postponed := s.stage.postponed } } else s

/-- A group switch opened by a fault of an output, with SAFE_STOP (R255, R351). -/
def State.groupStop (s : State) (o : Nat) (code : BitVec 4) (name : RecName) : State :=
  let s := (s.noteFault o code).discardIn (groupOf o)
  let s := { s with stage := { s.stage with groupFault := setBit s.stage.groupFault (groupOf o) true } }
  ((s.conduct).recStage name [place o 0]).safeStop .output

/-- BACKFEED: voltage on an output that is off in 10 evaluations (R255). -/
def execBackfeed (o : Fin 48) (s : State) : Host.Outcome State Fault Refusal :=
  ok (if s.stageRuns && 10 ≤ s.stage.backRun[o] && !s.stage.backNow.getLsbD o.val then
      ({ s with stage := { s.stage with backNow := setBit s.stage.backNow o.val true } }).groupStop o.val 4 .backfeed
    else s)

/-- VF_RANGE: a supply out of range in 10 evaluations holds its group off (R255). -/
def execVfRange (g : Fin 3) (s : State) : Host.Outcome State Fault Refusal :=
  ok (if s.stageRuns && 10 ≤ s.stage.vfBad[g] && !s.stage.vfHeld.getLsbD g.val then
      let s := (s.discardIn g.val)
      let s := { s with stage := { s.stage with vfHeld := setBit s.stage.vfHeld g.val true } }
      let s := (List.range 16).foldl (fun s i => s.noteFault (16 * g.val + i) 5) s
      (s.conduct).recStage .vfRange [place g.val 0]
    else s)

/-- VF_RANGE_CLEAR: 100 evaluations in range release the group (R255). -/
def execVfRangeClear (g : Fin 3) (s : State) : Host.Outcome State Fault Refusal :=
  ok (if s.stageRuns && 100 ≤ s.stage.vfGood[g] && s.stage.vfHeld.getLsbD g.val then
      ({ s with stage := { s.stage with vfHeld := setBit s.stage.vfHeld g.val false } }).conduct
    else s)

/-- The fault of a lane's switch element at an output reported: its bit for the next cut, and the record (R254). -/
def State.switchFault (s : State) (l : LaneId) (o : Fin 48) : State :=
  let t := s.stage
  let s := { s with stage := { t with
    swSeen := t.swSeen.set l (setBit (t.swSeen.get l) o.val true)
    swNext := setBit t.swNext l.num true
    outNext := t.outNext.or (some (BitVec.ofNat 6 o.val)) } }
  s.recStage .laneSwitchFault [place l.num 0, place o.val 0]

/-- LANE_SWITCH_FAULT: two comparisons in which an element differed (R254). -/
def execLaneSwitchFault (l : LaneId) (o : Fin 48) (s : State) : Host.Outcome State Fault Refusal :=
  ok (if s.stageRuns && (s.stage.swTwice.get l).getLsbD o.val && !(s.stage.swSeen.get l).getLsbD o.val then
      s.switchFault l o
    else s)

/-- The first output among quantities that have differed in ten evaluations. -/
def firstOdd (v : Vector Nat 51) : Option (BitVec 6) :=
  ((List.range 48).find? (fun o => 10 ≤ vget v o 0)).map (BitVec.ofNat 6)

/-- SENSE_ODD: ten evaluations in which a lane's reading differed from the median; with no lane named, the readings of
two serving lanes from each other (R257). -/
def execSenseOdd (l : Option LaneId) (s : State) : Host.Outcome State Fault Refusal :=
  let t := s.stage
  ok (if !s.stageRuns then s
    else
      match l with
      | some k =>
        if anyTen (t.oddRun.get k) then
          { s with stage := { t with
            oddNext := setBit t.oddNext k.num true, outNext := t.outNext.or (firstOdd (t.oddRun.get k)) } }
        else s
      | none =>
        if anyTen t.pairRun then
          { s with stage := { t with pairNext := true, outNext := t.outNext.or (firstOdd t.pairRun) } }
        else s)

/-- SENSE_ODD_CAUSE: a difference counted at 5 consecutive cuts is a pending cause of the cycle's vote (R257). -/
def execSenseOddCause (l : Option LaneId) (s : State) : Host.Outcome State Fault Refusal :=
  ok (if !s.voting || !s.beforeDecision then s
    else
      match l with
      | some k =>
        if s.servingLanes.length = 3 && 5 ≤ s.stage.oddCuts.get k then (s.addCause k).recM .senseOdd [place k.num 0]
        else s
      | none =>
        if s.servingLanes.length = 2 && 5 ≤ s.stage.pairCuts then s.addUnattributable.recM .senseOdd [3] else s)

/-- The next off-pulse slot: where NT mod 20 ms is PULSE_PHASE x 100 us (R258). -/
def State.nextSlot (s : State) : Nat := nextOf s.tb.nt.toNat 2000000 (s.pulsePhase * 10000)

/-- The output cut close to which a pulse may not start (R260). -/
def State.nearCut (s : State) (t : Nat) : Option Nat :=
  [s.lead.tb.t0.toNat, s.cutInstant].find? (fun c => c < t + 50000 && t < c + 10000)

/-- An off-pulse starts: every branch of the output opens (R259). -/
def State.startPulse (s : State) (o : Fin 48) : State :=
  let s := { s with stage := { s.stage with
    pulse := some (o, s.tb.nt), sincePulse := vset s.stage.sincePulse o.val 0 } }
  s.conduct

/-- The test of an output at its slot, or its postponement (R258, R260); the injection STUCK_ON has the stage take the
output for conducting (R463). -/
def State.slotPulse (s : State) (o : Fin 48) : State :=
  let inj : Bool := s.injected 0x18 none && s.injParam = o.val
  if !inj && !s.stage.on.getLsbD o.val then s
  else
    match s.nearCut s.tb.nt.toNat with
    | some c => { s with stage := { s.stage with
        postponed := some (o, BitVec.ofNat 64 (c + 10000)), pulsePostponed := satInc s.stage.pulsePostponed } }
    | none => (if inj then s.fireLasting 0x18 none 1 else s).startPulse o

/-- A pulse that was postponed: tested only if the output conducts after the cut (R260). -/
def State.latePulse (s : State) (o : Fin 48) (t : DWord) : State :=
  let s := s.advanceTo t.toNat
  let s := { s with stage := { s.stage with postponed := none } }
  let inj : Bool := s.injected 0x18 none && s.injParam = o.val
  if inj then (s.fireLasting 0x18 none 1).startPulse o
  else if s.stage.on.getLsbD o.val then s.startPulse o
  else s

/-- OFF_PULSE: the next slot comes, or the instant to which a pulse was postponed (R258, R260). -/
def execOffPulse (s : State) : Host.Outcome State Fault Refusal :=
  ok (if !s.stageRuns || s.stage.pulse.isSome then s
    else
      match s.stage.postponed with
      | some (o, t) => if t.toNat ≤ s.tb.nt.toNat + 10000 then s.latePulse o t else s
      | none =>
        let t := s.nextSlot
        if s.md.step ≠ .idle && s.cutInstant ≤ t then s
        else
          let s := s.advanceTo t
          let j := t / 2000000 % 50
          if h : j < 48 then s.slotPulse ⟨j, h⟩ else s)

/-- A pulse ends and the branches close again (R259); the switch-on that this is starts no exclusion of R255. -/
def State.closePulse (s : State) (o : Fin 48) : State :=
  let old := s.stage.sinceOn
  let s := ({ s with stage := { s.stage with
    pulse := none, pulseCount := satInc s.stage.pulseCount, sincePulse := vset s.stage.sincePulse o.val 0 } }).conduct
  { s with stage := { s.stage with sinceOn := old } }

/-- An evaluation of an off-pulse judged: the voltage, and whether the lanes' monitors report an element closed (R255,
R259). -/
def State.pulseVolt (s : State) (v : PulseSample) : Nat :=
  s.judgeThree max { a := v.a.volt.toNat, b := v.b.volt.toNat, c := v.c.volt.toNat }

/-- A lane's reading at an evaluation of an off-pulse. -/
def pulseOf (v : PulseSample) : LaneId → PulseReading
  | .A => v.a
  | .B => v.b
  | .C => v.c

/-- The lanes of which a monitor reports an element closed. -/
def closedLanes (v : PulseSample) : List LaneId :=
  LaneId.list.filter (fun l => (pulseOf v l).closed0 || (pulseOf v l).closed1)

/-- The evaluation that ends a pulse (R259): the first one from 60 us on, every 10 us, with the voltage below 5 V, or the
one at 400 us; with the number of its microseconds. -/
def State.pulseEnd (s : State) (inj : Bool) (us : Nat) : List PulseSample → Option (Nat × PulseSample)
  | [] => none
  | v :: vs =>
    if (!inj && s.pulseVolt v < 200) || 400 ≤ us then some (us, v) else s.pulseEnd inj (us + 10) vs

/-- What a pulse that ends by an evaluation has shown (R259): STUCK_ON where the voltage has not fallen and every element
is open; the fault of each lane with a closed element is reported (R254). -/
def State.pulseResult (s : State) (o : Fin 48) (high : Bool) (v : PulseSample) : State :=
  if !high then s
  else
    match closedLanes v with
    | [] => s.groupStop o.val 3 .stuckOn
    | ls => ls.foldl (fun s l => s.switchFault l o) s

/-- The evaluations that all three lanes have read. -/
def pulseSamples : List PulseReading → List PulseReading → List PulseReading → List PulseSample
  | x :: xs, y :: ys, z :: zs => { a := x, b := y, c := z } :: pulseSamples xs ys zs
  | _, _, _ => []

/-- OFF_PULSE_END (R259): the three lanes' readings at the evaluations from 60 us after the start of the pulse on. -/
def execOffPulseEnd (a b c : List PulseReading) (s : State) : Host.Outcome State Fault Refusal :=
  ok (match s.stage.pulse with
    | none => s
    | some (o, t) =>
      let inj := (s.lasting 0x18 none).isSome
      match s.pulseEnd inj 60 (pulseSamples a b c) with
      | none => s
      | some (us, v) =>
        let high : Bool := inj || 200 ≤ s.pulseVolt v
        let s := (s.advanceTo (t.toNat + us * 100)).closePulse o
        (s.passLasting 0x18 none).pulseResult o high v)

/-- The source of an input in a lane's map (R268). -/
def Lane.tpSource (x : Lane) (i : Nat) : Nat := fieldN (vget x.vio.tpMap (i / 8) 0) (4 * (i % 8)) 4

/-- One lane's circuit at the pulse of a source: each input on it is expected to read 0 (R247, R248). -/
def State.pulseLane (s : State) (l : LaneId) (src : Nat) (w : RawWord) : State :=
  let x := s.lane l
  let inj : Bool := s.injected 0x13 (some l) && s.injParam < 66 && x.tpSource s.injParam = src
  let w := if inj then setBit w s.injParam true else w
  let on := inputBits (fun i => x.tpSource i = src)
  let new := (x.vio.pfail &&& ~~~ on) ||| (w &&& on)
  let diff := new ^^^ x.vio.pfail
  let s := if inj then s.fire else s
  let s := s.updLane l (fun x => { x with vio := { x.vio with pfail := new } })
  (setBits diff).foldl (fun s i => s.recL l .inputPulseFail [place i 0, flag (new.getLsbD i) 0]) s

/-- A source's conditions, STUCK_ON and STUCK_OFF, recorded at each change (R249). -/
def State.tpCondition (s : State) (src : Nat) (on off : Bool) : State :=
  let t := s.stage
  if t.tpOn.getLsbD src = on && t.tpOff.getLsbD src = off then s
  else
    let s := { s with stage := { t with tpOn := setBit t.tpOn src on, tpOff := setBit t.tpOff src off } }
    s.recStage .tpStuck [place src 0, flag on 0 ||| flag off 1]

/-- TEST_PULSE: a source in use switches off where NT mod 100 ms is s x 12.5 ms, and each lane samples its inputs
200 us later (R247). -/
def execTestPulse (source : Fin 8) (a b c : RawWord) (s : State) : Host.Outcome State Fault Refusal :=
  ok (if !s.stageRuns || !s.tpUsed.getLsbD source.val then s
    else
      let t := nextOf s.tb.nt.toNat 10000000 (source.val * 1250000)
      let s := s.advanceTo (t + 20000)
      let s := ((s.pulseLane .A source.val a).pulseLane .B source.val b).pulseLane .C source.val c
      let s := { s with stage := { s.stage with tpPulse := some (source, BitVec.ofNat 64 t) } }
      if s.injected 0x12 none && s.injParam = source.val then
        let s := { s.fire with stage := { s.fire.stage with tpPulse := none } }
        s.tpCondition source.val true (s.stage.tpOff.getLsbD source.val)
      else s)

/-- The pulse of a source ends after 250 us; `volt` is the lowest voltage during it (R247, R249). -/
def State.tpPulseEnd (s : State) (source : Fin 8) (volt : BitVec 12) : State :=
  match s.stage.tpPulse with
  | none => s
  | some (k, t) =>
    if k ≠ source then s
    else
      let s := s.advanceTo (t.toNat + 25000)
      let s := { s with stage := { s.stage with tpPulse := none } }
      s.tpCondition source.val (80 ≤ volt.toNat) (s.stage.tpOff.getLsbD source.val)

/-- The highest voltage of a source outside its pulses over `us` microseconds (R249). -/
def State.tpOutside (s : State) (source : Fin 8) (volt : BitVec 12) (us : Nat) : State :=
  let off : Bool :=
    if volt.toNat < 80 then s.stage.tpOff.getLsbD source.val || 1000 < us else false
  s.tpCondition source.val (s.stage.tpOn.getLsbD source.val) off

/-- TP_STUCK: the readback of a source, of its pulse or outside its pulses (R249). -/
def execTpStuck (source : Fin 8) (r : TpReading) (s : State) : Host.Outcome State Fault Refusal :=
  ok (if !s.stageRuns then s else if r.pulsed then s.tpPulseEnd source r.volt else s.tpOutside source r.volt r.us)

/-- Lanes that assert the restart request line: unfenced, with a restart event in this cycle (R263). -/
def State.restartLines (s : State) : List LaneId :=
  s.servingLanes.filter (fun l => s.awake l && (s.lane l).cyc.events.any ModeEvent.isRestart)

/-- A module that leaves SAFE_STOP only through a PO: no role, or a changed seal (R26). -/
def State.restartBarred (s : State) : Bool := s.sealSt.changed || roleOf s.sealSt.sw1 = .none

/-- RESTART_REQUEST: at t0 + TI - 2.5 ms; with two lines STARTUP_TEST starts at the next t0 (R263). -/
def execRestartRequest (s : State) : Host.Outcome State Fault Refusal :=
  ok (if s.md.mode ≠ .safeStop || s.md.step ≠ .evaluation || s.guard.pendingReset.isSome then s
    else
      match s.restartLines with
      | [] => s
      | ls =>
        let s := s.advanceTo (s.cutInstant - 250000)
        if s.restartBarred then
          let s := s.mapLanes (fun x => { x with cyc := { x.cyc with events := x.cyc.events.filter (!·.isRestart) } })
          s.recM .restartIgnored [place s.md.mode.code 0]
        else if 2 ≤ ls.length then (((s.advanceTo s.cutInstant).enterStartupTest).stageLatch).clearCycle
        else s)

end Sys2Proof.Machine
end

