-- ==== Sys2Proof/Machine/Debugger.lean ====
section
/-! DEFINITION. The debugger in HOLD (R204, R205): the commands of the LANE block's debug port. -/

namespace Sys2Proof.Machine

/-- The registers of the debug port accept a write: the lane reports HOLD (R238). -/
def State.debuggable (s : State) (l : LaneId) : Bool := s.laneMode l = 8

/-- The core is halted (R240). -/
def Lane.halted (x : Lane) : Bool := x.core.run = .debug || x.core.run = .stopped

/-- The status after a command (R240): completed, or refused. -/
def Lane.dbgAnswer (x : Lane) (refused : Bool) : Lane :=
  { x with blk := { x.blk with dbgRefused := refused, dbgDone := !refused } }

/-- A command of the debug port: refused outside HOLD or where its condition does not hold (R240). -/
def State.debug (s : State) (l : LaneId) (may : Lane → Bool) (act : Lane → Lane) : State :=
  s.updLane l (fun x => if s.debuggable l && may x then act (x.dbgAnswer false) else x.dbgAnswer true)

/-- A command whose completion is the next halt of the core. -/
def Lane.dbgPending (x : Lane) : Lane := { x with blk := { x.blk with dbgDone := false } }

/-- LANE_DBG_ADDR and LANE_DBG_DATA as the debugger writes them in HOLD (R240). -/
def State.dbgPort (s : State) (l : LaneId) (addr : Word) (data : Option Word) : State :=
  if s.debuggable l then
    s.updLane l (fun x => { x with blk := { x.blk with dbgAddr := addr, dbgData := data.getD x.blk.dbgData } })
  else s

/-- A command that reads into LANE_DBG_DATA while the core is halted (R204). -/
def State.dbgRead (s : State) (l : LaneId) (addr : Word) (f : Lane → Option Word) : State :=
  (s.dbgPort l addr none).debug l (fun x => x.halted && (f x).isSome) fun x =>
    { x with blk := { x.blk with dbgData := (f x).getD 0 } }

/-- The core leaves a breakpoint: it continues at the address where BRK stands (R205). -/
def Lane.leaveBreak (x : Lane) : Lane :=
  if x.blk.dbgReason = 3 then { x with core := { x.core.restoreStatus with pc := x.core.tpc } } else x

/-- The core runs on from its pc, for a number of instructions or until it halts (R204). -/
def Lane.runOnFrom (x : Lane) (steps : Option Nat) : Lane :=
  let x := x.leaveBreak.dbgPending
  { x with core := { x.core with run := .running }, blk := { x.blk with dbgSteps := steps, dbgReason := 0 } }

/-- The word that a breakpoint keeps for the instruction which RESUME executes, where it spells no instruction
(R135, R205). -/
def Lane.keptIllegal (x : Lane) (l : LaneId) : Option Word :=
  if x.blk.dbgReason = 3 then
    (x.blk.breakpoints.find? (·.1 = x.core.tpc)).bind fun b => if (decodeIxlo l b.2).isNone then some b.2 else none
  else none

/-- The core runs on (R204): from a breakpoint the next instruction command of the lane stands for the word that SET_BRK
has kept (R205, log 83); a kept word that spells no instruction traps at once. -/
def State.runOn (s : State) (l : LaneId) (may : Lane → Bool) (steps : Option Nat) : State :=
  let x := s.lane l
  let t := s.debug l may (·.runOnFrom steps)
  match x.keptIllegal l with
  | some w => if s.debuggable l && may x then (t.illegal l w).counted l else t
  | none => t

/-- HALT: at the next instruction boundary (R204). -/
def Lane.dbgHalt (x : Lane) : Lane :=
  match x.core.run with
  | .running => x.debugStop 1
  | .waiting _ | .stalled _ => { x.dbgPending with blk := { x.dbgPending.blk with dbgSteps := some 0 } }
  | _ => x

/-- HALT of the debugger (R204). -/
def State.dbgHalt (s : State) (l : LaneId) : State :=
  s.debug l (fun x => x.core.run ≠ .held) Lane.dbgHalt

/-- HALT of the debugger as a command (R204). -/
def execLaneDbgHalt (l : LaneId) (s : State) : Host.Outcome State Fault Refusal :=
  ok (s.dbgHalt l)

/-- RESUME (R204, R205). -/
def State.dbgResume (s : State) (l : LaneId) : State :=
  s.runOn l (fun x => x.core.run = .debug) none

/-- RESUME as a command (R204). -/
def execResume (l : LaneId) (s : State) : Host.Outcome State Fault Refusal :=
  ok (s.dbgResume l)

/-- STEP n (R204). -/
def State.dbgStep (s : State) (l : LaneId) (n : Half) : State :=
  s.runOn l (fun x => x.core.run = .debug && n ≠ 0) (some n.toNat)

/-- STEP as a command (R204). -/
def execStep (l : LaneId) (n : Half) (s : State) : Host.Outcome State Fault Refusal :=
  ok (s.dbgStep l n)

/-- A cycle that the debugger starts, with the frozen header and an empty input cut (R203, R204); the pending words of
the secure mailbox become visible (R201). -/
def Lane.debugCycle (x : Lane) : Lane :=
  let x := { x with
    cyc := { Cycle.init with app := true }
    mbSec := x.mbSec.reveal
    cvu := Vector.replicate 4 Cvu.zero
    core := { x.core with cvCycle := 0 }
    engine := { x.engine with sweepPut := false, queue := [], digests := [] }
    sl := { x.sl with cut := [], cutOver := 0 }
    blk := { x.blk with dbgSteps := none, dbgReason := 0 } }
  (x.mboxEvent.clearStaged).clearOutputs

/-- NEXT_CYCLE (R204): a pending package is taken first (R201), then the application starts with the registers of R97. -/
def State.dbgNextCycle (s : State) (l : LaneId) : State :=
  if s.debuggable l && (s.lane l).core.run = .debug then
      let s := s.updLane l (fun x => (x.dbgAnswer false).debugCycle)
      (s.holdTake l).updLane l (fun x => x.enterAt (x.rd32 0x04))
    else s.updLane l (·.dbgAnswer true)

/-- NEXT_CYCLE as a command (R204). -/
def execNextCycle (l : LaneId) (s : State) : Host.Outcome State Fault Refusal :=
  ok (s.dbgNextCycle l)

/-- A general register of a halted core read (R204). -/
def Core.dbgReg (c : Core) (n : Nat) : Option Word := if h : n < 32 then some (c.get ⟨n, h⟩) else none

/-- READ_REG (R204). -/
def State.dbgReadReg (s : State) (l : LaneId) (addr : Word) : State :=
  s.dbgRead l addr (fun x => x.core.dbgReg addr.toNat)

/-- READ_REG as a command (R204). -/
def execReadReg (l : LaneId) (addr : Word) (s : State) : Host.Outcome State Fault Refusal :=
  ok (s.dbgReadReg l addr)

/-- WRITE_REG (R204). -/
def State.dbgWriteReg (s : State) (l : LaneId) (addr data : Word) : State :=
  (s.dbgPort l addr (some data)).debug l (fun x => x.halted && decide (addr.toNat < 32)) fun x =>
    if h : addr.toNat < 32 then { x with core := x.core.set ⟨addr.toNat, h⟩ data } else x

/-- WRITE_REG as a command (R204). -/
def execWriteReg (l : LaneId) (addr data : Word) (s : State) : Host.Outcome State Fault Refusal :=
  ok (s.dbgWriteReg l addr data)

/-- READ_CR: the read clears nothing (R204, R8). -/
def State.dbgReadCr (s : State) (l : LaneId) (addr : Word) : State :=
  s.dbgRead l addr (fun x => x.core.readCr addr.toNat)

/-- READ_CR as a command (R204). -/
def execReadCr (l : LaneId) (addr : Word) (s : State) : Host.Outcome State Fault Refusal :=
  ok (s.dbgReadCr l addr)

/-- WRITE_CR, as the access codes of the register allow (R204, R128). -/
def State.dbgWriteCr (s : State) (l : LaneId) (addr data : Word) : State :=
  (s.dbgPort l addr (some data)).debug l (fun x => x.halted && (x.core.readCr addr.toNat).isSome)
    (fun x => { x with core := x.core.writeCr addr.toNat data })

/-- WRITE_CR as a command (R204). -/
def execWriteCr (l : LaneId) (addr data : Word) (s : State) : Host.Outcome State Fault Refusal :=
  ok (s.dbgWriteCr l addr data)

/-- A word of the lane store (R130, R240). -/
def storeWord (a : Word) : Bool := a.toNat % 4 = 0 && a.toNat < storeTop

/-- READ_MEM (R204). -/
def State.dbgReadMem (s : State) (l : LaneId) (addr : Word) : State :=
  s.dbgRead l addr (fun x => if storeWord addr then some (x.rd32 addr.toNat) else none)

/-- READ_MEM as a command (R204). -/
def execReadMem (l : LaneId) (addr : Word) (s : State) : Host.Outcome State Fault Refusal :=
  ok (s.dbgReadMem l addr)

/-- WRITE_MEM (R204). -/
def State.dbgWriteMem (s : State) (l : LaneId) (addr data : Word) : State :=
  (s.dbgPort l addr (some data)).debug l (fun x => x.halted && storeWord addr)
    (fun x => x.poke addr.toNat (wordBytes data))

/-- WRITE_MEM as a command (R204). -/
def execWriteMem (l : LaneId) (addr data : Word) (s : State) : Host.Outcome State Fault Refusal :=
  ok (s.dbgWriteMem l addr data)

/-- The word of BRK (R205). -/
def brkWord : Word := 0xFC000005

/-- A word of the application's code (R130, R204). -/
def Lane.codeWord (x : Lane) (a : Word) : Bool := a.toNat % 4 = 0 && 0x40 ≤ a.toNat && a.toNat < x.codeEnd && storeWord a

/-- A breakpoint stands at an address. -/
def Lane.hasBreak (x : Lane) (a : Word) : Bool := x.blk.breakpoints.any (·.1 = a)

/-- SET_BRK: the BRK word over the instruction, whose word is kept; at most 32 of them (R204, R205). -/
def State.dbgSetBrk (s : State) (l : LaneId) (addr : Word) : State :=
  (s.dbgPort l addr none).debug l
    (fun x => x.codeWord addr && (x.hasBreak addr || decide (x.blk.breakpoints.length < 32)))
    fun x =>
      if x.hasBreak addr then x
      else
        { x.poke addr.toNat (wordBytes brkWord) with blk := { x.blk with
          breakpoints := x.blk.breakpoints ++ [(addr, x.rd32 addr.toNat)] } }

/-- SET_BRK as a command (R204). -/
def execSetBrk (l : LaneId) (addr : Word) (s : State) : Host.Outcome State Fault Refusal :=
  ok (s.dbgSetBrk l addr)

/-- CLEAR_BRK: the original word restored (R204, R205). -/
def State.dbgClearBrk (s : State) (l : LaneId) (addr : Word) : State :=
  (s.dbgPort l addr none).debug l (fun x => x.hasBreak addr) fun x =>
    match x.blk.breakpoints.find? (·.1 = addr) with
    | none => x
    | some b =>
      { x.poke addr.toNat (wordBytes b.2) with blk := { x.blk with
        breakpoints := x.blk.breakpoints.filter (·.1 ≠ addr) } }

/-- CLEAR_BRK as a command (R204). -/
def execClearBrk (l : LaneId) (addr : Word) (s : State) : Host.Outcome State Fault Refusal :=
  ok (s.dbgClearBrk l addr)

/-- LANE_DBG_CMD written through the service view of a lane (R238, R240): the code with the address and data registers
as they stand; another code is refused. -/
def State.dbgCommand (s : State) (l : LaneId) (w : Word) : State :=
  let b := (s.lane l).blk
  match fieldN w 0 4 with
  | 0x1 => s.dbgHalt l
  | 0x2 => s.dbgResume l
  | 0x3 => s.dbgStep l (w >>> 16 |>.setWidth 16)
  | 0x4 => s.dbgNextCycle l
  | 0x5 => s.dbgReadReg l b.dbgAddr
  | 0x6 => s.dbgWriteReg l b.dbgAddr b.dbgData
  | 0x7 => s.dbgReadCr l b.dbgAddr
  | 0x8 => s.dbgWriteCr l b.dbgAddr b.dbgData
  | 0x9 => s.dbgReadMem l b.dbgAddr
  | 0xA => s.dbgWriteMem l b.dbgAddr b.dbgData
  | 0xB => s.dbgSetBrk l b.dbgAddr
  | 0xC => s.dbgClearBrk l b.dbgAddr
  | _ => s.updLane l (·.dbgAnswer true)

end Sys2Proof.Machine
end

