-- ==== Sys2Proof/Machine/IxloCore.lean ====
section
/-! DEFINITION. The Ixlo core (chapter 04): integer and logic group, immediates, bit fields, branches and jumps,
coded booleans and system instructions. -/

namespace Sys2Proof.Machine

/-- ADD (R138). -/
def execAdd (l : LaneId) (d a b : Reg) (s : State) : Host.Outcome State Fault Refusal :=
  ok (s.compute l (.add l d a b) d [a, b] fun c => c.get a + c.get b)

/-- SUB (R138). -/
def execSub (l : LaneId) (d a b : Reg) (s : State) : Host.Outcome State Fault Refusal :=
  ok (s.compute l (.sub l d a b) d [a, b] fun c => c.get a - c.get b)

/-- AND (R138). -/
def execAnd (l : LaneId) (d a b : Reg) (s : State) : Host.Outcome State Fault Refusal :=
  ok (s.compute l (.and l d a b) d [a, b] fun c => c.get a &&& c.get b)

/-- OR (R138). -/
def execOr (l : LaneId) (d a b : Reg) (s : State) : Host.Outcome State Fault Refusal :=
  ok (s.compute l (.or l d a b) d [a, b] fun c => c.get a ||| c.get b)

/-- XOR (R138). -/
def execXor (l : LaneId) (d a b : Reg) (s : State) : Host.Outcome State Fault Refusal :=
  ok (s.compute l (.xor l d a b) d [a, b] fun c => c.get a ^^^ c.get b)

/-- ANDN (R138). -/
def execAndn (l : LaneId) (d a b : Reg) (s : State) : Host.Outcome State Fault Refusal :=
  ok (s.compute l (.andn l d a b) d [a, b] fun c => c.get a &&& ~~~ c.get b)

/-- SLL (R138). -/
def execSll (l : LaneId) (d a b : Reg) (s : State) : Host.Outcome State Fault Refusal :=
  ok (s.compute l (.sll l d a b) d [a, b] fun c => sllVal (c.get a) (c.get b))

/-- SRL (R138). -/
def execSrl (l : LaneId) (d a b : Reg) (s : State) : Host.Outcome State Fault Refusal :=
  ok (s.compute l (.srl l d a b) d [a, b] fun c => srlVal (c.get a) (c.get b))

/-- SRA (R138). -/
def execSra (l : LaneId) (d a b : Reg) (s : State) : Host.Outcome State Fault Refusal :=
  ok (s.compute l (.sra l d a b) d [a, b] fun c => sraVal (c.get a) (c.get b))

/-- SLT (R138). -/
def execSlt (l : LaneId) (d a b : Reg) (s : State) : Host.Outcome State Fault Refusal :=
  ok (s.compute l (.slt l d a b) d [a, b] fun c => bit ((c.get a).slt (c.get b)))

/-- SLTU (R138). -/
def execSltu (l : LaneId) (d a b : Reg) (s : State) : Host.Outcome State Fault Refusal :=
  ok (s.compute l (.sltu l d a b) d [a, b] fun c => bit ((c.get a).ult (c.get b)))

/-- SEQ (R138). -/
def execSeq (l : LaneId) (d a b : Reg) (s : State) : Host.Outcome State Fault Refusal :=
  ok (s.compute l (.seq l d a b) d [a, b] fun c => bit (c.get a == c.get b))

/-- SLLI (R138). -/
def execSlli (l : LaneId) (d a : Reg) (sh : Fin 32) (s : State) : Host.Outcome State Fault Refusal :=
  ok (s.compute l (.slli l d a sh) d [a] fun c => c.get a <<< sh.val)

/-- SRLI (R138). -/
def execSrli (l : LaneId) (d a : Reg) (sh : Fin 32) (s : State) : Host.Outcome State Fault Refusal :=
  ok (s.compute l (.srli l d a sh) d [a] fun c => c.get a >>> sh.val)

/-- SRAI (R138). -/
def execSrai (l : LaneId) (d a : Reg) (sh : Fin 32) (s : State) : Host.Outcome State Fault Refusal :=
  ok (s.compute l (.srai l d a sh) d [a] fun c => (c.get a).sshiftRight sh.val)

/-- MUL (R138). -/
def execMul (l : LaneId) (d a b : Reg) (s : State) : Host.Outcome State Fault Refusal :=
  ok (s.compute l (.mul l d a b) d [a, b] fun c => c.get a * c.get b)

/-- MULH (R138). -/
def execMulh (l : LaneId) (d a b : Reg) (s : State) : Host.Outcome State Fault Refusal :=
  ok (s.compute l (.mulh l d a b) d [a, b] fun c => mulhVal (c.get a) (c.get b))

/-- MULHU (R138). -/
def execMulhu (l : LaneId) (d a b : Reg) (s : State) : Host.Outcome State Fault Refusal :=
  ok (s.compute l (.mulhu l d a b) d [a, b] fun c => mulhuVal (c.get a) (c.get b))

/-- A division: by 0 it traps with divide by zero, TVAL the dividend (R138). -/
def State.divide (s : State) (l : LaneId) (i : Instr) (d a b : Reg) (f : Word → Word → Word) : State :=
  s.begin l i false none fun s => s.sources l [a, b] none fun s =>
    let c := (s.lane l).core
    if c.get b = 0 then s.trap l 0x0A none (c.get a) else s.finishSet l d (f (c.get a) (c.get b))

/-- DIV (R138). -/
def execDiv (l : LaneId) (d a b : Reg) (s : State) : Host.Outcome State Fault Refusal :=
  ok (s.divide l (.div l d a b) d a b (divVal))

/-- DIVU (R138). -/
def execDivu (l : LaneId) (d a b : Reg) (s : State) : Host.Outcome State Fault Refusal :=
  ok (s.divide l (.divu l d a b) d a b (fun x y => x / y))

/-- REM (R138). -/
def execRem (l : LaneId) (d a b : Reg) (s : State) : Host.Outcome State Fault Refusal :=
  ok (s.divide l (.rem l d a b) d a b (remVal))

/-- REMU (R138). -/
def execRemu (l : LaneId) (d a b : Reg) (s : State) : Host.Outcome State Fault Refusal :=
  ok (s.divide l (.remu l d a b) d a b (fun x y => x % y))

/-- CLZ (R138). -/
def execClz (l : LaneId) (d a : Reg) (s : State) : Host.Outcome State Fault Refusal :=
  ok (s.compute l (.clz l d a) d [a] fun c => clzVal (c.get a))

/-- CTZ (R138). -/
def execCtz (l : LaneId) (d a : Reg) (s : State) : Host.Outcome State Fault Refusal :=
  ok (s.compute l (.ctz l d a) d [a] fun c => ctzVal (c.get a))

/-- POPC (R138). -/
def execPopc (l : LaneId) (d a : Reg) (s : State) : Host.Outcome State Fault Refusal :=
  ok (s.compute l (.popc l d a) d [a] fun c => popcVal (c.get a))

/-- BSWAP (R138). -/
def execBswap (l : LaneId) (d a : Reg) (s : State) : Host.Outcome State Fault Refusal :=
  ok (s.compute l (.bswap l d a) d [a] fun c => bswapVal (c.get a))

/-- JALR: the target is checked, then the link is written and control passes (R138). -/
def execJalr (l : LaneId) (d a : Reg) (s : State) : Host.Outcome State Fault Refusal :=
  ok (s.begin l (.jalr l d a) false none fun s =>
    let x := s.lane l
    let target := x.core.get a
    if target.toNat % 4 ≠ 0 then s.trap l 0x02 none target
    else if !x.fetchable target.toNat then s.trap l 0x03 none target
    else s.sources l [a] none fun s => s.jumpTo l (fun c => c.set d (c.pc + 4)) target)

/-- EXTU (R140). -/
def execExtu (l : LaneId) (d a : Reg) (pos wm1 : Fin 32) (s : State) :
    Host.Outcome State Fault Refusal :=
  ok (s.compute l (.extu l d a pos wm1) d [a] fun c => extuVal (c.get a) pos.val wm1.val)

/-- EXTS (R140). -/
def execExts (l : LaneId) (d a : Reg) (pos wm1 : Fin 32) (s : State) :
    Host.Outcome State Fault Refusal :=
  ok (s.compute l (.exts l d a pos wm1) d [a] fun c => extsVal (c.get a) pos.val wm1.val)

/-- INS (R140). -/
def execIns (l : LaneId) (d a : Reg) (pos wm1 : Fin 32) (s : State) :
    Host.Outcome State Fault Refusal :=
  ok (s.compute l (.ins l d a pos wm1) d [a, d] fun c => insVal (c.get d) (c.get a) pos.val wm1.val)

/-- ADDI (R139). -/
def execAddi (l : LaneId) (d a : Reg) (imm : Half) (s : State) : Host.Outcome State Fault Refusal :=
  ok (s.compute l (.addi l d a imm) d [a] fun c => c.get a + sext16 imm)

/-- ANDI (R139). -/
def execAndi (l : LaneId) (d a : Reg) (imm : Half) (s : State) : Host.Outcome State Fault Refusal :=
  ok (s.compute l (.andi l d a imm) d [a] fun c => c.get a &&& zext16 imm)

/-- ORI (R139). -/
def execOri (l : LaneId) (d a : Reg) (imm : Half) (s : State) : Host.Outcome State Fault Refusal :=
  ok (s.compute l (.ori l d a imm) d [a] fun c => c.get a ||| zext16 imm)

/-- XORI (R139). -/
def execXori (l : LaneId) (d a : Reg) (imm : Half) (s : State) : Host.Outcome State Fault Refusal :=
  ok (s.compute l (.xori l d a imm) d [a] fun c => c.get a ^^^ zext16 imm)

/-- SLTI (R139). -/
def execSlti (l : LaneId) (d a : Reg) (imm : Half) (s : State) : Host.Outcome State Fault Refusal :=
  ok (s.compute l (.slti l d a imm) d [a] fun c => bit ((c.get a).slt (sext16 imm)))

/-- SLTIU (R139). -/
def execSltiu (l : LaneId) (d a : Reg) (imm : Half) (s : State) : Host.Outcome State Fault Refusal :=
  ok (s.compute l (.sltiu l d a imm) d [a] fun c => bit ((c.get a).ult (sext16 imm)))

/-- LUI (R139). -/
def execLui (l : LaneId) (d : Reg) (imm : Half) (s : State) : Host.Outcome State Fault Refusal :=
  ok (s.compute l (.lui l d imm) d [] fun _ => zext16 imm <<< 16)

/-- A branch with its condition (R142): a taken branch to a target that may not be fetched traps with bounds. -/
def State.branch (s : State) (l : LaneId) (i : Instr) (rs : List Reg) (off : Half) (taken : Core → Bool)
    (f : Core → Core) : State :=
  s.begin l i false none fun s =>
    let x := s.lane l
    let target := branchTarget x.core.pc off
    if taken x.core && !x.fetchable target.toNat then s.trap l 0x03 none target
    else s.sources l rs none fun s => if taken x.core then s.jumpTo l f target else s.finish l f

/-- BEQ (R142). -/
def execBeq (l : LaneId) (r t : Reg) (off : Half) (s : State) : Host.Outcome State Fault Refusal :=
  ok (s.branch l (.beq l r t off) [r, t] off (fun c => c.get r == c.get t) id)

/-- BNE (R142). -/
def execBne (l : LaneId) (r t : Reg) (off : Half) (s : State) : Host.Outcome State Fault Refusal :=
  ok (s.branch l (.bne l r t off) [r, t] off (fun c => c.get r != c.get t) id)

/-- BLT (R142). -/
def execBlt (l : LaneId) (r t : Reg) (off : Half) (s : State) : Host.Outcome State Fault Refusal :=
  ok (s.branch l (.blt l r t off) [r, t] off (fun c => (c.get r).slt (c.get t)) id)

/-- BGE (R142). -/
def execBge (l : LaneId) (r t : Reg) (off : Half) (s : State) : Host.Outcome State Fault Refusal :=
  ok (s.branch l (.bge l r t off) [r, t] off (fun c => !(c.get r).slt (c.get t)) id)

/-- BLTU (R142). -/
def execBltu (l : LaneId) (r t : Reg) (off : Half) (s : State) : Host.Outcome State Fault Refusal :=
  ok (s.branch l (.bltu l r t off) [r, t] off (fun c => (c.get r).ult (c.get t)) id)

/-- BGEU (R142). -/
def execBgeu (l : LaneId) (r t : Reg) (off : Half) (s : State) : Host.Outcome State Fault Refusal :=
  ok (s.branch l (.bgeu l r t off) [r, t] off (fun c => !(c.get r).ult (c.get t)) id)

/-- The coded-value event of a consumed word that is INVALID (R145). -/
def Core.consume (c : Core) (w : Word) : Core := if codedValid w then c else c.codedEvent

/-- A branch that consumes its register as a coded value and is taken where it reads as `want` (R142, R145); the
injection CODED_OPERAND inverts bit 0 of the operand (R463). -/
def State.codedBranch (s : State) (l : LaneId) (i : Instr) (r : Reg) (off : Half) (want : Bool) : State :=
  let hit := s.injected 0x04 (some l)
  let v (c : Core) : Word := if hit then c.get r ^^^ 1 else c.get r
  let t := s.branch l i [r] off (fun c => (v c == codedTrue) == want) (fun c => c.consume (v c))
  if hit && (s.lane l).core.run = Run.running then t.fire else t

/-- BCT (R142): the register is consumed as a coded value. -/
def execBct (l : LaneId) (r : Reg) (off : Half) (s : State) : Host.Outcome State Fault Refusal :=
  ok (s.codedBranch l (.bct l r off) r off true)

/-- BCF (R142): the register is consumed as a coded value. -/
def execBcf (l : LaneId) (r : Reg) (off : Half) (s : State) : Host.Outcome State Fault Refusal :=
  ok (s.codedBranch l (.bcf l r off) r off false)

/-- A jump to a target (R142). -/
def State.jump (s : State) (l : LaneId) (i : Instr) (off : BitVec 26) (f : Core → Core) : State :=
  s.begin l i false none fun s =>
    let x := s.lane l
    let target := jumpTarget x.core.pc off
    if !x.fetchable target.toNat then s.trap l 0x03 none target else s.jumpTo l f target

/-- J (R142). -/
def execJ (l : LaneId) (off : BitVec 26) (s : State) : Host.Outcome State Fault Refusal :=
  ok (s.jump l (.j l off) off id)

/-- JAL: the link register g31 is written (R142). -/
def execJal (l : LaneId) (off : BitVec 26) (s : State) : Host.Outcome State Fault Refusal :=
  ok (s.jump l (.jal l off) off (fun c => c.set 31 (c.pc + 4)))

/-- A coded operation that computes a register (R144); under the injection CODED_UNIT its two computations disagree, and
it writes 0 (R463). -/
def State.computeCoded (s : State) (l : LaneId) (i : Instr) (d : Reg) (rs : List Reg) (f : Core → Word) : State :=
  s.begin l i false none fun s => s.sources l rs none fun s =>
    if s.injected 0x03 (some l) then s.fire.finishSet l d 0 else s.finish l (fun c => c.set d (f c))

/-- CAND (R144). -/
def execCand (l : LaneId) (d a b : Reg) (s : State) : Host.Outcome State Fault Refusal :=
  ok (s.computeCoded l (.cand l d a b) d [a, b] fun c => candVal (c.get a) (c.get b))

/-- COR (R144). -/
def execCor (l : LaneId) (d a b : Reg) (s : State) : Host.Outcome State Fault Refusal :=
  ok (s.computeCoded l (.cor l d a b) d [a, b] fun c => corVal (c.get a) (c.get b))

/-- CNOT (R144). -/
def execCnot (l : LaneId) (d a : Reg) (s : State) : Host.Outcome State Fault Refusal :=
  ok (s.computeCoded l (.cnot l d a) d [a] fun c => cnotVal (c.get a))

/-- CSEL: the selected operand is copied unchanged (R144). -/
def execCsel (l : LaneId) (d a b c : Reg) (s : State) : Host.Outcome State Fault Refusal :=
  ok (s.computeCoded l (.csel l d a b c) d [a, b, c] fun k => cselVal (k.get a) (k.get b) (k.get c))

/-- CCHK: an INVALID word traps with its value (R144). -/
def execCchk (l : LaneId) (d a : Reg) (s : State) : Host.Outcome State Fault Refusal :=
  ok (s.begin l (.cchk l d a) false none fun s => s.sources l [a] none fun s =>
    let w := (s.lane l).core.get a
    if !codedValid w then s.trap l 0x05 none w
    else if s.injected 0x03 (some l) then s.fire.finishSet l d 0
    else s.finishSet l d w)

/-- CMK (R144). -/
def execCmk (l : LaneId) (d a : Reg) (s : State) : Host.Outcome State Fault Refusal :=
  ok (s.computeCoded l (.cmk l d a) d [a] fun c => coded (c.get a != 0))

/-- CEQ (R144). -/
def execCeq (l : LaneId) (d a b : Reg) (s : State) : Host.Outcome State Fault Refusal :=
  ok (s.computeCoded l (.ceq l d a b) d [a, b] fun c => coded (c.get a == c.get b))

/-- CLTU (R144). -/
def execCltu (l : LaneId) (d a b : Reg) (s : State) : Host.Outcome State Fault Refusal :=
  ok (s.computeCoded l (.cltu l d a b) d [a, b] fun c => coded ((c.get a).ult (c.get b)))

/-- CVAL: a test that consumes nothing (R144). -/
def execCval (l : LaneId) (d a : Reg) (s : State) : Host.Outcome State Fault Refusal :=
  ok (s.computeCoded l (.cval l d a) d [a] fun c => bit (codedValid (c.get a)))

/-- SYSC: at application level the entry to trap 0x00 with TPC after the instruction; illegal at runtime level
(R146). With INTRAP set it is a double trap (R152). -/
def execSysc (l : LaneId) (imm : Half) (s : State) : Host.Outcome State Fault Refusal :=
  ok (s.begin l (.sysc l imm) false none fun s =>
    let c := (s.lane l).core
    if c.priv then s.trap l 0x01 none (instrWord (.sysc l imm))
    else if c.intrap then s.doubleTrap l
    else s.updCore l (fun c => { c.trapEntry 0x00 false false 0 (zext16 imm) (c.pc + 4) with instret := c.instret + 1 }))

/-- TRET (R146). -/
def execTret (l : LaneId) (s : State) : Host.Outcome State Fault Refusal :=
  ok (s.begin l (.tret l) true none fun s => s.updCore l (fun c => { c.restoreStatus with pc := c.tpc }))

/-- MFCR (R127, R146): at application level STATUS and INSTRET alone; CVCOUNT is cleared by its read. -/
def execMfcr (l : LaneId) (d : Reg) (cr : Fin 32) (s : State) : Host.Outcome State Fault Refusal :=
  ok (s.begin l (.mfcr l d cr) false none fun s =>
    let c := (s.lane l).core
    match c.readCr cr.val with
    | none => s.trap l 0x01 none (instrWord (.mfcr l d cr))
    | some w =>
      if !c.priv && cr.val ≠ 0x00 && cr.val ≠ 0x09 then s.trap l 0x06 none (instrWord (.mfcr l d cr))
      else s.finish l (fun c => (c.afterReadCr cr.val).set d w))

/-- MTCR (R127, R128, R146). -/
def execMtcr (l : LaneId) (cr : Fin 32) (a : Reg) (s : State) : Host.Outcome State Fault Refusal :=
  ok (s.begin l (.mtcr l cr a) false none fun s =>
    let c := (s.lane l).core
    if (c.readCr cr.val).isNone then s.trap l 0x01 none (instrWord (.mtcr l cr a))
    else if !c.priv then s.trap l 0x06 none (instrWord (.mtcr l cr a))
    else s.sources l [a] none fun s => s.finish l (fun c => c.writeCr cr.val (c.get a)))

/-- The events that end WAIT delivered into its register; they are consumed by the WAIT that reports them, but for
MBOX, which follows the channels (R128, R417, log 15). -/
def Core.endWait (c : Core) (d : Reg) : Core :=
  let e := c.events &&& c.evmask
  (({ c with events := c.events &&& ~~~ (e &&& 0xFE), run := .running }).set d (e.setWidth 32)).retire false (c.pc + 4)

/-- WAIT: completes at once with a masked event pending, otherwise the core stalls (R146). -/
def execWait (l : LaneId) (d : Reg) (s : State) : Host.Outcome State Fault Refusal :=
  ok (s.begin l (.wait l d) true none fun s => s.updCore l fun c =>
    if c.events &&& c.evmask = 0 then { c with run := .waiting d } else c.endWait d)

/-- WAIT_END: a stalled WAIT completes once an event that EVMASK admits is pending (R146); in HOLD it counts as an
instruction of the debugger's STEP (R204). -/
def execWaitEnd (l : LaneId) (s : State) : Host.Outcome State Fault Refusal :=
  ok (match (s.lane l).core.run with
    | .waiting d => if (s.lane l).core.events &&& (s.lane l).core.evmask = 0 then s
      else (s.updCore l (·.endWait d)).counted l
    | _ => s)

/-- BRK: trap 0x0B in HOLD, otherwise illegal (R146). -/
def execBrk (l : LaneId) (s : State) : Host.Outcome State Fault Refusal :=
  ok (s.begin l (.brk l) false none fun s =>
    if s.md.mode = .hold then s.trap l 0x0B none (s.lane l).core.pc else s.trap l 0x01 none (instrWord (.brk l)))

/-- HALT: the core stops until the next CO reset (R146). -/
def execHalt (l : LaneId) (s : State) : Host.Outcome State Fault Refusal :=
  ok (s.begin l (.halt l) true none fun s => s.updCore l (fun c => { c with run := .stopped }))

end Sys2Proof.Machine
end

