-- ==== Sys2Proof/Machine/IxloRail.lean ====
section
/-! DEFINITION. The railway extensions of Ixlo (chapter 05) but for the instructions that end or call: process image,
elements, timers, counters, edges, signature, route engine queue, safe links, rule-pack dispatch. -/

namespace Sys2Proof.Machine

/-- A source register of an X-format instruction read: its parity error is taken at the read (R148). -/
def State.readReg (s : State) (l : LaneId) (sub : Nat) (r : Reg) (body : Word → State) : State :=
  s.sources l [r] (some sub) fun s => body ((s.lane l).core.get r)

/-- Bytes of the lane store read by an instruction: a parity error traps with the address of the word (R133). -/
def State.readStore (s : State) (l : LaneId) (sub addr n : Nat) (body : State) : State :=
  match (List.range ((n + 3) / 4)).find? (fun i => (s.lane l).parityBad (addr + 4 * i) (min 4 (n - 4 * i))) with
  | some i => s.trap l 0x04 (some sub) (BitVec.ofNat 32 (addr + 4 * i))
  | none => body

/-- An index beyond its limit traps with bounds; TVAL is the address the index would name (R156). -/
def State.bounds (s : State) (l : LaneId) (sub : Nat) (good : Bool) (addr : Nat) (body : State) : State :=
  if good then body else s.trap l 0x03 (some sub) (BitVec.ofNat 32 addr)

/-- PIN: the agreed input of the header as a coded value (R162). -/
def execPin (l : LaneId) (d a : Reg) (s : State) : Host.Outcome State Fault Refusal :=
  ok (s.begin l (.pin l d a) false (some 0x001) fun s => s.readReg l 0x001 a fun i =>
    let addr := 0x02000020 + i.toNat / 32 * 4
    s.bounds l 0x001 (i.toNat ≤ 65) addr <| s.readStore l 0x001 addr 4 <|
      s.finishSet l d (coded (bitN ((s.lane l).rd32 addr) (i.toNat % 32))))

/-- POUT: one bit of the output image from a consumed coded value, and its feed (R159, R164). -/
def execPout (l : LaneId) (a b : Reg) (s : State) : Host.Outcome State Fault Refusal :=
  ok (s.begin l (.pout l a b) false (some 0x002) fun s => s.readReg l 0x002 a fun i =>
    let addr := 0x02001000 + i.toNat / 32 * 4
    s.bounds l 0x002 (i.toNat ≤ 47) addr <| s.readReg l 0x002 b fun v => s.readStore l 0x002 addr 4 <|
      let on := v == codedTrue
      let s := s.updLane l (fun x => x.wr32 addr (setBit (x.rd32 addr) (i.toNat % 32) on))
      let s := s.feed l (0x50000000 ||| i <<< 8 ||| bit on)
      s.finish l (fun c => if codedValid v then c else c.codedEvent))

/-- Address of a state word of an element, modulo 2^32 (R156). -/
def elWord (a b : Nat) : Nat := (0x02400000 + a * 32 + b * 4) % 2 ^ 32

/-- The part that ELD and EST share: the bounds on element and word, the stall while the engine is busy, the
verification of the element record (R156, R161, R165). -/
def State.element (s : State) (l : LaneId) (i : Instr) (sub : Nat) (a b : Reg) (body : State → Nat → Nat → State) : State :=
  s.readReg l sub a fun e => s.bounds l sub (e.toNat < (s.lane l).engine.cfgElements.toNat) (elWord e.toNat 0) <|
  s.readReg l sub b fun w => s.bounds l sub (w.toNat ≤ 7) (elWord e.toNat w.toNat) <|
  if (s.lane l).engineBusy then s.updCore l (fun c => { c with run := .stalled i })
  else s.readStore l sub (recAddr e.toNat) 64 <|
    if (s.lane l).recordSound e.toNat then body s e.toNat w.toNat
    else s.trap l 0x0E (some sub) (BitVec.ofNat 32 (recAddr e.toNat))

/-- ELD: a word of an element's state entry (R165). -/
def State.eld (s : State) (l : LaneId) (d a b : Reg) : State :=
  s.begin l (.eld l d a b) false (some 0x010) fun s =>
    s.element l (.eld l d a b) 0x010 a b fun s e w =>
      s.readStore l 0x010 (elWord e w) 4 <| s.finishSet l d ((s.lane l).rd32 (elWord e w))

/-- ELD (R165). -/
def execEld (l : LaneId) (d a b : Reg) (s : State) : Host.Outcome State Fault Refusal := ok (s.eld l d a b)

/-- A value that EST may store into a word of an element whose old value is known (R165). -/
def estAllowed (w : Nat) (old v : Word) : Bool :=
  if w = 3 || w = 4 || w = 6 then v == old
  else if w = 5 then fieldN v 2 2 = fieldN old 2 2 && fieldN v 5 3 = 0 && fieldN v 12 20 = 0
  else if w = 7 then fieldN v 16 16 = 0
  else true

/-- EST: a program-owned word of an element's state entry stored after its checks (R165). -/
def State.est (s : State) (l : LaneId) (d a b : Reg) : State :=
  s.begin l (.est l d a b) false (some 0x011) fun s =>
    s.element l (.est l d a b) 0x011 a b fun s e w =>
      let x := s.lane l
      let addr := elWord e w
      if x.core.packStack ≠ [] && x.core.pack ≠ some (x.elemPack e) then
        s.trap l 0x0E (some 0x011) (BitVec.ofNat 32 addr)
      else s.readReg l 0x011 d fun v =>
        if w ≤ 2 && !codedValid v then s.trap l 0x05 (some 0x011) v
        else s.readStore l 0x011 addr 4 <|
          if estAllowed w (x.rd32 addr) v then (s.updLane l (fun x => x.wr32 addr v)).finish l id
          else s.trap l 0x0E (some 0x011) (BitVec.ofNat 32 addr)

/-- EST (R165). -/
def execEst (l : LaneId) (d a b : Reg) (s : State) : Host.Outcome State Fault Refusal := ok (s.est l d a b)

/-- Address of a timer (R156, R166). -/
def timerAddr (t : Nat) : Nat := (0x02F00000 + t * 16) % 2 ^ 32

/-- The STATE word of a timer. -/
def Lane.timerWord (x : Lane) (t : Nat) : Word := x.rd32 (timerAddr t + 0xC)

/-- The timer at which the search from a floor on ends: the lowest that is not RUNNING, an INVALID word being read as
IDLE, or the first whose STATE word has wrong parity (R133, R166, R167). -/
def Lane.idleTimer (x : Lane) (floor : Nat) : Option Nat :=
  (List.range 256).find? (fun t =>
    decide (floor ≤ t) && (x.parityBad (timerAddr t + 0xC) 4 || x.timerWord t != codedTrue))

/-- A timer started at T(n) with a preset (R167). -/
def Lane.startTimer (x : Lane) (t : Nat) (preset : Word) : Lane :=
  let a := timerAddr t
  x.wrWords a [x.rd32 0x02000008, x.rd32 0x0200000C, preset, codedTrue]

/-- Address of T(n) in the process image header (R90). -/
def headerTimeAddr : Nat := 0x02000008

/-- TSTART in its two forms (R167); T(n) is read from the header with its parity (R133). -/
def execTstart (l : LaneId) (d a b : Reg) (s : State) : Host.Outcome State Fault Refusal :=
  ok (s.begin l (.tstart l d a b) false (some 0x020) fun s => s.readReg l 0x020 a fun i =>
    let start (s : State) (t : Nat) : State := s.readReg l 0x020 b fun p =>
      s.readStore l 0x020 headerTimeAddr 8 <|
        (s.updLane l (fun x => x.startTimer t p)).finishSet l d (BitVec.ofNat 32 t)
    let floor := i.toNat % 256
    if i.toNat < 256 then start s i.toNat
    else if i &&& 0xFFFFFF00 = 0x80000000 then
      match (s.lane l).idleTimer floor with
      | none => s.trap l 0x0C (some 0x020) (BitVec.ofNat 32 (timerAddr floor))
      | some t => s.readStore l 0x020 (timerAddr t + 0xC) 4 <|
        start (s.updCore l (fun c => c.codedEvents (invalid1 ((s.lane l).timerWord t)))) t
    else s.trap l 0x03 (some 0x020) (BitVec.ofNat 32 (timerAddr i.toNat)))

/-- TSTOP writes FALSE whatever the word held (R168). -/
def execTstop (l : LaneId) (a : Reg) (s : State) : Host.Outcome State Fault Refusal :=
  ok (s.begin l (.tstop l a) false (some 0x021) fun s => s.readReg l 0x021 a fun i =>
    s.bounds l 0x021 (i.toNat < 256) (timerAddr i.toNat) <|
      (s.updLane l (fun x => x.wr32 (timerAddr i.toNat + 0xC) codedFalse)).finish l id)

/-- Time elapsed on a running timer at T(n), saturating (R113). -/
def Lane.elapsed (x : Lane) (t : Nat) : Nat :=
  let start := (x.rd32 (timerAddr t)).toNat + 2 ^ 32 * (x.rd32 (timerAddr t + 4)).toNat
  min ((x.headerTime + 2 ^ 64 - start) % 2 ^ 64) 0xFFFFFFFF

/-- The part that TREAD and TREAD.X share: the STATE word is consumed, and T(n) of the header is read for a RUNNING timer
(R158, R168). -/
def State.readTimer (s : State) (l : LaneId) (i : Instr) (sub : Nat) (d a : Reg) (idle : Word) (f : Lane → Nat → Word) :
    State :=
  s.begin l i false (some sub) fun s => s.readReg l sub a fun t =>
    s.bounds l sub (t.toNat < 256) (timerAddr t.toNat) <| s.readStore l sub (timerAddr t.toNat) 16 <|
      let x := s.lane l
      let w := x.timerWord t.toNat
      if w = codedTrue then s.readStore l sub headerTimeAddr 8 <| s.finishSet l d (f x t.toNat)
      else (s.updCore l (fun c => c.codedEvents (invalid1 w))).finishSet l d idle

/-- TREAD: the time elapsed, 0 when IDLE (R168). -/
def execTread (l : LaneId) (d a : Reg) (s : State) : Host.Outcome State Fault Refusal :=
  ok (s.readTimer l (.tread l d a) 0x022 d a 0 fun x t => BitVec.ofNat 32 (x.elapsed t))

/-- TREAD.X: whether the timer has expired, as a coded value (R168). -/
def execTreadX (l : LaneId) (d a : Reg) (s : State) : Host.Outcome State Fault Refusal :=
  ok (s.readTimer l (.treadX l d a) 0x023 d a codedFalse fun x t =>
    coded (decide ((x.rd32 (timerAddr t + 8)).toNat ≤ x.elapsed t)))

/-- Address of a counter (R156). -/
def counterAddr (c : Nat) : Nat := (0x02F01000 + c * 4) % 2 ^ 32

/-- CINC: the counter raised by one, saturating (R169). -/
def execCinc (l : LaneId) (d a : Reg) (s : State) : Host.Outcome State Fault Refusal :=
  ok (s.begin l (.cinc l d a) false (some 0x030) fun s => s.readReg l 0x030 a fun i =>
    let addr := counterAddr i.toNat
    s.bounds l 0x030 (i.toNat < 1024) addr <| s.readStore l 0x030 addr 4 <|
      let v := satInc ((s.lane l).rd32 addr)
      (s.updLane l (fun x => x.wr32 addr v)).finishSet l d v)

/-- CRD: the counter read (R169). -/
def execCrd (l : LaneId) (d a : Reg) (s : State) : Host.Outcome State Fault Refusal :=
  ok (s.begin l (.crd l d a) false (some 0x031) fun s => s.readReg l 0x031 a fun i =>
    let addr := counterAddr i.toNat
    s.bounds l 0x031 (i.toNat < 1024) addr <| s.readStore l 0x031 addr 4 <|
      s.finishSet l d ((s.lane l).rd32 addr))

/-- Address of an entry of the edge key index (R156). -/
def keyAddr (k : Nat) : Nat := (0x02F10000 + k * 2) % 2 ^ 32

/-- Address of an edge word (R157). -/
def edgeAddr (w : Nat) : Nat := 0x02F02000 + w * 4

/-- The count of bound edge words (R157). -/
def Lane.edgeBound (x : Lane) : Nat := (x.rd32 0x02F06000).toNat

/-- An unbound key bound to the next unused edge word, which starts PRIMED (R170, R171). -/
def Lane.bindKey (x : Lane) (k : Nat) : Lane :=
  let n := x.edgeBound + 1
  let x := x.wr32 0x02F06000 (BitVec.ofNat 32 n)
  let x := x.wr16 (keyAddr k) (BitVec.ofNat 16 n)
  x.wr32 (edgeAddr (n - 1)) 0

/-- The edge operation on a word (R117, R170): the result, and the number of coded-value events. -/
def edgeResult (up : Bool) (old v : Word) : Bool × Nat :=
  let x := v == codedTrue
  let events := invalid1 v + (if old = 0 then 0 else invalid1 old)
  if !codedValid old then (false, events)
  else (if up then old == codedFalse && x else old == codedTrue && !x, events)

/-- Address of the count of bound edge words (R157). -/
def edgeCountAddr : Nat := 0x02F06000

/-- An unbound key reads the count of bound words (R171), with its parity (R133). -/
def State.readBound (s : State) (l : LaneId) (sub w : Nat) (body : State) : State :=
  if w = 0 then s.readStore l sub edgeCountAddr 4 body else body

/-- EDGEUP and EDGEDN (R171). -/
def State.edge (s : State) (l : LaneId) (i : Instr) (sub : Nat) (up : Bool) (d a b : Reg) : State :=
  s.begin l i false (some sub) fun s => s.readReg l sub a fun k =>
    s.bounds l sub (k.toNat ≤ 65535) (keyAddr k.toNat) <| s.readStore l sub (keyAddr k.toNat) 2 <|
      let w := ((s.lane l).rd16 (keyAddr k.toNat)).toNat
      s.readBound l sub w <|
      if 4096 < w || (w = 0 && 4096 ≤ (s.lane l).edgeBound) then
        s.trap l 0x0D (some sub) (BitVec.ofNat 32 (keyAddr k.toNat))
      else s.readReg l sub b fun v =>
        let s1 := if w = 0 then s.updLane l (fun x => x.bindKey k.toNat) else s
        let e := if w = 0 then (s1.lane l).edgeBound - 1 else w - 1
        s1.readStore l sub (edgeAddr e) 4 <|
          let r := edgeResult up ((s1.lane l).rd32 (edgeAddr e)) v
          let s2 := s1.updLane l (fun x => x.wr32 (edgeAddr e) (coded (v == codedTrue)))
          s2.finish l (fun c => (c.codedEvents r.2).set d (coded r.1))

/-- EDGEUP (R171). -/
def execEdgeup (l : LaneId) (d a b : Reg) (s : State) : Host.Outcome State Fault Refusal :=
  ok (s.edge l (.edgeup l d a b) 0x040 true d a b)

/-- EDGEDN (R171). -/
def execEdgedn (l : LaneId) (d a b : Reg) (s : State) : Host.Outcome State Fault Refusal :=
  ok (s.edge l (.edgedn l d a b) 0x041 false d a b)

/-- SIG: a register fed to the signature (R172). -/
def execSig (l : LaneId) (a : Reg) (s : State) : Host.Outcome State Fault Refusal :=
  ok (s.begin l (.sig l a) false (some 0x050) fun s => s.readReg l 0x050 a fun w => (s.feed l w).finish l id)

/-- The lane puts itself in a RUN request that has not been answered: the request is refused. -/
def State.dropInit (s : State) (l : LaneId) : State :=
  match (s.lane l).cyc.initCalls with
  | some (p :: _) => s.refuseRun l p
  | _ => s

/-- CYCEND (R57, R100, R173). -/
def execCycend (l : LaneId) (s : State) : Host.Outcome State Fault Refusal :=
  ok (s.begin l (.cycend l) false (some 0x051) fun s =>
    if s.md.role = .ixl && s.md.mode ≠ .hold && !(s.lane l).engine.sweepPut then
      (s.updLane l (fun x => x.engErr 8 0)).trap l 0x08 (some 0x051) 0
    else ((s.dropInit l).finish l id).endCycle l)

/-- BUDGET: the time left to the budget limit (R174). -/
def execBudget (l : LaneId) (d : Reg) (s : State) : Host.Outcome State Fault Refusal :=
  ok (s.begin l (.budget l d) false (some 0x052) fun s => s.finishSet l d (s.budgetLeft (s.lane l)))

/-- A kind of R66. -/
def kindValid (k : Nat) : Bool := 1 ≤ k && k ≤ 0x0C

/-- The reserved bits of a request word are 0 (R65, R175). -/
def requestClean (q : Word) : Bool :=
  fieldN q 5 3 = 0 &&
    (if reqKind q = 0x04 then true else if reqKind q = 0x0B then fieldN q 24 2 = 0 else fieldN q 22 4 = 0)

/-- OBJECT is below the count that its kind requires, and 0 for SWEEP (R68, R175). -/
def Lane.objectFits (x : Lane) (q : Word) : Bool :=
  let o := reqObject q
  let k := reqKind q
  if k ≤ 0x07 then o < x.engine.cfgRoutes.toNat
  else if k ≤ 0x0A then o < x.engine.cfgChains.toNat
  else if k = 0x0B then o < x.engine.cfgElements.toNat
  else o = 0

/-- A route engine error with its flag in ROUTE_ERR (R175). -/
def State.engineTrap (s : State) (l : LaneId) (sub bitNo object : Nat) (tval : Word) : State :=
  (s.updLane l (fun x => x.engErr bitNo object)).trap l 0x08 (some sub) tval

/-- The kinds that a CHAIN_ONLY route does not take (R68). -/
def chainOnlyKind (k : Nat) : Bool := k ∈ [0x02, 0x03, 0x05]

/-- RQPUT: the checks of R175, then the request at the tail of the queue. -/
def execRqput (l : LaneId) (a : Reg) (s : State) : Host.Outcome State Fault Refusal :=
  ok (s.begin l (.rqput l a) false (some 0x060) fun s => s.readReg l 0x060 a fun q =>
    let x := s.lane l
    let put (s : State) : State :=
      if 64 ≤ x.engine.queue.length then s.engineTrap l 0x060 0 (reqObject q) q
      else (s.updLane l (fun x => x.eng (fun g => { g with
        queue := g.queue ++ [{ request := q, result := none }]
        sweepPut := g.sweepPut || reqKind q = 0x0C }))).finish l id
    if s.md.role = .oc then s.engineTrap l 0x060 7 (reqObject q) q
    else if !x.engine.enable || !kindValid (reqKind q) || !requestClean q || !x.objectFits q then
      s.engineTrap l 0x060 9 (reqObject q) q
    else if chainOnlyKind (reqKind q) then
      s.readStore l 0x060 (routeAddr (reqObject q)) 4 <|
        if bitN (x.rw (reqObject q) 0) 24 then s.trap l 0x0F (some 0x060) q else put s
    else put s)

/-- RQGET: the oldest result collected and fed; an ERROR result traps after that (R176). -/
def State.rqget (s : State) (l : LaneId) (d : Reg) : State :=
  s.begin l (.rqget l d) false (some 0x061) fun s =>
    if s.md.role = .oc then s.engineTrap l 0x061 7 0 0
    else
      match (s.lane l).engine.queue with
      | [] => s.engineTrap l 0x061 1 0 0
      | e :: rest =>
        match e.result with
        | none => s.updCore l (fun c => { c with run := .stalled (.rqget l d) })
        | some w =>
          let s := (s.updLane l (fun x => x.eng (fun g => { g with queue := rest }))).feed l w
          let s := s.updCore l (fun c => c.set d w)
          if fieldN w 5 3 = 2 then s.trap l 0x08 (some 0x061) w else s.finish l id

/-- RQGET (R176). -/
def execRqget (l : LaneId) (d : Reg) (s : State) : Host.Outcome State Fault Refusal := ok (s.rqget l d)

/-- RWAIT stalls until every request in the queue has completed (R176). -/
def State.rwait (s : State) (l : LaneId) : State :=
  s.begin l (.rwait l) false (some 0x062) fun s =>
    if s.md.role = .oc then s.engineTrap l 0x062 7 0 0
    else if !(s.lane l).engine.enable then s.engineTrap l 0x062 9 0 0
    else if 0 < (s.lane l).pendingCount then s.updCore l (fun c => { c with run := .stalled (.rwait l) })
    else s.finish l id

/-- RWAIT (R176). -/
def execRwait (l : LaneId) (s : State) : Host.Outcome State Fault Refusal := ok (s.rwait l)

/-- The right to load from the lane store; an address beyond it that R130 and R131 would grant is out of bounds (R177,
log 16). -/
def Lane.bufferLoad (x : Lane) (a : Nat) : Right :=
  match x.loadRight x.core.priv true a with
  | .ok => if storeTop ≤ a then .bounds else .ok
  | r => r

/-- The right to store to the lane store; an address beyond it is out of bounds unless R130 names it (R178, log 16). -/
def Lane.bufferStore (x : Lane) (mode a : Nat) : Right :=
  match x.storeRight x.core.priv true mode a with
  | .ok => if storeTop ≤ a then .bounds else .ok
  | r => r

/-- The first address of a list without the right. -/
def firstDenied (f : Nat → Right) : List Nat → Option (Nat × Right)
  | [] => none
  | a :: as => if f a = .ok then firstDenied f as else some (a, f a)

/-- A check that may refuse an address: its trap with the address in TVAL. -/
def State.denied (s : State) (l : LaneId) (sub : Nat) (d : Option (Nat × Right)) (body : State) : State :=
  match d with
  | some (a, r) => s.trap l r.trap (some sub) (BitVec.ofNat 32 a)
  | none => body

/-- A safe-link error: the connection and the reason in TVAL (R177). -/
def State.linkTrap (s : State) (l : LaneId) (sub : Nat) (a : Word) (reason : Nat) : State :=
  s.trap l 0x09 (some sub) (a <<< 16 ||| place reason 0)

/-- SLTX: the checks of R177 in their order, then the PDU staged and fed (R314). -/
def execSltx (l : LaneId) (a b : Reg) (s : State) : Host.Outcome State Fault Refusal :=
  ok (s.begin l (.sltx l a b) false (some 0x070) fun s => s.readReg l 0x070 a fun c =>
    s.bounds l 0x070 (c.toNat ≤ 511) ((stgAddr c.toNat) % 2 ^ 32) <| s.readReg l 0x070 b fun p =>
      let x := s.lane l
      let w := x.rd32 p.toNat
      let n := fieldN w 0 8
      let k := fieldN w 8 8
      if p.toNat % 4 ≠ 0 then s.trap l 0x02 (some 0x070) p
      else s.denied l 0x070 (firstDenied x.bufferLoad [p.toNat]) <| s.readStore l 0x070 p.toNat 4 <|
        if !(x.sl.enable && x.connTx c.toNat) then s.linkTrap l 0x070 c 1
        else if 96 < n then s.linkTrap l 0x070 c 2
        else if !x.kindPermitted c.toNat k then s.linkTrap l 0x070 c 3
        else if x.stgFlag c.toNat 5 then s.linkTrap l 0x070 c 4
        else if fieldN w 16 16 ≠ 0 then s.linkTrap l 0x070 c 5
        else s.denied l 0x070 (firstDenied x.bufferLoad ((List.range n).map (p.toNat + 4 + ·))) <|
          s.readStore l 0x070 (p.toNat + 4) n <|
            let pdu := s.buildPdu x c.toNat k n (x.bytesAt (p.toNat + 4) n)
            let code := leAt pdu (16 + n) 8
            let s := s.updLane l (fun x => x.stage c.toNat pdu)
            let s := ((s.feed l (0x51000000 ||| c)).feed l (BitVec.ofNat 32 code)).feed l
              (BitVec.ofNat 32 (code / 2 ^ 32))
            s.finish l id)

/-- The words of a receive buffer for a PDU (R178). -/
def bufferWords (pdu : List Byte) : List Word :=
  (place (pduLength pdu) 0 ||| place (pduKind pdu) 8) ::
    (List.range 24).map (fun i => BitVec.ofNat 32 (leAt (pduPayload pdu) (4 * i) 4))

/-- SLRX: the network input of a connection delivered into a buffer (R178). -/
def execSlrx (l : LaneId) (d a b : Reg) (s : State) : Host.Outcome State Fault Refusal :=
  ok (s.begin l (.slrx l d a b) false (some 0x071) fun s => s.readReg l 0x071 a fun c =>
    s.bounds l 0x071 (c.toNat ≤ 511) ((stgAddr c.toNat) % 2 ^ 32) <| s.readReg l 0x071 b fun p =>
      let x := s.lane l
      if p.toNat % 4 ≠ 0 then s.trap l 0x02 (some 0x071) p
      else s.denied l 0x071
          (firstDenied (x.bufferStore (s.laneMode l)) ((List.range 25).map (fun i => (p.toNat + 4 * i) % 2 ^ 32))) <|
        if !(x.sl.enable && x.connRx c.toNat) then s.linkTrap l 0x071 c 1
        else
          match s.delivery x c.toNat with
          | some pdu =>
            let s := s.updLane l (fun x => x.wrWords p.toNat (bufferWords pdu))
            let s := (s.feed l (0x52000000 ||| c <<< 1 ||| 1)).feed l (pduSeq pdu)
            s.finishSet l d codedTrue
          | none => (s.feed l (0x52000000 ||| c <<< 1)).finishSet l d codedFalse)

/-- A word of a pack's directory entry read with its parity (R133, R179); a pack above 7 has none. -/
def State.readDir (s : State) (l : LaneId) (p off : Nat) (body : State) : State :=
  if p ≤ 7 then s.readStore l 0x080 (packAddr p + off) 4 body else body

/-- RPCALL: the checks of R179 in their order, then the call. -/
def execRpcall (l : LaneId) (a b : Reg) (s : State) : Host.Outcome State Fault Refusal :=
  ok (s.begin l (.rpcall l a b) false (some 0x080) fun s => s.readReg l 0x080 a fun p =>
    let x := s.lane l
    let dir := (packAddr p.toNat) % 2 ^ 32
    let entries := (x.rd32 (dir + 0x14)).toNat
    s.readDir l p.toNat 0 <| s.bounds l 0x080 (x.packPresent p.toNat) dir <| s.readReg l 0x080 b fun f =>
      s.readDir l p.toNat 0x18 <| s.readDir l p.toNat 0x14 <|
      let slot := (entries + f.toNat * 4) % 2 ^ 32
      s.bounds l 0x080 (f.toNat < fieldN (x.rd32 (dir + 0x18)) 0 8) slot <| s.readStore l 0x080 slot 4 <|
        let target := x.rd32 slot
        if target.toNat % 4 ≠ 0 then s.trap l 0x02 (some 0x080) target
        else if !x.fetchable target.toNat then s.trap l 0x03 (some 0x080) target
        else if 4 ≤ x.core.packStack.length then s.trap l 0x03 (some 0x080) (BitVec.ofNat 32 dir)
        else s.jumpTo l (fun c => { c with
          packStack := (c.pc + 4, c.pack) :: c.packStack, pack := some p.toNat }) target)

/-- The return from an INIT call of the runtime (R119): coded TRUE calls the next pack or accepts the request, and
anything else refuses it; then the application starts. -/
def State.initReturned (s : State) (l : LaneId) (p : Nat) (rest : List Nat) : State :=
  if (s.lane l).core.get 1 = codedTrue then
    match rest with
    | q :: _ => s.updLane l (fun x => ({ x with cyc := { x.cyc with initCalls := some rest } }).enterInit q)
    | [] => s.updLane l (fun x =>
        ({ x with cyc := { x.cyc with initCalls := none, events := x.cyc.events ++ [ModeEvent.restart x.cyc.remote] } }).enterApp)
  else (s.refuseRun l p).updLane l Lane.enterApp

/-- RPRET (R179); with an empty stack it is illegal. -/
def execRpret (l : LaneId) (s : State) : Host.Outcome State Fault Refusal :=
  ok (s.begin l (.rpret l) false (some 0x081) fun s =>
    let x := s.lane l
    match x.core.packStack with
    | [] => s.trap l 0x01 (some 0x081) (instrWord (.rpret l))
    | (ret, p) :: rest =>
      let s := s.jumpTo l (fun c => { c with packStack := rest, pack := p }) ret
      match rest, x.cyc.initCalls with
      | [], some (q :: more) => s.initReturned l q more
      | _, _ => s)

end Sys2Proof.Machine
end

