-- ==== Sys2Proof/Machine/Registers.lean ====
section
/-! DEFINITION. The registers of the lane blocks and of RING as every view reads and writes them (R6, R8, R131, R401), the
reads that latch, and SL_CTRL. The other blocks' registers stand beside their operations. -/

namespace Sys2Proof.Machine

/-- The code of a phase of a resynchronisation (R230). -/
def RsPhase.code : RsPhase → Nat
  | .idle => 0 | .copyM => 1 | .freezeM => 2 | .shadow => 3 | .copyN => 4 | .freezeN => 5 | .rejoin => 6

/-- A lane's part in a resynchronisation (R240): 0 none, 1 donor, 2 fenced, 3 partner, and the peer that it names. -/
def State.resyncRole (s : State) (l : LaneId) : Nat × Nat :=
  if s.resync.phase = .idle then (0, 0)
  else if l = s.resync.lane then (2, s.donor.num)
  else if l = s.donor then (1, s.resync.lane.num)
  else (3, s.resync.lane.num)

/-- LANE_RESYNC (R240). -/
def State.laneResync (s : State) (l : LaneId) : Word :=
  let r := s.resyncRole l
  place s.resync.phase.code 0 ||| place r.1 4 ||| place r.2 8 ||| place (s.resync.attempts.get s.resync.lane) 12

/-- LANE_RESYNC_TIME (R240). -/
def State.resyncTime (s : State) (l : LaneId) : Word :=
  if s.resync.phase = .idle then (s.lane l).blk.resyncTime
  else BitVec.ofNat 32 ((s.tb.nt - s.resync.start).toNat / 10000)

/-- A register of LANE (R239, R240). -/
def State.readLane (s : State) (l : LaneId) (off : Nat) : Word :=
  let x := s.lane l
  let b := x.blk
  match off with
  | 0x000 => 0x00090000
  | 0x004 => place l.num 0
  | 0x008 => place (s.laneMode l) 0 ||| flag b.mirrored 8
  | 0x00C => flag b.layout 0
  | 0x010 => s.laneResync l
  | 0x014 => place (popcount x.store.dirty) 0 ||| place s.resync.round.toNat 16
  | 0x018 => s.resyncTime l
  | 0x01C => place b.resyncDone.toNat 0 ||| place b.resyncFailed.toNat 16
  | 0x020 => flag b.upNext 0 ||| flag b.upPrev 1
  | 0x024 => place b.errNext.toNat 0 ||| place b.errPrev.toNat 16
  | 0x028 => LaneId.list.foldl (fun w k => w ||| flag ((s.lane k).core.run = .stopped) k.num) 0
  | 0x104 => b.dbgAddr
  | 0x108 => b.dbgData
  | 0x10C => flag x.halted 0 ||| flag b.dbgDone 1 ||| flag b.dbgRefused 2 ||| place b.dbgReason.toNat 8
  | _ => 0

/-- A register of TIMEBASE (R110 to R112). -/
def State.readTb (s : State) (l : LaneId) (off : Nat) : Word :=
  let x := s.lane l
  let v := x.tb
  match off with
  | 0x000 => 0x00090001
  | 0x004 => flag s.tb.qualified 0 ||| flag s.tb.clkUnq 1 ||| flag s.tb.synced 2 ||| flag s.ring.listenOnly 3 |||
      flag (s.tb.slewTicks ≠ 0 && s.tb.slewD ≠ 0) 4 ||| flag v.cfgValid 5 ||| place v.phase.code 8
  | 0x008 => place v.tn.toNat 0 ||| place v.km1.toNat 4
  | 0x00C => s.tb.nt.setWidth 32
  | 0x010 => v.ntHi
  | 0x014 => v.ntFrac
  | 0x018 => s.tb.rate
  | 0x01C => s.tb.slew
  | 0x020 => v.cycle.setWidth 32
  | 0x024 => v.cycleHi.setWidth 32
  | 0x028 => v.t0.setWidth 32
  | 0x02C => s.budgetLeft x
  | 0x030 => v.cycendMin
  | 0x034 => v.overrun
  | _ => 0

/-- VOTE_STATUS (R243). -/
def State.voteStatus (s : State) : Word :=
  let bits (v : PerLane Bool) (lo : Nat) : Word := flag v.a lo ||| flag v.b (lo + 1) ||| flag v.c (lo + 2)
  s.md.serving.setWidth 32 ||| bits s.md.fenced 4 ||| bits s.md.lockedOut 8 ||| flag s.inProbation 12 |||
    flag s.md.debugBroken 16 ||| flag s.md.twoKeyFault 17 ||| flag s.md.gateDiff 18

/-- An entry of the fence history (R225, R243). -/
def FenceEntry.word (e : FenceEntry) : Word := e.minute.setWidth 32 ||| flag e.valid 31

/-- A register of VOTE (R242, R243). -/
def State.readVote (s : State) (l : LaneId) (off : Nat) : Word :=
  let v := (s.lane l).vote
  let lo (d : DWord) : Word := d.setWidth 32
  let hi (d : DWord) : Word := (d >>> 32).setWidth 32
  match off with
  | 0x000 => 0x00090003
  | 0x004 => s.voteStatus
  | 0x008 => place v.module.toNat 0 ||| place v.own.toNat 4 ||| place v.cause.toNat 8
  | 0x00C => v.cycle
  | 0x010 => lo v.sigRegs.a
  | 0x014 => hi v.sigRegs.a
  | 0x018 => lo v.sigRegs.b
  | 0x01C => hi v.sigRegs.b
  | 0x020 => lo v.sigRegs.c
  | 0x024 => hi v.sigRegs.c
  | 0x028 => v.view.setWidth 32
  | 0x02C => v.feeds
  | 0x030 => lo v.h
  | 0x034 => hi v.h
  | 0x038 => place v.auditStep.toNat 0 ||| place v.auditPasses.toNat 16
  | 0x03C => v.auditDiff
  | 0x040 => place v.fenceCount.a.toNat 0 ||| place v.fenceCount.b.toNat 8 ||| place v.fenceCount.c.toNat 16
  | 0x050 => s.guard.hist0.a.word
  | 0x054 => s.guard.hist1.a.word
  | 0x058 => s.guard.hist0.b.word
  | 0x05C => s.guard.hist1.b.word
  | 0x060 => s.guard.hist0.c.word
  | 0x064 => s.guard.hist1.c.word
  | _ => 0

/-- Receive connections of a lane in a state, as SL_STATE shows it (R333). -/
def Lane.slCount (x : Lane) (p : Nat → Bool) : Nat :=
  ((List.range 512).filter (fun c => x.connRx c && p (fieldN (vget x.sl.stateReg (c / 16) 0) (2 * (c % 16)) 2))).length

/-- A register of SAFELINK (R332, R333). -/
def State.readSl (s : State) (l : LaneId) (off : Nat) : Word :=
  let x := s.lane l
  let k := x.sl
  match off with
  | 0x000 => 0x00090004
  | 0x004 => flag k.enable 0
  | 0x008 => flag k.cfgOk 0 ||| flag k.enable 1 ||| flag (s.md.role = .split) 2
  | 0x00C => if k.cfgOk then place ((List.range 512).filter x.connRx).length 0 |||
      place ((List.range 512).filter x.connTx).length 16 else 0
  | 0x010 => if k.cfgOk then place (x.slCount (· = 1)) 0 ||| place (x.slCount (fun n => n = 0 || n = 2)) 10 |||
      place (x.slCount (· = 3)) 20 else 0
  | 0x014 => k.err
  | 0x018 => k.errInfo
  | 0x020 => k.accept
  | 0x024 => place k.discCode.toNat 0 ||| place k.discOther.toNat 16
  | 0x028 => place k.discAge.toNat 0 ||| place k.discOld.toNat 16
  | 0x02C => place k.twinOk.toNat 0 ||| place k.twinMissing.toNat 16
  | 0x030 => k.lastDisc
  | _ =>
    if 0x100 ≤ off && off < 0x180 then vget k.stateReg ((off - 0x100) / 4) 0
    else if 0x180 ≤ off && off < 0x1C0 then vget k.newReg ((off - 0x180) / 4) 0
    else 0

/-- VIO_STATUS (R268). CFG_AGREED reads 0 as long as the module is in PRIMING, the reset value of R268, and then shows
the agreement of R266 (log 31). -/
def State.vioStatus (s : State) (x : Lane) : Word :=
  let group (p : Nat → Bool) (lo : Nat) : Word := flag (p 0) lo ||| flag (p 1) (lo + 1) ||| flag (p 2) (lo + 2)
  flag x.vio.qualified 0 ||| flag x.vio.clkUnq 1 ||| flag (s.md.role = .split) 2 ||| flag s.stage.holdOff 3 |||
    group s.groupOn 4 ||| group (fun g => 0 < vget s.stage.vfGood g 0 && !s.stage.vfHeld.getLsbD g) 8 |||
    flag (s.md.mode ≠ .priming && s.cfgAgreed) 12

/-- A register of VIO (R267, R268). -/
def State.readVio (s : State) (l : LaneId) (off : Nat) : Word :=
  let x := s.lane l
  let v := x.vio
  let t := s.stage
  let part {n : Nat} (w : BitVec n) (i : Nat) : Word := (w >>> (32 * i)).setWidth 32
  match off with
  | 0x000 => 0x00090006
  | 0x004 => s.vioStatus x
  | 0x008 => v.cfg
  | 0x00C => part v.raw 0
  | 0x010 => part v.raw 1
  | 0x014 => part v.raw 2
  | 0x018 => part v.agreed 0
  | 0x01C => part v.agreed 1
  | 0x020 => part v.agreed 2 ||| place v.words.toNat 4 ||| flag v.degAgree 8
  | 0x024 => part v.pfail 0
  | 0x028 => part v.pfail 1
  | 0x02C => part v.pfail 2
  | 0x030 => place t.tpOn.toNat 0 ||| place t.tpOff.toNat 8
  | 0x034 => part v.en 0
  | 0x038 => part v.en 1
  | 0x03C => part t.on 0
  | 0x040 => part t.on 1
  | 0x044 => part t.ofault 0
  | 0x048 => part t.ofault 1
  | 0x04C => place t.swLatched.toNat 0 ||| place t.oddLatched.toNat 4 ||| place t.outLatched.toNat 8
  | 0x050 => t.pulseCount
  | 0x054 => t.pulsePostponed
  | 0x058 => t.pulseDiscarded
  | 0x05C => t.tripCount
  | 0x060 => v.disCount
  | _ =>
    if 0x080 ≤ off && off < 0x0A4 then vget v.tpMap ((off - 0x080) / 4) 0
    else if 0x0C0 ≤ off && off < 0x0F0 then vget v.loadMin ((off - 0x0C0) / 4) 0
    else if 0x100 ≤ off && off < 0x118 then
      let m := (off - 0x100) / 4
      (List.range 8).foldl (fun w j => w ||| place (vget t.ocode (8 * m + j) 0).toNat (4 * j)) 0
    else if 0x120 ≤ off && off < 0x12C then place (supplyOf ((off - 0x120) / 4) v.readback) 0
    else if 0x200 ≤ off && off < 0x2C0 then
      let o := (off - 0x200) / 4
      place (voltOf o v.readback) 0 ||| place (currentOf o v.readback) 16
    else 0

/-- BIST_STATUS (R466). -/
def State.bistStatus (s : State) (v : BistView) : Word :=
  let lane := (s.bist.lane.map (fun p => place p.1.num 4 ||| place p.2 8)).getD 0
  flag s.bist.lane.isSome 0 ||| flag s.bist.shared.isSome 1 ||| flag v.rotate 2 ||| flag v.startupDone 3 ||| lane

/-- A register of BIST (R465, R466). -/
def State.readBist (s : State) (l : LaneId) (off : Nat) : Word :=
  let v := (s.lane l).bist
  let part (w : BitVec 48) (i : Nat) : Word := (w >>> (32 * i)).setWidth 32
  match off with
  | 0x000 => 0x0009000A
  | 0x004 => s.bistStatus v
  | 0x008 => flag v.rotate 0
  | 0x00C => place s.bist.p 0 ||| place s.bist.q 8 ||| place s.bist.incP 12 ||| place s.bist.incQ 14
  | 0x010 => v.last
  | 0x014 => v.lastSh
  | 0x018 => v.misr.setWidth 32
  | 0x01C => (v.misr >>> 32).setWidth 32
  | 0x020 => v.time
  | 0x024 => v.pass
  | 0x028 => place v.incomplete.toNat 0 ||| place v.aborted.toNat 16
  | 0x030 => part v.failMap.a 0
  | 0x034 => part v.failMap.a 1
  | 0x038 => part v.failMap.b 0
  | 0x03C => part v.failMap.b 1
  | 0x040 => part v.failMap.c 0
  | 0x044 => part v.failMap.c 1
  | 0x048 => place v.shFail.toNat 0 ||| place s.bist.disabled.toNat 8
  | _ => 0

/-- A register of RESET (R374, R375). -/
def State.readReset (s : State) (off : Nat) : Word :=
  let g := s.guard
  match off with
  | 0x000 => 0x0009000B
  | 0x004 => place g.causeLast.toNat 0 ||| place g.causeLevel.toNat 4 ||| place g.causeLane.toNat 6 ||| place g.seen.toNat 16
  | 0x008 => place g.domainOk.toNat 0 ||| flag g.feedAOk 12 ||| flag g.feedBOk 13 ||| flag g.holdup 14 ||| flag g.ty4 15 |||
      flag g.mrst 16 ||| place g.otpCorrected.toNat 24
  | 0x00C => g.map
  | 0x010 => g.levels
  | 0x014 => g.restarts
  | 0x018 => g.pcycle
  | 0x01C => s.optMs.setWidth 32
  | 0x020 => g.optimeHi
  | 0x024 => place g.feedA.toNat 0 ||| place g.feedB.toNat 16
  | 0x028 => place g.t0.toNat 0 ||| place g.t1.toNat 16
  | 0x02C => place g.sstopOrigin.toNat 0 ||| place g.sstopReason.toNat 16
  | 0x034 => place g.dbg.toNat 0
  | 0x038 => place g.coCount.a.toNat 0 ||| place g.coCount.b.toNat 8 ||| place g.coCount.c.toNat 16
  | _ => 0

/-- The number of the RING view among the blocks of a lane. -/
def ringBlock : Nat := 16

/-- The value of a register of a block whose reads have no place of their own (R6). -/
def State.regValue (s : State) (l : LaneId) (n off : Nat) : Word :=
  match n with
  | 0 => s.readLane l off
  | 1 => s.readTb l off
  | 2 => s.readRoute l off
  | 3 => s.readVote l off
  | 4 => s.readSl l off
  | 5 => s.readCvu l off
  | 6 => s.readVio l off
  | 9 => s.readRec l off
  | 0xA => s.readBist l off
  | 0xB => s.readReset off
  | 0xC => s.readSeal off
  | 0xD => s.readInject off
  | 0xE => s.readMeas l off
  | 16 => s.readRing l off
  | _ => 0

/-- A read of network time latches the high word and the fraction (R112). -/
def State.latchNt (s : State) (l : LaneId) : State :=
  s.updLane l (fun x => { x with tb := { x.tb with ntHi := (s.tb.nt >>> 32).setWidth 32, ntFrac := s.tb.ntf } })

/-- A read of the cycle number latches its high bits (R112). -/
def State.latchCycle (s : State) (l : LaneId) : State :=
  s.updLane l (fun x => { x with tb := { x.tb with cycleHi := (x.tb.cycle >>> 32).setWidth 16 } })

/-- A read of the operating time latches its high bits and the fraction (R375). -/
def State.latchOptime (s : State) : State :=
  { s with guard := { s.guard with optimeHi := s.optFrac ++ (s.optMs >>> 32).setWidth 16 } }

/-- What a read through any view latches (R112, R306, R375). -/
def State.latchRead (s : State) (l : LaneId) (n off : Nat) : State :=
  match n, off with
  | 1, 0x00C => s.latchNt l
  | 1, 0x020 => s.latchCycle l
  | 0xB, 0x01C => s.latchOptime
  | 16, 0x014 => s.afterReadRing l 0x014
  | _, _ => s

/-- What a read through the lane's own view clears (R8). -/
def State.clearRead (s : State) (l : LaneId) (n off : Nat) : State :=
  let stage (f : Stage → Stage) : State := { s with stage := f s.stage }
  match n, off with
  | 0, 0x01C => s.updLane l (fun x => { x with blk := { x.blk with resyncDone := 0, resyncFailed := 0 } })
  | 0, 0x024 => s.updLane l (fun x => { x with blk := { x.blk with errNext := 0, errPrev := 0 } })
  | 1, 0x030 => s.updLane l (fun x => { x with tb := { x.tb with cycendMin := 0xFFFFFFFF } })
  | 1, 0x034 => s.updLane l (fun x => { x with tb := { x.tb with overrun := 0 } })
  | 2, off => s.clearRoute l off
  | 3, 0x040 => s.updLane l (fun x => { x with vote := { x.vote with fenceCount := PerLane.all 0 } })
  | 4, 0x020 => s.updLane l (·.slUpd (fun k => { k with accept := 0 }))
  | 4, 0x024 => s.updLane l (·.slUpd (fun k => { k with discCode := 0, discOther := 0 }))
  | 4, 0x028 => s.updLane l (·.slUpd (fun k => { k with discAge := 0, discOld := 0 }))
  | 4, 0x02C => s.updLane l (·.slUpd (fun k => { k with twinOk := 0, twinMissing := 0 }))
  | 5, off => if off < 0x400 then s.updLane l (fun x => x.updCvu (off / 256) (·.afterRead (off % 256))) else s
  | 6, 0x050 => stage (fun t => { t with pulseCount := 0 })
  | 6, 0x054 => stage (fun t => { t with pulsePostponed := 0 })
  | 6, 0x058 => stage (fun t => { t with pulseDiscarded := 0 })
  | 6, 0x05C => stage (fun t => { t with tripCount := 0 })
  | 6, 0x060 => s.updLane l (fun x => { x with vio := { x.vio with disCount := 0 } })
  | 0xA, 0x024 => s.updLane l (fun x => { x with bist := { x.bist with pass := 0 } })
  | 0xA, 0x028 => s.updLane l (fun x => { x with bist := { x.bist with incomplete := 0, aborted := 0 } })
  | 0xB, 0x038 => { s with guard := { s.guard with coCount := PerLane.all 0 } }
  | 0xC, off => s.clearSeal off
  | 16, off => if off = 0x014 then s else s.afterReadRing l off
  | _, _ => s

/-- A register read through a view, the value in readData (R8, R131, R401). SEAL alone does not exempt the reads of a
service view from clearing (R395). -/
def State.readRegister (s : State) (v : View) (n off : Nat) : State :=
  let l := viewLane v
  if n = 7 then s.mboxRead v off
  else if n = 8 then s.semaBlockRead v off
  else
    let s := if n = 0xE then s.settleMeas l off else s
    let s := { s with readData := s.regValue l n off }
    let s := s.latchRead l n off
    match viewWriter v with
    | some l => s.clearRead l n off
    | none => if n = 0xC then s.clearSeal off else s

/-- SL_CTRL written at runtime level (R331, R333): accepted in LANE_MODE 2; ENABLE is refused before the table has been
verified. -/
def State.slControl (s : State) (l : LaneId) (on : Bool) : State :=
  if s.laneMode l ≠ 2 then s
  else
    s.updLane l fun x => x.slUpd fun k =>
      if on && !k.cfgOk then { k.setErr 0 0 with enable := false } else { k with enable := on }

/-- TB_CYCLE_CFG written at runtime level (R109, R112). -/
def State.cycleConfig (s : State) (l : LaneId) (w : Word) : State :=
  if s.laneMode l ≠ 2 && s.laneMode l ≠ 3 then s
  else
    s.updLane l fun x =>
      if fieldN w 0 2 = 3 then { x with tb := { x.tb with cfgValid := false } }
      else { x with tb := { x.tb with tn := w.setWidth 2, km1 := (w >>> 4).setWidth 4, cfgValid := true } }

/-- A register of VIO written at runtime level in LANE_MODE 2 (R266, R268). -/
def State.writeVio (s : State) (l : LaneId) (off : Nat) (w : Word) : State :=
  if s.laneMode l ≠ 2 then s
  else
    s.updLane l fun x =>
      let v := x.vio
      if off = 0x008 then
        let phase := if fieldN w 0 8 ≤ 199 then w &&& 0xFF else v.cfg &&& 0xFF
        { x with vio := { v with cfg := (w &&& 0xFF00) ||| phase } }
      else if 0x080 ≤ off && off < 0x0A4 then
        let m := (off - 0x080) / 4
        { x with vio := { v with tpMap := vset v.tpMap m (if m = 8 then w &&& 0xFF else w) } }
      else if 0x0C0 ≤ off && off < 0x0F0 then
        { x with vio := { v with loadMin := vset v.loadMin ((off - 0x0C0) / 4) w } }
      else x

/-- RESET_REQ written at runtime level (R373, R375). -/
def State.resetReqWord (s : State) (l : LaneId) (w : Word) : State :=
  if fieldN w 2 6 ≠ 0 then s else s.resetReq l (fieldN w 0 2) ((w >>> 8).setWidth 8) ((w >>> 16).setWidth 16)

/-- LANE_CTRL.LAYOUT written at runtime level: it selects the layout of the store in STARTUP_TEST (R229, R238, R240). -/
def State.laneCtrl (s : State) (l : LaneId) (mirrored : Bool) : State :=
  if s.laneMode l ≠ 2 then s
  else s.updLane l (fun x => { x with blk := { x.blk with layout := mirrored, mirrored := mirrored } })

/-- A register written by the runtime of a lane (R8). -/
def State.runtimeWrite (s : State) (l : LaneId) (n off : Nat) (w : Word) : State :=
  match n, off with
  | 0, 0x00C => s.laneCtrl l (bitN w 0)
  | 1, 0x008 => s.cycleConfig l w
  | 2, off => s.writeRoute l off w
  | 3, 0x070 => s.voteRelease l w
  | 4, 0x004 => s.slControl l (bitN w 0)
  | 4, 0x014 => s.updLane l (·.slUpd (fun k => { k with err := k.err &&& ~~~w }))
  | 5, off => s.cvuWrite (.runtime l) (off / 256) (·.write (off % 256) w)
  | 6, off => s.writeVio l off w
  | 7, off => s.mboxWrite (.runtime l) off w
  | 8, off => s.semaBlockWrite (.runtime l) off w
  | 9, off => s.writeRec l off w
  | 0xA, 0x008 => s.bistCtrl (.runtime l) w
  | 0xB, 0x030 => s.resetReqWord l w
  | 0xE, off => s.writeMeas l off w
  | 16, off => s.writeRing l off w
  | _, _ => s

/-- A register written through a service view: the blocks that grant a write (R238, R401, R422, R467). -/
def State.serviceWrite (s : State) (l : LaneId) (secure : Bool) (n off : Nat) (w : Word) : State :=
  match n, off with
  | 0, 0x100 => s.dbgCommand l w
  | 0, 0x104 => s.dbgPort l w none
  | 0, 0x108 => s.dbgPort l (s.lane l).blk.dbgAddr (some w)
  | 7, off => s.mboxWrite (.service l secure) off w
  | 8, off => s.semaBlockWrite (.service l secure) off w
  | 0xD, off => s.writeInject secure off w
  | _, _ => s

/-- A register written through a view (R8, R131, R401): at application level CVU alone accepts it, any other write traps. -/
def State.writeRegister (s : State) (v : View) (n off addr : Nat) (w : Word) : State :=
  match v with
  | .app l =>
    if n = 5 then (if off < 0x400 then s.cvuWrite (.app l) (off / 256) (·.write (off % 256) w) else s)
    else s.denyWrite v addr
  | .runtime l => if n = 5 && 0x400 ≤ off then s else s.runtimeWrite l n off w
  | .service l secure => s.serviceWrite l secure n off w

/-- The block and the offset that an address names: on a lane's bus, or on the module bus through a service view
(R131, R401). -/
def regPlace (v : View) (a : Nat) : Option (Nat × Nat) :=
  let b := match v with
    | .service l _ => (0xE0000000 + l.num * 0x00100000, 0xE8000000 + l.num * 0x00010000)
    | _ => (0xF0000000, 0xF8000000)
  if a % 4 ≠ 0 then none
  else if b.1 ≤ a && a < b.1 + 0xF000 then some ((a - b.1) / 0x1000, a % 0x1000)
  else if b.2 ≤ a && a < b.2 + 0x10000 then some (ringBlock, a - b.2)
  else none

/-- REGISTER_WRITE (R8). -/
def execRegisterWrite (v : View) (addr w : Word) (s : State) : Host.Outcome State Fault Refusal :=
  ok (match regPlace v addr.toNat with
    | some (n, off) => s.writeRegister v n off addr.toNat w
    | none => s)

/-- SL_CTRL.ENABLE written through a view (R331, R333). -/
def execSlCtrlEnable (v : View) (enable : Bool) (s : State) : Host.Outcome State Fault Refusal :=
  ok (match v with
    | .runtime l => s.slControl l enable
    | v => s.denyWrite v 0xF0004004)

/-- TB_NT_LO read (R112). -/
def execTbNtLo (v : View) (s : State) : Host.Outcome State Fault Refusal := ok (s.readRegister v 1 0x00C)

/-- TB_CYCLE_LO read (R112). -/
def execTbCycleLo (v : View) (s : State) : Host.Outcome State Fault Refusal := ok (s.readRegister v 1 0x020)

/-- RING_NC_LO read (R306). -/
def execRingNcLo (v : View) (s : State) : Host.Outcome State Fault Refusal := ok (s.readRegister v ringBlock 0x014)

/-- RESET_OPTIME_LO read: closed to the application (R373, R375). -/
def execResetOptimeLo (v : View) (s : State) : Host.Outcome State Fault Refusal :=
  ok (match v with
    | .app l => s.denyWrite (.app l) 0xF000B01C
    | v => s.readRegister v 0xB 0x01C)

end Sys2Proof.Machine
end

