-- ==== Sys2Proof/Machine/IxloMem.lean ====
section
/-! DEFINITION. Loads and stores (R130 to R133, R141), the end of a stall on the route engine (R33, R161) and the budget
limit (R98, R153). -/

namespace Sys2Proof.Machine

/-- The view through which a lane's core accesses the blocks. -/
def coreView (priv : Bool) (l : LaneId) : View := if priv then .runtime l else .app l

/-- The value of `n` bytes from an address of the boot ROM. -/
def romValue (a n : Nat) : Nat := leNat ((List.range n).map (fun i => Config.bootRom (a - 0x40000000 + i)))

/-- The engine-owned tables (R32). -/
def engineOwned (a : Nat) : Bool := 0x02400000 ≤ a && a < 0x02500000

/-- A load from a lane block (R131, R345). -/
def State.loadBlock (s : State) (l : LaneId) (d : Reg) (ea : Word) : State :=
  let x := s.lane l
  let v := coreView x.core.priv l
  match regPlace v ea.toNat with
  | none => s
  | some (n, off) =>
    if n = 5 && off < 0x400 && (x.cvuOf (off / 256)).parity then s.trap l 0x04 none ea
    else
      let s := s.readRegister v n off
      s.finishSet l d s.readData

/-- A load that the checks of rights have passed: the block, the boot ROM, the lane store with its parity; from the
engine-owned tables it stalls while the engine is busy (R33, R133). -/
def State.loadFrom (s : State) (l : LaneId) (i : Instr) (d : Reg) (n : Nat) (ea : Word) (f : Nat → Word) : State :=
  let x := s.lane l
  let a := ea.toNat
  if inBlocks a then s.loadBlock l d ea
  else if storeTop ≤ a then s.finishSet l d (f (romValue a n))
  else if engineOwned a && x.engineBusy then s.updCore l (fun c => { c with run := .stalled i })
  else if x.parityBad a n then s.trap l 0x04 none ea
  else s.finishSet l d (f (leNat (x.bytesAt a n)))

/-- A load of `n` bytes: alignment, bounds, privilege, parity in this order (R141). -/
def State.load (s : State) (l : LaneId) (i : Instr) (d a : Reg) (imm : Half) (n : Nat) (f : Nat → Word) : State :=
  s.begin l i false none fun s =>
    let x := s.lane l
    let ea := effAddr (x.core.get a) imm
    if ea.toNat % n ≠ 0 then s.trap l 0x02 none ea
    else
      match x.loadRight x.core.priv (n = 4) ea.toNat with
      | .ok => s.sources l [a] none fun s => s.loadFrom l i d n ea f
      | r => s.trap l r.trap none ea

/-- LB (R141). -/
def State.lb (s : State) (l : LaneId) (d a : Reg) (imm : Half) : State :=
  s.load l (.lb l d a imm) d a imm 1 (fun v => (BitVec.ofNat 8 v).signExtend 32)

/-- LBU (R141). -/
def State.lbu (s : State) (l : LaneId) (d a : Reg) (imm : Half) : State :=
  s.load l (.lbu l d a imm) d a imm 1 (BitVec.ofNat 32)

/-- LH (R141). -/
def State.lh (s : State) (l : LaneId) (d a : Reg) (imm : Half) : State :=
  s.load l (.lh l d a imm) d a imm 2 (fun v => (BitVec.ofNat 16 v).signExtend 32)

/-- LHU (R141). -/
def State.lhu (s : State) (l : LaneId) (d a : Reg) (imm : Half) : State :=
  s.load l (.lhu l d a imm) d a imm 2 (BitVec.ofNat 32)

/-- LW (R141). -/
def State.lw (s : State) (l : LaneId) (d a : Reg) (imm : Half) : State :=
  s.load l (.lw l d a imm) d a imm 4 (BitVec.ofNat 32)

/-- LB as a command (R141). -/
def execLb (l : LaneId) (d a : Reg) (imm : Half) (s : State) : Host.Outcome State Fault Refusal := ok (s.lb l d a imm)

/-- LBU as a command (R141). -/
def execLbu (l : LaneId) (d a : Reg) (imm : Half) (s : State) : Host.Outcome State Fault Refusal := ok (s.lbu l d a imm)

/-- LH as a command (R141). -/
def execLh (l : LaneId) (d a : Reg) (imm : Half) (s : State) : Host.Outcome State Fault Refusal := ok (s.lh l d a imm)

/-- LHU as a command (R141). -/
def execLhu (l : LaneId) (d a : Reg) (imm : Half) (s : State) : Host.Outcome State Fault Refusal := ok (s.lhu l d a imm)

/-- LW as a command (R141). -/
def execLw (l : LaneId) (d a : Reg) (imm : Half) (s : State) : Host.Outcome State Fault Refusal := ok (s.lw l d a imm)

/-- Bytes of a word stored in the lane store by the core: 1, 2 or 4 of them (R133). -/
def Lane.storeSized (x : Lane) (a n : Nat) (w : Word) : Lane :=
  match n with
  | 1 => x.wr8 a (w.setWidth 8)
  | 2 => x.wr16 a (w.setWidth 16)
  | _ => x.wr32 a w

/-- A store to a lane block (R131). -/
def State.storeBlock (s : State) (l : LaneId) (ea w : Word) : State :=
  let v := coreView (s.lane l).core.priv l
  match regPlace v ea.toNat with
  | some (n, off) => s.writeRegister v n off ea.toNat w
  | none => s

/-- A store instruction to a block retires unless what it did there has ended the core's run. -/
def State.retireStore (s : State) (l : LaneId) (c : Core) : State :=
  if (s.lane l).core.run = .running && (s.lane l).core.pc = c.pc then s.finish l id else s

/-- A store that the checks have passed: the instruction retires, then the block or the lane store takes the data. -/
def State.storeTo (s : State) (l : LaneId) (d : Reg) (n : Nat) (ea : Word) : State :=
  let w := (s.lane l).core.get d
  if inBlocks ea.toNat then (s.storeBlock l ea w).retireStore l (s.lane l).core
  else (s.updLane l (fun x => x.storeSized ea.toNat n w)).finish l id

/-- A store of `n` bytes: alignment, bounds, privilege, parity in this order (R141); the injection PRIVILEGE has an
application store checked as a runtime store (R463). -/
def State.store (s : State) (l : LaneId) (i : Instr) (d a : Reg) (imm : Half) (n : Nat) : State :=
  s.begin l i false none fun s =>
    let x := s.lane l
    let ea := effAddr (x.core.get a) imm
    if ea.toNat % n ≠ 0 then s.trap l 0x02 none ea
    else
      match x.storeRight x.core.priv (n = 4) (s.laneMode l) ea.toNat with
      | .ok =>
        if !x.core.priv && s.injected 0x07 (some l) then (s.fire).trap l 0x06 none ea
        else s.sources l [a, d] none fun s => s.storeTo l d n ea
      | r => s.trap l r.trap none ea

/-- SB (R141). -/
def execSb (l : LaneId) (d a : Reg) (imm : Half) (s : State) : Host.Outcome State Fault Refusal :=
  ok (s.store l (.sb l d a imm) d a imm 1)

/-- SH (R141). -/
def execSh (l : LaneId) (d a : Reg) (imm : Half) (s : State) : Host.Outcome State Fault Refusal :=
  ok (s.store l (.sh l d a imm) d a imm 2)

/-- SW (R141). -/
def execSw (l : LaneId) (d a : Reg) (imm : Half) (s : State) : Host.Outcome State Fault Refusal :=
  ok (s.store l (.sw l d a imm) d a imm 4)

/-- What a stalled instruction waits for has come (R33, R161). -/
def Lane.stallOver (x : Lane) : Instr → Bool
  | .rqget _ _ =>
    match x.engine.queue with
    | e :: _ => e.result.isSome
    | [] => true
  | .rwait _ => x.pendingCount = 0
  | _ => !x.engineBusy

/-- A stalled instruction carried out. -/
def State.rerun (s : State) (l : LaneId) (i : Instr) : State :=
  let s := s.updCore l (fun c => { c with run := .running })
  match i with
  | .lb _ d a imm => s.lb l d a imm
  | .lbu _ d a imm => s.lbu l d a imm
  | .lh _ d a imm => s.lh l d a imm
  | .lhu _ d a imm => s.lhu l d a imm
  | .lw _ d a imm => s.lw l d a imm
  | .eld _ d a b => s.eld l d a b
  | .est _ d a b => s.est l d a b
  | .rqget _ d => s.rqget l d
  | .rwait _ => s.rwait l
  | _ => s

/-- ENGINE_STALL_END (R33, R161). -/
def execEngineStallEnd (l : LaneId) (s : State) : Host.Outcome State Fault Refusal :=
  ok (match (s.lane l).core.run with
    | .stalled i => if (s.lane l).stallOver i then s.rerun l i else s
    | _ => s)

/-- The limit ends a stall in WAIT, RQGET and RWAIT; an instruction stalled in a handshake completes first
(R153, R161). -/
def State.limitReached (s : State) (l : LaneId) : State :=
  let c := (s.lane l).core
  match c.run with
  | .running => s.budgetTrap l c.pc
  | .waiting _ => s.budgetTrap l (c.pc + 4)
  | .stalled (.rqget _ _) => s.budgetTrap l (c.pc + 4)
  | .stalled (.rwait _) => s.budgetTrap l (c.pc + 4)
  | .stalled i =>
    let s := (s.engineDrain l).rerun l i
    let c := (s.lane l).core
    if c.run = .running && (s.lane l).tb.phase = .evaluation then s.budgetTrap l c.pc else s
  | _ => s

/-- BUDGET_LIMIT: at t0 + TI - 3.5 ms, or at t0 + 1 ms where an injection has placed it there (R98, R463). -/
def execBudgetLimit (l : LaneId) (s : State) : Host.Outcome State Fault Refusal :=
  ok (if !s.budgetArmed l || !(s.lane l).evaluating then s
    else if s.injected 0x06 (some l) then ((s.fire).advanceTo ((s.lane l).tb.t0.toNat + 100000)).limitReached l
    else (s.advanceTo ((s.lane l).beforeEnd 350000)).limitReached l)

end Sys2Proof.Machine
end

