-- ==== Sys2Proof/Machine/Service.lean ====
section
/-! DEFINITION. The maintenance protocol of the service processor (R409 to R412), the reports of the lanes (R402, R419),
and the designation of the flash slots (R406). -/

namespace Sys2Proof.Machine

/-- A key that may have signed the trust anchor list: the KEY of a program or station image in either slot, or K0 of
the key endorsement (R385, R387, R410). -/
def Svc.listKeys (v : Svc) : List (List Byte) :=
  v.bytes 0x00010000 32 ::
    [v.slotA, v.slotB].flatMap (fun base =>
      [ImageType.program, ImageType.station].map (fun ty => ((v.envelope base ty).drop 0x60).take 32))

/-- Entries of the trust anchor list (R410). -/
def Svc.listCount (v : Svc) : Nat := leAt (v.bytes 0x00018000 4) 0 4

/-- The trust anchor list verifies (R410). -/
def State.listValid (s : State) : Bool :=
  let n := s.svc.listCount
  let b := s.svc.bytes 0x00018000 (4 + 36 * n + 64)
  let m := b.take (4 + 36 * n)
  n ≤ 16 && s.svc.listKeys.any (fun k => s.authorityKey k && Config.ed25519Verify k m (b.drop (4 + 36 * n)))

/-- The permission mask of an anchor in the list (R410). -/
def Svc.anchorMask (v : Svc) (key : BitVec 256) : Option Word :=
  let e (i : Nat) := v.bytes (0x00018004 + 36 * i) 36
  ((List.range v.listCount).find? (fun i => (e i).take 32 == natLe 32 key.toNat)).map
    (fun i => BitVec.ofNat 32 (leAt (e i) 32 4))

/-- The mask that a client with a certificate signed by an anchor is given: the anchor's, or VIEW where no list is
valid (R410). -/
def State.clientMask (s : State) (key : BitVec 256) : Option Word :=
  if s.listValid then s.svc.anchorMask key else some 1

/-- The lowest number of a session that is free. -/
def Svc.freeSession (v : Svc) : Option Nat := (List.range 4).find? (fun i => (vget v.sessions i none).isNone)

/-- A session changed. -/
def State.setSession (s : State) (i : Nat) (k : Option Session) : State :=
  { s with svc := { s.svc with sessions := vset s.svc.sessions i k } }

/-- The session of a number. -/
def State.session (s : State) (i : Nat) : Option Session := vget s.svc.sessions i none

/-- The service processor runs. -/
def State.svcUp (s : State) : Bool := !s.guard.svcHeld

/-- The maintenance port supports a connection: port 50419, TLS 1.3 with one of two cipher suites, x25519 and ed25519;
resumption, pre-shared keys and 0-RTT data are refused (R409). -/
def tlsSupported (h : Handshake) : Bool :=
  h.port.toNat = 50419 && h.version = .tls13 && h.cipher ≠ .other && h.exchange = .x25519 && h.scheme = .ed25519 &&
    !h.resumed && !h.preShared && !h.earlyData

/-- A connection authenticated on both sides (R409, R410); a fifth connection, and a client without a certificate or
whose anchor is not listed, are turned away. -/
def State.connect (s : State) (h : Handshake) (anchor : Option (BitVec 256)) : State :=
  if !s.svcUp || !tlsSupported h then s
  else
    match anchor.bind s.clientMask, s.svc.freeSession with
    | some m, some i =>
      s.setSession i (some { mask := m, control := false, last := s.guard.optime
                             certificate := Config.deviceCertificate, proof := deviceSign h.transcript })
    | _, _ => s

/-- TLS_CONNECT (R409, R410): what the connection uses, and the key that signed the client's certificate directly, none
without a certificate. -/
def execTlsConnect (h : Handshake) (anchor : Option (BitVec 256)) (s : State) : Host.Outcome State Fault Refusal :=
  ok (s.connect h anchor)

/-- A session closed, its control and its quote requests with it (R410). -/
def State.closeSession (s : State) (i : Nat) : State :=
  let s := s.setSession i none
  { s with svc := { s.svc with asked := s.svc.asked.filter (fun q => q.1 ≠ i) } }

/-- SESSION_CLOSE by the client (R410). -/
def execSessionClose (sid : Fin 4) (s : State) : Host.Outcome State Fault Refusal :=
  ok (if s.svcUp then s.closeSession sid.val else s)

/-- SESSION_TIMEOUT: 300 s without traffic have passed (R410). -/
def execSessionTimeout (sid : Fin 4) (s : State) : Host.Outcome State Fault Refusal :=
  ok (match s.svcUp, s.session sid.val with
    | true, some k =>
      let s := s.passTime (k.last + 30000000000 - s.guard.optime)
      s.closeSession sid.val
    | _, _ => s)

/-- What a service requires (R412): its permission bits, and control. -/
structure Needs where
  bits : List Nat
  control : Bool

/-- A session may use a service (R410, R412). -/
def Session.may (k : Session) (n : Needs) : Bool := n.bits.all (fun i => bitN k.mask i) && (!n.control || k.control)

/-- A request of a session (R411): traffic of the session; DENIED without its permission or control; FORMAT where the
body breaks the layout; otherwise what the service does. -/
def State.serve (s : State) (sid : Fin 4) (service : Half) (req : Word) (n : Needs) (format : Bool)
    (act : State → State) : State :=
  match s.svcUp, s.session sid.val with
  | true, some k =>
    let s := s.setSession sid.val (some { k with last := s.guard.optime })
    if !k.may n then s.respond sid.val service req 1 .empty
    else if !format then s.respond sid.val service req 4 .empty
    else act s
  | _, _ => s

/-- STATUS (R412). -/
def execStatus (sid : Fin 4) (req : Word) (s : State) : Host.Outcome State Fault Refusal :=
  ok (s.serve sid 0x0001 req ⟨[0], false⟩ true fun s =>
    let d := s.svc.desig
    s.respond sid.val 0x0001 req 0
      (.status s.md.mode.code s.md.serving (s.readSeal 0x004) d.region d.trial s.svc.verdicts))

/-- Some session holds control (R410). -/
def State.controlled (s : State) : Bool := s.svc.sessions.toList.any (fun k => (k.map (·.control)).getD false)

/-- CONTROL (R410, R412): granted to the first session that asks; returned by the one that holds it. -/
def execControl (sid : Fin 4) (req : Word) (request : Bool) (s : State) : Host.Outcome State Fault Refusal :=
  ok (s.serve sid 0x0002 req ⟨[], false⟩ true fun s =>
    match s.session sid.val with
    | none => s
    | some k =>
      if k.mask &&& 0x3E = 0 || (request && s.controlled && !k.control) || (!request && !k.control) then
        s.respond sid.val 0x0002 req 1 .empty
      else (s.setSession sid.val (some { k with control := request })).respond sid.val 0x0002 req 0 .empty)

/-- A record as 32 bytes, LIVE set (R428, R431). -/
def Rec.bytes (r : Rec) : List Byte :=
  let w0 := r.code.setWidth 32 ||| place r.severity.toNat 16 ||| place r.source.toNat 20 ||| flag r.summary 24 |||
    flag r.pf 25 ||| flag r.app 26 ||| flag r.agreed 27 ||| flag true 31
  let w2 := (r.optime >>> 32).setWidth 32 ||| place r.frac.toNat 16
  [w0, r.optime.setWidth 32, w2, r.pcycle, r.p0, r.p1, r.p2, r.p3].flatMap wordBytes

/-- The key of a record (R432). -/
def Rec.key (r : Rec) : Nat := (r.pcycle.toNat * 2 ^ 48 + r.optime.toNat) * 65536 + r.frac.toNat

/-- The records that a request selects (R447): the log and the volatile buffer in store order. -/
def Recorder.select (r : Recorder) (key skip minSev : Nat) : List Rec :=
  let rs := (r.log ++ r.buffer).filter (fun x => minSev ≤ x.severity.toNat)
  (rs.filter (fun x => x.key = key)).drop skip ++ rs.filter (fun x => key < x.key)

/-- RECORD_READ: reading changes nothing in the recorder (R447). -/
def execRecordRead (sid : Fin 4) (req : Word) (body : List Byte) (s : State) : Host.Outcome State Fault Refusal :=
  ok (s.serve sid 0x0010 req ⟨[0], false⟩ (body.length = 20) fun s =>
    let key := (leAt body 0 4 * 2 ^ 48 + leAt body 4 6) * 65536 + leAt body 10 2
    let sev := leAt body 16 1
    let max := leAt body 18 2
    if 8 ≤ sev || leAt body 17 1 ≠ 0 || max = 0 || 2047 < max then s.respond sid.val 0x0010 req 6 .empty
    else
      let rs := s.recorder.select key (leAt body 12 4) sev
      s.respond sid.val 0x0010 req 0
        (.records (max < rs.length) s.recorder.log.length s.recorder.buffer.length ((rs.take max).map Rec.bytes)))

/-- QUOTE (R392, R393). -/
def execQuote (sid : Fin 4) (req : Word) (nonce : BitVec 256) (s : State) : Host.Outcome State Fault Refusal :=
  ok (s.serve sid 0x0011 req ⟨[0], false⟩ true fun s => s.askQuote sid.val req nonce)

/-- Length of an image's place in a region (R403). -/
def imageSpace : ImageType → Nat
  | .runtime => 0x00400000
  | .program => 0x00800000
  | .station => 0x02000000

/-- The region that an upload writes (R404, R408). -/
def Svc.target (v : Svc) : ImageTarget → Nat
  | .slotB => v.slotB
  | .s1 => 0x08100000
  | .s2 => 0x0B100000

/-- An upload to a target is open (R404, R408). -/
def State.uploadOpen (s : State) (t : ImageTarget) : Bool :=
  if t = .slotB then !s.svc.desig.trial && !s.svc.activating else s.md.role = .split

/-- An image chunk written: the journal of slot B is erased before station data is written (R408). -/
def Svc.upload (v : Svc) (t : ImageTarget) (ty : ImageType) (offset : Nat) (bs : List Byte) : Svc :=
  let base := v.target t
  let v := if ty = .station && t = .slotB then v.erase (base + 0x02C00000) (base + 0x02C40000) else v
  v.put (base + imageOffset ty + offset) bs

/-- A chunk at the head of an envelope leaves a TYPE or LENGTH that breaks R387 (R408): `e` is the envelope with the
chunk written, and a field counts once it is written, by the chunk or before. -/
def headBroken (ty : ImageType) (offset n : Nat) (e : List Byte) : Bool :=
  let given (i : Nat) : Bool := (offset ≤ i && i < offset + n) || leAt e i 1 ≠ 0xFF
  (given 4 && leAt e 4 1 ≠ typeCode ty) ||
    ([8, 9, 10, 11].all given && !(envLength e % 4 = 0 && envLength e ≤ bodyMax ty))

/-- IMAGE_WRITE (R404, R408, R412). -/
def execImageWrite (sid : Fin 4) (req : Word) (t : ImageTarget) (ty : ImageType) (offset : Nat) (bytes : List Byte)
    (s : State) : Host.Outcome State Fault Refusal :=
  ok (s.serve sid 0x0020 req ⟨[4], true⟩ (0 < bytes.length && bytes.length ≤ 65536) fun s =>
    let v := s.svc.upload t ty offset bytes
    if !s.uploadOpen t then s.respond sid.val 0x0020 req 5 .empty
    else if imageSpace ty < offset + bytes.length then s.respond sid.val 0x0020 req 6 .empty
    else if offset < 12 && headBroken ty offset bytes.length (v.bytes (s.svc.target t + imageOffset ty) 192) then
      s.respond sid.val 0x0020 req 5 .empty
    else ({ s with svc := v }).respond sid.val 0x0020 req 0 .empty)

/-- The body of FLASH_DIR_WRITE fits its place: 96 bytes of endorsement, or a list of at most 16 anchors (R403,
R410). -/
def dirFormat (anchors : Bool) (bs : List Byte) : Bool :=
  if anchors then leAt bs 0 4 ≤ 16 && bs.length = 4 + 36 * leAt bs 0 4 + 64 else bs.length = 96

/-- FLASH_DIR_WRITE: the trust anchor list or the key endorsement (R403, R412). -/
def execFlashDirWrite (sid : Fin 4) (req : Word) (anchors : Bool) (bytes : List Byte) (s : State) :
    Host.Outcome State Fault Refusal :=
  ok (s.serve sid 0x0021 req ⟨[4], true⟩ (dirFormat anchors bytes) fun s =>
    let a := if anchors then 0x00018000 else 0x00010000
    ({ s with svc := (s.svc.erase a (a + 0x8000)).put a bytes }).respond sid.val 0x0021 req 0 .empty)

/-- A package written into the staging buffer and armed through the service view (R421). -/
def ChgBuf.stage (c : ChgBuf) (bs : List Byte) : ChgBuf :=
  let word (i : Nat) := BitVec.ofNat 32 (leAt bs (4 * i) 4)
  ((List.range ((bs.length + 3) / 4)).foldl (fun c i => c.write i (word i)) c).control 0x00003C01

/-- PACKAGE_STAGE (R412, R421): FORCE and UNFORCE also need MAINT or DEBUG. -/
def execPackageStage (sid : Fin 4) (req : Word) (bytes : List Byte) (s : State) : Host.Outcome State Fault Refusal :=
  ok (s.serve sid 0x0030 req ⟨[1], true⟩ (0 < bytes.length && bytes.length ≤ 1024) fun s =>
    let mask := ((s.session sid.val).map (·.mask)).getD 0
    if forceKind (pkgKind bytes) && !bitN mask 2 && !bitN mask 3 then s.respond sid.val 0x0030 req 1 .empty
    else
      (s.staged (some sid.val) (s.chg.stage bytes)).respond sid.val 0x0030 req
        (if s.chg.armed || s.chg.busy then 3 else 0) .empty)

/-- A secure command broadcast for a session, whose answer the lanes give (R415, R418). -/
def State.command (s : State) (sid : Nat) (service : Half) (req : Word) (w : Word) : State :=
  let room := s.servingLanes.all (fun k => (s.lane k).mbSec.inq.length + (s.lane k).mbSec.hidden.length < 8)
  let s := s.broadcast .A w
  if room then
    let a : Awaited := { session := sid, service := service, req := req, code := fieldN w 24 8 }
    { s with svc := { s.svc with awaited := some a } }
  else s.respond sid service req 3 .empty

/-- MODE_COMMAND: ENTER_MAINT (R412, R418). -/
def execSvcEnterMaint (sid : Fin 4) (req : Word) (s : State) : Host.Outcome State Fault Refusal :=
  ok (s.serve sid 0x0040 req ⟨[2], true⟩ true fun s => s.command sid.val 0x0040 req 0x01000000)

/-- MODE_COMMAND: LEAVE_MAINT (R412, R418). -/
def execSvcLeaveMaint (sid : Fin 4) (req : Word) (s : State) : Host.Outcome State Fault Refusal :=
  ok (s.serve sid 0x0040 req ⟨[2], true⟩ true fun s => s.command sid.val 0x0040 req 0x02000000)

/-- MODE_COMMAND: FENCE_RELEASE of a lane (R412, R418). -/
def execSvcFenceRelease (sid : Fin 4) (req : Word) (l : LaneId) (s : State) : Host.Outcome State Fault Refusal :=
  ok (s.serve sid 0x0040 req ⟨[2], true⟩ true fun s =>
    s.command sid.val 0x0040 req ((0x04000000 : Word) ||| place l.num 0))

/-- A command of a lane's debug port that a session gives (R204, R412): the port is driven as its registers are, and
the answer tells whether it was refused. -/
def State.laneDebug (s : State) (sid : Nat) (req : Word) (l : LaneId) (cmd addr data : Word) : State :=
  let s := (s.dbgPort l addr (some data)).dbgCommand l cmd
  let b := (s.lane l).blk
  s.respond sid 0x0050 req (if b.dbgRefused then 5 else 0) (.debug (s.readLane l 0x10C) b.dbgData)

/-- What the DEBUG service does (R412): DEBUG_HALT through the lanes, the debug release through MB_SVC_CMD, and the debug
commands of R204. -/
def State.debugService (s : State) (sid : Nat) (req : Word) : DebugRequest → State
  | .halt => s.command sid 0x0050 req 0x03000000
  | .holdRelease => (s.svcCommand 0x0000C301).respond sid 0x0050 req (if s.canRelease then 0 else 5) .empty
  | .lane l cmd addr data => s.laneDebug sid req l cmd addr data

/-- DEBUG (R412, R418). -/
def execSvcDebugHalt (sid : Fin 4) (call : DebugCall) (s : State) : Host.Outcome State Fault Refusal :=
  ok (s.serve sid 0x0050 call.req ⟨[3], true⟩ true fun s => s.debugService sid.val call.req call.ask)

/-- INJECT: INJ_PARAM, then INJ_ARM through the secure service view (R412, R461). -/
def execSvcInject (sid : Fin 4) (req arm param : Word) (s : State) : Host.Outcome State Fault Refusal :=
  ok (s.serve sid 0x0060 req ⟨[2], true⟩ true fun s =>
    let s := s.writeInject true 0x00C param
    let code := if s.injAccepts arm then 0 else 5
    (s.writeInject true 0x008 arm).respond sid.val 0x0060 req code .empty)

/-- A burn commanded through GUARD's OTP controller (R384). -/
def State.doBurn (s : State) : Burn → Option State
  | .generation w0 w1 w2 w3 => s.doBurnGeneration w0 w1 w2 w3 none
  | .retire g => s.doBurnRetire g.val
  | .keySlot k h => s.doBurnKeySlot k.val h none
  | .revoked k => s.doBurnRevoked k.val
  | .svn => s.doBurnSvn

/-- OTP_BURN: OTP and MAINT (R384, R412). -/
def execSvcOtpBurn (sid : Fin 4) (req : Word) (b : Burn) (s : State) : Host.Outcome State Fault Refusal :=
  ok (s.serve sid 0x0070 req ⟨[2, 5], true⟩ true fun s =>
    match s.doBurn b with
    | some t => t.respond sid.val 0x0070 req 0 .empty
    | none => s.respond sid.val 0x0070 req 5 .empty)

/-- The first words that a lane has sent on its secure channel, where they are a report of the kind asked for. -/
def State.reportOf (s : State) (n : Nat) (kind : Word → Bool) (l : LaneId) : Option (List Word) :=
  let q := (s.lane l).mbSec.out
  if n ≤ q.length && (q.head?.map kind).getD false then some (q.take n) else none

/-- Words taken from a lane's secure channel by the service processor (R414). -/
def State.svcTake (s : State) (l : LaneId) : Nat → State
  | 0 => s
  | n + 1 => (s.onChan l .secure (fun c => c.svcTake.2)).svcTake l n

/-- A report (R402): acted on where two lanes have sent the same words; from one lane alone it is recorded and
otherwise ignored. -/
def State.report (s : State) (n : Nat) (kind : Word → Bool) (act : State → List Word → State) : State :=
  if !s.svcUp then s
  else
    let r := s.reportOf n kind
    let same (l : LaneId) := LaneId.list.filter (fun k => (r k).isSome && r k = r l)
    match LaneId.list.find? (fun l => 2 ≤ (same l).length) with
    | some l =>
      let s := (same l).foldl (fun s k => s.svcTake k n) s
      act s ((r l).getD [])
    | none =>
      match LaneId.list.find? (fun l => (r l).isSome) with
      | some l => (s.svcTake l n).recSvc .spReportSingle ((r l).getD [])
      | none => s

/-- The word of a report at an index. -/
def reportWord (ws : List Word) (i : Nat) : Word := ws.getD i 0

/-- A staged package has a KIND and a SEQUENCE. -/
def stagedAs (kind : Nat) (seq : Word) (p : Option Nat × List Byte) : Bool :=
  packageKind p.2 = kind && packageSequence p.2 = seq

/-- A verdict reported to the session that staged the package (R419); a refused package is not kept. DESIGN CHOICE
(log 75): the last verdicts are four. -/
def State.takeVerdict (s : State) (w seq : Word) : State :=
  let this := stagedAs (fieldN w 0 8) seq
  let r : Verdict := { session := (s.svc.packages.find? this).bind (·.1), word := w, seq := seq }
  let v := { s.svc with
    verdicts := (s.svc.verdicts ++ [r]).drop (s.svc.verdicts.length - 3)
    packages := if fieldN w 16 8 = 0 then s.svc.packages else s.svc.packages.eraseP this }
  { s with svc := v }

/-- VERDICT_REPORT: the verdict word and SEQUENCE (R419). -/
def execVerdictReport (s : State) : Host.Outcome State Fault Refusal :=
  ok (s.report 2 (fun w => fieldN w 24 8 = 0x53) fun s ws => s.takeVerdict (reportWord ws 0) (reportWord ws 1))

/-- A package appended to the journal of slot A, the commit word last (R407). -/
def Svc.append (v : Svc) (b : List Byte) : Svc :=
  let i := (v.journal v.slotA).length
  if 256 ≤ i then v
  else
    let a := v.slotA + 0x02C00000 + 1024 * i
    let p := b.take (pkgLength b)
    ((v.erase a (a + 1024)).put a p).put (a + 0x3FC) (natLe 4 0x00090013)

/-- The staged PARAMETER package that has been applied goes to the journal (R407, R419). -/
def State.journalApplied (s : State) (seq : Word) : State :=
  match s.svc.packages.find? (stagedAs 1 seq) with
  | some p =>
    let v := s.svc.append p.2
    { s with svc := { v with packages := v.packages.eraseP (stagedAs 1 seq) } }
  | none => s

/-- APPLIED: the package is appended to the journal (R419). -/
def execApplied (s : State) : Host.Outcome State Fault Refusal :=
  ok (s.report 2 (fun w => fieldN w 24 8 = 0x80) fun s ws => s.journalApplied (reportWord ws 1))

/-- A rewrite of the designation completes: written, read back, and SWAP_DONE broadcast where an exchange waits for it
(R406, R419). -/
def State.finishRewrite (s : State) : State :=
  match s.svc.rewrite with
  | none => s
  | some r =>
    let v := s.svc.rewriteDesig r.region r.trial
    let s := { s with svc := { v with rewrite := none, activating := v.activating && !r.swap } }
    if r.swap then s.broadcast .A 0x06000000 else s

/-- A rewrite of the designation begins: the copy that is not in use is erased (R406). -/
def State.startRewrite (s : State) (r : Rewrite) : State :=
  let i := s.svc.spareCopy
  let v := s.svc.erase (0x8000 * i) (0x8000 * (i + 1))
  { s with svc := { v with rewrite := some r } }

/-- IMAGE_ACTIVATE: the designation is exchanged, the new images on trial, and SWAP_DONE follows (R406, R419). -/
def execImageActivate (s : State) : Host.Outcome State Fault Refusal :=
  ok (s.report 1 (fun w => fieldN w 24 8 = 0x82) fun s _ =>
    let s := s.finishRewrite
    s.startRewrite { region := !s.svc.desig.region, trial := true, swap := true })

/-- TRIAL_END: TRIAL is cleared (R406, R419). -/
def execTrialEnd (s : State) : Host.Outcome State Fault Refusal :=
  ok (s.report 1 (fun w => w = 0x84000000) fun s _ =>
    let s := s.finishRewrite
    s.startRewrite { region := s.svc.desig.region, trial := false, swap := false })

/-- TRIAL_FAILED: the previous designation is restored (R406, R419). -/
def execTrialFailed (s : State) : Host.Outcome State Fault Refusal :=
  ok (s.report 1 (fun w => w = 0x85000000) fun s _ =>
    let s := s.finishRewrite
    s.startRewrite { region := !s.svc.desig.region, trial := false, swap := false })

/-- DESIGNATION_REWRITE: the rewrite under way completes (R406). -/
def execDesignationRewrite (s : State) : Host.Outcome State Fault Refusal :=
  ok (if s.svcUp then s.finishRewrite else s)

/-- The lanes' answer to the command that a session waits for (R411, R418). -/
def State.takeAnswer (s : State) (w : Word) : State :=
  let s := { s with svc := { s.svc with answer := w } }
  match s.svc.awaited with
  | some a =>
    if a.code = fieldN w 8 8 then
      ({ s with svc := { s.svc with awaited := none } }).respond a.session a.service a.req
        (if fieldN w 0 8 = 0 then 0 else 5) .empty
    else s
  | none => s

/-- COMMAND_ANSWER (R418, R419). -/
def execCommandAnswer (s : State) : Host.Outcome State Fault Refusal :=
  ok (s.report 1 (fun w => fieldN w 24 8 = 0x83) fun s ws => s.takeAnswer (reportWord ws 0))

end Sys2Proof.Machine
end

