-- ==== Sys2Proof/Machine/Dispatch.lean ====
section
/-! DEFINITION. One arm for each command: a direct call of its meaning. -/

namespace Sys2Proof.Machine

/-- The effect of a command on everything but the queue. -/
def exec (i : Instr) (s : State) : Host.Outcome State Fault Refusal :=
  match i with
  | .add l d a b => Sys2Proof.Machine.execAdd l d a b s
  | .sub l d a b => Sys2Proof.Machine.execSub l d a b s
  | .and l d a b => Sys2Proof.Machine.execAnd l d a b s
  | .or l d a b => Sys2Proof.Machine.execOr l d a b s
  | .xor l d a b => Sys2Proof.Machine.execXor l d a b s
  | .andn l d a b => Sys2Proof.Machine.execAndn l d a b s
  | .sll l d a b => Sys2Proof.Machine.execSll l d a b s
  | .srl l d a b => Sys2Proof.Machine.execSrl l d a b s
  | .sra l d a b => Sys2Proof.Machine.execSra l d a b s
  | .slt l d a b => Sys2Proof.Machine.execSlt l d a b s
  | .sltu l d a b => Sys2Proof.Machine.execSltu l d a b s
  | .seq l d a b => Sys2Proof.Machine.execSeq l d a b s
  | .slli l d a sh => Sys2Proof.Machine.execSlli l d a sh s
  | .srli l d a sh => Sys2Proof.Machine.execSrli l d a sh s
  | .srai l d a sh => Sys2Proof.Machine.execSrai l d a sh s
  | .mul l d a b => Sys2Proof.Machine.execMul l d a b s
  | .mulh l d a b => Sys2Proof.Machine.execMulh l d a b s
  | .mulhu l d a b => Sys2Proof.Machine.execMulhu l d a b s
  | .div l d a b => Sys2Proof.Machine.execDiv l d a b s
  | .divu l d a b => Sys2Proof.Machine.execDivu l d a b s
  | .rem l d a b => Sys2Proof.Machine.execRem l d a b s
  | .remu l d a b => Sys2Proof.Machine.execRemu l d a b s
  | .clz l d a => Sys2Proof.Machine.execClz l d a s
  | .ctz l d a => Sys2Proof.Machine.execCtz l d a s
  | .popc l d a => Sys2Proof.Machine.execPopc l d a s
  | .bswap l d a => Sys2Proof.Machine.execBswap l d a s
  | .jalr l d a => Sys2Proof.Machine.execJalr l d a s
  | .extu l d a pos wm1 => Sys2Proof.Machine.execExtu l d a pos wm1 s
  | .exts l d a pos wm1 => Sys2Proof.Machine.execExts l d a pos wm1 s
  | .ins l d a pos wm1 => Sys2Proof.Machine.execIns l d a pos wm1 s
  | .addi l d a imm => Sys2Proof.Machine.execAddi l d a imm s
  | .andi l d a imm => Sys2Proof.Machine.execAndi l d a imm s
  | .ori l d a imm => Sys2Proof.Machine.execOri l d a imm s
  | .xori l d a imm => Sys2Proof.Machine.execXori l d a imm s
  | .slti l d a imm => Sys2Proof.Machine.execSlti l d a imm s
  | .sltiu l d a imm => Sys2Proof.Machine.execSltiu l d a imm s
  | .lui l d imm => Sys2Proof.Machine.execLui l d imm s
  | .lb l d a imm => Sys2Proof.Machine.execLb l d a imm s
  | .lbu l d a imm => Sys2Proof.Machine.execLbu l d a imm s
  | .lh l d a imm => Sys2Proof.Machine.execLh l d a imm s
  | .lhu l d a imm => Sys2Proof.Machine.execLhu l d a imm s
  | .lw l d a imm => Sys2Proof.Machine.execLw l d a imm s
  | .sb l d a imm => Sys2Proof.Machine.execSb l d a imm s
  | .sh l d a imm => Sys2Proof.Machine.execSh l d a imm s
  | .sw l d a imm => Sys2Proof.Machine.execSw l d a imm s
  | .beq l r t off => Sys2Proof.Machine.execBeq l r t off s
  | .bne l r t off => Sys2Proof.Machine.execBne l r t off s
  | .blt l r t off => Sys2Proof.Machine.execBlt l r t off s
  | .bge l r t off => Sys2Proof.Machine.execBge l r t off s
  | .bltu l r t off => Sys2Proof.Machine.execBltu l r t off s
  | .bgeu l r t off => Sys2Proof.Machine.execBgeu l r t off s
  | .bct l r off => Sys2Proof.Machine.execBct l r off s
  | .bcf l r off => Sys2Proof.Machine.execBcf l r off s
  | .j l off => Sys2Proof.Machine.execJ l off s
  | .jal l off => Sys2Proof.Machine.execJal l off s
  | .cand l d a b => Sys2Proof.Machine.execCand l d a b s
  | .cor l d a b => Sys2Proof.Machine.execCor l d a b s
  | .cnot l d a => Sys2Proof.Machine.execCnot l d a s
  | .csel l d a b c => Sys2Proof.Machine.execCsel l d a b c s
  | .cchk l d a => Sys2Proof.Machine.execCchk l d a s
  | .cmk l d a => Sys2Proof.Machine.execCmk l d a s
  | .ceq l d a b => Sys2Proof.Machine.execCeq l d a b s
  | .cltu l d a b => Sys2Proof.Machine.execCltu l d a b s
  | .cval l d a => Sys2Proof.Machine.execCval l d a s
  | .sysc l imm => Sys2Proof.Machine.execSysc l imm s
  | .tret l => Sys2Proof.Machine.execTret l s
  | .mfcr l d cr => Sys2Proof.Machine.execMfcr l d cr s
  | .mtcr l cr a => Sys2Proof.Machine.execMtcr l cr a s
  | .wait l d => Sys2Proof.Machine.execWait l d s
  | .waitEnd l => Sys2Proof.Machine.execWaitEnd l s
  | .brk l => Sys2Proof.Machine.execBrk l s
  | .halt l => Sys2Proof.Machine.execHalt l s
  | .pin l d a => Sys2Proof.Machine.execPin l d a s
  | .pout l a b => Sys2Proof.Machine.execPout l a b s
  | .eld l d a b => Sys2Proof.Machine.execEld l d a b s
  | .est l d a b => Sys2Proof.Machine.execEst l d a b s
  | .engineStallEnd l => Sys2Proof.Machine.execEngineStallEnd l s
  | .tstart l d a b => Sys2Proof.Machine.execTstart l d a b s
  | .tstop l a => Sys2Proof.Machine.execTstop l a s
  | .tread l d a => Sys2Proof.Machine.execTread l d a s
  | .treadX l d a => Sys2Proof.Machine.execTreadX l d a s
  | .cinc l d a => Sys2Proof.Machine.execCinc l d a s
  | .crd l d a => Sys2Proof.Machine.execCrd l d a s
  | .edgeup l d a b => Sys2Proof.Machine.execEdgeup l d a b s
  | .edgedn l d a b => Sys2Proof.Machine.execEdgedn l d a b s
  | .sig l a => Sys2Proof.Machine.execSig l a s
  | .cycend l => Sys2Proof.Machine.execCycend l s
  | .budget l d => Sys2Proof.Machine.execBudget l d s
  | .rqput l a => Sys2Proof.Machine.execRqput l a s
  | .rqget l d => Sys2Proof.Machine.execRqget l d s
  | .rwait l => Sys2Proof.Machine.execRwait l s
  | .sltx l a b => Sys2Proof.Machine.execSltx l a b s
  | .slrx l d a b => Sys2Proof.Machine.execSlrx l d a b s
  | .rpcall l a b => Sys2Proof.Machine.execRpcall l a b s
  | .rpret l => Sys2Proof.Machine.execRpret l s
  | .budgetLimit l => Sys2Proof.Machine.execBudgetLimit l s
  | .check l => Sys2Proof.Machine.execCheck l s
  | .set l => Sys2Proof.Machine.execSet l s
  | .cancel l => Sys2Proof.Machine.execCancel l s
  | .releaseSegment l => Sys2Proof.Machine.execReleaseSegment l s
  | .release l => Sys2Proof.Machine.execRelease l s
  | .block l => Sys2Proof.Machine.execBlock l s
  | .unblock l => Sys2Proof.Machine.execUnblock l s
  | .chainSet l => Sys2Proof.Machine.execChainSet l s
  | .chainCancel l => Sys2Proof.Machine.execChainCancel l s
  | .chainRelease l => Sys2Proof.Machine.execChainRelease l s
  | .move l => Sys2Proof.Machine.execMove l s
  | .sweep l => Sys2Proof.Machine.execSweep l s
  | .chainRollback l chain => Sys2Proof.Machine.execChainRollback l chain s
  | .routeEnable v enable => Sys2Proof.Machine.execRouteEnable v enable s
  | .routeInit v => Sys2Proof.Machine.execRouteInit v s
  | .routeInitDone l => Sys2Proof.Machine.execRouteInitDone l s
  | .qclear v => Sys2Proof.Machine.execQclear v s
  | .cycleStart => Sys2Proof.Machine.execCycleStart s
  | .localCycleStart => Sys2Proof.Machine.execLocalCycleStart s
  | .inputMessage dst m => Sys2Proof.Machine.execInputMessage dst m s
  | .inputAgreementEnd => Sys2Proof.Machine.execInputAgreementEnd s
  | .inputDisagreementLimit l input => Sys2Proof.Machine.execInputDisagreementLimit l input s
  | .supervisionTimeout l conn => Sys2Proof.Machine.execSupervisionTimeout l conn s
  | .lostConnectionForgotten l conn => Sys2Proof.Machine.execLostConnectionForgotten l conn s
  | .twinMissing l conn => Sys2Proof.Machine.execTwinMissing l conn s
  | .signatureMessage dst m => Sys2Proof.Machine.execSignatureMessage dst m s
  | .signatureRoundClose => Sys2Proof.Machine.execSignatureRoundClose s
  | .viewMessage dst m => Sys2Proof.Machine.execViewMessage dst m s
  | .viewRoundClose => Sys2Proof.Machine.execViewRoundClose s
  | .voteDeadline => Sys2Proof.Machine.execVoteDeadline s
  | .twoKeyCompare => Sys2Proof.Machine.execTwoKeyCompare s
  | .gapAbandon => Sys2Proof.Machine.execGapAbandon s
  | .outputCut => Sys2Proof.Machine.execOutputCut s
  | .auditReadComplete l => Sys2Proof.Machine.execAuditReadComplete l s
  | .auditMessage dst m => Sys2Proof.Machine.execAuditMessage dst m s
  | .controlMessage dst m => Sys2Proof.Machine.execControlMessage dst m s
  | .copyMessage page m => Sys2Proof.Machine.execCopyMessage page m s
  | .copyPassComplete => Sys2Proof.Machine.execCopyPassComplete s
  | .freeze => Sys2Proof.Machine.execFreeze s
  | .freezeComplete => Sys2Proof.Machine.execFreezeComplete s
  | .resyncFailed => Sys2Proof.Machine.execResyncFailed s
  | .probationEnd => Sys2Proof.Machine.execProbationEnd s
  | .outputEvaluation a b c => Sys2Proof.Machine.execOutputEvaluation a b c s
  | .openLoad o => Sys2Proof.Machine.execOpenLoad o s
  | .tripped o r => Sys2Proof.Machine.execTripped o r s
  | .backfeed o => Sys2Proof.Machine.execBackfeed o s
  | .vfRange g => Sys2Proof.Machine.execVfRange g s
  | .vfRangeClear g => Sys2Proof.Machine.execVfRangeClear g s
  | .laneSwitchFault l o => Sys2Proof.Machine.execLaneSwitchFault l o s
  | .senseOdd l => Sys2Proof.Machine.execSenseOdd l s
  | .senseOddCause l => Sys2Proof.Machine.execSenseOddCause l s
  | .offPulse => Sys2Proof.Machine.execOffPulse s
  | .offPulseEnd a b c => Sys2Proof.Machine.execOffPulseEnd a b c s
  | .testPulse source a b c => Sys2Proof.Machine.execTestPulse source a b c s
  | .tpStuck source r => Sys2Proof.Machine.execTpStuck source r s
  | .restartRequest => Sys2Proof.Machine.execRestartRequest s
  | .resetReqSy l key reason => Sys2Proof.Machine.execResetReqSy l key reason s
  | .resetReqSafeStop l key reason => Sys2Proof.Machine.execResetReqSafeStop l key reason s
  | .syReset => Sys2Proof.Machine.execSyReset s
  | .poReset => Sys2Proof.Machine.execPoReset s
  | .powerGood bus us => Sys2Proof.Machine.execPowerGood bus us s
  | .brownOut => Sys2Proof.Machine.execBrownOut s
  | .supplyLow bus us => Sys2Proof.Machine.execSupplyLow bus us s
  | .powerFail bus us => Sys2Proof.Machine.execPowerFail bus us s
  | .powerFailEnd => Sys2Proof.Machine.execPowerFailEnd s
  | .supplyHigh bus us => Sys2Proof.Machine.execSupplyHigh bus us s
  | .feedLoss f volt other us => Sys2Proof.Machine.execFeedLoss f volt other us s
  | .overtemperature sensor t ms => Sys2Proof.Machine.execOvertemperature sensor t ms s
  | .tempSensorDiff t0 t1 ms => Sys2Proof.Machine.execTempSensorDiff t0 t1 ms s
  | .railFault pd => Sys2Proof.Machine.execRailFault pd s
  | .domainUp pd => Sys2Proof.Machine.execDomainUp pd s
  | .domainFail pd => Sys2Proof.Machine.execDomainFail pd s
  | .domainRetry => Sys2Proof.Machine.execDomainRetry s
  | .holdupReady ready => Sys2Proof.Machine.execHoldupReady ready s
  | .holdupNotReady => Sys2Proof.Machine.execHoldupNotReady s
  | .primingComplete switches otp => Sys2Proof.Machine.execPrimingComplete switches otp s
  | .primingDelay => Sys2Proof.Machine.execPrimingDelay s
  | .mrstN ns => Sys2Proof.Machine.execMrstN ns s
  | .mrstRelease => Sys2Proof.Machine.execMrstRelease s
  | .clockQualified c => Sys2Proof.Machine.execClockQualified c s
  | .clkLoss c => Sys2Proof.Machine.execClkLoss c s
  | .clkNotQualified => Sys2Proof.Machine.execClkNotQualified s
  | .earlyClockRelease c session => Sys2Proof.Machine.execEarlyClockRelease c session s
  | .optimeSave => Sys2Proof.Machine.execOptimeSave s
  | .startupTestDone a b c => Sys2Proof.Machine.execStartupTestDone a b c s
  | .sealReading r => Sys2Proof.Machine.execSealReading r s
  | .sealReread r => Sys2Proof.Machine.execSealReread r s
  | .burnGeneration w0 w1 w2 w3 => Sys2Proof.Machine.execBurnGeneration w0 w1 w2 w3 s
  | .burnRetire g => Sys2Proof.Machine.execBurnRetire g s
  | .burnKeySlot slot hash => Sys2Proof.Machine.execBurnKeySlot slot hash s
  | .burnRevoked slot => Sys2Proof.Machine.execBurnRevoked slot s
  | .burnSvn => Sys2Proof.Machine.execBurnSvn s
  | .measCtrl v w => Sys2Proof.Machine.execMeasCtrl v w s
  | .measExtensionDone l => Sys2Proof.Machine.execMeasExtensionDone l s
  | .frameArrival p bytes ns => Sys2Proof.Machine.execFrameArrival p bytes ns s
  | .guardianOverrun p source => Sys2Proof.Machine.execGuardianOverrun p source s
  | .ownSlotStart slot runningX runningY => Sys2Proof.Machine.execOwnSlotStart slot runningX runningY s
  | .networkCycleBoundary => Sys2Proof.Machine.execNetworkCycleBoundary s
  | .invarRateUpdate => Sys2Proof.Machine.execInvarRateUpdate s
  | .invarListenOnly => Sys2Proof.Machine.execInvarListenOnly s
  | .invarNoRejoin => Sys2Proof.Machine.execInvarNoRejoin s
  | .probeRequest p => Sys2Proof.Machine.execProbeRequest p s
  | .probeArrival p bytes roundTrip => Sys2Proof.Machine.execProbeArrival p bytes roundTrip s
  | .linkDelayMeasured p => Sys2Proof.Machine.execLinkDelayMeasured p s
  | .lossOfSignal p => Sys2Proof.Machine.execLossOfSignal p s
  | .linkFault p cause => Sys2Proof.Machine.execLinkFault p cause s
  | .linkStable p => Sys2Proof.Machine.execLinkStable p s
  | .restoreCycle => Sys2Proof.Machine.execRestoreCycle s
  | .restoreLapse p => Sys2Proof.Machine.execRestoreLapse p s
  | .coldStart => Sys2Proof.Machine.execColdStart s
  | .coldPhaseEnd => Sys2Proof.Machine.execColdPhaseEnd s
  | .commit v => Sys2Proof.Machine.execCommit v s
  | .slCtrlEnable v enable => Sys2Proof.Machine.execSlCtrlEnable v enable s
  | .parameter => Sys2Proof.Machine.execParameter s
  | .stop => Sys2Proof.Machine.execStop s
  | .activate => Sys2Proof.Machine.execActivate s
  | .force => Sys2Proof.Machine.execForce s
  | .unforce => Sys2Proof.Machine.execUnforce s
  | .imageSwapTimeout => Sys2Proof.Machine.execImageSwapTimeout s
  | .enterMaint => Sys2Proof.Machine.execEnterMaint s
  | .leaveMaint => Sys2Proof.Machine.execLeaveMaint s
  | .debugHalt => Sys2Proof.Machine.execDebugHalt s
  | .fenceRelease l => Sys2Proof.Machine.execFenceRelease l s
  | .swapDone => Sys2Proof.Machine.execSwapDone s
  | .voteRelease l w => Sys2Proof.Machine.execVoteRelease l w s
  | .holdRelease v w => Sys2Proof.Machine.execHoldRelease v w s
  | .laneDbgHalt l => Sys2Proof.Machine.execLaneDbgHalt l s
  | .resume l => Sys2Proof.Machine.execResume l s
  | .step l n => Sys2Proof.Machine.execStep l n s
  | .nextCycle l => Sys2Proof.Machine.execNextCycle l s
  | .readReg l addr => Sys2Proof.Machine.execReadReg l addr s
  | .writeReg l addr data => Sys2Proof.Machine.execWriteReg l addr data s
  | .readCr l addr => Sys2Proof.Machine.execReadCr l addr s
  | .writeCr l addr data => Sys2Proof.Machine.execWriteCr l addr data s
  | .readMem l addr => Sys2Proof.Machine.execReadMem l addr s
  | .writeMem l addr data => Sys2Proof.Machine.execWriteMem l addr data s
  | .setBrk l addr => Sys2Proof.Machine.execSetBrk l addr s
  | .clearBrk l addr => Sys2Proof.Machine.execClearBrk l addr s
  | .mbOut v ch w => Sys2Proof.Machine.execMbOut v ch w s
  | .mbIn v ch => Sys2Proof.Machine.execMbIn v ch s
  | .mbDbOut v ch w => Sys2Proof.Machine.execMbDbOut v ch w s
  | .emptyWait v ch => Sys2Proof.Machine.execEmptyWait v ch s
  | .mailboxStall l ch => Sys2Proof.Machine.execMailboxStall l ch s
  | .mbBcast v w => Sys2Proof.Machine.execMbBcast v w s
  | .mbBcastDb v w => Sys2Proof.Machine.execMbBcastDb v w s
  | .chgArm v key => Sys2Proof.Machine.execChgArm v key s
  | .chgDisarm v key => Sys2Proof.Machine.execChgDisarm v key s
  | .semaAcquire v n => Sys2Proof.Machine.execSemaAcquire v n s
  | .semaRelease v n w => Sys2Proof.Machine.execSemaRelease v n w s
  | .serviceProcessorReset => Sys2Proof.Machine.execServiceProcessorReset s
  | .tlsConnect h anchor => Sys2Proof.Machine.execTlsConnect h anchor s
  | .sessionTimeout sid => Sys2Proof.Machine.execSessionTimeout sid s
  | .status sid req => Sys2Proof.Machine.execStatus sid req s
  | .control sid req request => Sys2Proof.Machine.execControl sid req request s
  | .recordRead sid req body => Sys2Proof.Machine.execRecordRead sid req body s
  | .quote sid req nonce => Sys2Proof.Machine.execQuote sid req nonce s
  | .imageWrite sid req t ty offset bytes => Sys2Proof.Machine.execImageWrite sid req t ty offset bytes s
  | .flashDirWrite sid req anchors bytes => Sys2Proof.Machine.execFlashDirWrite sid req anchors bytes s
  | .packageStage sid req bytes => Sys2Proof.Machine.execPackageStage sid req bytes s
  | .svcEnterMaint sid req => Sys2Proof.Machine.execSvcEnterMaint sid req s
  | .svcLeaveMaint sid req => Sys2Proof.Machine.execSvcLeaveMaint sid req s
  | .svcFenceRelease sid req l => Sys2Proof.Machine.execSvcFenceRelease sid req l s
  | .svcDebugHalt sid call => Sys2Proof.Machine.execSvcDebugHalt sid call s
  | .svcInject sid req arm param => Sys2Proof.Machine.execSvcInject sid req arm param s
  | .svcOtpBurn sid req b => Sys2Proof.Machine.execSvcOtpBurn sid req b s
  | .verdictReport => Sys2Proof.Machine.execVerdictReport s
  | .applied => Sys2Proof.Machine.execApplied s
  | .imageActivate => Sys2Proof.Machine.execImageActivate s
  | .designationRewrite => Sys2Proof.Machine.execDesignationRewrite s
  | .trialEnd => Sys2Proof.Machine.execTrialEnd s
  | .trialFailed => Sys2Proof.Machine.execTrialFailed s
  | .commandAnswer => Sys2Proof.Machine.execCommandAnswer s
  | .cvuStart v u => Sys2Proof.Machine.execCvuStart v u s
  | .cvuFinish v u => Sys2Proof.Machine.execCvuFinish v u s
  | .cvuAbort v u => Sys2Proof.Machine.execCvuAbort v u s
  | .feed8 v u w => Sys2Proof.Machine.execFeed8 v u w s
  | .feed16 v u w => Sys2Proof.Machine.execFeed16 v u w s
  | .feed32 v u w => Sys2Proof.Machine.execFeed32 v u w s
  | .cvuValue v u high w => Sys2Proof.Machine.execCvuValue v u high w s
  | .cvuCount v u w => Sys2Proof.Machine.execCvuCount v u w s
  | .cvuStrip v u high w => Sys2Proof.Machine.execCvuStrip v u high w s
  | .cvuResult v u out high => Sys2Proof.Machine.execCvuResult v u out high s
  | .tbNtLo v => Sys2Proof.Machine.execTbNtLo v s
  | .tbCycleLo v => Sys2Proof.Machine.execTbCycleLo v s
  | .ringNcLo v => Sys2Proof.Machine.execRingNcLo v s
  | .resetOptimeLo v => Sys2Proof.Machine.execResetOptimeLo v s
  | .recSub v w => Sys2Proof.Machine.execRecSub v w s
  | .fifoDrain => Sys2Proof.Machine.execFifoDrain s
  | .bucketRefill code => Sys2Proof.Machine.execBucketRefill code s
  | .flush v w => Sys2Proof.Machine.execFlush v w s
  | .flushStart => Sys2Proof.Machine.execFlushStart s
  | .flushDone failedPlaces => Sys2Proof.Machine.execFlushDone failedPlaces s
  | .compaction => Sys2Proof.Machine.execCompaction s
  | .recCtData v w => Sys2Proof.Machine.execRecCtData v w s
  | .sharedSliceStart => Sys2Proof.Machine.execSharedSliceStart s
  | .bistRunStop shared checkpoints => Sys2Proof.Machine.execBistRunStop shared checkpoints s
  | .sliceRelease shared misr restoreOk time => Sys2Proof.Machine.execSliceRelease shared misr restoreOk time s
  | .bistRotate v on => Sys2Proof.Machine.execBistRotate v on s
  | .bistFull v => Sys2Proof.Machine.execBistFull v s
  | .injArm v w => Sys2Proof.Machine.execInjArm v w s
  | .injDisarm v w => Sys2Proof.Machine.execInjDisarm v w s
  | .injectLapsed => Sys2Proof.Machine.execInjectLapsed s
  | .registerWrite v addr w => Sys2Proof.Machine.execRegisterWrite v addr w s
  | .inputSample k a b c => Sys2Proof.Machine.execInputSample k a b c s
  | .railRecovered pd => Sys2Proof.Machine.execRailRecovered pd s
  | .feedReturn f volt => Sys2Proof.Machine.execFeedReturn f volt s
  | .linkSynchronised p => Sys2Proof.Machine.execLinkSynchronised p s
  | .sessionClose sid => Sys2Proof.Machine.execSessionClose sid s

end Sys2Proof.Machine
end

