-- ==== Sys2Proof/Machine/Tick.lean ====
section
/-! DEFINITION. The time that passes while no command waits: one tick of the 100 MHz clock (R106, R372). -/

namespace Sys2Proof.Machine

/-- The word at the pc of a core that executes instructions of its store, where the word spells none: no row of the
commands stands for it (R135). -/
def Lane.strayWord (x : Lane) (l : LaneId) : Option Word :=
  let pc := x.core.pc.toNat
  if x.core.run = .running && x.fetchable pc && pc < storeTop && !x.parityBad pc 4 && (decodeIxlo l (x.rd32 pc)).isNone then
    some (x.rd32 pc)
  else none

/-- A core that has come to a word which spells no instruction takes its trap (R135, log 26). -/
def State.stray (s : State) (l : LaneId) : State :=
  match (s.lane l).strayWord l with
  | some w => (s.illegal l w).counted l
  | none => s

/-- One tick with no command: the time base, where it has its clock, and the operating time advance by 10 ns, and a core
at a word that spells no instruction traps. -/
def State.tick (s : State) : State := LaneId.list.foldl State.stray (s.passTime 1)

end Sys2Proof.Machine
end

