-- ==== Sys2Proof/Safety.lean ====
section
/-! DEFINITION. What the claims speak of: when a core takes an instruction, what an instruction that retires leaves, the
results of R138 to R144 as the manual's tables give them, which parts of the machine a command leaves alone, and the
invariants that every step keeps. -/

namespace Sys2Proof.Safety

open Sys2Proof.Machine

/-- A lane's core takes an instruction: it executes instructions, its program counter may be fetched (R130) with right
parity (R133), and the encoding of the instruction is sound (R135, R140). -/
abbrev Takes (s : State) (l : LaneId) (i : Instr) : Prop :=
  (s.lane l).core.run = .running ∧ (s.lane l).fetchable (s.lane l).core.pc.toNat = true ∧
    ((s.lane l).core.pc.toNat < storeTop → (s.lane l).parityBad (s.lane l).core.pc.toNat 4 = false) ∧
    i.wellFormed = true

/-- The source registers of an instruction have right parity (R125). -/
abbrev SoundRegs (s : State) (l : LaneId) (rs : List Reg) : Prop := (s.lane l).core.badSource rs = none

/-- No injection is armed (R461). -/
abbrev Calm (s : State) : Prop := s.inject.armed = none

/-- The state that differs in the core of one lane alone, counted by the debugger in HOLD (R204). -/
def withCore (s : State) (l : LaneId) (f : Core → Core) : State :=
  ({ s with lanes := s.lanes.set l { s.lane l with core := f (s.lane l).core } } : State).counted l

/-- A core whose instruction wrote a general register and passed on to the next: a write to g0 is discarded (R125), the
program counter moves on by 4 and INSTRET counts at application level (R128). -/
def retired (c : Core) (d : Reg) (w : Word) : Core :=
  { c with
    g := if d.val = 0 then c.g else c.g.set d.val w
    badReg := if d.val = 0 then c.badReg else c.badReg.filter (fun k => k / 4 ≠ d.val)
    pc := c.pc + 4
    instret := if c.priv then c.instret else c.instret + 1 }

/-- What an instruction that computes a register gives: its lane, destination, sources and result. -/
structure Result where
  lane : LaneId
  dest : Reg
  sources : List Reg
  value : Word

/-- The results of the integer register group (R138), but for the divisions. -/
def integerResult (c : Core) : Instr → Option Result
  | .add l d a b => some ⟨l, d, [a, b], c.get a + c.get b⟩
  | .sub l d a b => some ⟨l, d, [a, b], c.get a - c.get b⟩
  | .and l d a b => some ⟨l, d, [a, b], c.get a &&& c.get b⟩
  | .or l d a b => some ⟨l, d, [a, b], c.get a ||| c.get b⟩
  | .xor l d a b => some ⟨l, d, [a, b], c.get a ^^^ c.get b⟩
  | .andn l d a b => some ⟨l, d, [a, b], c.get a &&& ~~~ c.get b⟩
  | .sll l d a b => some ⟨l, d, [a, b], c.get a <<< ((c.get b).toNat % 32)⟩
  | .srl l d a b => some ⟨l, d, [a, b], c.get a >>> ((c.get b).toNat % 32)⟩
  | .sra l d a b => some ⟨l, d, [a, b], (c.get a).sshiftRight ((c.get b).toNat % 32)⟩
  | .slt l d a b => some ⟨l, d, [a, b], if (c.get a).toInt < (c.get b).toInt then 1 else 0⟩
  | .sltu l d a b => some ⟨l, d, [a, b], if (c.get a).toNat < (c.get b).toNat then 1 else 0⟩
  | .seq l d a b => some ⟨l, d, [a, b], if c.get a = c.get b then 1 else 0⟩
  | .slli l d a sh => some ⟨l, d, [a], c.get a <<< sh.val⟩
  | .srli l d a sh => some ⟨l, d, [a], c.get a >>> sh.val⟩
  | .srai l d a sh => some ⟨l, d, [a], (c.get a).sshiftRight sh.val⟩
  | .mul l d a b => some ⟨l, d, [a, b], c.get a * c.get b⟩
  | .mulh l d a b => some ⟨l, d, [a, b], BitVec.ofInt 32 ((c.get a).toInt * (c.get b).toInt / 2 ^ 32)⟩
  | .mulhu l d a b => some ⟨l, d, [a, b], BitVec.ofNat 32 ((c.get a).toNat * (c.get b).toNat / 2 ^ 32)⟩
  | .clz l d a => some ⟨l, d, [a], BitVec.ofNat 32 (leadingZeros (c.get a) 32)⟩
  | .ctz l d a => some ⟨l, d, [a], BitVec.ofNat 32 (leadingZeros (c.get a).reverse 32)⟩
  | .popc l d a => some ⟨l, d, [a], BitVec.ofNat 32 (popcount (c.get a))⟩
  | .bswap l d a => some ⟨l, d, [a],
      (c.get a).extractLsb' 0 8 ++ (c.get a).extractLsb' 8 8 ++ (c.get a).extractLsb' 16 8 ++ (c.get a).extractLsb' 24 8⟩
  | _ => none

/-- The results of the immediate group (R139) and of the bit fields (R140). -/
def immediateResult (c : Core) : Instr → Option Result
  | .addi l d a i => some ⟨l, d, [a], c.get a + i.signExtend 32⟩
  | .andi l d a i => some ⟨l, d, [a], c.get a &&& i.setWidth 32⟩
  | .ori l d a i => some ⟨l, d, [a], c.get a ||| i.setWidth 32⟩
  | .xori l d a i => some ⟨l, d, [a], c.get a ^^^ i.setWidth 32⟩
  | .slti l d a i => some ⟨l, d, [a], if (c.get a).toInt < i.toInt then 1 else 0⟩
  | .sltiu l d a i => some ⟨l, d, [a], if (c.get a).toNat < (i.signExtend 32).toNat then 1 else 0⟩
  | .lui l d i => some ⟨l, d, [], i ++ (0 : Half)⟩
  | .extu l d a p w => some ⟨l, d, [a], (c.get a >>> p.val) &&& BitVec.ofNat 32 (2 ^ (w.val + 1) - 1)⟩
  | .exts l d a p w => some ⟨l, d, [a], ((c.get a >>> p.val) <<< (31 - w.val)).sshiftRight (31 - w.val)⟩
  | .ins l d a p w =>
      let m : Word := BitVec.ofNat 32 (2 ^ (w.val + 1) - 1)
      some ⟨l, d, [a, d], (c.get d &&& ~~~ (m <<< p.val)) ||| ((c.get a &&& m) <<< p.val)⟩
  | _ => none

/-- The results of the divisions, for a divisor that is not 0 (R138): the quotient rounded towards zero, and the
remainder with it. -/
def divisionResult (c : Core) : Instr → Option (Result × Word × Word)
  | .div l d a b => some (⟨l, d, [a, b], BitVec.ofInt 32 ((c.get a).toInt.tdiv (c.get b).toInt)⟩, c.get a, c.get b)
  | .divu l d a b => some (⟨l, d, [a, b], BitVec.ofNat 32 ((c.get a).toNat / (c.get b).toNat)⟩, c.get a, c.get b)
  | .rem l d a b => some (⟨l, d, [a, b], BitVec.ofInt 32 ((c.get a).toInt.tmod (c.get b).toInt)⟩, c.get a, c.get b)
  | .remu l d a b => some (⟨l, d, [a, b], BitVec.ofNat 32 ((c.get a).toNat % (c.get b).toNat)⟩, c.get a, c.get b)
  | _ => none

/-- The results of the coded booleans (R144): an INVALID operand gives 0 where the instruction is strict. -/
def codedResult (c : Core) : Instr → Option Result
  | .cand l d a b => some ⟨l, d, [a, b],
      if codedValid (c.get a) && codedValid (c.get b) then
        coded (c.get a == codedTrue && c.get b == codedTrue) else 0⟩
  | .cor l d a b => some ⟨l, d, [a, b],
      if codedValid (c.get a) && codedValid (c.get b) then
        coded (c.get a == codedTrue || c.get b == codedTrue) else 0⟩
  | .cnot l d a => some ⟨l, d, [a],
      if c.get a = codedTrue then codedFalse else if c.get a = codedFalse then codedTrue else 0⟩
  | .csel l d a b k => some ⟨l, d, [a, b, k],
      if c.get k = codedTrue then c.get a else if c.get k = codedFalse then c.get b else 0⟩
  | .cmk l d a => some ⟨l, d, [a], if c.get a = 0 then codedFalse else codedTrue⟩
  | .ceq l d a b => some ⟨l, d, [a, b], if c.get a = c.get b then codedTrue else codedFalse⟩
  | .cltu l d a b => some ⟨l, d, [a, b], if (c.get a).toNat < (c.get b).toNat then codedTrue else codedFalse⟩
  | .cval l d a => some ⟨l, d, [a], if c.get a = codedTrue ∨ c.get a = codedFalse then 1 else 0⟩
  | _ => none

/-- What a conditional branch gives: its lane, sources, offset, whether it is taken, and its coded-value events. -/
structure Branch where
  lane : LaneId
  sources : List Reg
  offset : Half
  taken : Bool
  events : Nat

/-- One coded-value event for an INVALID word (R145). -/
def invalidCount (w : Word) : Nat := if w = codedTrue ∨ w = codedFalse then 0 else 1

/-- The conditions of the branches (R142). -/
def branchResult (c : Core) : Instr → Option Branch
  | .beq l r t off => some ⟨l, [r, t], off, c.get r = c.get t, 0⟩
  | .bne l r t off => some ⟨l, [r, t], off, c.get r ≠ c.get t, 0⟩
  | .blt l r t off => some ⟨l, [r, t], off, (c.get r).toInt < (c.get t).toInt, 0⟩
  | .bge l r t off => some ⟨l, [r, t], off, (c.get t).toInt ≤ (c.get r).toInt, 0⟩
  | .bltu l r t off => some ⟨l, [r, t], off, (c.get r).toNat < (c.get t).toNat, 0⟩
  | .bgeu l r t off => some ⟨l, [r, t], off, (c.get t).toNat ≤ (c.get r).toNat, 0⟩
  | .bct l r off => some ⟨l, [r], off, c.get r = codedTrue, invalidCount (c.get r)⟩
  | .bcf l r off => some ⟨l, [r], off, c.get r ≠ codedTrue, invalidCount (c.get r)⟩
  | _ => none

/-- What a load gives: its lane, destination, base, offset, size in bytes and value. -/
structure Load where
  lane : LaneId
  dest : Reg
  base : Reg
  offset : Half
  size : Nat
  value : Word

/-- The values of loads from the lane store (R141). -/
def loadResult (x : Lane) : Instr → Option Load
  | .lb l d a i => some ⟨l, d, a, i, 1, (x.rd8 (x.core.get a + i.signExtend 32).toNat).signExtend 32⟩
  | .lbu l d a i => some ⟨l, d, a, i, 1, (x.rd8 (x.core.get a + i.signExtend 32).toNat).setWidth 32⟩
  | .lh l d a i => some ⟨l, d, a, i, 2, (x.rd16 (x.core.get a + i.signExtend 32).toNat).signExtend 32⟩
  | .lhu l d a i => some ⟨l, d, a, i, 2, (x.rd16 (x.core.get a + i.signExtend 32).toNat).setWidth 32⟩
  | .lw l d a i => some ⟨l, d, a, i, 4, x.rd32 (x.core.get a + i.signExtend 32).toNat⟩
  | _ => none

/-- What a store is: its lane, the register stored, base, offset and size in bytes. -/
structure StoreForm where
  lane : LaneId
  source : Reg
  base : Reg
  offset : Half
  size : Nat

/-- The stores (R141). -/
def storeForm : Instr → Option StoreForm
  | .sb l d a i => some ⟨l, d, a, i, 1⟩
  | .sh l d a i => some ⟨l, d, a, i, 2⟩
  | .sw l d a i => some ⟨l, d, a, i, 4⟩
  | _ => none

/-- A lane's core takes an instruction, and no injection is armed. -/
abbrev Runs (s : State) (l : LaneId) (i : Instr) : Prop := Takes s l i ∧ Calm s

/-- No byte of a lane's store has a wrong parity bit (R133). -/
abbrev CleanStore (s : State) (l : LaneId) : Prop := (s.lane l).store.badParity = []

/-- The state after an instruction that left a lane as given, counted by the debugger in HOLD (R204). -/
def after (s : State) (l : LaneId) (y : Lane) : State := (s.setLane l y).counted l

/-- A lane whose core wrote a general register and passed on to the next instruction. -/
def wrote (y : Lane) (d : Reg) (w : Word) : Lane := { y with core := retired y.core d w }

/-- A lane with coded-value events added (R145). -/
def noted (y : Lane) (n : Nat) : Lane := { y with core := y.core.codedEvents n }

/-- Every byte of the store outside `n` bytes at an address reads in the one lane as in the other. -/
def KeepsOutside (x y : Lane) (a n : Nat) : Prop := ∀ k, k < a ∨ a + n ≤ k → y.rd8 k = x.rd8 k

/-- The commands by which the route engine of a lane carries out a request, with the KIND of each (R66). -/
def engineKind : Instr → Option (LaneId × Nat)
  | .check l => some (l, 1)
  | .set l => some (l, 2)
  | .cancel l => some (l, 3)
  | .releaseSegment l => some (l, 4)
  | .release l => some (l, 5)
  | .block l => some (l, 6)
  | .unblock l => some (l, 7)
  | .chainSet l => some (l, 8)
  | .chainCancel l => some (l, 9)
  | .chainRelease l => some (l, 10)
  | .move l => some (l, 11)
  | .sweep l => some (l, 12)
  | _ => none

/-- The engine-owned tables of a lane's store (R32). -/
def engineTable (a : Nat) : Prop := 0x02400000 ≤ a ∧ a < 0x02500000

/-- The engine has one request in its queue, not yet completed. -/
abbrev Asks (s : State) (l : LaneId) (q : Word) : Prop :=
  Calm s ∧ (s.lane l).engine.queue = [{ request := q, result := none }]

/-- After its one request the queue of the engine holds the result with its outcome and reason, and the lane's store is
as given (R65). -/
def Answered (t : State) (l : LaneId) (q : Word) (outcome reason : Nat) (st : Store) : Prop :=
  ∃ w, (t.lane l).engine.queue = [{ request := q, result := some w }] ∧ w.toNat % 32 = q.toNat % 32 ∧
    w.toNat / 32 % 8 = outcome ∧ w.toNat / 2 ^ 18 % 16 = reason ∧ (t.lane l).store = st

/-- No injection is armed or acting (R461, R462). -/
abbrev Quiet (s : State) : Prop := Calm s ∧ s.inject.lasting = []

/-- A message of lane `k` reaches a lane as the receiver expects it: ROUTE, TYPE, LENGTH, CYCLE and CHECK (R214). -/
abbrev Arrives (s : State) (dst k : LaneId) (typ len : Nat) (m : LinkMsg) : Prop :=
  msgSender m = some k ∧ k ≠ dst ∧ msgGood m dst typ len (s.lane dst).cycleLo = true

/-- The state that differs in one lane alone. -/
def onLane (s : State) (l : LaneId) (f : Lane → Lane) : State := { s with lanes := s.lanes.set l (f (s.lane l)) }

/-- The state after a message of lane `k` reached a lane, which keeps what `f` makes of it (R214, R240). -/
def linked (s : State) (dst k : LaneId) (good : Bool) (f : Lane → Lane) : State :=
  { onLane s dst (fun x => f (x.noteLink dst k good)) with freeCtr := s.freeCtr + 1 }

/-- The port by which a frame that arrived leaves: the other one, or the same where the other is looped (R302). -/
def wayOut (s : State) (p : Port) : Port := if (s.ring.port (otherPort p)).looped then p else otherPort p

/-- The readings of Invar as a network cycle ends, each with its master's place in the list (R292). -/
def readings (s : State) : List (Int × Nat) :=
  (List.range s.ring.masters.length).filterMap (fun i => (s.masterReading i).map (fun v => (v, i)))

/-- A mode in which an origin of SAFE_STOP makes the module enter it (R25, R351). -/
abbrev MayStop (s : State) : Prop := s.md.mode ≠ .priming ∧ s.md.mode ≠ .powerFail ∧ s.md.mode ≠ .safeStop

/-- The module has stopped for an origin: SAFE_STOP, its code, every output off (R25, R351). -/
abbrev Stopped (t : State) (origin : BitVec 8) : Prop :=
  t.md.mode = .safeStop ∧ t.guard.sstopOrigin = origin ∧ t.stage.on = 0

/-- A ring port that forwards a frame: it lives, is not looped, the frame is another node's with a complete header, and
the guardian is not armed or passes it (R272, R297). -/
abbrev Forwards (s : State) (p : Port) (bytes : List Byte) (ns : Nat) : Prop :=
  s.ring.alive = true ∧ (s.ring.port p).looped = false ∧ 24 ≤ bytes.length ∧
    ((parseFrame bytes).source ≠ s.node ∨ s.node = 0) ∧
    (s.ring.armed = false ∨ (Calm s ∧ s.guardianSays p (parseFrame bytes) ns = 0))

/-- The requests of the maintenance protocol (R412): session, REQ_ID, SERVICE, permission bits, control needed. -/
def serviceOf : Instr → Option (Fin 4 × Word × Half × List Nat × Bool)
  | .status i q => some (i, q, 0x0001, [0], false)
  | .recordRead i q _ => some (i, q, 0x0010, [0], false)
  | .quote i q _ => some (i, q, 0x0011, [0], false)
  | .imageWrite i q _ _ _ _ => some (i, q, 0x0020, [4], true)
  | .flashDirWrite i q _ _ => some (i, q, 0x0021, [4], true)
  | .packageStage i q _ => some (i, q, 0x0030, [1], true)
  | .svcEnterMaint i q => some (i, q, 0x0040, [2], true)
  | .svcLeaveMaint i q => some (i, q, 0x0040, [2], true)
  | .svcFenceRelease i q _ => some (i, q, 0x0040, [2], true)
  | .svcDebugHalt i d => some (i, d.req, 0x0050, [3], true)
  | .svcInject i q _ _ => some (i, q, 0x0060, [2], true)
  | .svcOtpBurn i q _ => some (i, q, 0x0070, [2, 5], true)
  | _ => none

/-- The state in which a session has just had traffic (R410). -/
def traffic (s : State) (i : Fin 4) (k : Session) : State :=
  { s with svc := { s.svc with sessions := s.svc.sessions.set i.val (some { k with last := s.guard.optime }) } }

/-- A response stands (R411). -/
def replied (s : State) (i : Fin 4) (service : Half) (q : Word) (code : Nat) (r : Reply) : State :=
  { s with svc := { s.svc with
      response := some { session := i.val, service := service, code := code, req := q, length := r.size, reply := r } } }

/-- Two lanes have sent the same first `n` words on their secure channels, and the third others or none (R402). -/
abbrev TwoReport (s : State) (a b : LaneId) (ws : List Word) : Prop :=
  a ≠ b ∧ (s.lane a).mbSec.out.take ws.length = ws ∧ (s.lane b).mbSec.out.take ws.length = ws

/-- Network time has run on from one state to another until it has reached a target: without a correction under way, to
the target, or past it by less than a tick where the clock runs fast (R106). -/
abbrev Reaches (s t : State) (target : Nat) : Prop :=
  s.tb.slewTicks = 0 → target + 1 < 2 ^ 64 →
    target ≤ t.tb.nt.toNat ∧ t.tb.nt.toNat ≤ max s.tb.nt.toNat target + 1 ∧
    (s.tb.rate.toInt ≤ 0 → t.tb.nt.toNat = max s.tb.nt.toNat target)

/-- The bit reversal of a polynomial over `w` bits (R339). -/
def revNat (p w : Nat) : Nat := (List.range w).foldl (fun n i => if p.testBit (w - 1 - i) then n + 2 ^ i else n) 0

/-- One bit of R339's step on the register `s` of `w` bits, with a message bit. -/
def crcBit (w poly : Nat) (reflect : Bool) (s : Nat) (b : Bool) : Nat :=
  if reflect then
    if s.testBit 0 ≠ b then (s / 2) ^^^ revNat poly w else s / 2
  else
    if s.testBit (w - 1) ≠ b then (2 * s % 2 ^ w) ^^^ poly else 2 * s % 2 ^ w

/-- R339's step: one byte, least significant bit first where reflected, otherwise most significant bit first. -/
def crcByte (w poly : Nat) (reflect : Bool) (s : Nat) (x : Byte) : Nat :=
  (if reflect then [0, 1, 2, 3, 4, 5, 6, 7] else [7, 6, 5, 4, 3, 2, 1, 0]).foldl
    (fun s i => crcBit w poly reflect s (x.getLsbD i)) s

/-- The reset values of the register tables for the offsets below 0x100 of the blocks 0 to 14 and of the RING view (16);
0 where no table lists an offset (R6). -/
def resetWord (l : LaneId) : Nat → Nat → Word
  | 0, 0x000 => 0x00090000
  | 0, 0x004 => BitVec.ofNat 32 l.num
  | 0, 0x008 => 1
  | 1, 0x000 => 0x00090001
  | 1, 0x030 => 0xFFFFFFFF
  | 2, 0x000 => 0x00090002
  | 3, 0x000 => 0x00090003
  | 4, 0x000 => 0x00090004
  | 6, 0x000 => 0x00090006
  | 6, 0x008 => 0x00000019
  | 6, 0x0A0 => 0x000000FF
  | 6, off => if 0x080 ≤ off ∧ off < 0x0A0 then 0xFFFFFFFF else 0
  | 9, 0x000 => 0x00090009
  | 0xA, 0x000 => 0x0009000A
  | 0xB, 0x000 => 0x0009000B
  | 0xB, 0x004 => 0x00010000
  | 0xC, 0x000 => 0x0009000C
  | 0xD, 0x000 => 0x0009000D
  | 0xE, 0x000 => 0x0009000E
  | 16, 0x000 => 0x00090010
  | 16, 0x01C => 0x80000000
  | _, _ => 0

/-- The registers that priming loads, and the view of the summaries in effect (R396, R441, R450). -/
def loadedAtPriming : List (Nat × Nat) := [(9, 0x00C), (9, 0x044), (0xC, 0x008), (0xC, 0x020)]

/-- No output conducts whose group switch is open, and none under the hold-off (R252, R253). -/
abbrev OutputsGated (s : State) : Prop :=
  ∀ o, s.stage.on.getLsbD o = true → s.groupOn (groupOf o) = true ∧ s.stage.holdOff = false

end Sys2Proof.Safety
end

