-- ==== Sys2Proof/Certificates/Slice0/Obligations.lean ====
section
/-! DEFINITION. The statements for the provers: what the commands of the module do, by family, and the invariants that
every command keeps. -/

open Sys2Proof Sys2Proof.Machine Sys2Proof.Safety

/-- The integer, immediate and bit-field groups compute the results of R138 to R140 (R125, R128, R138, R139, R140).
Every instruction of the integer register group but the divisions and JALR, of the immediate group and of the bit
fields whose field fits the word, taken by a lane's core with sound source registers and no injection armed, answers a
next state that differs in that core alone: the destination holds the result of the manual's table (a write to g0 is
discarded), the program counter is 4 further, INSTRET counts at application level, and every other register, flag,
special register, lane and byte of memory is unchanged. Forms that it says complete: ADD, SUB, AND, OR, XOR, ANDN,
SLL, SRL, SRA, SLT, SLTU, SEQ, SLLI, SRLI, SRAI, MUL, MULH, MULHU, CLZ, CTZ, POPC, BSWAP, ADDI, ANDI, ORI, XORI, SLTI,
SLTIU, LUI, EXTU, EXTS, INS. -/
def Obligations.IntegerAndImmediateResults : Prop :=
  ∀ (s : State) (i : Instr) (l : LaneId) (d : Reg) (rs : List Reg) (w : Word),
    integerResult (s.lane l).core i = some ⟨l, d, rs, w⟩ ∨ immediateResult (s.lane l).core i = some ⟨l, d, rs, w⟩ →
      Takes s l i → SoundRegs s l rs → Calm s →
      exec i s = .next (withCore s l fun c => retired c d w)

/-- Divisions give quotient and remainder, and trap on a zero divisor (R138, R147). DIV, DIVU, REM and REMU, taken
with sound source registers and no injection armed, answer a next state: for a divisor that is not 0 the destination
holds the quotient rounded towards zero, or the remainder, and nothing else but the program counter and INSTRET of
that core changes; for the divisor 0 the trap 0x0A with the dividend as TVAL is taken in place of the result. Forms
that it says complete: DIV, DIVU, REM, REMU. -/
def Obligations.DivisionResults : Prop :=
  ∀ (s : State) (i : Instr) (l : LaneId) (d : Reg) (rs : List Reg) (w a b : Word),
    divisionResult (s.lane l).core i = some (⟨l, d, rs, w⟩, a, b) → Takes s l i → SoundRegs s l rs → Calm s →
      exec i s = .next (if b = 0 then (s.trap l 0x0A none a).counted l else withCore s l fun c => retired c d w)

/-- The coded booleans compute the results of R144 (R13, R143, R144). CAND, COR, CNOT, CSEL, CMK, CEQ, CLTU and CVAL,
taken with sound source registers and no injection armed, write the coded result of R144 (0 for a strict operation on
an INVALID word) and change nothing else but the program counter and INSTRET; CCHK copies a valid word likewise and
takes trap 0x05 with the word as TVAL for an INVALID one. Forms that it says complete: CAND, COR, CNOT, CSEL, CMK,
CEQ, CLTU, CVAL, CCHK. -/
def Obligations.CodedResults : Prop :=
  (∀ (s : State) (i : Instr) (l : LaneId) (d : Reg) (rs : List Reg) (w : Word),
    codedResult (s.lane l).core i = some ⟨l, d, rs, w⟩ → Takes s l i → SoundRegs s l rs → Calm s →
      exec i s = .next (withCore s l fun c => retired c d w)) ∧
  (∀ (s : State) (l : LaneId) (d a : Reg),
    Takes s l (.cchk l d a) → SoundRegs s l [a] → Calm s →
      exec (.cchk l d a) s = .next
        (if (s.lane l).core.get a = codedTrue ∨ (s.lane l).core.get a = codedFalse then
            withCore s l fun c => retired c d (c.get a)
          else (s.trap l 0x05 none ((s.lane l).core.get a)).counted l))

/-- Branches and jumps pass control as R142 states (R134, R138, R142, R145). A conditional branch whose target may be
fetched where it is taken, J, JAL and JALR with a fetchable (and for JALR aligned) target answer a next state that
differs in that core alone: the program counter is the target where the branch is taken and 4 further where not, JAL
links g31 and JALR its destination to the next address, BCT and BCF add one coded-value event for an INVALID word, and
no other register or byte of memory changes. Forms that it says complete: BEQ, BNE, BLT, BGE, BLTU, BGEU, BCT, BCF,
JALR, J, JAL. -/
def Obligations.BranchesAndJumps : Prop :=
  (∀ (s : State) (i : Instr) (l : LaneId) (rs : List Reg) (off : Half) (taken : Bool) (ev : Nat),
    branchResult (s.lane l).core i = some ⟨l, rs, off, taken, ev⟩ → Takes s l i → SoundRegs s l rs → Calm s →
      (taken = true → (s.lane l).fetchable ((s.lane l).core.pc + 4 + 4 * off.signExtend 32).toNat = true) →
      exec i s = .next (withCore s l fun c =>
        { retired (c.codedEvents ev) 0 0 with
          pc := if taken then c.pc + 4 + 4 * off.signExtend 32 else c.pc + 4 })) ∧
  (∀ (s : State) (l : LaneId) (off : BitVec 26),
    (s.lane l).fetchable ((s.lane l).core.pc + 4 + 4 * off.signExtend 32).toNat = true →
      (Takes s l (.j l off) → exec (.j l off) s = .next (withCore s l fun c =>
        { retired c 0 0 with pc := c.pc + 4 + 4 * off.signExtend 32 })) ∧
      (Takes s l (.jal l off) → exec (.jal l off) s = .next (withCore s l fun c =>
        { retired c 31 (c.pc + 4) with pc := c.pc + 4 + 4 * off.signExtend 32 }))) ∧
  (∀ (s : State) (l : LaneId) (d a : Reg),
    Takes s l (.jalr l d a) → SoundRegs s l [a] → Calm s → ((s.lane l).core.get a).toNat % 4 = 0 →
      (s.lane l).fetchable ((s.lane l).core.get a).toNat = true →
      exec (.jalr l d a) s = .next (withCore s l fun c => { retired c d (c.pc + 4) with pc := c.get a }))

/-- Loads from the lane store give the bytes stored (R130, R131, R133, R139, R141). LB, LBU, LH, LHU and LW of an
aligned address of the lane store that the level may load, with right parity and the engine idle where it owns the
table, write the byte, half-word or word at the address, sign-extended by LB and LH and zero-extended by LBU and LHU,
into the destination, and change nothing else but the program counter and INSTRET of that core; every byte of memory
is unchanged. Forms that it says complete: LB, LBU, LH, LHU, LW. -/
def Obligations.LoadsFromStore : Prop :=
  ∀ (s : State) (i : Instr) (l : LaneId) (d a : Reg) (imm : Half) (n : Nat) (w : Word),
    loadResult (s.lane l) i = some ⟨l, d, a, imm, n, w⟩ → Takes s l i → SoundRegs s l [a] → Calm s →
    ((s.lane l).core.get a + imm.signExtend 32).toNat % n = 0 →
    ((s.lane l).core.get a + imm.signExtend 32).toNat < 0x04000000 →
    (s.lane l).loadRight (s.lane l).core.priv (n = 4) ((s.lane l).core.get a + imm.signExtend 32).toNat = .ok →
    (engineOwned ((s.lane l).core.get a + imm.signExtend 32).toNat = true → (s.lane l).engineBusy = false) →
    (s.lane l).parityBad ((s.lane l).core.get a + imm.signExtend 32).toNat n = false →
      exec i s = .next (withCore s l fun c => retired c d w)

/-- Stores write their bytes and no other (R130, R133, R139, R141, R211, R241). SB, SH and SW to an aligned address of
the lane store that the level may store to, in a canonical memory, write the low 1, 2 or 4 bytes of the register at a
+ sext(imm), least significant first; every other byte of the store reads as before; the checkpoint state hash takes
the term of the word where the address is hashed and the VOTE block does not hold the values of the last vote; the
core passes to the next instruction with its registers unchanged; and nothing else changes but the parity and dirty
bits of the store. Forms that it says complete: SB, SH, SW. -/
def Obligations.StoresToStore : Prop :=
  ∀ (s : State) (i : Instr) (l : LaneId) (d a : Reg) (imm : Half) (n : Nat),
    storeForm i = some ⟨l, d, a, imm, n⟩ → Takes s l i → SoundRegs s l [a, d] → Calm s →
    Memory.wf (s.lane l).store.cells = true →
    ((s.lane l).core.get a + imm.signExtend 32).toNat % n = 0 →
    inBlocks ((s.lane l).core.get a + imm.signExtend 32).toNat = false →
    (s.lane l).storeRight (s.lane l).core.priv (n = 4) (s.laneMode l)
      ((s.lane l).core.get a + imm.signExtend 32).toNat = .ok →
      let x := s.lane l
      let ea := x.core.get a + imm.signExtend 32
      let y := x.storeSized ea.toNat n (x.core.get d)
      exec i s = .next (after s l (wrote y 0 0)) ∧
      (∀ k, Memory.read y.store.cells k =
        if ea.toNat ≤ k ∧ k < ea.toNat + n then byteOf (x.core.get d) (k - ea.toNat) else Memory.read x.store.cells k) ∧
      y = { x with store := y.store, vote := { x.vote with h := y.vote.h } } ∧
      y.vote.h = if ea.toNat < 0x00800000 ∨ 0x03000000 ≤ ea.toNat ∨ x.vote.still = true then x.vote.h
        else x.vote.h + hashTerm (BitVec.ofNat 32 (ea.toNat / 4 * 4)) (y.rd32 (ea.toNat / 4 * 4))

/-- The system instructions move control registers and change the level as R146 states (R126, R127, R128, R146, R148).
At application level SYSC saves STATUS, the next address and its number and enters the vector at runtime level; TRET
at runtime level restores STATUS from TSTATUS and passes to TPC; MFCR copies a control register that the level may
read; MTCR at runtime level writes one; WAIT with a masked event pending delivers the pending bits and otherwise
stalls, WAIT_END ends that stall once such an event is pending; HALT at runtime level stops the core. Each changes
that core alone. Forms that it says complete: SYSC, TRET, MFCR, MTCR, WAIT, WAIT_END, HALT. -/
def Obligations.SystemInstructions : Prop :=
  ∀ (s : State) (l : LaneId),
    (∀ imm, Takes s l (.sysc l imm) → (s.lane l).core.priv = false → (s.lane l).core.intrap = false →
      exec (.sysc l imm) s = .next (withCore s l fun c =>
        { c with
          tstatus := c.saved, tpc := c.pc + 4, tcause := 0x100, tval := imm.setWidth 32
          priv := true, intrap := true, pc := c.tvec, instret := c.instret + 1 })) ∧
    (Takes s l (.tret l) → (s.lane l).core.priv = true →
      exec (.tret l) s = .next (withCore s l fun c =>
        { c with
          priv := c.tstatus.getLsbD 0, intrap := c.tstatus.getLsbD 1, cve := c.tstatus.getLsbD 2
          ah := c.tstatus.getLsbD 3, pc := c.tpc })) ∧
    (∀ d cr w, Takes s l (.mfcr l d cr) → (s.lane l).core.readCr cr.val = some w →
      ((s.lane l).core.priv = true ∨ cr.val = 0 ∨ cr.val = 9) →
      exec (.mfcr l d cr) s = .next (withCore s l fun c =>
        retired { c with cvcount := if cr.val = 8 then 0 else c.cvcount } d w)) ∧
    (∀ cr a, Takes s l (.mtcr l cr a) → SoundRegs s l [a] → Calm s → (s.lane l).core.priv = true →
      ((s.lane l).core.readCr cr.val).isSome = true →
      exec (.mtcr l cr a) s = .next (withCore s l fun c => retired (c.writeCr cr.val (c.get a)) 0 0)) ∧
    (∀ d, Takes s l (.wait l d) → (s.lane l).core.priv = true →
      exec (.wait l d) s = .next (withCore s l fun c =>
        if c.events &&& c.evmask = 0 then { c with run := .waiting d }
        else retired { c with events := c.events &&& ~~~ (c.events &&& c.evmask &&& 0xFE) } d
          ((c.events &&& c.evmask).setWidth 32))) ∧
    (∀ d, (s.lane l).core.run = .waiting d → (s.lane l).core.priv = true →
      (s.lane l).core.events &&& (s.lane l).core.evmask ≠ 0 →
      exec (.waitEnd l) s = .next (withCore s l fun c =>
        retired { c with run := .running, events := c.events &&& ~~~ (c.events &&& c.evmask &&& 0xFE) } d
          ((c.events &&& c.evmask).setWidth 32))) ∧
    (Takes s l (.halt l) → (s.lane l).core.priv = true →
      exec (.halt l) s = .next (withCore s l fun c => { c with run := .stopped }))

/-- A trap that the application handles enters its handler (R147, R148, R149, R150). A trap other than register parity
and BRK, taken at application level outside a trap and outside an INIT call, with its AMASK bit set and no handler
active, feeds TCAUSE, TPC and TVAL in this order and enters AHVEC at application level with g1 TCAUSE, g2 the address
of the trapping instruction, g3 TVAL and g30 STACK_TOP, AH set, the pack-call stack empty; the store and the other
lanes are unchanged. -/
def Obligations.HandledTraps : Prop :=
  ∀ (s : State) (l : LaneId) (num : Nat) (x : Option Nat) (tval : Word),
    (s.lane l).core.priv = false → (s.lane l).core.intrap = false → (s.lane l).core.ah = false → num < 16 →
    num ≠ 0x04 → num ≠ 0x0B → (s.lane l).core.amask.getLsbD num = true → (s.lane l).cyc.initCalls = none → Calm s →
      let t := s.trap l num x tval
      let cause : Word := place num 0 ||| 0x100 ||| flag x.isSome 10 ||| place (x.getD 0) 16
      (t.lane l).core.get 1 = cause ∧ (t.lane l).core.get 2 = (s.lane l).core.pc ∧ (t.lane l).core.get 3 = tval ∧
      (t.lane l).core.get 30 = (s.lane l).rd32 0x00800020 ∧
      (∀ r : Reg, r.val ≠ 1 → r.val ≠ 2 → r.val ≠ 3 → r.val ≠ 30 → (t.lane l).core.get r = (s.lane l).core.get r) ∧
      (t.lane l).core.pc = (s.lane l).core.ahvec ∧ (t.lane l).core.priv = false ∧ (t.lane l).core.ah = true ∧
      (t.lane l).core.packStack = [] ∧ (t.lane l).store = (s.lane l).store ∧
      (s.md.mode.silent = false → (t.lane l).vote.s =
        sigFeed (sigFeed (sigFeed (s.lane l).vote.s cause) (s.lane l).core.pc) tval) ∧
      (∀ k, k ≠ l → t.lane k = s.lane k)

/-- PIN reads the agreed inputs and POUT writes the output image (R156, R162, R163, R164, R145, R133). PIN of an index
up to 65, and POUT of an index up to 47, taken with sound registers, a store of right parity and no injection armed,
answer a next state: PIN gives its destination the agreed input of the header as a coded value and changes nothing
else but the program counter and INSTRET; POUT sets the bit of the output image for coded TRUE and clears it for any
other word, feeds 0x50000000 with index and bit to the signature outside SPLIT and HOLD, adds one coded-value event
for an INVALID word, and leaves every byte outside the word of the image as it was. Forms that it says complete: PIN,
POUT. -/
def Obligations.ProcessImage : Prop :=
  ∀ (s : State) (l : LaneId), CleanStore s l →
    (∀ d a, Runs s l (.pin l d a) → SoundRegs s l [a] → ((s.lane l).core.get a).toNat ≤ 65 →
      exec (.pin l d a) s = .next (withCore s l fun c => retired c d
        (if ((s.lane l).rd32 (0x02000020 + (c.get a).toNat / 32 * 4)).getLsbD ((c.get a).toNat % 32) then codedTrue
         else codedFalse))) ∧
    (∀ a b, Runs s l (.pout l a b) → SoundRegs s l [a, b] → ((s.lane l).core.get a).toNat ≤ 47 →
      Memory.wf (s.lane l).store.cells = true →
      let x := s.lane l
      let i := x.core.get a
      let v := x.core.get b
      let addr := 0x02001000 + i.toNat / 32 * 4
      let mask : Word := BitVec.ofNat 32 (2 ^ (i.toNat % 32))
      let y := x.wr32 addr (if v = codedTrue then x.rd32 addr ||| mask else x.rd32 addr &&& ~~~mask)
      exec (.pout l a b) s = .next (after s l (wrote (noted
        (y.feed s.md.mode (0x50000000 ||| i <<< 8 ||| (if v = codedTrue then 1 else 0))) (invalidCount v)) 0 0)) ∧
      KeepsOutside x y addr 4)

/-- ELD and EST reach the element table, and stall while the engine is busy (R33, R156, R161, R165, R32). ELD and EST
of an element below ELEMENTS and a word up to 7, taken with sound registers, a store of right parity and no injection
armed, with a sound element record: while the route engine of the lane has pending work the core stalls with the
instruction; otherwise ELD gives its destination the word of the state entry, and EST, by a pack that owns the element
or outside any pack, stores a coded value into words 0 to 2, any value that keeps the reserved and engine-owned bits
into words 5 and 7 and the value that is there into words 3, 4 and 6; nothing else changes, and every byte outside the
word stored reads as before. Forms that it says complete: ELD, EST. -/
def Obligations.ElementWords : Prop :=
  ∀ (s : State) (l : LaneId) (d a b : Reg), CleanStore s l →
    let x := s.lane l
    let e := (x.core.get a).toNat
    let w := (x.core.get b).toNat
    let addr := 0x02400000 + e * 32 + w * 4
    SoundRegs s l [a, b] → e < x.engine.cfgElements.toNat → w ≤ 7 →
    (Runs s l (.eld l d a b) →
      (x.engineBusy = true →
        exec (.eld l d a b) s = .next (withCore s l fun c => { c with run := .stalled (.eld l d a b) })) ∧
      (x.engineBusy = false → x.recordSound e = true →
        exec (.eld l d a b) s = .next (withCore s l fun c => retired c d (x.rd32 addr)))) ∧
    (Runs s l (.est l d a b) →
      (x.engineBusy = true →
        exec (.est l d a b) s = .next (withCore s l fun c => { c with run := .stalled (.est l d a b) })) ∧
      (x.engineBusy = false → x.recordSound e = true → SoundRegs s l [d] →
        (x.core.packStack = [] ∨ x.core.pack = some (x.elemPack e)) →
        (w ≤ 2 → codedValid (x.core.get d) = true) →
        ((w = 3 ∨ w = 4 ∨ w = 6) → x.core.get d = x.rd32 addr) →
        (w = 5 → x.core.get d &&& 0xFFFFF0EC = x.rd32 addr &&& 0xC) →
        (w = 7 → x.core.get d &&& 0xFFFF0000 = 0) →
        exec (.est l d a b) s = .next (after s l (wrote (x.wr32 addr (x.core.get d)) 0 0)) ∧
        (Memory.wf x.store.cells = true → KeepsOutside x (x.wr32 addr (x.core.get d)) addr 4)))

/-- Timers are started, stopped and read as R166 to R168 state (R113, R156, R158, R166, R167, R168, R145). Taken with
sound registers, a store of right parity and no injection armed: TSTART of a timer number writes T(n), the preset and
coded TRUE into the timer and gives the number; TSTART of a floor takes the lowest timer from the floor on that is not
RUNNING, with one coded-value event for an INVALID state word; TSTOP writes coded FALSE; TREAD gives the time elapsed
since the start, saturating at 0xFFFFFFFF, and 0 for a timer that is not RUNNING; TREAD.X gives coded TRUE once that
time has reached the preset. Every byte outside the timer reads as before. Forms that it says complete: TSTART, TSTOP,
TREAD, TREAD_X. -/
def Obligations.Timers : Prop :=
  ∀ (s : State) (l : LaneId), CleanStore s l →
    let x := s.lane l
    let at' (t : Nat) := 0x02F00000 + t * 16
    let started (y : Lane) (t : Nat) (p : Word) :=
      (((y.wr32 (at' t) (x.rd32 0x02000008)).wr32 (at' t + 4) (x.rd32 0x0200000C)).wr32 (at' t + 8) p).wr32 (at' t + 12)
        codedTrue
    let elapsed (t : Nat) := min (((x.rd32 0x02000008).toNat + 2 ^ 32 * (x.rd32 0x0200000C).toNat + 2 ^ 64 -
      ((x.rd32 (at' t)).toNat + 2 ^ 32 * (x.rd32 (at' t + 4)).toNat)) % 2 ^ 64) (2 ^ 32 - 1)
    (∀ d a b, Runs s l (.tstart l d a b) → SoundRegs s l [a, b] → (x.core.get a).toNat < 256 →
      exec (.tstart l d a b) s = .next (after s l
        (wrote (started x (x.core.get a).toNat (x.core.get b)) d (x.core.get a))) ∧
      (Memory.wf x.store.cells = true →
        KeepsOutside x (started x (x.core.get a).toNat (x.core.get b)) (at' (x.core.get a).toNat) 16)) ∧
    (∀ d a b t, Runs s l (.tstart l d a b) → SoundRegs s l [a, b] → x.core.get a &&& 0xFFFFFF00 = 0x80000000 →
      (x.core.get a).toNat % 256 ≤ t → t < 256 → x.rd32 (at' t + 12) ≠ codedTrue →
      (∀ u, (x.core.get a).toNat % 256 ≤ u → u < t → x.rd32 (at' u + 12) = codedTrue) →
      exec (.tstart l d a b) s = .next (after s l (wrote (started (noted x (invalidCount (x.rd32 (at' t + 12)))) t
        (x.core.get b)) d (BitVec.ofNat 32 t)))) ∧
    (∀ a, Runs s l (.tstop l a) → SoundRegs s l [a] → (x.core.get a).toNat < 256 →
      exec (.tstop l a) s =
        .next (after s l (wrote (x.wr32 (at' (x.core.get a).toNat + 12) codedFalse) 0 0))) ∧
    (∀ d a, Runs s l (.tread l d a) → SoundRegs s l [a] → (x.core.get a).toNat < 256 →
      let w := x.rd32 (at' (x.core.get a).toNat + 12)
      exec (.tread l d a) s = .next (after s l (wrote (noted x (invalidCount w)) d
        (if w = codedTrue then BitVec.ofNat 32 (elapsed (x.core.get a).toNat) else 0)))) ∧
    (∀ d a, Runs s l (.treadX l d a) → SoundRegs s l [a] → (x.core.get a).toNat < 256 →
      let w := x.rd32 (at' (x.core.get a).toNat + 12)
      exec (.treadX l d a) s = .next (after s l (wrote (noted x (invalidCount w)) d
        (if w = codedTrue ∧ (x.rd32 (at' (x.core.get a).toNat + 8)).toNat ≤ elapsed (x.core.get a).toNat then codedTrue
         else codedFalse))))

/-- Counters and edge words work as R169 to R171 state (R117, R156, R157, R169, R170, R171, R145). Taken with sound
registers, a store of right parity and no injection armed: CINC of a counter below 1,024 raises it by one, stopping at
0xFFFFFFFF, and gives the new value; CRD gives the value; EDGEUP and EDGEDN of a key below 65,536 that is bound to an
edge word give coded TRUE for a change from FALSE to TRUE, respectively from TRUE to another value, and FALSE
otherwise, a word PRIMED or INVALID giving FALSE; they store the value as TRUE or FALSE and count the INVALID words
read. Every byte outside the word stored reads as before. Forms that it says complete: CINC, CRD, EDGEUP, EDGEDN. -/
def Obligations.CountersAndEdges : Prop :=
  ∀ (s : State) (l : LaneId), CleanStore s l → Memory.wf (s.lane l).store.cells = true →
    let x := s.lane l
    (∀ d a, Runs s l (.cinc l d a) → SoundRegs s l [a] → (x.core.get a).toNat < 1024 →
      let addr := 0x02F01000 + (x.core.get a).toNat * 4
      let v : Word := BitVec.ofNat 32 (min ((x.rd32 addr).toNat + 1) (2 ^ 32 - 1))
      exec (.cinc l d a) s = .next (after s l (wrote (x.wr32 addr v) d v)) ∧ KeepsOutside x (x.wr32 addr v) addr 4) ∧
    (∀ d a, Runs s l (.crd l d a) → SoundRegs s l [a] → (x.core.get a).toNat < 1024 →
      exec (.crd l d a) s =
        .next (withCore s l fun c => retired c d (x.rd32 (0x02F01000 + (x.core.get a).toNat * 4)))) ∧
    (∀ d a b, SoundRegs s l [a, b] → (x.core.get a).toNat ≤ 65535 →
      let bound := (x.rd16 (0x02F10000 + (x.core.get a).toNat * 2)).toNat
      let addr := 0x02F02000 + (bound - 1) * 4
      let old := x.rd32 addr
      let v := x.core.get b
      let events := invalidCount v + if old = 0 then 0 else invalidCount old
      let y := x.wr32 addr (if v = codedTrue then codedTrue else codedFalse)
      1 ≤ bound → bound ≤ 4096 →
      (Runs s l (.edgeup l d a b) → exec (.edgeup l d a b) s = .next (after s l (wrote (noted y events) d
        (if old = codedFalse ∧ v = codedTrue then codedTrue else codedFalse))) ∧ KeepsOutside x y addr 4) ∧
      (Runs s l (.edgedn l d a b) → exec (.edgedn l d a b) s = .next (after s l (wrote (noted y events) d
        (if old = codedTrue ∧ v ≠ codedTrue then codedTrue else codedFalse)))))

/-- SIG feeds, BUDGET measures, CYCEND closes the cycle and the budget limit ends it (R98, R100, R153, R172, R173,
R174, R203, R209, R210). SIG feeds its register to the signature outside SPLIT and HOLD and changes nothing else;
BUDGET gives the time left to t0 + TI - 3.5 ms in the evaluation phase outside HOLD, else 0; CYCEND, where no request
is in the queue, latches the output image as enables, hands the staged PDUs over, feeds the count of coded-value
events, FEEDS and H, holds the signature as the lane's own and ends the core's run; BUDGET_LIMIT, of an application
that runs at the limit, takes trap 0x07 at the next instruction, loses the cycle and counts it in TB_OVERRUN. Forms
that it says complete: SIG, CYCEND, BUDGET, BUDGET_LIMIT. -/
def Obligations.SignatureAndBudget : Prop :=
  ∀ (s : State) (l : LaneId),
    let x := s.lane l
    (∀ a, Runs s l (.sig l a) → SoundRegs s l [a] →
      exec (.sig l a) s = .next (after s l (wrote (if s.md.mode = .split ∨ s.md.mode = .hold then x else
        { x with vote := { x.vote with
          s := crc64 x.vote.s (wordBytes (x.core.get a)), feeds := x.vote.feeds + 1 } }) 0 0))) ∧
    (∀ d, Runs s l (.budget l d) →
      exec (.budget l d) s = .next (withCore s l fun c => retired c d
        (if x.tb.phase = .evaluation ∧ s.md.mode ≠ .hold then
          BitVec.ofNat 32 (x.tb.t0.toNat + x.tb.ti10 - 350000 - s.tb.nt.toNat) else 0))) ∧
    (Runs s l (.cycend l) → s.md.mode ≠ .hold → s.md.mode ≠ .split → (s.md.role ≠ .ixl ∨ x.engine.sweepPut = true) →
      x.engine.queue = [] → x.engine.digests = [] → x.cyc.initCalls = none → x.core.cvCycle = 0 →
      ∃ t, exec (.cycend l) s = .next t ∧ (t.lane l).cyc.done = true ∧ (t.lane l).core.run = .ended ∧
        (t.lane l).tb.phase = .waiting ∧ (t.lane l).core.packStack = [] ∧ (t.lane l).core.g = x.core.g ∧
        (t.lane l).cyc.enables = some x.outImage ∧ (t.lane l).cyc.handed = some x.staged ∧
        (t.lane l).vote.sigs.get l = some (sigFeed (sigFeed (sigFeed (sigFeed x.vote.s 0) (x.vote.feeds + 1))
          (x.vote.h.setWidth 32)) ((x.vote.h >>> 32).setWidth 32)) ∧
        (t.lane l).store = x.store ∧ (∀ k, k ≠ l → t.lane k = s.lane k) ∧ t.md = s.md ∧ t.recorder = s.recorder) ∧
    (s.budgetArmed l = true → x.core.run = .running → Calm s → s.md.mode ≠ .hold →
      ∃ t, exec (.budgetLimit l) s = .next t ∧ (t.lane l).core.run = .ended ∧ (t.lane l).cyc.lost = true ∧
        (t.lane l).cyc.enables = none ∧ (t.lane l).cyc.handed = none ∧ (t.lane l).core.tpc = x.core.pc ∧
        (t.lane l).core.tcause = (0x207 ||| (if x.core.priv then 0 else 0x100)) ∧
        (t.lane l).tb.overrun = satInc x.tb.overrun ∧ (t.lane l).store = x.store ∧
        Reaches s t (x.tb.t0.toNat + x.tb.ti10 - 350000))

/-- RQPUT, RQGET and RWAIT work on the route engine's queue (R65, R68, R161, R175, R176, R33). Taken with no injection
armed outside OC role: RQPUT of a request that R175 passes puts it at the tail of the queue; RQGET of a completed
request takes it off the head, feeds the result and gives it to the destination, and for an ERROR result takes trap
0x08 with the result as TVAL after that; of a pending request the core stalls; RWAIT retires when no request is
pending and stalls otherwise; ENGINE_STALL_END carries out the stalled instruction once what it waits for has come.
Forms that it says complete: LW, ENGINE_STALL_END, RQPUT, RQGET, RWAIT. -/
def Obligations.EngineQueue : Prop :=
  ∀ (s : State) (l : LaneId), s.md.role ≠ .oc →
    let x := s.lane l
    (∀ a, Runs s l (.rqput l a) → SoundRegs s l [a] → CleanStore s l →
      let q := x.core.get a
      x.engine.enable = true → 1 ≤ q.toNat % 32 → q.toNat % 32 ≤ 12 → requestClean q = true → x.objectFits q = true →
      x.engine.queue.length < 64 →
      (q.toNat % 32 = 2 ∨ q.toNat % 32 = 3 ∨ q.toNat % 32 = 5 → (x.rw (reqObject q) 0).getLsbD 24 = false) →
      exec (.rqput l a) s = .next (after s l (wrote { x with engine := { x.engine with
        queue := x.engine.queue ++ [{ request := q, result := none }]
        sweepPut := x.engine.sweepPut || q.toNat % 32 == 12 } } 0 0))) ∧
    (∀ d q w rest, Runs s l (.rqget l d) → x.engine.queue = { request := q, result := some w } :: rest →
      let y := ({ x with engine := { x.engine with queue := rest } }).feed s.md.mode w
      (w.toNat / 32 % 8 ≠ 2 → exec (.rqget l d) s = .next (after s l (wrote y d w))) ∧
      (w.toNat / 32 % 8 = 2 → exec (.rqget l d) s = .next
        (((s.setLane l { y with core := y.core.set d w }).trap l 0x08 (some 0x061) w).counted l))) ∧
    (∀ d q rest, Runs s l (.rqget l d) → x.engine.queue = { request := q, result := none } :: rest →
      exec (.rqget l d) s = .next (withCore s l fun c => { c with run := .stalled (.rqget l d) })) ∧
    (Runs s l (.rwait l) → x.engine.enable = true →
      exec (.rwait l) s = .next (withCore s l fun c =>
        if x.pendingCount = 0 then retired c 0 0 else { c with run := .stalled (.rwait l) })) ∧
    (∀ d q w rest, x.core.run = .stalled (.rqget l d) → x.engine.queue = { request := q, result := some w } :: rest →
      ∃ t, exec (.engineStallEnd l) s = .next t ∧
        exec (.rqget l d) (s.setLane l { x with core := { x.core with run := .running } }) = .next t) ∧
    (∀ d a imm, x.core.run = .stalled (.lw l d a imm) → x.engineBusy = false →
      ∃ t, exec (.engineStallEnd l) s = .next t ∧
        exec (.lw l d a imm) (s.setLane l { x with core := { x.core with run := .running } }) = .next t)

/-- SLTX stages a safe PDU and SLRX delivers one (R177, R178, R308, R313, R314). SLTX of a connection configured for
transmission, with a buffer in the store that the level may load, a permitted kind, at most 96 bytes of payload, no
reserved bit and nothing staged yet, stages the PDU with the payload of the buffer, feeds 0x51000000 with the
connection and the safety code, and retires; SLRX of a connection configured for reception, with a buffer that the
level may store to, writes kind, length and payload into the buffer, feeds 0x52000000 with the connection and NEW,
then the sequence number, and gives coded TRUE, or, with nothing to deliver, leaves the store alone and gives coded
FALSE. Forms that it says complete: SLTX, SLRX. -/
def Obligations.SafeLinkInstructions : Prop :=
  ∀ (s : State) (l : LaneId) (a b : Reg), SoundRegs s l [a, b] →
    let x := s.lane l
    let c := x.core.get a
    let p := (x.core.get b).toNat
    c.toNat ≤ 511 → p % 4 = 0 → x.sl.enable = true →
    (Runs s l (.sltx l a b) → CleanStore s l → x.connTx c.toNat = true → x.stgFlag c.toNat 5 = false →
      let w := x.rd32 p
      let n := w.toNat % 256
      let k := w.toNat / 256 % 256
      n ≤ 96 → w.toNat / 65536 = 0 → x.kindPermitted c.toNat k = true →
      (∀ i, i < n + 4 → x.bufferLoad (p + i) = .ok) →
      let pdu := s.buildPdu x c.toNat k n (x.bytesAt (p + 4) n)
      let code := leAt pdu (16 + n) 8
      exec (.sltx l a b) s = .next (after s l (wrote ((x.stage c.toNat pdu).feedAll s.md.mode
        [0x51000000 ||| c, BitVec.ofNat 32 code, BitVec.ofNat 32 (code / 2 ^ 32)]) 0 0))) ∧
    (∀ d, Runs s l (.slrx l d a b) → x.connRx c.toNat = true →
      (∀ i, i < 25 → x.bufferStore (s.laneMode l) ((p + 4 * i) % 2 ^ 32) = .ok) →
      (∀ pdu, s.delivery x c.toNat = some pdu →
        exec (.slrx l d a b) s = .next (after s l (wrote ((x.wrWords p (bufferWords pdu)).feedAll s.md.mode
          [0x52000000 ||| c <<< 1 ||| 1, pduSeq pdu]) d codedTrue))) ∧
      (s.delivery x c.toNat = none →
        exec (.slrx l d a b) s = .next (after s l (wrote (x.feedAll s.md.mode [0x52000000 ||| c <<< 1]) d codedFalse))))

/-- RPCALL and RPRET keep the pack-call stack (R179, R63, R147). RPCALL of a present pack and an entry below its
count, with an aligned and fetchable target and fewer than four calls open, pushes the return address and the pack
current before and passes to the target with the called pack current; RPRET with a call open pops both and passes to
the return address, and with none open takes trap 0x01 with its own word as TVAL. Forms that it says complete: RPCALL,
RPRET. -/
def Obligations.PackCalls : Prop :=
  ∀ (s : State) (l : LaneId),
    let x := s.lane l
    (∀ a b, Runs s l (.rpcall l a b) → SoundRegs s l [a, b] → CleanStore s l →
      let p := (x.core.get a).toNat
      let f := (x.core.get b).toNat
      let slot := ((x.rd32 (packAddr p + 0x14)).toNat + f * 4) % 2 ^ 32
      p < 8 → x.packPresent p = true → f < (x.rd32 (packAddr p + 0x18)).toNat % 256 →
      (x.rd32 slot).toNat % 4 = 0 → x.fetchable (x.rd32 slot).toNat = true → x.core.packStack.length < 4 →
      exec (.rpcall l a b) s = .next (withCore s l fun c => { retired c 0 0 with
        packStack := (c.pc + 4, c.pack) :: c.packStack, pack := some p, pc := x.rd32 slot })) ∧
    (∀ ret pk rest, Runs s l (.rpret l) → x.core.packStack = (ret, pk) :: rest →
      (rest ≠ [] ∨ x.cyc.initCalls = none) →
      exec (.rpret l) s = .next (withCore s l fun c =>
        { retired c 0 0 with packStack := rest, pack := pk, pc := ret })) ∧
    (Runs s l (.rpret l) → x.core.packStack = [] →
      exec (.rpret l) s = .next ((s.trap l 0x01 (some 0x081) (instrWord (.rpret l))).counted l))

/-- Checks that fail take their trap in place of the instruction (R130, R133, R135, R141, R146, R147, R148, R156). An
instruction taken at an address that may not be fetched traps with 0x03, at an address with a wrong parity bit with
0x04, a bit-field instruction whose field does not fit and an access to a control register that does not exist with
0x01, and TRET, MTCR, WAIT and HALT at application level with 0x06; a misaligned load or store traps with 0x02 and one
without the right with the number of the refusal, TVAL being the address; a source register with wrong parity traps
with 0x04; an index of PIN above 65, of POUT above 47, a timer above 255 or a counter above 1,023 traps with 0x03.
Nothing of the instruction's own effect happens. -/
def Obligations.CheckTraps : Prop :=
  ∀ (s : State) (l : LaneId), (s.lane l).core.run = .running → Calm s →
    let x := s.lane l
    let trapped (n : Nat) (sub : Option Nat) (v : Word) : Host.Outcome State Fault Refusal :=
      .next ((s.trap l n sub v).counted l)
    (∀ d a b, x.fetchable x.core.pc.toNat = false → exec (.add l d a b) s = trapped 0x03 none x.core.pc) ∧
    (∀ d a b, x.fetchable x.core.pc.toNat = true → x.core.pc.toNat < storeTop → x.parityBad x.core.pc.toNat 4 = true →
      exec (.lw l d a b) s = trapped 0x04 none x.core.pc) ∧
    (∀ i, x.fetchable x.core.pc.toNat = true → x.parityBad x.core.pc.toNat 4 = false → i.wellFormed = false →
      (∃ d a p w, i = .extu l d a p w ∨ i = .exts l d a p w ∨ i = .ins l d a p w) →
      exec i s = trapped 0x01 none ((encode i).getD 0)) ∧
    (∀ i cr a, Takes s l i → x.core.readCr cr.val = none → i = .mfcr l a cr ∨ i = .mtcr l cr a →
      exec i s = trapped 0x01 none ((encode i).getD 0)) ∧
    (∀ i cr a, Takes s l i → x.core.priv = false → (x.core.readCr cr.val).isSome = true →
      i = .tret l ∨ i = .halt l ∨ i = .wait l a ∨ i = .mtcr l cr a →
      exec i s = trapped 0x06 none ((encode i).getD 0)) ∧
    (∀ i d a imm n, (i = .lh l d a imm ∧ n = 2) ∨ (i = .lw l d a imm ∧ n = 4) ∨ (i = .sh l d a imm ∧ n = 2) ∨
      (i = .sw l d a imm ∧ n = 4) → Takes s l i → (x.core.get a + imm.signExtend 32).toNat % n ≠ 0 →
      exec i s = trapped 0x02 none (x.core.get a + imm.signExtend 32)) ∧
    (∀ d a imm r, Takes s l (.lb l d a imm) →
      x.loadRight x.core.priv false (x.core.get a + imm.signExtend 32).toNat = r → r ≠ .ok →
      exec (.lb l d a imm) s = trapped r.trap none (x.core.get a + imm.signExtend 32)) ∧
    (∀ d a imm r, Takes s l (.sb l d a imm) →
      x.storeRight x.core.priv false (s.laneMode l) (x.core.get a + imm.signExtend 32).toNat = r → r ≠ .ok →
      exec (.sb l d a imm) s = trapped r.trap none (x.core.get a + imm.signExtend 32)) ∧
    (∀ d a b r, Takes s l (.add l d a b) → x.core.badSource [a, b] = some r →
      exec (.add l d a b) s = trapped 0x04 none (0xFFFFFF00 ||| BitVec.ofNat 32 r.val)) ∧
    (∀ d a, Takes s l (.pin l d a) → SoundRegs s l [a] → 65 < (x.core.get a).toNat →
      exec (.pin l d a) s =
        trapped 0x03 (some 0x001) (BitVec.ofNat 32 (0x02000020 + (x.core.get a).toNat / 32 * 4))) ∧
    (∀ a b, Takes s l (.pout l a b) → SoundRegs s l [a] → 47 < (x.core.get a).toNat →
      exec (.pout l a b) s =
        trapped 0x03 (some 0x002) (BitVec.ofNat 32 (0x02001000 + (x.core.get a).toNat / 32 * 4))) ∧
    (∀ a, Takes s l (.tstop l a) → SoundRegs s l [a] → 255 < (x.core.get a).toNat →
      exec (.tstop l a) s = trapped 0x03 (some 0x021) (0x02F00000 + x.core.get a * 16)) ∧
    (∀ d a, Takes s l (.crd l d a) → SoundRegs s l [a] → 1023 < (x.core.get a).toNat →
      exec (.crd l d a) s = trapped 0x03 (some 0x031) (0x02F01000 + x.core.get a * 4))

/-- The route engine completes its oldest request, whatever its kind (R65, R66, R69, R83). Each of the twelve commands
CHECK to SWEEP, given to an engine whose oldest request without a result is of its kind, with no injection armed,
answers a next state: that request alone has a result, which carries its KIND and its TAG and an OUTCOME of DONE,
REFUSED or ERROR; ROUTE_REQ_COUNT rises by one up to its largest value, ROUTE_REFUSED_COUNT for a refusal; the general
registers, program counter and level of the core, the other lanes and every shared block are unchanged. -/
def Obligations.EngineAnswers : Prop :=
  ∀ (s : State) (i : Instr) (l : LaneId) (k : Nat) (before later : List QEntry) (q : Word),
    engineKind i = some (l, k) → Calm s → splitPending (s.lane l).engine.queue = some (before, q, later) →
    q.toNat % 32 = k →
    ∃ t w, exec i s = .next t ∧
      (t.lane l).engine.queue = before ++ { request := q, result := some w } :: later ∧
      w.toNat % 32 = k ∧ w.toNat / 2 ^ 26 = q.toNat / 2 ^ 26 ∧ w.toNat / 32 % 8 ≤ 2 ∧
      (t.lane l).engine.reqCount = satInc (s.lane l).engine.reqCount ∧
      (t.lane l).engine.refusedCount = (if w.toNat / 32 % 8 = 1 then satInc (s.lane l).engine.refusedCount
        else (s.lane l).engine.refusedCount) ∧
      (t.lane l).core.g = (s.lane l).core.g ∧ (t.lane l).core.pc = (s.lane l).core.pc ∧
      (t.lane l).core.priv = (s.lane l).core.priv ∧ (t.lane l).core.run = (s.lane l).core.run ∧
      (∀ j, j ≠ l → t.lane j = s.lane j) ∧
      t = { s with lanes := t.lanes, freeCtr := s.freeCtr + 1 }

/-- The route engine writes nothing but its own tables (R32, R66, R69). Whatever request the route engine of a lane
completes, in whatever state of its tables, with chain descriptors that name routes of the route state table, every
byte of the lane's store outside the engine-owned tables 0x0240_0000 to 0x024F_FFFF reads as before, and the store
keeps its canonical form. -/
def Obligations.EngineWritesItsTables : Prop :=
  ∀ (s t : State) (i : Instr) (l : LaneId) (k : Nat),
    engineKind i = some (l, k) → Calm s → Memory.wf (s.lane l).store.cells = true →
    (∀ c, c < 1024 → ∀ m, m ∈ (s.lane l).members c → m < 8192) → exec i s = .next t →
      Memory.wf (t.lane l).store.cells = true ∧
      ∀ a, ¬ engineTable a → (t.lane l).rd8 a = (s.lane l).rd8 a

/-- The requests on a route have the effects of R66 (R49, R53, R59, R66, R67). For a route whose records the engine
accepts: CHECK leaves the store alone and answers DONE with the classes; SET of an AVAILABLE route, in a mode that
accepts it, takes its references and answers DONE, of another route answers REFUSED with the first reason of R66, and
in another mode REFUSED with reason 10, the store alone; CANCEL of a SET, LOCKED or PROVEN route outside a chain makes
it RELEASING; RELEASE_SEGMENT of the next segment, clear, releases its references; RELEASE of a RELEASING route with
its remaining path clear frees it; BLOCK sets and UNBLOCK clears BLOCKED. Forms that it says complete: CHECK, SET,
CANCEL, RELEASE_SEGMENT, RELEASE, BLOCK, UNBLOCK. -/
def Obligations.RouteRequests : Prop :=
  ∀ (s : State) (l : LaneId) (q : Word), Asks s l q →
    let x := s.lane l
    let r := q.toNat / 256 % 2 ^ 14
    let k := q.toNat % 32
    let y := x.noteEval r (x.routeEval r).inconsistent (x.routeEval r).coded
    x.routeFault r = 0 →
    (k = 1 → ∃ t, exec (.check l) s = .next t ∧ Answered t l q 0 0 x.store) ∧
    (k = 2 → settingMode s.md.mode = true → x.notAvailable r (x.routeEval r) = 0 →
      ∃ t, exec (.set l) s = .next t ∧ Answered t l q 0 0 (y.doSet r).store) ∧
    (k = 2 → settingMode s.md.mode = true → x.notAvailable r (x.routeEval r) ≠ 0 →
      ∃ t, exec (.set l) s = .next t ∧ Answered t l q 1 (x.notAvailable r (x.routeEval r)) x.store) ∧
    (k = 2 → settingMode s.md.mode = false → ∃ t, exec (.set l) s = .next t ∧ Answered t l q 1 10 x.store) ∧
    (k = 3 → 1 ≤ x.routeState r → x.routeState r ≤ 3 → x.routeInChain r = false →
      ∃ t, exec (.cancel l) s = .next t ∧ Answered t l q 0 0 (y.setRoute r 4).store) ∧
    (k = 4 → (x.routeState r = 4 ∨ (x.routeState r = 2 ∧ x.routeEntered r = true)) →
      q.toNat / 2 ^ 22 % 16 = x.routeNextSeg r → q.toNat / 2 ^ 22 % 16 + 1 < x.nSeg r →
      x.notClear ((x.refs r).filter (fun e => e.seg = q.toNat / 2 ^ 22 % 16)) = false →
      ∃ t, exec (.releaseSegment l) s = .next t ∧ Answered t l q 0 0
        (let z := ((x.refs r).filter (fun e => e.seg = q.toNat / 2 ^ 22 % 16)).foldl (fun z e => z.releaseRef e) y
         (z.wr32 (rsAddr r) (putField (z.rd32 (rsAddr r)) 8 4 (q.toNat / 2 ^ 22 % 16 + 1))).store)) ∧
    (k = 5 → x.routeState r = 4 → x.routeInChain r = false → x.notClear (x.remaining r) = false →
      ∃ t, exec (.release l) s = .next t ∧ Answered t l q 0 0 (y.releaseAll r).store) ∧
    (k = 6 → ∃ t, exec (.block l) s = .next t ∧ Answered t l q 0 0 (x.wr32 (rsAddr r) (x.rd32 (rsAddr r) ||| 0x10)).store) ∧
    (k = 7 → ∃ t, exec (.unblock l) s = .next t ∧ Answered t l q 0 0 (x.wr32 (rsAddr r) (x.rd32 (rsAddr r) &&& ~~~0x10)).store)

/-- Chain requests, MOVE and SWEEP have the effects of R56, R58 and R66 (R45, R54, R55, R56, R58, R66, R67, R72, R83).
For records that the engine accepts: CHAIN_SET of an IDLE chain whose members are all AVAILABLE, in a mode that
accepts it, makes the chain SET with the cycle number as its set cycle; CHAIN_CANCEL of a SET, LOCKED or PROVEN chain
makes it RELEASING, CHAIN_RELEASE of a RELEASING chain with every remaining path clear makes it IDLE; MOVE of a
commanded, free, usable and clear element to a position it has writes the commanded position alone; SWEEP records its
cycle, its digest of the readiness map and a time within the bound of R72; a chain that is SET beyond its lock limit
is rolled back to IDLE and counted. Forms that it says complete: CHAIN_SET, CHAIN_CANCEL, CHAIN_RELEASE, MOVE, SWEEP,
CHAIN_ROLLBACK. -/
def Obligations.ChainsMovesSweeps : Prop :=
  ∀ (s : State) (l : LaneId),
    let x := s.lane l
    (∀ q, Asks s l q → Memory.wf x.store.cells = true →
      let c := q.toNat / 256 % 2 ^ 14
      c < 1024 → x.chainFault c = 0 → (∀ r, r ∈ x.members c → x.routeFault r = 0) →
      (q.toNat % 32 = 8 → settingMode s.md.mode = true → x.chainState c = 0 → x.firstUnavailable (x.members c) 0 = none →
        ∃ t w, exec (.chainSet l) s = .next t ∧ (t.lane l).engine.queue = [{ request := q, result := some w }] ∧
          w.toNat / 32 % 8 = 0 ∧ (t.lane l).chainState c = 1 ∧ (t.lane l).chainEntered c = false ∧
          (t.lane l).rd32 (0x024A0004 + c * 16) = x.tb.cycle.setWidth 32) ∧
      (q.toNat % 32 = 9 → 1 ≤ x.chainState c → x.chainState c ≤ 3 →
        ∃ t w, exec (.chainCancel l) s = .next t ∧ (t.lane l).engine.queue = [{ request := q, result := some w }] ∧
          w.toNat / 32 % 8 = 0 ∧ (t.lane l).chainState c = 4 ∧
          (t.lane l).rd32 (0x024A0008 + c * 16) = x.tb.cycle.setWidth 32) ∧
      (q.toNat % 32 = 10 → x.chainState c = 4 → x.firstOccupied (x.members c) 0 = none →
        ∃ t w, exec (.chainRelease l) s = .next t ∧ (t.lane l).engine.queue = [{ request := q, result := some w }] ∧
          w.toNat / 32 % 8 = 0 ∧ (t.lane l).chainState c = 0 ∧ (t.lane l).chainEntered c = false)) ∧
    (∀ q, Asks s l q → q.toNat % 32 = 11 → settingMode s.md.mode = true → CleanStore s l →
      let e := q.toNat / 256 % 2 ^ 14
      let pos := q.toNat / 2 ^ 22 % 4
      x.recordFits e = true → typeCommanded (x.elemType e) = true →
      (x.rd32 (0x00810028 + e * 64)).getLsbD pos = true →
      x.es e 0x0C = codedTrue → x.es e 0x10 = codedFalse → x.es e 0x08 = codedTrue → x.es e 0x00 = codedTrue →
      ∃ t, exec (.move l) s = .next t ∧ Answered t l q 0 0
        (x.wr32 (0x02400014 + e * 32) (x.es e 0x14 &&& ~~~0xC ||| BitVec.ofNat 32 (pos * 4))).store) ∧
    (∀ q, Asks s l q → q.toNat % 32 = 12 →
      ∃ t w, exec (.sweep l) s = .next t ∧ (t.lane l).engine.queue = [{ request := q, result := some w }] ∧
        (t.lane l).engine.sweepCycle = x.tb.cycle.setWidth 32 ∧
        (t.lane l).engine.sweepDigest = crc32c 0 ((t.lane l).bytesAt 0x02481000 0x1800) ∧
        (t.lane l).engine.digests = x.engine.digests ++ [(t.lane l).engine.sweepDigest] ∧
        x.engine.sweepMax.toNat ≤ (t.lane l).engine.sweepMax.toNat ∧
        (t.lane l).engine.sweepTime.toNat ≤ (t.lane l).engine.sweepMax.toNat) ∧
    (∀ c : BitVec 10, Memory.wf x.store.cells = true → c.toNat < x.engine.cfgChains.toNat → x.chainFault c.toNat = 0 →
      x.limitPassed c.toNat = true → (∀ r, r ∈ x.members c.toNat → x.routeFault r = 0) →
      ∃ t, exec (.chainRollback l c) s = .next t ∧ (t.lane l).chainState c.toNat = 0 ∧
        (t.lane l).chainEntered c.toNat = false ∧ (∀ j, j ≠ l → t.lane j = s.lane j) ∧
        ((t.lane l).rd32 (0x024A000C + c.toNat * 16)).toNat % 65536 =
          min 65535 ((x.rd32 (0x024A000C + c.toNat * 16)).toNat % 65536 + 1))

/-- ROUTE_CTRL enables, initialises and clears the engine (R74, R77, R78, R79, R80). A runtime view that writes ENABLE
with counts within their limits enables the engine, and with nothing pending disables it; INIT of a disabled engine
makes it busy and its completion gives every element state entry the values of R78 and clears BUSY; QCLEAR of a
disabled engine empties the queue. Nothing else changes; through the view of an application the write takes trap 0x06
and through the service view it changes nothing. Forms that it says complete: ROUTE_ENABLE, ROUTE_INIT,
ROUTE_INIT_DONE, QCLEAR. -/
def Obligations.EngineControl : Prop :=
  ∀ (s : State) (l : LaneId),
    let x := s.lane l
    let set (g : Engine) : State := { s with lanes := s.lanes.set l { x with engine := g } }
    (x.engine.cfgElements.toNat ≤ 16384 → x.engine.cfgRoutes.toNat ≤ 8192 → x.engine.cfgChains.toNat ≤ 1024 →
      exec (.routeEnable (.runtime l) true) s = .next (set { x.engine with enable := true })) ∧
    (x.pendingCount = 0 → exec (.routeEnable (.runtime l) false) s = .next (set { x.engine with enable := false })) ∧
    (x.engine.enable = false →
      exec (.routeInit (.runtime l)) s = .next (set { x.engine with initBusy := true }) ∧
      exec (.qclear (.runtime l)) s = .next (set { x.engine with queue := [] })) ∧
    (x.engine.initBusy = true → Memory.wf x.store.cells = true →
      ∃ t, exec (.routeInitDone l) s = .next t ∧ (t.lane l).engine = { x.engine with initBusy := false } ∧
        (∀ e, e < 16384 → (t.lane l).es e 0x00 = codedFalse ∧ (t.lane l).es e 0x04 = codedFalse ∧
          (t.lane l).es e 0x08 = codedFalse ∧ (t.lane l).es e 0x0C = codedTrue ∧ (t.lane l).es e 0x10 = codedFalse ∧
          (t.lane l).es e 0x14 = 0 ∧ (t.lane l).es e 0x18 = 0 ∧ (t.lane l).es e 0x1C = 0xFFFF) ∧
        (∀ a, ¬ engineTable a → (t.lane l).rd8 a = x.rd8 a) ∧ (t.lane l).core = x.core) ∧
    (∀ on, x.core.run = .running → x.core.priv = false →
      exec (.routeEnable (.app l) on) s = .next (s.trap l 0x06 none 0xF0002004)) ∧
    (∀ on secure, exec (.routeEnable (.service l secure) on) s = .next s)

/-- A cycle start gives every view its cycle number and t0 and starts the lanes afresh (R87, R88, R93, R100, R106,
R145, R209, R264, R352). In a mode with votes, from idle and with no injection armed, CYCLE_START moves network time
to the next t0, keeps the mode, and leaves each lane that runs the cycle with a configured view at t0 with the cycle
number that t0 stands for, the event CYCLE, no instruction counted, a cycle with nothing done but a STOP of its own
still to decide, an empty feed count and the raw word of its five samples, 1 where at least three read high and the
input is not substituted; its own word is held for the agreement where its clock is qualified. LOCAL_CYCLE_START in
SAFE_STOP numbers every view by the local count. INPUT_SAMPLE takes one of the five samples in every lane and changes
nothing else. Forms that it says complete: CYCLE_START, LOCAL_CYCLE_START, INPUT_SAMPLE. -/
def Obligations.CycleStarts : Prop :=
  ∀ s : State,
    (Calm s → s.md.mode.votes = true → s.md.step = .idle →
      let T := s.nextT0 s.lead
      ∃ t, exec .cycleStart s = .next t ∧ t.md.step = .agreement ∧ t.md.mode = s.md.mode ∧ t.md.fenced = s.md.fenced ∧
        Reaches s t T ∧
        ∀ l, s.joins l = true → (s.lane l).tb.cfgValid = true →
          let x := s.lane l
          let y := t.lane l
          y.tb.t0 = BitVec.ofNat 64 T ∧ y.tb.cycle = BitVec.ofNat 48 (T / x.tb.ti10) ∧ y.tb.phase = .agreement ∧
          y.core.events.getLsbD 4 = true ∧ y.core.instret = 0 ∧ y.core.cvCycle = 0 ∧ y.core.pc = x.core.pc ∧
          y.core.g = x.core.g ∧ y.cyc = { Cycle.init with ownStop := x.cyc.ownStop } ∧ y.vote.feeds = 0 ∧
          y.vote.s = sigStart ((BitVec.ofNat 48 (T / x.tb.ti10)).setWidth 32) ∧
          (∀ i, i < 66 → y.vio.raw.getLsbD i =
            (decide (3 ≤ (x.vio.samples.toList.filter (fun o => (o.getD 0).getLsbD i)).length) &&
              !x.vio.pfail.getLsbD i)) ∧
          y.blk.inputs.get l = if x.vio.clkUnq = true ∨ x.vio.qualified = false then none else some y.vio.raw) ∧
    (Calm s → s.localCycle = true → s.md.step = .idle → s.guard.pendingReset = none →
      ∀ e, s.guard.sstopAt = some e →
        let T := s.nextLocal
        ∃ t, exec .localCycleStart s = .next t ∧ t.md.step = .agreement ∧ t.md.mode = .safeStop ∧
          ∀ l, (t.lane l).tb.t0 = BitVec.ofNat 64 T ∧ (t.lane l).core.events.getLsbD 4 = true ∧
            (t.lane l).tb.cycle = BitVec.ofNat 48 ((T - (e.toNat + 999999) / 1000000 * 1000000) / 1000000)) ∧
    (∀ k a b c,
      let take (x : Lane) (w : RawWord) : Lane :=
        { x with vio := { x.vio with samples := x.vio.samples.set k.val (some w) } }
      exec (.inputSample k a b c) s = .next { s with
        lanes := { a := take s.lanes.a a, b := take s.lanes.b b, c := take s.lanes.c c } })

/-- The input agreement takes the majority, counts disagreement and starts the application (R95, R96, R97, R99, R216,
R250, R371). INPUT_AGREEMENT_END of a cycle with a vote, with no injection, every block released with a qualified
clock and no debug release decided, ends the agreement: a lane that holds three words has their majority as its agreed
word, one that holds two has 1 only where both are 1; a lane that works, in RUN, begins its application at the address
of word 4 of its store with the registers of R97 at application level, unless the module stops; with a block released
before its clock was qualified the module enters SAFE_STOP with origin CLOCK. The counts of R250 rise by one,
saturating, where a word differs and fall to 0 where it agrees. INPUT_DISAGREEMENT_LIMIT makes the lane a pending
cause of every lane in the vote with three serving lanes, an unattributable cause with two, and changes nothing below
the limit of 5. Forms that it says complete: INPUT_AGREEMENT_END, INPUT_DISAGREEMENT_LIMIT. -/
def Obligations.InputsAgree : Prop :=
  (∀ s : State, s.md.mode.votes = true → s.md.step = .agreement → s.unqualified = true →
    ∃ t, exec .inputAgreementEnd s = .next t ∧ Stopped t (BitVec.ofNat 8 Origin.clock.code)) ∧
  (∀ s : State, Quiet s → s.md.mode.votes = true → s.md.step = .agreement → s.unqualified = false →
    s.md.holdExit = false →
    ∃ t, exec .inputAgreementEnd s = .next t ∧ t.md.step = .evaluation ∧
      ∀ l, s.joins l = true →
        let x := s.lane l
        let y := t.lane l
        (2 ≤ (s.words x).length → y.vio.degAgree = decide ((s.words x).length = 2) ∧
          ∀ i, i < 66 → y.vio.agreed.getLsbD i =
            decide (2 ≤ ((s.words x).filter (fun p => p.2.getLsbD i)).length)) ∧
        ((s.words x).length < 2 → y.vio.agreed = x.vio.agreed ∧
          (s.serves l = true → y.cyc.lost = true ∨ t.md.mode = .safeStop)) ∧
        (s.md.mode = .run → t.md.mode = .run → 2 ≤ (s.words x).length → x.alive = true → x.cyc.lost = false →
          y.cyc.app = true ∧ y.core.run = .running ∧ y.core.priv = false ∧ y.core.ah = false ∧
          y.core.pc = y.rd32 4 ∧ y.core.packStack = [] ∧ y.tb.phase = .evaluation ∧
          (∀ r : Reg, y.core.get r = if r.val = 30 then y.rd32 0x00800020 else 0))) ∧
  (∀ (x : Lane) (l : LaneId) (bad : RawWord) (i : Fin 66), Memory.wf x.store.cells = true →
    (x.putCounts (countBase l) bad).rd8 (countBase l + i.val) =
      if bad.getLsbD i.val then (if x.rd8 (countBase l + i.val) = 255 then 255 else x.rd8 (countBase l + i.val) + 1)
      else 0) ∧
  (∀ (s : State) (l : LaneId) (i : Fin 66), s.voting = true → s.md.step = .evaluation ∨ s.md.step = .compared →
    (s.servingLanes.length = 3 → 5 ≤ (s.lead.rd8 (countBase l + i.val)).toNat →
      ∃ t, exec (.inputDisagreementLimit l i) s = .next t ∧
        (∀ k, s.joins k = true → (l, CauseKind.input) ∈ (t.lane k).vote.pending ∧ (t.lane k).core = (s.lane k).core ∧
          (t.lane k).store = (s.lane k).store) ∧ t = { s with lanes := t.lanes }) ∧
    (s.servingLanes.length = 2 → 5 ≤ (s.lead.rd8 (0x02F07100 + i.val)).toNat →
      ∃ t, exec (.inputDisagreementLimit l i) s = .next t ∧
        (∀ k, s.joins k = true → (t.lane k).vote.unattributable = true ∧ (t.lane k).vote.pending = (s.lane k).vote.pending) ∧
        t = { s with lanes := t.lanes }) ∧
    (s.servingLanes.length = 3 → (s.lead.rd8 (countBase l + i.val)).toNat < 5 →
      exec (.inputDisagreementLimit l i) s = .next s))

/-- A connection times out to LOST, is forgotten after a million cuts, and a missing twin is counted (R265, R311,
R317, R318, R331, R333). In a cycle whose connections are brought up to date, SUPERVISION_TIMEOUT of a checked receive
connection in state OK with no new PDU, whose timeout has passed, makes it LOST with its restart token 0, one more cut
in LOST and SL_ERR's flag; LOST_CONNECTION_FORGOTTEN of a connection LOST for 1,000,000 cuts makes it IDLE with
nothing retained but that count; TWIN_MISSING of a connection that waits for its twin counts it in the block and in
the staging entry. Every byte outside the entry and the token reads as before, and the core is unchanged. Forms that
it says complete: SUPERVISION_TIMEOUT, LOST_CONNECTION_FORGOTTEN, TWIN_MISSING. -/
def Obligations.ConnectionEvents : Prop :=
  ∀ (s : State) (l : LaneId) (conn : Fin 512), Memory.wf (s.lane l).store.cells = true →
    let x := s.lane l
    let c := conn.val
    let e := 0x02F80000 + c * 256
    (l ∈ s.receivers → s.checked x c = true → x.stgState c = 1 → x.stgFlag c 4 = false →
      x.connTimeout c * 1000 < (BitVec.ofNat 32 (x.tb.t0.toNat / 100) - x.rd32 (e + 8)).toNat →
      ∃ t, exec (.supervisionTimeout l conn) s = .next t ∧ (t.lane l).stgState c = 2 ∧
        (t.lane l).rd32 (0x02F07400 + c * 4) = 0 ∧ (t.lane l).rd32 (e + 0xC) = satInc (x.rd32 (e + 0xC)) ∧
        (t.lane l).sl.err.getLsbD 1 = true ∧ (t.lane l).core = x.core ∧
        (∀ a, (a < e ∨ e + 16 ≤ a) → (a < 0x02F07400 + c * 4 ∨ 0x02F07404 + c * 4 ≤ a) → (t.lane l).rd8 a = x.rd8 a)) ∧
    (l ∈ s.receivers → s.checked x c = true → x.stgState c = 2 → x.rd32 (e + 0xC) = 1000000 →
      ∃ t, exec (.lostConnectionForgotten l conn) s = .next t ∧ (t.lane l).stgState c = 0 ∧
        (t.lane l).rd32 (e + 0xC) = 1000000 ∧ (∀ i, i < 120 → (t.lane l).rd8 (e + 0x10 + i) = 0) ∧
        (t.lane l).core = x.core ∧ (∀ a, (a < e ∨ e + 0x88 ≤ a) → (t.lane l).rd8 a = x.rd8 a)) ∧
    (c ∈ x.sl.twinDue →
      ∃ t, exec (.twinMissing l conn) s = .next t ∧ (t.lane l).rd32 (e + 0x98) = satInc (x.rd32 (e + 0x98)) ∧
        (t.lane l).sl.twinMissing = satInc x.sl.twinMissing ∧ c ∉ (t.lane l).sl.twinDue ∧ (t.lane l).core = x.core ∧
        KeepsOutside x (t.lane l) (e + 0x98) 4)

/-- A message as expected is taken and marks its link up; any other is counted and changes nothing else (R214, R215,
R222, R240, R243, R458). With no injection, INPUT_MESSAGE in the agreement, from a lane whose input clock is
qualified, gives the receiver the sender's input word, SIGNATURE_MESSAGE in the evaluation its signature with the
event VOTE, VIEW_MESSAGE after the signature round its row, AUDIT_MESSAGE in a gap its 64 page digests, and
CONTROL_MESSAGE marks the link up and gives the judgement of the slice released last to a lane that has yet to judge
it; the link of the sender shows up. A message that is not as expected leaves all but the link alone, which shows down
with one more error. Forms that it says complete: INPUT_MESSAGE, SIGNATURE_MESSAGE, VIEW_MESSAGE, AUDIT_MESSAGE,
CONTROL_MESSAGE. -/
def Obligations.LinkMessages : Prop :=
  ∀ (s : State) (dst k : LaneId) (m : LinkMsg), Quiet s →
    (Arrives s dst k 1 9 m → s.md.step = .agreement → s.serves k = true → (s.lane k).vio.clkUnq = false →
      exec (.inputMessage dst m) s = .next (linked s dst k true fun x =>
        { x with blk := { x.blk with inputs := x.blk.inputs.set k (some (BitVec.ofNat 66 (leAt m.body 0 9))) } })) ∧
    (s.joins dst = true → s.voting = true →
      (Arrives s dst k 2 12 m → s.md.step = .evaluation → s.joins k = true →
        exec (.signatureMessage dst m) s = .next (linked s dst k true fun x =>
          { x with
            vote := { x.vote with sigs := x.vote.sigs.set k (some (BitVec.ofNat 64 (leAt m.body 0 8))) }
            core := { x.core with events := x.core.events ||| 0x08 } })) ∧
      (Arrives s dst k 3 2 m → s.md.step = .compared → s.serves k = true →
        exec (.viewMessage dst m) s = .next (linked s dst k true fun x =>
          { x with vote := { x.vote with rows := x.vote.rows.set k (some (rowOf (leAt m.body 0 2 / 16 ^ k.num))) } })) ∧
      (Arrives s dst k 4 512 m → s.gapDuties = true → k ∈ s.auditors → (s.lane dst).vote.auditing = true →
        ∃ t, exec (.auditMessage dst m) s = .next t ∧
          (t.lane dst).vote.digests.get k = some (bodyDigests m.body) ∧ (t.lane dst).core = (s.lane dst).core ∧
          (t.lane dst).blk = ((s.lane dst).noteLink dst k true).blk ∧ (t.lane dst).store = (s.lane dst).store) ∧
      (∀ d, Arrives s dst k 6 m.body.length m → s.bist.done = some d → d.lane = k → s.serves dst = true →
        (s.lane dst).bist.feedLane = none →
        ∃ t, exec (.controlMessage dst m) s = .next t ∧ (t.lane dst).bist.feedLane = some (t.lane dst).bist.last ∧
          (t.lane dst).bist.misr = d.misr ∧ (t.lane dst).bist.time = d.time ∧
          (t.lane dst).core = { (s.lane dst).core with events := (s.lane dst).core.events ||| 0x40 } ∧
          (t.lane dst).store = (s.lane dst).store) ∧
      (Arrives s dst k 6 m.body.length m → s.bist.done = none →
        exec (.controlMessage dst m) s = .next (linked s dst k true id))) ∧
    (msgSender m = some k → k ≠ dst → ∀ i typ len,
      (i = .inputMessage dst m ∧ typ = 1 ∧ len = 9 ∧ s.md.step = .agreement ∧ (s.lane k).vio.clkUnq = false) ∨
      (s.joins dst = true ∧ s.voting = true ∧
        ((i = .signatureMessage dst m ∧ typ = 2 ∧ len = 12) ∨ (i = .viewMessage dst m ∧ typ = 3 ∧ len = 2) ∨
         (i = .auditMessage dst m ∧ typ = 4 ∧ len = 512 ∧ s.gapDuties = true) ∨
         (i = .controlMessage dst m ∧ typ = 6 ∧ len = m.body.length))) →
      msgGood m dst typ len (s.lane dst).cycleLo = false → exec i s = .next (linked s dst k false id))

/-- The rounds close: rows of comparisons, and each lane's decision (R215, R216, R217, R237, R243). With no injection
and no core still evaluating, SIGNATURE_ROUND_CLOSE gives each lane that sent a signature its row, EQUAL, DIFFERENT or
MISSING for the signatures it holds of the other two, and changes no core and no store. VIEW_ROUND_CLOSE gives a
working serving lane with no cause pending, outside probation, the decision of R216: CONTINUE where every comparison
is EQUAL, in RUN FENCE of a lane that both others find not EQUAL while they find each other EQUAL, with two serving
lanes in DEGRADED STOP for any difference, and STOP for a lane that must decide it by itself. Forms that it says
complete: SIGNATURE_ROUND_CLOSE, VIEW_ROUND_CLOSE. -/
def Obligations.RoundsClose : Prop :=
  ∀ s : State, Calm s → s.voting = true →
    (s.md.step = .evaluation → (∀ l, s.joins l = true → (s.lane l).evaluating = false) →
      ∃ t, exec .signatureRoundClose s = .next t ∧ t.md = { s.md with step := .compared } ∧
        ∀ l, s.joins l = true →
          let v := (s.lane l).vote
          let compare (a b : Option DWord) : Cmp :=
            if a = none ∨ b = none then .missing else if a = b then .equal else .different
          (t.lane l).core = (s.lane l).core ∧ (t.lane l).store = (s.lane l).store ∧
          (t.lane l).vote.rows.get l = (if (s.lane l).cyc.done then
              some { next := compare (v.sigs.get l) (v.sigs.get l.next), prev := compare (v.sigs.get l) (v.sigs.get l.prev) }
            else v.rows.get l) ∧
          (∀ k, (t.lane l).vote.sigRegs.get k = (v.sigs.get k).getD 0)) ∧
    (s.md.step = .compared → s.stage.swLatched = 0 → s.inProbation = false →
      ∃ t, exec .viewRoundClose s = .next t ∧ t.md = { s.md with step := .viewed } ∧
        ∀ l, s.serves l = true → (s.lane l).alive = true → (s.lane l).vote.pending = [] →
          (s.lane l).vote.unattributable = false →
          let x := s.lane l
          (t.lane l).core = x.core ∧ (t.lane l).store = x.store ∧
          (x.cyc.ownStop = true → (t.lane l).vote.lines = some .stop) ∧
          (x.cyc.ownStop = false → x.cyc.marker = false → s.servingLanes.length = 3 →
            (s.md.mode = .run ∨ s.md.mode = .stop ∨ s.md.mode = .maintenance →
              (∀ j k, j ≠ k → x.vote.m j k = .equal) → (t.lane l).vote.lines = some .cont) ∧
            (∀ j, s.md.mode = .run → x.vote.m j.next j ≠ .equal → x.vote.m j.prev j ≠ .equal →
              x.vote.m j.next j.prev = .equal → x.vote.m j.prev j.next = .equal →
              (t.lane l).vote.lines = some (.fence j))) ∧
          (∀ j k, x.cyc.ownStop = false → x.cyc.marker = false → s.md.mode = .degraded → s.servingLanes = [j, k] →
            (x.vote.m j k = .equal → x.vote.m k j = .equal → (t.lane l).vote.lines = some .cont) ∧
            (x.vote.m j k ≠ .equal ∨ x.vote.m k j ≠ .equal → (t.lane l).vote.lines = some .stop)))

/-- The gates decide by two lines that agree, the copies are compared, and STOP ends in SAFE_STOP at once (R102, R215,
R218, R219, R221, R243, R349, R351). With no injection, VOTE_DEADLINE with three serving lanes outside probation, two
of which drive CONTINUE, decides CONTINUE in both gates; two that drive FENCE of one lane decide it; with none so
agreed the decision is STOP and the module is in SAFE_STOP with origin VOTE, every output off and nothing released.
VOTE_RESULT holds the code of the decision, each lane has the event VOTE. TWO_KEY_COMPARE releases the copies of the
two lanes compared where they are identical and changes nothing else; otherwise it withholds everything and the module
is in SAFE_STOP with origin TWO_KEY; a comparison that completes after the cut of its cycle releases the copies then,
or stops the module likewise. Forms that it says complete: VOTE_DEADLINE, TWO_KEY_COMPARE. -/
def Obligations.VoteDeadline : Prop :=
  ∀ s : State, Calm s → s.voting = true →
    (s.md.step = .viewed → s.servingLanes.length = 3 → s.inProbation = false →
      let decided (d : Decision) : Prop :=
        ∃ t, exec .voteDeadline s = .next t ∧ t.md.step = .voted ∧ t.md.voted = true ∧ t.md.gateGm = d ∧
          t.md.gateRing = d ∧ t.md.mode = s.md.mode ∧ t.md.fenced = s.md.fenced ∧
          ∀ l, (t.lane l).vote.module = BitVec.ofNat 4 d.code ∧ (t.lane l).tb.phase = .gap ∧
            (t.lane l).core.events.getLsbD 3 = true ∧ (t.lane l).vote.cycle = (s.lane l).tb.cycle.setWidth 32 ∧
            (t.lane l).core.pc = (s.lane l).core.pc ∧ (t.lane l).core.g = (s.lane l).core.g
      (2 ≤ (s.drives .cont).length → decided .cont) ∧
      (∀ x, 2 ≤ (s.drives (.fence x)).length → decided (.fence x)) ∧
      ((s.drives .cont).length < 2 → (∀ x, (s.drives (.fence x)).length < 2) →
        ∃ t, exec .voteDeadline s = .next t ∧ t.md.mode = .safeStop ∧ t.guard.sstopOrigin = 1 ∧ t.stage.on = 0 ∧
          t.md.released = [] ∧ ∀ l, (t.lane l).vote.module = 8)) ∧
    (∀ a b keep, s.md.late = some (a, b, keep) →
      (a = b → exec .twoKeyCompare s =
        .next { s with md := { s.md with late := none, released := if keep then a else [] } }) ∧
      (a ≠ b → MayStop s → ∃ t, exec .twoKeyCompare s = .next t ∧ Stopped t 4 ∧ t.md.twoKeyFault = true ∧
        t.md.released = [] ∧ t.md.late = none)) ∧
    (∀ l k, s.md.step = .voted → s.md.late = none → s.md.compared = none → s.keyLanes = [l, k] →
      ((s.lane l).cyc.handed.getD [] = (s.lane k).cyc.handed.getD [] →
        exec .twoKeyCompare s =
          .next { s with md := { s.md with compared := some ((s.lane l).cyc.handed.getD []) } }) ∧
      ((s.lane l).cyc.handed.getD [] ≠ (s.lane k).cyc.handed.getD [] →
        ∃ t, exec .twoKeyCompare s = .next t ∧ t.md.mode = .safeStop ∧ t.md.twoKeyFault = true ∧
          t.md.released = [] ∧ t.guard.sstopOrigin = 4 ∧ t.stage.on = 0))

/-- The audit of the gap, and the output cut that ends the cycle (R25, R101, R102, R120, R195, R218, R222, R223, R225,
R228, R243). AUDIT_READ_COMPLETE gives an auditing lane its 64 page digests of the audited region, the last applied
sequence and the forces with the page of the change area (log 88), and, once it holds all of them, moves its step on;
GAP_ABANDON ends whatever still runs. OUTPUT_CUT of a RUN cycle whose vote was CONTINUE and that brought no event
keeps the mode and the latches, passes the enables of each lane to the stage and releases the copies compared; of one
whose vote was FENCE of a serving lane it sets that lane's latch, counts the fence in every view, and the module is
DEGRADED. Forms that it says complete: GAP_ABANDON, OUTPUT_CUT, AUDIT_READ_COMPLETE. -/
def Obligations.GapAndCut : Prop :=
  ∀ s : State, Quiet s →
    (∀ l, s.gapDuties = true → l ∈ s.auditors → (s.lane l).vote.auditing = true → (s.lane l).vote.digests.get l = none →
      ∃ t, exec (.auditReadComplete l) s = .next t ∧ (t.lane l).core = (s.lane l).core ∧
        (t.lane l).store = (s.lane l).store ∧
        (t.lane l).vote.digests.get l = some ((List.range 64).map fun i =>
          let a := 0x02000000 + (s.lane l).vote.auditStep.toNat * 0x40000 + i * 4096
          crc64 (BitVec.allOnes 64)
            ((s.lane l).bytesAt a 4096 ++ if a = 0x02FE0000 then (s.lane l).change.auditBytes else [])) ∧
        ((∀ k, k ∈ s.auditors → k ≠ l → (s.lane l).vote.digests.get k ≠ none) →
          (t.lane l).vote.auditing = false ∧ (t.lane l).vote.auditStep = (s.lane l).vote.auditStep + 1) ∧
        (∀ k, k ∈ s.auditors → k ≠ l → (s.lane l).vote.digests.get k = none →
          (t.lane l).vote.auditing = true ∧ (t.lane l).vote.auditStep = (s.lane l).vote.auditStep)) ∧
    (s.voting = true → s.md.step = .voted →
      (∃ t, exec .gapAbandon s = .next t ∧ t.bist.lane = none ∧ t.bist.shared = none ∧ t.md = s.md ∧
        t.resync.frozen = false ∧
        Reaches s t (s.lead.tb.t0.toNat + s.lead.tb.ti10 - 10000) ∧
        ∀ l, (t.lane l).vote.auditing = false ∧ (t.lane l).store = (s.lane l).store ∧
          (t.lane l).core.pc = (s.lane l).core.pc ∧ (t.lane l).core.g = (s.lane l).core.g)) ∧
    (s.md.mode = .run → s.md.step = .voted → s.md.holdExit = false → s.md.voted = true → s.md.vital = true →
      s.md.events = [] → (∀ l, (s.lane l).cyc.events = []) → s.stopDue = none → s.resync.shadowBad = false →
      s.resync.failed = false → s.guard.pendingReset = none →
      (s.md.gateGm = .cont →
        ∃ t, exec .outputCut s = .next t ∧ t.md.mode = .run ∧ t.md.step = .idle ∧ t.md.fenced = s.md.fenced ∧
          t.md.released = s.md.compared.getD [] ∧ t.stage.holdOff = false ∧ t.md.firstRun = false ∧
          ∀ l, (t.lane l).vio.en = (s.lane l).cyc.enables.getD (s.lane l).vio.en ∧
            (t.lane l).core.pc = (s.lane l).core.pc ∧ (t.lane l).core.g = (s.lane l).core.g ∧
            (t.lane l).store = (s.lane l).store) ∧
      (∀ x, s.md.gateGm = .fence x → s.serves x = true → s.guard.level .resync = .co → s.guard.priming = .done →
        ∃ t, exec .outputCut s = .next t ∧ t.md.mode = .degraded ∧ t.md.step = .idle ∧
          t.md.fenced = s.md.fenced.set x true ∧ t.md.released = s.md.compared.getD [] ∧
          t.resync.attempts.get x = 0 ∧
          (∀ l, l ≠ x → (t.lane l).vote.fenceCount.get x = satInc ((s.lane l).vote.fenceCount.get x) ∧
            (t.lane l).core.pc = (s.lane l).core.pc ∧ (t.lane l).vio.en = (s.lane l).cyc.enables.getD (s.lane l).vio.en) ∧
          (s.guard.lockedOut.get x = false → t.guard.lockedOut.get x = false →
            (t.lane x).core.run = .held ∧ (t.lane x).core.pc = 0x40000000)))

/-- The copy engine sends the lowest page that is due, passes and freezes as R231 and R232 say (R214, R228, R230,
R231, R232, R233, R236). While the engine copies, COPY_MESSAGE of the lowest page still to be copied, as the fenced
lane expects it from its donor, clears the page's dirty bit in the donor, takes the page off the list, gives the
fenced lane the bytes of the message and leaves every byte outside the page as it was; one that is not as expected
leaves the store alone and counts a link error, and the page stays on the list and dirty (log 41). COPY_PASS_COMPLETE
with no page left starts the next round from the donor's dirty pages; FREEZE, where it may start, takes the dirty
pages of that moment; FREEZE_COMPLETE ends the first freeze, and before the vote leads from the second to the rejoin,
with the donor's M3 in the fenced lane. Forms that it says complete: COPY_MESSAGE, COPY_PASS_COMPLETE, FREEZE,
FREEZE_COMPLETE. -/
def Obligations.CopyOfAFencedLane : Prop :=
  ∀ s : State,
    let f := s.resync.lane
    let d := s.lane f.next
    let upd (g : Resync → Resync) : State := { s with resync := g s.resync }
    (∀ (page : Fin 12288) (m : LinkMsg), Quiet s → s.copying = true → s.resync.todo.getLsbD page.val = true →
      (∀ p, p < page.val → s.resync.todo.getLsbD p = false) → Memory.wf (s.lane f).store.cells = true →
      (Arrives s f f.next 5 4096 m →
        ∃ t, exec (.copyMessage page m) s = .next t ∧
          (∀ p, t.resync.todo.getLsbD p = (s.resync.todo.getLsbD p && p != page.val)) ∧
          (∀ p, (t.lane f.next).store.dirty.getLsbD p = (d.store.dirty.getLsbD p && p != page.val)) ∧
          (t.lane f.next).store.cells = d.store.cells ∧ (t.lane f.next).core = d.core ∧
          (t.lane f).core = (s.lane f).core ∧ (t.lane f).blk = ((s.lane f).noteLink f f.next true).blk ∧ t.md = s.md ∧
          (∀ a, (t.lane f).rd8 a =
            if page.val * 4096 ≤ a ∧ a < page.val * 4096 + 4096 then m.body.getD (a - page.val * 4096) 0
            else (s.lane f).rd8 a)) ∧
      (∀ k, msgSender m = some k → k ≠ f → msgGood m f 5 4096 (s.lane f).cycleLo = false →
        ∃ t, exec (.copyMessage page m) s = .next t ∧ t.resync = s.resync ∧ t.md = s.md ∧
          (∀ p, (t.lane f.next).store.dirty.getLsbD p = (d.store.dirty.getLsbD p || p == page.val)) ∧
          (t.lane f.next).store.cells = d.store.cells ∧ (t.lane f).store = (s.lane f).store ∧
          (t.lane f).core = (s.lane f).core ∧ (t.lane f).blk = ((s.lane f).noteLink f k false).blk)) ∧
    (s.md.mode = .resync → s.resync.phase = .copyM ∨ s.resync.phase = .copyN → s.resync.todo = 0 →
      exec .copyPassComplete s = .next (upd fun r => { r with
        bulkDone := true, round := satInc r.round, todo := d.store.dirty })) ∧
    (s.md.mode = .resync → s.resync.bulkDone = true → d.cyc.done = true → s.md.step ≠ .idle →
      popcount d.cyc.dirtyEnd ≤ 256 → s.tb.nt.toNat ≤ s.lead.tb.t0.toNat + s.lead.tb.ti10 - 10000 →
      (s.resync.phase = .copyM → exec .freeze s =
        .next (upd fun r => { r with phase := .freezeM, frozen := true, todo := d.store.dirty })) ∧
      (s.resync.phase = .copyN → exec .freeze s =
        .next (upd fun r => { r with phase := .freezeN, frozen := true, todo := d.store.dirty }))) ∧
    (s.md.mode = .resync → s.resync.frozen = true → s.resync.todo = 0 →
      (s.resync.phase = .freezeM → exec .freezeComplete s = .next (upd fun r => { r with frozen := false })) ∧
      (s.resync.phase = .freezeN → s.md.step = .agreement ∨ s.md.step = .evaluation ∨ s.md.step = .compared →
        exec .freezeComplete s = .next (onLane (upd fun r => { r with phase := .rejoin, frozen := false }) f
          (fun x => { x with meas := { x.meas with m := x.meas.m.set 3 d.meas.m[3] } }))) ∧
      (s.resync.phase = .freezeN → s.md.step = .idle ∨ s.md.step = .viewed ∨ s.md.step = .voted →
        exec .freezeComplete s = .next (upd fun r => { r with
          phase := .copyN, frozen := false, todo := d.store.dirty })))

/-- A resynchronisation fails at its limit, and probation ends after 64 audit steps (R234, R236, R237, R250).
RESYNC_FAILED, once three cycles and 500 ms have passed since the start before the coming cut, marks the attempt as
failed at that instant and changes nothing else but the time; the output cut of a RESYNC cycle whose vote was REJOIN
clears the latch of the rejoined lane, begins its probation, counts the resynchronisation in every view and the module
is in RUN. PROBATION_END after 64 audit steps ends the probation and changes nothing else. Forms that it says
complete: OUTPUT_CUT, RESYNC_FAILED, PROBATION_END. -/
def Obligations.ResyncEnds : Prop :=
  ∀ s : State,
    (let limit := s.resync.start.toNat + 3 * s.lead.tb.ti10 + 50000000
     s.md.mode = .resync → s.resync.phase ≠ .idle → s.resync.failed = false →
      limit ≤ s.lead.tb.t0.toNat + s.lead.tb.ti10 →
      ∃ t, exec .resyncFailed s = .next t ∧ t.resync = { s.resync with failed := true } ∧ t.lanes = s.lanes ∧
        t.md = s.md ∧ t.stage = s.stage ∧ t.recorder = s.recorder ∧
        Reaches s t limit) ∧
    (∀ x, Quiet s → s.md.mode = .resync → s.md.step = .voted → s.md.voted = true → s.md.gateGm = .rejoin x →
      s.md.vital = true → s.md.events = [] → (∀ l, (s.lane l).cyc.events = []) → s.stopDue = none →
      s.resync.shadowBad = false → s.resync.failed = false → s.resync.frozen = false → s.guard.pendingReset = none → s.serves x = false →
      ∃ t, exec .outputCut s = .next t ∧ t.md.mode = .run ∧ t.md.fenced = s.md.fenced.set x false ∧
        t.md.probation = some 0 ∧ t.resync.attempts.get x = 0 ∧ t.resync.phase = .idle ∧
        t.md.released = s.md.compared.getD [] ∧ (t.lane x).blk.mirrored = false ∧
        (∀ l, (t.lane l).blk.resyncDone = satInc (s.lane l).blk.resyncDone ∧
          (t.lane l).core.pc = (s.lane l).core.pc ∧ (t.lane l).core.g = (s.lane l).core.g)) ∧
    (∀ n, s.md.probation = some n → 64 ≤ n →
      exec .probationEnd s = .next { s with md := { s.md with probation := none } })

/-- The output stage evaluates its readings, trips, holds off and opens groups (R254, R255, R256, R257). While the
stage runs and with no injection: OUTPUT_EVALUATION takes the three lanes' readings and, with three serving lanes,
counts the evaluations in a row in which the median current is above 1.1 A and in which the median voltage of an
output that is off is above 5 V; it switches nothing. OPEN_LOAD after 20 evaluations below the minimum is reported
once and switches nothing; TRIPPED, after 100 evaluations above 1.1 A or 100 us of a median current above 1.5 A, opens
the output and counts; VF_RANGE after 10 evaluations holds the group off, VF_RANGE_CLEAR after 100 in range releases
it; BACKFEED after 10 evaluations opens the group's switch and the module is in SAFE_STOP. No mode but that of
BACKFEED changes. Forms that it says complete: OUTPUT_EVALUATION, OPEN_LOAD, TRIPPED, BACKFEED, VF_RANGE,
VF_RANGE_CLEAR. -/
def Obligations.StageEvaluates : Prop :=
  ∀ s : State, Quiet s → s.stageRuns = true →
    (∀ a b c, s.servingLanes.length = 3 →
      ∃ t, exec (.outputEvaluation a b c) s = .next t ∧ t.md = s.md ∧ t.stage.on = s.stage.on ∧
        t.stage.evalAt = some t.tb.nt ∧ (t.lane .A).vio.readback = a ∧ (t.lane .B).vio.readback = b ∧
        (t.lane .C).vio.readback = c ∧
        (∀ l, (t.lane l).core = (s.lane l).core ∧ (t.lane l).store = (s.lane l).store) ∧
        ∀ o : Fin 48,
          t.stage.overRun[o] = (if 1100 < median a.current[o].toNat b.current[o].toNat c.current[o].toNat then
            s.stage.overRun[o] + 1 else 0) ∧
          t.stage.backRun[o] = (if s.stage.on.getLsbD o.val = false ∧ s.stage.pulseMask.getLsbD o.val = false ∧
              200 < median a.volt[o].toNat b.volt[o].toNat c.volt[o].toNat then s.stage.backRun[o] + 1 else 0)) ∧
    (∀ o : Fin 48, 20 ≤ s.stage.openRun[o] → s.stage.openNow.getLsbD o.val = false →
      ∃ t, exec (.openLoad o) s = .next t ∧ t.stage.openNow.getLsbD o.val = true ∧ t.stage.first[o].isSome = true ∧
        t.md = s.md ∧ t.lanes = s.lanes ∧ t.stage.on = s.stage.on) ∧
    (∀ (o : Fin 48) (r : TripReading),
      (100 ≤ r.us ∧ s.servingLanes.length = 3 ∧ 1500 < median r.a.toNat r.b.toNat r.c.toNat) ∨
      100 ≤ s.stage.overRun[o] → s.stage.trip.getLsbD o.val = false →
      ∃ t, exec (.tripped o r) s = .next t ∧ t.stage.trip.getLsbD o.val = true ∧ t.stage.on.getLsbD o.val = false ∧
        t.stage.tripCount = satInc s.stage.tripCount ∧ t.md = s.md ∧ t.lanes = s.lanes ∧
        (∀ p : Fin 48, p ≠ o → t.stage.trip.getLsbD p.val = s.stage.trip.getLsbD p.val)) ∧
    (∀ g : Fin 3, 10 ≤ s.stage.vfBad[g] → s.stage.vfHeld.getLsbD g.val = false →
      ∃ t, exec (.vfRange g) s = .next t ∧ t.stage.vfHeld.getLsbD g.val = true ∧ t.md = s.md ∧ t.lanes = s.lanes ∧
        (∀ o : Fin 48, o.val / 16 = g.val → t.stage.on.getLsbD o.val = false) ∧
        (∀ k : Fin 3, k ≠ g → t.stage.vfHeld.getLsbD k.val = s.stage.vfHeld.getLsbD k.val)) ∧
    (∀ g : Fin 3, 100 ≤ s.stage.vfGood[g] → s.stage.vfHeld.getLsbD g.val = true →
      ∃ t, exec (.vfRangeClear g) s = .next t ∧ t.stage.vfHeld.getLsbD g.val = false ∧ t.md = s.md ∧ t.lanes = s.lanes ∧
        t.recorder = s.recorder) ∧
    (∀ o : Fin 48, 10 ≤ s.stage.backRun[o] → s.stage.backNow.getLsbD o.val = false → s.md.mode ≠ .safeStop →
      ∃ t, exec (.backfeed o) s = .next t ∧ t.stage.groupFault.getLsbD (o.val / 16) = true ∧ t.md.mode = .safeStop ∧
        t.guard.sstopOrigin = 5 ∧ t.stage.on = 0 ∧ t.md.released = [])

/-- Switch and sense faults, and the off-pulses (R254, R257, R258, R259, R260). While the stage runs and with no
injection: LANE_SWITCH_FAULT after two differing comparisons is reported once, for the lane at the next cut; SENSE_ODD
after ten evaluations marks the lane, or the pair of two serving lanes, for the next cut; SENSE_ODD_CAUSE after five
cuts makes the lane a pending cause of every lane in the vote, or the difference of two an unattributable one;
OFF_PULSE at the slot of a conducting output opens it there unless a cut is near, in which case it is postponed and
counted; OFF_PULSE_END closes it at the first evaluation that finds the voltage below 5 V, and counts it; where
voltage remains at 400 us it is STUCK_ON with SAFE_STOP with every element open, and the switch fault of each lane
that reports one closed. Forms that it says complete: LANE_SWITCH_FAULT, SENSE_ODD, SENSE_ODD_CAUSE, OFF_PULSE,
OFF_PULSE_END. -/
def Obligations.StageDiagnoses : Prop :=
  ∀ s : State, Quiet s → s.stageRuns = true →
    (∀ l (o : Fin 48), (s.stage.swTwice.get l).getLsbD o.val = true → (s.stage.swSeen.get l).getLsbD o.val = false →
      ∃ t, exec (.laneSwitchFault l o) s = .next t ∧ (t.stage.swSeen.get l).getLsbD o.val = true ∧
        t.stage.swNext.getLsbD l.num = true ∧ t.stage.outNext.isSome = true ∧ t.md = s.md ∧ t.lanes = s.lanes ∧
        t.stage.on = s.stage.on) ∧
    (∀ l, (∃ q : Fin 51, 10 ≤ (s.stage.oddRun.get l)[q]) →
      ∃ t, exec (.senseOdd (some l)) s = .next t ∧ t.stage.oddNext.getLsbD l.num = true ∧
        t = { s with stage := { s.stage with oddNext := t.stage.oddNext, outNext := t.stage.outNext } }) ∧
    ((∃ q : Fin 51, 10 ≤ s.stage.pairRun[q]) →
      ∃ t, exec (.senseOdd none) s = .next t ∧ t.stage.pairNext = true ∧
        t = { s with stage := { s.stage with pairNext := true, outNext := t.stage.outNext } }) ∧
    (∀ l, s.voting = true → s.md.step = .evaluation ∨ s.md.step = .compared →
      (s.servingLanes.length = 3 → 5 ≤ s.stage.oddCuts.get l →
        ∃ t, exec (.senseOddCause (some l)) s = .next t ∧ t.md = s.md ∧
          ∀ k, s.joins k = true → (l, CauseKind.input) ∈ (t.lane k).vote.pending ∧ (t.lane k).core = (s.lane k).core) ∧
      (s.servingLanes.length = 2 → 5 ≤ s.stage.pairCuts →
        ∃ t, exec (.senseOddCause none) s = .next t ∧ t.md = s.md ∧
          ∀ k, s.joins k = true → (t.lane k).vote.unattributable = true ∧ (t.lane k).core = (s.lane k).core)) ∧
    (∀ o : Fin 48, s.stage.pulse = none → s.stage.postponed = none → s.md.step = .idle ∨ s.nextSlot < s.cutInstant →
      s.nextSlot / 2000000 % 50 = o.val → s.stage.on.getLsbD o.val = true →
      ∃ t, exec .offPulse s = .next t ∧ t.md = s.md ∧ t.lanes = s.lanes ∧ Reaches s t s.nextSlot ∧
        (s.nearCut t.tb.nt.toNat = none → t.stage.pulse = some (o, t.tb.nt) ∧ t.stage.on.getLsbD o.val = false ∧
          t.stage.sincePulse[o] = 0) ∧
        (∀ c, s.nearCut t.tb.nt.toNat = some c → t.stage = { s.stage with
          postponed := some (o, BitVec.ofNat 64 (c + 10000)), pulsePostponed := satInc s.stage.pulsePostponed })) ∧
    (∀ o t0 us v as bs cs, let vs := pulseSamples as bs cs
      s.stage.pulse = some (o, t0) → 60 ≤ us → us ≤ 400 → us % 10 = 0 →
      vs[(us - 60) / 10]? = some v → (∀ k, k < (us - 60) / 10 → ∀ w, vs[k]? = some w → 200 ≤ s.pulseVolt w) →
      (s.pulseVolt v < 200 →
        ∃ t, exec (.offPulseEnd as bs cs) s = .next t ∧ t.stage.pulse = none ∧
          t.stage.pulseCount = satInc s.stage.pulseCount ∧ t.stage.sincePulse[o] = 0 ∧
          t.stage.groupFault = s.stage.groupFault ∧ t.md = s.md ∧ t.lanes = s.lanes) ∧
      (200 ≤ s.pulseVolt v → us = 400 →
        (closedLanes v = [] → s.md.mode ≠ .safeStop →
          ∃ t, exec (.offPulseEnd as bs cs) s = .next t ∧ t.stage.pulse = none ∧
            t.stage.groupFault.getLsbD (o.val / 16) = true ∧ t.md.mode = .safeStop ∧ t.stage.on = 0) ∧
        (closedLanes v ≠ [] →
          ∃ t, exec (.offPulseEnd as bs cs) s = .next t ∧ t.stage.pulse = none ∧ t.stage.groupFault = s.stage.groupFault ∧
            t.md = s.md ∧ t.lanes = s.lanes ∧ ∀ l, l ∈ closedLanes v →
              t.stage.swNext.getLsbD l.num = true ∧ (t.stage.swSeen.get l).getLsbD o.val = true)))

/-- Test pulses find inputs that do not drop, and two restart requests leave SAFE_STOP (R26, R247, R248, R249, R263).
While the stage runs and with no injection: TEST_PULSE of a source in use makes the substituted inputs of each lane
those on the source that still read high, and keeps the others as they were; TP_STUCK shows STUCK_ON of a source whose
voltage is 2 V or more at the end of its pulse, and STUCK_OFF of one that stays below 2 V outside its pulses for more
than 1 ms, and changes no other source. RESTART_REQUEST in SAFE_STOP with no reset pending and no bar of R26 leads to
STARTUP_TEST where two lanes assert the line; where the exit is barred the events are consumed and the mode stays.
Forms that it says complete: TEST_PULSE, TP_STUCK, RESTART_REQUEST. -/
def Obligations.TestPulsesAndRestart : Prop :=
  ∀ s : State, Quiet s →
    (∀ (src : Fin 8) (w : LaneId → RawWord), s.stageRuns = true → s.tpUsed.getLsbD src.val = true →
      ∃ t, exec (.testPulse src (w .A) (w .B) (w .C)) s = .next t ∧ t.md = s.md ∧
        t.stage = { s.stage with tpPulse := t.stage.tpPulse } ∧ t.stage.tpPulse.map (·.1) = some src ∧
        ∀ l, (t.lane l).core = (s.lane l).core ∧ (t.lane l).store = (s.lane l).store ∧
          ∀ i, i < 66 → (t.lane l).vio.pfail.getLsbD i =
            if (s.lane l).tpSource i = src.val then (w l).getLsbD i else (s.lane l).vio.pfail.getLsbD i) ∧
    (∀ (src : Fin 8) volt us, s.stageRuns = true →
      let others (t : State) := ∀ k : Fin 8, k ≠ src → t.stage.tpOn.getLsbD k.val = s.stage.tpOn.getLsbD k.val ∧
        t.stage.tpOff.getLsbD k.val = s.stage.tpOff.getLsbD k.val
      (∀ t0, s.stage.tpPulse = some (src, t0) →
        ∃ t, exec (.tpStuck src { pulsed := true, volt := volt, us := us }) s = .next t ∧ t.stage.tpPulse = none ∧
          t.stage.tpOn.getLsbD src.val = decide (80 ≤ volt.toNat) ∧
          t.stage.tpOff.getLsbD src.val = s.stage.tpOff.getLsbD src.val ∧ t.md = s.md ∧ t.lanes = s.lanes ∧ others t) ∧
      (∃ t, exec (.tpStuck src { pulsed := false, volt := volt, us := us }) s = .next t ∧
        t.stage.tpOn.getLsbD src.val = s.stage.tpOn.getLsbD src.val ∧
        t.stage.tpOff.getLsbD src.val = (decide (volt.toNat < 80) && (s.stage.tpOff.getLsbD src.val || decide (1000 < us))) ∧
        t.md = s.md ∧ t.lanes = s.lanes ∧ others t)) ∧
    (s.md.mode = .safeStop → s.md.step = .evaluation → s.guard.pendingReset = none → 2 ≤ s.restartLines.length →
      (s.sealSt.changed = false → roleOf s.sealSt.sw1 ≠ .none →
        ∃ t, exec .restartRequest s = .next t ∧ t.md.mode = .startupTest ∧ t.md.step = .idle ∧ t.stage.on = 0 ∧
          t.md.released = []) ∧
      (s.sealSt.changed = true →
        ∃ t, exec .restartRequest s = .next t ∧ t.md = s.md ∧ t.stage = s.stage ∧
          ∀ l, (∀ e, e ∈ (t.lane l).cyc.events → e.isRestart = false) ∧ (t.lane l).core = (s.lane l).core))

/-- Requests, and what a reset clears and keeps (R352, R361, R363, R364, R365, R368, R369, R372, R373, R375, R441).
With no injection armed, RESET_REQ with a wrong key changes nothing; the second serving lane that asks for SY in a
cycle brings a pending reset with the restrictive state, and one alone is only noted; in a mode with votes a SAFE_STOP
request joined within 1 ms by another serving lane's stops the module, and one alone makes its lane decide STOP.
SY_RESET and PO_RESET, once flushed, MRST_N of 1.3 us or more, BROWN_OUT and the end of a power failure leave every
core, store block, route engine, vote, stage and time base at reset and the module in priming with the fuses and the
log kept, the sequence going on where power-good holds and MRST_N is released; SY keeps FIFO, buffer and power-cycle
count, PO clears the former and counts. MRST_N below 1 us has no effect; MRST_RELEASE starts priming again. Forms that
it says complete: RESET_REQ_SY, RESET_REQ_SAFE_STOP, SY_RESET, PO_RESET, BROWN_OUT, POWER_FAIL_END, MRST_N,
MRST_RELEASE. -/
def Obligations.Resets : Prop :=
  ∀ s : State, Quiet s →
    let cleared (t : State) : Prop :=
      t.md.mode = .priming ∧ t.stage = Stage.init ∧ t.tb = Timebase.init ∧ t.resync = Resync.init ∧ t.bist = BistSt.init ∧
        (∀ l, (t.lane l).core = Core.init ∧ (t.lane l).engine = Engine.init ∧ (t.lane l).vote = VoteBlk.init ∧
          (t.lane l).change = Change.init ∧ (t.lane l).sl = SlBlk.init ∧ (t.lane l).meas = Measure.init) ∧
        t.sealSt.otp = s.sealSt.otp ∧ t.sealSt.sw1 = s.sealSt.sw1 ∧ t.recorder.log = s.recorder.log ∧
        t.svc.flash = s.svc.flash ∧ t.guard.pendingReset = none ∧ t.guard.lockedOut = s.guard.lockedOut
    let powered (t : State) (src : Source) : Prop :=
      cleared t ∧ t.recorder.fifo = [] ∧ t.recorder.buffer = [] ∧ t.guard.pcycle = satInc s.guard.pcycle ∧
        t.guard.causeLast = BitVec.ofNat 4 src.num ∧ t.guard.causeLevel = 0 ∧ t.guard.dbg = 0 ∧
        t.sealSt.changed = false ∧ t.sealSt.primingDiff = false
    (∀ l key reason, key ≠ 0x5A →
      exec (.resetReqSy l key reason) s = .next s ∧ exec (.resetReqSafeStop l key reason) s = .next s) ∧
    (∀ l reason,
      (∀ k, k ≠ l → s.serves l = true → s.serves k = true → (s.lane k).reqSy.isSome = true → s.md.mode ≠ .powerFail →
        s.guard.priming = .done → s.guard.pendingReset = none → s.guard.level .laneRequest = .sy →
        ∃ t, exec (.resetReqSy l 0x5A reason) s = .next t ∧ t.guard.pendingReset = some (.sy, [.laneRequest]) ∧
          t.md.mode = .safeStop ∧ t.stage.on = 0 ∧ t.md.released = []) ∧
      ((∀ k, k ≠ l → (s.lane k).reqSy = none) →
        exec (.resetReqSy l 0x5A reason) s = .next (onLane s l fun x => { x with reqSy := some reason }))) ∧
    (∀ l reason, s.serves l = true → s.md.mode.votes = true →
      ((∀ k, k ≠ l → (s.lane k).reqStop = none) →
        exec (.resetReqSafeStop l 0x5A reason) s = .next (onLane s l fun x =>
          { x with reqStop := some (s.tb.nt, reason), cyc := { x.cyc with ownStop := true } })) ∧
      (∀ k at0 first, k ≠ l → s.serves k = true → (s.lane k).reqStop = some (at0, first) →
        s.tb.nt.toNat ≤ at0.toNat + 100000 → (∀ j, j ≠ l → j ≠ k → (s.lane j).reqStop = none) →
        ∃ t, exec (.resetReqSafeStop l 0x5A reason) s = .next t ∧ t.md.mode = .safeStop ∧ t.guard.sstopOrigin = 2 ∧
          t.guard.sstopReason = first ∧ t.stage.on = 0)) ∧
    (∀ cs, s.recorder.flushed = true →
      (s.guard.pendingReset = some (.sy, cs) →
        ∃ t, exec .syReset s = .next t ∧ cleared t ∧ t.guard.pcycle = s.guard.pcycle ∧
          t.guard.priming = (if s.guard.mrst = true ∨ s.guard.powerGood = false then .blocked else .active) ∧
          t.recorder.fifo = s.recorder.fifo ∧ t.recorder.buffer = s.recorder.buffer) ∧
      (∀ c, s.guard.pendingReset = some (.po, [c]) → ∃ t, exec .poReset s = .next t ∧ powered t c)) ∧
    (∀ ns, s.guard.mrst = false →
      (1300 ≤ ns → ∃ t, exec (.mrstN ns) s = .next t ∧ powered t .pin ∧ t.guard.mrst = true ∧
        t.guard.priming = .blocked) ∧
      (ns < 1000 → exec (.mrstN ns) s = .next { s with freeCtr := s.freeCtr + 1 })) ∧
    (s.guard.mrst = true →
      ∃ t, exec .mrstRelease s = .next t ∧ t.guard.mrst = false ∧ t.lanes = s.lanes ∧ t.md = s.md ∧
        t.guard.priming = (if s.guard.priming ≠ .blocked then s.guard.priming
          else if s.guard.powerGood = false then .blocked
          else if 8 ≤ s.guard.restartCount.toNat then .delay else .active)) ∧
    (∃ t, exec .brownOut s = .next t ∧ powered t .powerOn ∧ t.guard.priming = .blocked ∧
      t.guard.powerGood = false ∧ t.guard.optime = s.guard.optimeSaved ∧ t.guard.restartCount = 0) ∧
    (s.md.mode = .powerFail → s.guard.powerGood = true → s.recorder.flushed = true →
      ∃ t, exec .powerFailEnd s = .next t ∧ powered t .powerFailEnd)

/-- Supply, feeds, temperature and the hold-up store act at their thresholds (R27, R354, R356, R357, R360, R372,
R375). With no injection armed: POWER_GOOD above 17.5 V for 10 ms lets a blocked priming start, after 1 s from the
eighth restart on; SUPPLY_LOW raises the event POWER in every lane that is released and has its rails, and is in
force; POWER_FAIL below 17.0 V for 200 us enters POWER_FAIL with every core held, every output off and nothing
released, the operating time saved; SUPPLY_HIGH above 34.0 V for 1 ms and a temperature above 100 C or below -45 C for
1 s are SAFE_STOP with their origins; a feed below 17.0 V with the other one good is lost, and returns above it;
readings are shown. Below a threshold or its time, nothing but the reading changes. OPTIME_SAVE saves the operating
time alone. Forms that it says complete: POWER_GOOD, SUPPLY_LOW, POWER_FAIL, SUPPLY_HIGH, FEED_LOSS, OVERTEMPERATURE,
TEMP_SENSOR_DIFF, HOLDUP_READY, HOLDUP_NOT_READY, OPTIME_SAVE, FEED_RETURN. -/
def Obligations.SupplyAndTemperature : Prop :=
  ∀ s : State, Quiet s →
    (∀ bus us, 700 < bus.toNat → 10000 ≤ us →
      exec (.powerGood bus us) s = .next { s with guard := { s.guard with
        powerGood := true, supplyLow := s.guard.supplyLow && decide (bus.toNat < 720)
        priming := if s.guard.priming ≠ .blocked ∨ s.guard.mrst = true then s.guard.priming
          else if 8 ≤ s.guard.restartCount.toNat then .delay else .active } }) ∧
    (∀ bus us, bus.toNat < 720 → 1000 ≤ us →
      ∃ t, exec (.supplyLow bus us) s = .next t ∧ t.guard.supplyLow = true ∧ t.md = s.md ∧ t.stage = s.stage ∧
        ∀ l, (t.lane l).core = (if s.md.mode = .priming ∨ s.md.mode = .powerFail ∨ s.guard.railHeld.get l = true then (s.lane l).core
          else { (s.lane l).core with events := (s.lane l).core.events ||| 0x80 }) ∧
          (t.lane l).store = (s.lane l).store) ∧
    (∀ bus us, bus.toNat < 680 → 200 ≤ us → s.md.mode ≠ .powerFail → s.guard.powerGood = true →
      ∃ t, exec (.powerFail bus us) s = .next t ∧ t.md.mode = .powerFail ∧ t.stage.on = 0 ∧ t.md.released = [] ∧
        t.guard.powerGood = false ∧ t.guard.optimeSaved = t.guard.optime ∧ t.guard.pendingReset = none ∧
        (∀ l, (t.lane l).core.run = .held) ∧ t.sealSt.otp = s.sealSt.otp ∧ t.guard.pcycle = s.guard.pcycle) ∧
    (s.md.mode ≠ .priming → s.md.mode ≠ .powerFail → s.md.mode ≠ .safeStop →
      (∀ bus us, 1360 < bus.toNat → 1000 ≤ us →
        ∃ t, exec (.supplyHigh bus us) s = .next t ∧ t.md.mode = .safeStop ∧ t.guard.sstopOrigin = 7 ∧ t.stage.on = 0) ∧
      (∀ sensor deg ms, 400 < deg.toInt ∨ deg.toInt < -180 → 1000 ≤ ms →
        ∃ t, exec (.overtemperature sensor deg ms) s = .next t ∧ t.md.mode = .safeStop ∧ t.guard.sstopOrigin = 8 ∧
          t.stage.on = 0 ∧ t.guard.t0 = (if sensor = 0 then deg else s.guard.t0) ∧
          t.guard.t1 = (if sensor = 0 then s.guard.t1 else deg))) ∧
    (∀ bus us, bus.toNat ≤ 1360 ∨ us < 1000 → exec (.supplyHigh bus us) s = .next s) ∧
    (∀ t0 t1 ms, 40 < (t0.toInt - t1.toInt).natAbs → 10000 ≤ ms →
      ∃ t, exec (.tempSensorDiff t0 t1 ms) s = .next t ∧ t.guard.t0 = t0 ∧ t.guard.t1 = t1 ∧ t.md = s.md ∧
        t.lanes = s.lanes ∧ t.stage = s.stage) ∧
    (∀ a b us, a.toNat < 680 → 680 ≤ b.toNat → 200 ≤ us →
      ∃ t, exec (.feedLoss .A a b us) s = .next t ∧ t.guard.feedLossA = true ∧ t.guard.feedA = a ∧ t.guard.feedB = b ∧
        t.guard.feedAOk = false ∧ t.guard.feedLossB = s.guard.feedLossB ∧ t.md = s.md ∧ t.lanes = s.lanes) ∧
    (∀ v, 680 < v.toNat → exec (.feedReturn .B v) s = .next { s with guard := { s.guard with
        feedB := v, feedBOk := true, feedLossB := false } }) ∧
    (∀ ready, ∃ t, exec (.holdupReady ready) s = .next t ∧ t.guard.holdup = ready ∧ t.md = s.md ∧ t.lanes = s.lanes ∧
      (s.guard.holdup = false ∨ ready = true → t = { s with guard := { s.guard with holdup := ready } })) ∧
    (s.md.mode = .startupTest → s.guard.holdup = false →
      ∃ t, exec .holdupNotReady s = .next t ∧ t.md.mode = .safeStop ∧ t.guard.sstopOrigin = 2 ∧ t.stage.on = 0) ∧
    exec .optimeSave s = .next { s with guard := { s.guard with optimeSaved := s.guard.optime } }

/-- Domains come up in order, rails and clocks are watched (R351, R355, R358, R364, R368, R370, R371). With no
injection armed: DOMAIN_UP of a domain whose predecessors are up sets its bit; DOMAIN_FAIL in priming holds the
sequence and DOMAIN_RETRY ends the hold with PD7 alone up; RAIL_FAULT of a lane's core or store holds its core and
resets the lane, of PD8, PD9, PD10 or PD12 it is SAFE_STOP with origin DOMAIN; RAIL_RECOVERED sets the bit and, with
both rails of a lane, ends the hold. CLOCK_QUALIFIED qualifies its block, and none while MRST_N is low; CLK_LOSS of a
time base that runs brings SAFE_STOP with a pending reset, of a lane's inputs only the loss; CLK_NOT_QUALIFIED in
STARTUP_TEST is SAFE_STOP; EARLY_CLOCK_RELEASE by a debug session during priming, with SW1 bit 14, releases the ring,
flagged unqualified, and is counted. PRIMING_DELAY ends the wait of 1 s. Forms that it says complete: RAIL_FAULT,
DOMAIN_UP, DOMAIN_FAIL, DOMAIN_RETRY, PRIMING_DELAY, CLOCK_QUALIFIED, CLK_LOSS, CLK_NOT_QUALIFIED,
EARLY_CLOCK_RELEASE, RAIL_RECOVERED. -/
def Obligations.RailsAndClocks : Prop :=
  ∀ s : State, Quiet s →
    (∀ pd : Fin 12, (∀ n, n ∈ domainsBefore (pd.val + 1) → s.guard.domainUp n = true) →
      (∀ l, domainLane (pd.val + 1) = some l → s.guard.railHeld.get l = false) → pd.val ≠ 10 →
      exec (.domainUp pd) s = .next { s with guard := { s.guard with domainOk := setBit s.guard.domainOk pd.val true } }) ∧
    (∃ t, exec (.domainUp 10) s = .next t ∧ ((∀ n, n ∈ domainsBefore 11 → s.guard.domainUp n = true) →
      t.guard.domainOk.getLsbD 10 = true ∧ t.guard.svcHeld = !s.guard.svcClock)) ∧
    (∀ pd : Fin 12, s.md.mode = .priming → (∀ n, n ∈ domainsBefore (pd.val + 1) → s.guard.domainUp n = true) →
      s.guard.domainOk.getLsbD pd.val = false →
      ∃ t, exec (.domainFail pd) s = .next t ∧ t.guard.domainHeld = true ∧ t.guard.priming = s.guard.priming ∧ t.md = s.md ∧ t.lanes = s.lanes) ∧
    (s.guard.domainHeld = true → exec .domainRetry s = .next { s with guard := { s.guard with
      domainHeld := false, domainOk := s.guard.domainOk &&& 0x040 } }) ∧
    (∀ (pd : Fin 12) l, domainLane (pd.val + 1) = some l → s.md.mode ≠ .powerFail → s.guard.priming = .done →
      s.guard.level .laneRail = .co → s.guard.pendingReset = none →
      ∃ t, exec (.railFault pd) s = .next t ∧ t.guard.domainOk.getLsbD pd.val = false ∧ t.guard.railHeld.get l = true ∧
        (t.lane l).core = Core.init ∧ (t.lane l).cyc.lost = true ∧
        t.guard.coCount.get l = satInc (s.guard.coCount.get l) ∧ t.md = s.md ∧
        ∀ k, k ≠ l → t.lane k = s.lane k) ∧
    (∀ pd : Fin 12, pd.val = 7 ∨ pd.val = 8 ∨ pd.val = 9 ∨ pd.val = 11 → s.md.mode ≠ .priming → s.md.mode ≠ .powerFail →
      s.md.mode ≠ .safeStop →
      ∃ t, exec (.railFault pd) s = .next t ∧ t.md.mode = .safeStop ∧ t.guard.sstopOrigin = 9 ∧ t.stage.on = 0 ∧
        t.guard.domainOk.getLsbD pd.val = false) ∧
    (∀ (pd : Fin 12) l, domainLane (pd.val + 1) = some l →
      ∃ t, exec (.railRecovered pd) s = .next t ∧ t.guard.domainOk.getLsbD pd.val = true ∧ t.lanes = s.lanes ∧
        t.md = s.md ∧ (t.guard.domainOk.getLsbD l.num = true → t.guard.domainOk.getLsbD (3 + l.num) = true →
          t.guard.railHeld.get l = false)) ∧
    (s.guard.mrst = true → ∀ c, exec (.clockQualified c) s = .next s) ∧
    (s.guard.mrst = false → s.md.mode ≠ .powerFail →
      exec (.clockQualified .timebase) s = .next { s with tb := { s.tb with qualified := true } } ∧
      ∀ l, exec (.clockQualified (.vio l)) s =
        .next (onLane s l fun x => { x with vio := { x.vio with qualified := true } })) ∧
    (s.guard.mrst = false → exec (.clockQualified .ring) s = .next { s with ring := { s.ring with qualified := true } }) ∧
    (s.tb.runs = true → s.md.mode ≠ .priming → s.md.mode ≠ .powerFail → s.md.mode ≠ .safeStop →
      s.guard.priming = .done → s.guard.pendingReset = none → s.guard.level .clkLoss = .sy →
      ∃ t, exec (.clkLoss .timebase) s = .next t ∧ t.tb.runs = false ∧ t.md.mode = .safeStop ∧
        t.guard.sstopOrigin = 10 ∧ t.guard.pendingReset = some (.sy, [.clkLoss]) ∧ t.stage.on = 0) ∧
    (∀ l, exec (.clkLoss (.vio l)) s =
      .next (onLane s l fun x => { x with vio := { x.vio with qualified := false } })) ∧
    (s.md.mode = .startupTest → s.clocksReady = false →
      ∃ t, exec .clkNotQualified s = .next t ∧ t.md.mode = .safeStop ∧ t.guard.sstopOrigin = 2) ∧
    (∀ session : Fin 4, s.md.mode = .priming → s.guard.mrst = false → s.debugSession session.val = true →
      s.sealSt.sw1.getLsbD 14 = true → s.ring.qualified = false →
      exec (.earlyClockRelease .ring session) s = .next { s with
        guard := { s.guard with dbg := satInc s.guard.dbg }, ring := { s.ring with clkUnq := true, early := true } }) ∧
    (s.guard.priming = .delay →
      ∃ t, exec .primingDelay s = .next t ∧ t.guard.priming = .active ∧ t.lanes = s.lanes ∧ t.md = s.md ∧
        t.guard.optime = s.guard.optime + 100000000 ∧ (s.tb.runs = false → t.tb = s.tb))

/-- Priming latches the seal and releases the lanes; STARTUP_TEST leads to JOINING or to SAFE_STOP (R17, R25, R26,
R226, R368, R378, R389, R451). With no injection armed, power, and no word of the fuses with two wrong bits,
PRIMING_COMPLETE with two readings alike and no invalid switch latches the second reading, loads the fuses, counts the
words corrected and ends priming: with a role the module is in STARTUP_TEST, with none in SAFE_STOP with origin SEAL;
with readings that differ priming starts anew by an SY or a PO that is counted, PRIMING_DIFF being set after an SY. A
word with two wrong bits restarts priming by OTP_DED. STARTUP_TEST_DONE is SAFE_STOP with origin LANE where a serving
lane fails its self-test or its store test; where every step passes and no lock-out stands against it, the module is
in JOINING, or in SAFE_STOP for schedules that differ, once the waits are over, and unchanged before. Forms that it
says complete: PRIMING_COMPLETE, STARTUP_TEST_DONE. -/
def Obligations.PrimingAndStartup : Prop :=
  ∀ s : State, Quiet s →
    (∀ a b otp, s.md.mode = .priming → s.guard.priming = .active → s.guard.domainHeld = false →
      s.guard.powerGood = true → s.powered = true →
      ((∀ e, e ∈ otp → popcount e.2 < 2) → a = b → (∀ i, i < 16 → b.on1.getLsbD i ≠ b.off1.getLsbD i ∧ b.on2.getLsbD i ≠ b.off2.getLsbD i) →
        ∃ t, exec (.primingComplete { first := a, second := b } otp) s = .next t ∧ t.sealSt.sw1 = b.on1 &&& ~~~b.off1 ∧
          t.sealSt.sw2 = b.on2 &&& ~~~b.off2 ∧ t.guard.priming = .done ∧ t.guard.restartCount = 0 ∧
          t.guard.restarts = s.guard.restartCount ∧ t.sealSt.view = s.sealSt.otp ∧
          t.guard.otpCorrected.toNat = min 255 (otp.filter (fun e => e.2 ≠ 0)).length ∧
          (s.guard.fresh = true → t.md.role = roleOf (b.on1 &&& ~~~b.off1)) ∧
          (roleOf (b.on1 &&& ~~~b.off1) ≠ .none → t.md.mode = .startupTest ∧ t.md.fenced = t.guard.lockedOut) ∧
          (roleOf (b.on1 &&& ~~~b.off1) = .none → t.md.mode = .safeStop ∧ t.guard.sstopOrigin = 6) ∧
          t.stage.on = 0) ∧
      ((∀ e, e ∈ otp → popcount e.2 < 2) → a ≠ b →
        ∃ t, exec (.primingComplete { first := a, second := b } otp) s = .next t ∧ t.md.mode = .priming ∧ t.stage.on = 0 ∧
          t.guard.restartCount = satInc s.guard.restartCount ∧ t.guard.priming ≠ .done ∧ t.guard.causeLast = 12 ∧
          (t.guard.causeLevel = 0 ∨ (t.guard.causeLevel = 1 ∧ t.sealSt.primingDiff = true))) ∧
      (∀ e, e ∈ otp → 2 ≤ popcount e.2 → s.guard.level .otpDed = .sy →
        ∃ t, exec (.primingComplete { first := a, second := b } otp) s = .next t ∧ t.md.mode = .priming ∧ t.stage.on = 0 ∧
          t.guard.restartCount = satInc s.guard.restartCount ∧ t.guard.priming ≠ .done ∧ t.guard.causeLast = 8)) ∧
    (∀ a b c, s.md.mode = .startupTest → s.servingLanes.length = 3 → s.md.lockedOut = PerLane.all false →
      s.svc.desig.trial = false →
      (a.bistPass = false →
        ∃ t, exec (.startupTestDone a b c) s = .next t ∧ t.md.mode = .safeStop ∧ t.guard.sstopOrigin = 2 ∧
          t.guard.sstopReason = (codeOf .bistStartupFail).setWidth 16 ∧ t.stage.on = 0) ∧
      (a.bistPass = true → b.bistPass = true → c.bistPass = true → (∀ l, (s.lane l).core.run = .running) →
        b.storePass = false →
        ∃ t, exec (.startupTestDone a b c) s = .next t ∧ t.md.mode = .safeStop ∧ t.guard.sstopOrigin = 2 ∧
          t.guard.sstopReason = (codeOf .storeTestFail).setWidth 16)) ∧
    (∀ a b c, s.md.mode = .startupTest → s.guard.priming = .done → s.lockOutFails = false →
      (s.recLockedOut.runTests fun l => match l with | .A => a | .B => b | .C => c).2 = none →
      (s.waitsOver = true → ∃ t, exec (.startupTestDone a b c) s = .next t ∧
        (t.md.mode = .joining ∨ t.md.mode = .safeStop)) ∧
      (s.waitsOver = false → exec (.startupTestDone a b c) s = .next s))

/-- The seal is read twice before it counts as changed, and fuses are burned as R384 permits (R376, R379, R381, R382,
R384). From the end of priming until POWER_FAIL, SEAL_READING shows the reading and asks for a second one exactly
where it differs from the latched value or shows an invalid switch; SEAL_REREAD that differs sets SEAL_CHANGED with
SAFE_STOP of origin SEAL, one that does not counts a glitch in the same mode. In MAINTENANCE with SW1 bit 13 in both
readings, a burn writes its bits into the fuses of the first unburned generation, of RETIRE, of a key slot with
BURNED, of REVOKED, or, where both slots hold a runtime of at least that version, one further bit of the security
version; of a generation or a key slot that the supply interrupts a part of the bits is burned; where GUARD does not
permit burns nothing changes. No burn clears a fuse. Forms that it says complete: SEAL_READING, SEAL_REREAD,
BURN_GENERATION, BURN_RETIRE, BURN_KEY_SLOT, BURN_REVOKED, BURN_SVN. -/
def Obligations.SealAndFuses : Prop :=
  ∀ s : State, Quiet s →
    let k := s.sealSt
    let value (on off : Half) : Half := on &&& ~~~off
    (∀ r, s.guard.priming = .done → s.md.mode ≠ .powerFail →
      (let differs : Prop := value r.on1 r.off1 ≠ k.sw1 ∨ value r.on2 r.off2 ≠ k.sw2 ∨
          ~~~(r.on1 ^^^ r.off1) ≠ 0 ∨ ~~~(r.on2 ^^^ r.off2) ≠ 0
       (differs → exec (.sealReading r) s = .next { s with sealSt := { k with
          live1 := value r.on1 r.off1, live2 := value r.on2 r.off2, inv1 := ~~~(r.on1 ^^^ r.off1)
          inv2 := ~~~(r.on2 ^^^ r.off2), reread := true } }) ∧
       (¬ differs → exec (.sealReading r) s = .next { s with sealSt := { k with
          live1 := k.sw1, live2 := k.sw2, inv1 := 0, inv2 := 0, reread := false } }) ∧
       (k.reread = true → differs → s.md.mode ≠ .priming → s.md.mode ≠ .safeStop →
        ∃ t, exec (.sealReread r) s = .next t ∧ t.sealSt.changed = true ∧ t.md.mode = .safeStop ∧
          t.guard.sstopOrigin = 6 ∧ t.stage.on = 0 ∧ t.sealSt.sw1 = k.sw1 ∧ t.sealSt.sw2 = k.sw2) ∧
       (k.reread = true → ¬ differs →
        ∃ t, exec (.sealReread r) s = .next t ∧ t.sealSt.glitch = satInc k.glitch ∧ t.sealSt.reread = false ∧
          t.sealSt.changed = k.changed ∧ t.md = s.md ∧ t.lanes = s.lanes))) ∧
    (s.md.mode = .maintenance → k.sw1.getLsbD 13 = true → k.live1.getLsbD 13 = true →
      (∀ (w0 w1 w2 w3 : BurnWord) g, g < 4 → (∀ j, j < g → genUnburned k.fuse j = false) → genUnburned k.fuse g = true →
        w3.word.setWidth 32 = genCheck g w0.word w1.word w2.word → w3.word.getLsbD 63 = false →
        ∃ t, exec (.burnGeneration w0 w1 w2 w3) s = .next t ∧
          (t.sealSt.fuse (8 + 4 * g) = w0.word &&& w0.reach ∧ t.sealSt.fuse (9 + 4 * g) = w1.word &&& w1.reach ∧
            t.sealSt.fuse (10 + 4 * g) = w2.word &&& w2.reach ∧ t.sealSt.fuse (11 + 4 * g) = w3.word &&& w3.reach) ∧
          (∀ i, i < 8 + 4 * g ∨ 12 + 4 * g ≤ i → t.sealSt.fuse i = k.fuse i) ∧ t.md = s.md ∧ t.lanes = s.lanes) ∧
      (∀ g : Fin 4, genUnburned k.fuse g.val = false →
        ∃ t, exec (.burnRetire g) s = .next t ∧ t.md = s.md ∧ t.lanes = s.lanes ∧
          ∀ i, i < 64 → t.sealSt.fuse i = if i = 11 + 4 * g.val then k.fuse i ||| 0x8000000000000000 else k.fuse i) ∧
      (∀ (slot : Fin 2) (hash : BitVec 512), (k.fuse 40).getLsbD (2 * slot.val) = false →
        (∃ t, exec (.burnKeySlot slot { hash := hash, torn := none }) s = .next t ∧ t.md = s.md ∧ t.lanes = s.lanes ∧
          (t.sealSt.fuse 40).getLsbD (2 * slot.val) = true ∧
          ∀ i, i < 8 → t.sealSt.fuse (24 + 8 * slot.val + i) =
            k.fuse (24 + 8 * slot.val + i) ||| hash.extractLsb' (64 * i) 64) ∧
        ∀ m b, ∃ t, exec (.burnKeySlot slot { hash := hash, torn := some (m, b) }) s = .next t ∧ t.md = s.md ∧ t.lanes = s.lanes ∧
          (t.sealSt.fuse 40).getLsbD (2 * slot.val) = b ∧
          ∀ i, i < 8 → t.sealSt.fuse (24 + 8 * slot.val + i) =
            k.fuse (24 + 8 * slot.val + i) ||| (hash &&& m).extractLsb' (64 * i) 64) ∧
      (∀ slot : Fin 2, (k.fuse 40).getLsbD (2 * slot.val) = true →
        ∃ t, exec (.burnRevoked slot) s = .next t ∧ t.md = s.md ∧ t.lanes = s.lanes ∧
          (t.sealSt.fuse 40).getLsbD (2 * slot.val + 1) = true ∧ ∀ i, i < 64 → i ≠ 40 → t.sealSt.fuse i = k.fuse i) ∧
      (popcount (k.fuse 45) < 64 → s.svc.runtimeSvn s.svc.slotA (popcount (k.fuse 45) + 1) = true →
        s.svc.runtimeSvn s.svc.slotB (popcount (k.fuse 45) + 1) = true →
        ∃ t, exec .burnSvn s = .next t ∧ t.md = s.md ∧ t.lanes = s.lanes ∧
          popcount (t.sealSt.fuse 45) = popcount (k.fuse 45) + 1 ∧
          ∀ i, i < 64 → i ≠ 45 → t.sealSt.fuse i = k.fuse i)) ∧
    (s.md.mode ≠ .maintenance ∨ k.sw1.getLsbD 13 = false ∨ k.live1.getLsbD 13 = false →
      (∀ w0 w1 w2 w3, exec (.burnGeneration w0 w1 w2 w3) s = .next s) ∧ (∀ g, exec (.burnRetire g) s = .next s) ∧
        (∀ slot hash, exec (.burnKeySlot slot hash) s = .next s) ∧ (∀ slot, exec (.burnRevoked slot) s = .next s) ∧
        exec .burnSvn s = .next s)

/-- A measurement register is extended from MEAS_CTRL to the end of the extension (R389, R398, R399, R400). MEAS_CTRL
written by a runtime with its key, with no extension running, of register 3, or of 1, 2 or 4 in STARTUP_TEST, begins
the extension with SHA-512 of the register and MEAS_DIGEST and clears REFUSED; any write with one running, and one of
another register, sets REFUSED; with another key and none running it changes nothing. The end of the extension writes
the register, marks it in EXTENDED and counts it for register 3. Through the view of an application the write takes
trap 0x06. Nothing else changes. Forms that it says complete: MEAS_CTRL, MEAS_EXTENSION_DONE. -/
def Obligations.Measurements : Prop :=
  ∀ (s : State) (l : LaneId) (w : Word),
    let m := (s.lane l).meas
    let i := w.toNat % 8
    let meas (n : Measure) : State := onLane s l fun x => { x with meas := n }
    let next (j : Nat) : BitVec 512 :=
      digestBits (sha512 (bitsDigest (m.m.toList.getD j 0) ++ m.digest.toList.flatMap wordBytes))
    (m.busy ≠ none → exec (.measCtrl (.runtime l) w) s = .next (meas { m with refused := true })) ∧
    (m.busy = none → w.toNat / 256 % 256 = 0xE5 →
      (i = 3 ∨ (s.laneMode l = 2 ∧ (i = 1 ∨ i = 2 ∨ i = 4)) →
        exec (.measCtrl (.runtime l) w) s = .next (meas { m with busy := some (i, next i), refused := false })) ∧
      (i = 0 ∨ 5 ≤ i ∨ (s.laneMode l ≠ 2 ∧ i ≠ 3) →
        exec (.measCtrl (.runtime l) w) s = .next (meas { m with refused := true }))) ∧
    (m.busy = none → w.toNat / 256 % 256 ≠ 0xE5 → exec (.measCtrl (.runtime l) w) s = .next (meas m)) ∧
    (∀ j v, m.busy = some (j, v) → j < 5 →
      exec (.measExtensionDone l) s = .next (meas { m with
        m := m.m.setIfInBounds j v, extended := m.extended ||| BitVec.ofNat 5 (2 ^ j)
        count := if j = 3 then satInc m.count else m.count, busy := none })) ∧
    ((s.lane l).core.run = .running → (s.lane l).core.priv = false →
      exec (.measCtrl (.app l) w) s = .next (s.trap l 0x06 none 0xF000E008))

/-- The repeater changes only DELAY and the ring CRC of a frame it forwards (R273). A frame of another node that the
port forwards leaves by the way out with the same bytes but those of DELAY and the ring CRC; its DELAY is the incoming
one plus the link delay of the input port, 0 until its first measurement, plus L_R, in 32 bits; its ring CRC is right
exactly where the incoming one was, and is otherwise the complement of the right one. Forms that it says complete:
FRAME_ARRIVAL. -/
def Obligations.RepeaterChanges : Prop :=
  ∀ (s : State) (p : Port) (bytes : List Byte) (ns : Nat), Forwards s p bytes ns → 28 ≤ bytes.length →
    let f := parseFrame bytes
    let n := bytes.length - 4
    ∃ t, exec (.frameArrival p bytes ns) s = .next t ∧
      let b := (t.ring.port (wayOut s p)).outFrame
      b.length = bytes.length ∧ (∀ i, i < n → (i < 0x14 ∨ 0x18 ≤ i) → b[i]? = bytes[i]?) ∧
      leAt b 0x14 4 =
        (f.delay + (if (s.ring.port p).valid then (s.ring.port p).delay.toNat else 0) + s.repeaterDelay p) % 2 ^ 32 ∧
      BitVec.ofNat 32 (leAt b n 4) = (if f.crcOk then ringCrc (b.take n) else ~~~ ringCrc (b.take n))

/-- A port delivers, cuts and removes frames, and sends its own in its slots (R274, R278, R283, R284, R291, R297,
R298, R301). A frame without a complete header counts as a CRC error and leaves both outputs alone. A frame that the
guardian fails is not forwarded and counts as a cut with its reason, unattributed while the block entries are full, in
the cold start phase a collision; one of a blocked source is dropped without a cut. A frame that is forwarded and
meets the conditions of delivery, as the first copy of its source, slot and ring, and ends within its window, is
appended as its PDUs, stamped at its last byte, to the receive buffer of each lane that receives from its source. An
own-address frame after the join that matches no frame sent stops transmission and brings SAFE_STOP with origin 12;
one that matches shows the return. A frame that passes and is still running at the end of its window is truncated
there, a cut with reason 4. At the start of an own slot, in no mode with PDUs, the node sends a null frame on both
rings and counts both; a repeated frame still running is counted as a clash. Forms that it says complete:
FRAME_ARRIVAL, GUARDIAN_OVERRUN, OWN_SLOT_START. -/
def Obligations.RingFrames : Prop :=
  ∀ (s : State) (p : Port) (bytes : List Byte) (ns : Nat), s.ring.alive = true →
    let f := parseFrame bytes
    let s1 := s.advanceTo (ns / 10)
    let full : Prop := 32 ≤ s.ring.blocks.length
    let outs (t : State) : Prop := t.ring.w.outFrame = s.ring.w.outFrame ∧ t.ring.e.outFrame = s.ring.e.outFrame
    ((s.ring.port p).looped = false → bytes.length < 24 →
      ∃ t, exec (.frameArrival p bytes ns) s = .next t ∧ t.ring.rxCrc = satInc s.ring.rxCrc ∧ outs t ∧
        t.lanes = s.lanes ∧ t.md = s.md) ∧
    ((s.ring.port p).looped = false → 24 ≤ bytes.length → f.source ≠ s.node → s.ring.armed = true → Calm s →
      s.md.mode ≠ .joining →
      (s.guardianSays p f ns ≠ 0 → s.guardianSays p f ns ≠ 6 →
        ∃ t, exec (.frameArrival p bytes ns) s = .next t ∧ outs t ∧ t.lanes = s.lanes ∧
          (t.ring.port p).cutCount = satInc (s.ring.port p).cutCount ∧
          t.ring.lastCut.toNat / 2 ^ 13 % 8 = (if full ∧ s.ring.blocks.contains (f.source, p == .E) = false then 5
            else s.guardianSays p f ns) ∧ t.ring.rxCount = s.ring.rxCount ∧
          (s.ring.cold = 2 → t.ring.tx = false ∧ t.ring.acquired = false ∧ t.ring.armed = false ∧
            t.ring.collisions = s.ring.collisions + 1)) ∧
      (s.guardianSays p f ns = 6 →
        ∃ t, exec (.frameArrival p bytes ns) s = .next t ∧ outs t ∧ t.lanes = s.lanes ∧
          (t.ring.port p).cutCount = (s.ring.port p).cutCount ∧ t.ring.lastCut = s.ring.lastCut ∧
          t.ring.rxCount = s.ring.rxCount)) ∧
    (∀ ps, Forwards s p bytes ns → s.md.mode ≠ .joining → s.ring.cold ≠ 2 → s1.deliverable p f = true →
      f.pdus = some ps → (f.source, f.slot, f.ring) ∉ s.ring.delivered → s.overruns p f bytes.length ns = false →
      ∀ l, (s.lane l).receivesFrom f.source = true → (s.lane l).sl.rx.length + ps.length ≤ 2048 →
        ∃ t, exec (.frameArrival p bytes ns) s = .next t ∧ t.ring.rxCount = satInc s.ring.rxCount ∧
          (f.source, f.slot, f.ring) ∈ t.ring.delivered ∧ (t.lane l).core = (s.lane l).core ∧
          (t.lane l).store = (s.lane l).store ∧ (t.lane l).sl.rx = (s.lane l).sl.rx ++
            ps.map (fun b =>
              { source := BitVec.ofNat 10 f.source, healed := f.healed, bytes := b, stamp := stampOf ns bytes.length })) ∧
    ((s.ring.port p).looped = false → 24 ≤ bytes.length → f.source = s.node → s.node ≠ 0 → f.crcOk = true →
      f.version = 1 → s.ring.joined = true → Calm s →
      ((f.slot, f.nc, f.ring, crcWithoutDelay bytes) ∉ s.ring.sent → MayStop s →
        ∃ t, exec (.frameArrival p bytes ns) s = .next t ∧ Stopped t 12 ∧ t.ring.tx = false) ∧
      ((f.slot, f.nc, f.ring, crcWithoutDelay bytes) ∈ s.ring.sent →
        ∃ t, exec (.frameArrival p bytes ns) s = .next t ∧ t.ring.returned = true ∧ t.md = s.md ∧ t.lanes = s.lanes ∧
          (f.ring = (p == .E) → outs t))) ∧
    (∀ source start stop limit, s.ring.armed = true → (s.ring.port p).looped = false →
      (s.ring.port p).passing = some (source.toNat, start, stop, limit) → limit < stop →
      ∃ t, exec (.guardianOverrun p source) s = .next t ∧ t.lanes = s.lanes ∧ t.md = s.md ∧
        (t.ring.port (wayOut s p)).outFrame = (s.ring.port (wayOut s p)).outFrame.take
          ((limit - start - s.repeaterDelay p) / 8 - 1) ∧ (t.ring.port (wayOut s p)).outCut = true ∧
        (wayOut s p ≠ p → (t.ring.port p).outFrame = (s.ring.port p).outFrame) ∧
        (t.ring.port p).cutCount = satInc (s.ring.port p).cutCount ∧
        t.ring.lastCut.toNat / 2 ^ 13 % 8 =
          if full ∧ s.ring.blocks.contains (source.toNat, p == .E) = false then 5 else 4) ∧
    (∀ (slot : BitVec 12) (runX runY : Option (BitVec 10)), Calm s → s.sends = true → slot.toNat < s.ring.slots →
      s.ring.owner slot.toNat = s.node → s.node ≠ 0 → s.ring.w.looped = false → s.ring.e.looped = false →
      s.md.mode.sendsPdus = false → s.md.mode ≠ .split →
      ∃ t, exec (.ownSlotStart slot runX runY) s = .next t ∧
        let t0 := s.netCycle * s.ring.tn10 + s.ring.start slot.toNat
        let own (y : Bool) : List Byte := (s.advanceTo t0).ownBytes slot.toNat y []
        t.ring.e.outFrame = own false ∧ t.ring.w.outFrame = own true ∧ t.ring.txCount = satInc (satInc s.ring.txCount) ∧
        t.ring.nullCount = satInc (satInc s.ring.nullCount) ∧ t.ring.sentNow = true ∧ t.lanes = s.lanes ∧ t.md = s.md ∧
        (runX ≠ none → runY = none → t.ring.clash = satInc s.ring.clash) ∧
        (runX = none → runY = none → t.ring.clash = s.ring.clash))

/-- δ is the reading, the mean, the median or the mean of the readings kept (R293). At the end of each network cycle
of a node that has acquired, δ is formed from the k readings, put in ascending order: none with none, the reading with
one, the mean with two, the median with three, the mean without the highest and the lowest with four to six, and
without the two highest and the two lowest with seven to sixteen; means are rounded to the nearest ns with halves away
from zero. RING_INVAR_DEV then shows it. Forms that it says complete: NETWORK_CYCLE_BOUNDARY. -/
def Obligations.InvarMean : Prop :=
  (∀ (rs : List (Int × Nat)) (m : List Int), m.Perm (rs.map (·.1)) → m.Pairwise (· ≤ ·) →
    let mean (xs : List Int) (r : Int) : Prop :=
      let d := 2 * (r * xs.length - xs.sum)
      (d.natAbs ≤ xs.length) ∧ (d.natAbs = xs.length → xs.sum.natAbs ≤ r.natAbs * xs.length)
    (rs.length = 0 → (deltaOf rs).1 = none) ∧
    (rs.length = 1 → (deltaOf rs).1 = m[0]?) ∧
    (rs.length = 2 → ∃ r, (deltaOf rs).1 = some r ∧ mean m r) ∧
    (rs.length = 3 → (deltaOf rs).1 = m[1]?) ∧
    (4 ≤ rs.length → rs.length ≤ 6 → ∃ r, (deltaOf rs).1 = some r ∧ mean ((m.drop 1).dropLast) r) ∧
    (7 ≤ rs.length → ∃ r, (deltaOf rs).1 = some r ∧ mean (((m.drop 2).dropLast).dropLast) r)) ∧
  (∀ s : State, Calm s → s.ring.acquired = true →
    let s1 := s.advanceTo ((s.ring.cycleNo + 1) * s.ring.tn10)
    ∃ t, exec .networkCycleBoundary s = .next t ∧ t.ring.dev =
      match (deltaOf (readings s1)).1 with
      | none => 0x80000000
      | some d => BitVec.ofInt 32 d)

/-- The node corrects its offset and rate, goes listen-only, and rejoins (R106, R293, R294, R295, R296, R297, R298).
At a network cycle boundary of an acquired node that has left JOINING and is not listen-only, with no injection, δ of
the readings decides: with none no correction, one more in RING_INVAR_CNT, listen-only due with the sixteenth; within
750 ns an offset correction of -δ, SYNCED up to 500 ns; beyond, no correction, SYNCED 0 and listen-only due. The
network cycle number rises and guardians waiting to arm arm. The rate update after sixteen δ subtracts the rounded
sum, clipped to 858,993. Listen-only stops transmission and disarms the guardians; after a full network cycle of it,
the first boundary with an acceptable δ and the masters' own NC ends it, with SYNCED as δ shows, to re-arm and, where
the node has joined, transmit from the cycle that the next boundary begins; 100 network cycles without bring SAFE_STOP
with origin 2. Forms that it says complete: NETWORK_CYCLE_BOUNDARY, INVAR_RATE_UPDATE, INVAR_LISTEN_ONLY,
INVAR_NO_REJOIN. -/
def Obligations.InvarActs : Prop :=
  ∀ s : State,
    (Calm s → s.ring.acquired = true → s.md.mode ≠ .joining →
      let s1 := s.advanceTo ((s.ring.cycleNo + 1) * s.ring.tn10)
      let r := s.ring
      let passed (t : State) : Prop := t.ring.cycleNo = r.cycleNo + 1 ∧ t.lanes = s.lanes ∧ t.md = s.md ∧
        t.tb.rate = s.tb.rate ∧ t.ring.armed = (r.armed || (r.armNext && r.schedOk)) ∧ t.ring.listenOnly = false
      (r.listenOnly = false → (deltaOf (readings s1)).1 = none →
        ∃ t, exec .networkCycleBoundary s = .next t ∧ passed t ∧ t.tb.slew = 0 ∧ t.ring.noRead = satInc r.noRead ∧
          t.ring.noReadRun = r.noReadRun + 1 ∧ t.ring.listenDue = (r.listenDue || decide (16 ≤ r.noReadRun + 1))) ∧
      (r.listenOnly = false → ∀ d, (deltaOf (readings s1)).1 = some d →
        ∃ t, exec .networkCycleBoundary s = .next t ∧ passed t ∧ t.ring.noRead = r.noRead ∧ t.ring.noReadRun = 0 ∧
          (d.natAbs ≤ 750 → t.tb.slew = BitVec.ofInt 32 (-d) ∧ t.tb.synced = decide (d.natAbs ≤ 500) ∧
            t.ring.listenDue = r.listenDue) ∧
          (750 < d.natAbs → t.tb.slew = 0 ∧ t.tb.synced = false ∧ t.ring.listenDue = true)) ∧
      (r.listenOnly = true → r.ncDiffers = false → ∀ d, (deltaOf (readings s1)).1 = some d → d.natAbs ≤ 750 →
        ∃ t, exec .networkCycleBoundary s = .next t ∧ t.lanes = s.lanes ∧
          (r.listenFrom ≤ r.cycleNo * r.tn10 → t.ring.listenOnly = false ∧ t.tb.slew = BitVec.ofInt 32 (-d) ∧
            t.tb.synced = decide (d.natAbs ≤ 500) ∧ t.ring.armed = r.armed ∧ t.ring.armNext = true ∧ t.ring.tx = r.tx ∧
            t.ring.txAt = if r.joined then some (r.cycleNo + 2) else none) ∧
          (r.cycleNo * r.tn10 < r.listenFrom → t.ring.listenOnly = true ∧ t.tb.synced = s.tb.synced))) ∧
    (s.ring.rateDue = true → s.ring.deltas.length = 16 → ∀ ds : List Int, s.ring.deltas = ds.map some →
      ∃ t, exec .invarRateUpdate s = .next t ∧ t.ring.rateDue = false ∧ t.tb = { s.tb with rate := t.tb.rate } ∧
        let v := s.tb.rate.toInt - roundDiv (2 ^ 31 * ds.sum) (16 * (s.ring.tn10 * 10))
        t.tb.rate = BitVec.ofInt 32 (if v < -858993 then -858993 else if 858993 < v then 858993 else v) ∧
        t.lanes = s.lanes ∧ t.md = s.md) ∧
    (s.ring.listenDue = true → s.ring.listenOnly = false →
      ∃ t, exec .invarListenOnly s = .next t ∧ t.ring.listenOnly = true ∧ t.ring.tx = false ∧ t.ring.armed = false ∧
        t.tb.slew = 0 ∧ t.ring.listenCount = satInc s.ring.listenCount ∧ t.lanes = s.lanes ∧ t.md = s.md) ∧
    (s.ring.listenOnly = true → 100 ≤ s.ring.listenFor → MayStop s → s.servingLanes ≠ [] →
      ∃ t, exec .invarNoRejoin s = .next t ∧ Stopped t 2)

/-- Probes measure a link, a fault loops its port, and the loop is undone at its restore cycle (R285, R286, R287,
R302, R303). PROBE_REQUEST of a node whose repeater lives sends a request with the next number and counts one more
without a reply where the last still waits; the fourth makes cause 2 due; while the port has to wait with it nothing
happens. A valid request is answered by a reply with its number and a turn within 20 us, withheld by no injection; a
valid reply to the request that waits is one measurement of half the round trip less the turn, and the neighbour shows
as its probes say; an invalid probe changes nothing. 64 measurements give the stored delay, their mean rounded to the
nearest ns. Loss of signal makes cause 1 due. A due cause loops the port of an acquired node and shows cause and
fault; regained signal starts the stability time; with the delay measured anew, 10 s later READY shows. At the restore
cycle that both ends agreed on the loop is undone; a proposal without an echo lapses and READY clears. The lanes and
the mode stay as they are. Forms that it says complete: PROBE_REQUEST, PROBE_ARRIVAL, LINK_DELAY_MEASURED,
LOSS_OF_SIGNAL, LINK_FAULT, LINK_STABLE, RESTORE_CYCLE, RESTORE_LAPSE, LINK_SYNCHRONISED. -/
def Obligations.RingLinks : Prop :=
  ∀ (s : State) (p : Port),
    let k := s.ring.port p
    let calm (t : State) : Prop := t.lanes = s.lanes ∧ t.md = s.md ∧ t.stage = s.stage ∧
      t.ring.port (otherPort p) = s.ring.port (otherPort p)
    (s.probeWaits p = true → exec (.probeRequest p) s = .next s) ∧
    (s.ring.alive = true → s.probeWaits p = false →
      ∃ t, exec (.probeRequest p) s = .next t ∧ calm t ∧
        let y := t.ring.port p
        let missed := if k.waiting.isSome then k.missed + 1 else k.missed
        y.seq = k.seq + 1 ∧ y.waiting = some (k.seq + 1) ∧ y.missed = min missed 4 ∧ probeOk y.outProbe = true ∧
        leAt y.outProbe 0 1 % 16 = 1 ∧ leAt y.outProbe 1 2 = s.node ∧ leAt y.outProbe 3 1 = (k.seq + 1).toNat ∧
        (missed = 0 → y.count = k.count ∧ y.due = k.due) ∧ (4 ≤ missed → y.due.getLsbD 2 = true)) ∧
    (∀ bytes rt, s.ring.alive = true → k.signal = true → probeOk bytes = true → s.ring.acquired = true →
      (k.looped = false →
        (leAt bytes 0 1 % 16 = 1 → Quiet s →
          ∃ t, exec (.probeArrival p bytes rt) s = .next t ∧ calm t ∧
            let y := t.ring.port p
            probeOk y.outProbe = true ∧ leAt y.outProbe 0 1 % 16 = 2 ∧ leAt y.outProbe 3 1 = leAt bytes 3 1 ∧
            leAt y.outProbe 4 2 ≤ 20000 ∧ y.nAddr = BitVec.ofNat 10 (leAt bytes 1 2) ∧
            y.nAcq = (leAt bytes 0 1).testBit 4 ∧ y.nTx = (leAt bytes 0 1).testBit 5 ∧
            y.nLooped = (leAt bytes 0 1).testBit 6 ∧ y.due.getLsbD 6 = (k.due.getLsbD 6 || y.nLooped) ∧
            y.waiting = k.waiting ∧ y.count = k.count) ∧
        (leAt bytes 0 1 % 16 = 2 → ∀ seq : Byte, k.waiting = some seq → leAt bytes 3 1 = seq.toNat →
          leAt bytes 4 2 ≤ rt → k.count < 64 →
          ∃ t, exec (.probeArrival p bytes rt) s = .next t ∧ calm t ∧
            let y := t.ring.port p
            let m := rt - leAt bytes 4 2
            let far : Bool := k.valid && decide (2 * (k.delay.toNat + 50) < m ∨ m + 100 < 2 * k.delay.toNat)
            y.waiting = none ∧ y.missed = 0 ∧ y.count = k.count + 1 ∧ y.sum = k.sum + m ∧
            y.drift = (if far then k.drift + 1 else 0) ∧
            y.due.getLsbD 5 = (k.due.getLsbD 5 || (far && decide (15 ≤ k.drift)))))) ∧
    (∀ bytes rt, probeOk bytes = false → exec (.probeArrival p bytes rt) s = .next s) ∧
    (64 ≤ k.count → k.fresh = false → k.looped = true ∨ s.md.mode = .joining →
      ∃ t, exec (.linkDelayMeasured p) s = .next t ∧ calm t ∧ (t.ring.port p).valid = true ∧
        (t.ring.port p).delay = BitVec.ofNat 24 ((k.sum + 64) / 128) ∧ (t.ring.port p).fresh = true ∧ (t.ring.port p).count = 0) ∧
    (∃ t, exec (.lossOfSignal p) s = .next t ∧ calm t ∧ (t.ring.port p).signal = false ∧
      (t.ring.port p).due = k.due ||| 2 ∧ (t.ring.port p).ready = false ∧ (t.ring.port p).looped = k.looped) ∧
    (∀ cause : BitVec 3, s.ring.alive = true → 1 ≤ cause.toNat → cause.toNat ≤ 6 → k.due.getLsbD cause.toNat = true →
      k.fault = false →
      (s.ring.acquired = true →
        ∃ t, exec (.linkFault p cause) s = .next t ∧ calm t ∧ (t.ring.port p).looped = true ∧
          (t.ring.port p).fault = true ∧ (t.ring.port p).cause = cause ∧ (t.ring.port p).due = 0) ∧
      (s.ring.acquired = false → cause = 3 ∨ cause = 4 ∨ cause = 6 → exec (.linkFault p cause) s = .next s)) ∧
    (k.signal = false → k.looped = true →
      ∃ t, exec (.linkSynchronised p) s = .next t ∧ calm t ∧ (t.ring.port p).signal = true ∧
        (t.ring.port p).stableFrom = some s.guard.optime ∧ (t.ring.port p).looped = true) ∧
    (∀ at0, k.stableFrom = some at0 → k.looped = true → k.signal = true → k.fresh = true → k.ready = false →
      ∃ t, exec (.linkStable p) s = .next t ∧ t.guard.optime = max s.guard.optime (at0 + 1000000000) ∧ t.lanes = s.lanes ∧ t.md = s.md ∧ (t.ring.port p).ready = true ∧
        (t.ring.port p).looped = true) ∧
    (∀ v, k.restore = some v → k.echoed = true → s.ring.acquired = true → (s.ring.port (otherPort p)).echoed = false →
      ∃ t, exec .restoreCycle s = .next t ∧ calm t ∧ (t.ring.port p).looped = false ∧ (t.ring.port p).fault = false ∧
        (t.ring.port p).ready = false ∧ (t.ring.port p).delay = k.delay) ∧
    (∀ v, k.restore = some v → k.echoed = false → s.ring.acquired = true →
      ∃ t, exec (.restoreLapse p) s = .next t ∧ calm t ∧ (t.ring.port p).ready = false ∧ (t.ring.port p).restore = none ∧
        (t.ring.port p).looped = k.looped ∧ (t.ring.port p).stableFrom = some t.guard.optime)

/-- A node cold starts a silent ring, adopts the committed schedule, and safe links are enabled in STARTUP_TEST (R25,
R281, R290, R304, R331, R333). COLD_START of a node that may acquire, is a master with its switch set and sees no
neighbour with network time sets NT to 0, acquires, arms its guardians and transmits with COLD. Its phase ended, COLD
clears, the node has joined, and JOINING is to end at the next cut, unless the node's own address has been seen, which
stops the module. The schedule is adopted once every serving lane has committed and the copies are alike; RING_CTRL
and SL_CTRL are accepted from a runtime in STARTUP_TEST, where ENABLE before the table has been verified is refused
with an error flag; from a runtime in another mode they change nothing, and from the application they take trap 0x06.
Forms that it says complete: COLD_START, COLD_PHASE_END, COMMIT, SL_CTRL_ENABLE. -/
def Obligations.ColdStart : Prop :=
  ∀ s : State,
    (s.mayAcquire = true → s.ring.alive = true → s.sealSt.sw1.getLsbD 12 = true → s.node ∈ s.ring.masters →
      s.ring.coldExhausted = false → s.ring.cold = 1 ∨ s.ring.cold = 3 → s.ring.w.nAcq = false → s.ring.e.nAcq = false →
      ∃ t, exec .coldStart s = .next t ∧ t.tb.nt = 0 ∧ t.tb.ntf = 0 ∧ t.tb.rate = 0 ∧ t.ring.acquired = true ∧
        t.ring.armed = true ∧ t.ring.tx = true ∧ t.ring.cold = 2 ∧ t.ring.cycleNo = 0 ∧ t.lanes = s.lanes ∧ t.md = s.md) ∧
    (s.ring.cold = 2 → s.ring.ownSeen = true → MayStop s →
      ∃ t, exec .coldPhaseEnd s = .next t ∧ Stopped t 2) ∧
    (s.ring.cold = 2 → s.ring.ownSeen = false →
      ∃ t, exec .coldPhaseEnd s = .next t ∧ t.ring.cold = 0 ∧ t.ring.joined = true ∧ t.ring.tx = true ∧
        t.lanes = s.lanes ∧ (s.md.mode = .joining → .joined ∈ t.md.events) ∧ t.md.mode = s.md.mode) ∧
    (∀ l, s.laneMode l = 2 →
      ((∀ k, s.serves k = true → k ≠ l → (s.lane k).ring.committed = true ∧
          (s.lane k).ring.header = (s.lane l).ring.header ∧ (s.lane k).ring.entries = (s.lane l).ring.entries) →
        ∃ t, exec (.commit (.runtime l)) s = .next t ∧ t.ring.schedOk = true ∧ t.ring.header = (s.lane l).ring.header ∧
          t.ring.entries = (s.lane l).ring.entries ∧ (t.lane l).ring = { (s.lane l).ring with committed := true } ∧
          t.md = s.md) ∧
      (∀ k, s.serves k = true → k ≠ l → (s.lane k).ring.committed = false →
        exec (.commit (.runtime l)) s = .next (onLane s l fun x => { x with ring := { x.ring with committed := true } })) ∧
      (∀ on, (s.lane l).sl.cfgOk = true →
        exec (.slCtrlEnable (.runtime l) on) s = .next (onLane s l fun x => x.slUpd fun k => { k with enable := on })) ∧
      ((s.lane l).sl.cfgOk = false →
        ∃ t, exec (.slCtrlEnable (.runtime l) true) s = .next t ∧ (t.lane l).sl.enable = false ∧
          (t.lane l).sl.err.getLsbD 0 = true ∧ (t.lane l).core = (s.lane l).core)) ∧
    (∀ l, s.laneMode l ≠ 2 → exec (.commit (.runtime l)) s = .next s ∧
      ∀ on, exec (.slCtrlEnable (.runtime l) on) s = .next s) ∧
    (∀ l, (s.lane l).core.run = .running → (s.lane l).core.priv = false →
      exec (.commit (.app l)) s = .next (s.trap l 0x06 none 0xF800000C) ∧
      ∀ on, exec (.slCtrlEnable (.app l) on) s = .next (s.trap l 0x06 none 0xF0004004))

/-- An accepted package is applied by every serving lane at its cycle, and only while its kind is permitted (R122,
R191, R192, R196, R197, R200, R201). In a cycle with a vote whose number has reached the cycle of application of an
accepted package, PARAMETER gives each of its slots its new value in every serving lane, raises the lane's sequence,
extends M3 by the package and releases the buffer; FORCE puts the forced values in the slots and in the force table,
with what each target held; UNFORCE restores what a target held and takes it from the table; ACTIVATE makes the lanes
wait for the exchange; every byte outside the slots named reads as before and the core is unchanged. STOP, at the cut
of a RUN cycle with a CONTINUE vote and no other event that is t0 of its cycle, takes the module to STOP with the
hold-off set and no PDU released. A package whose kind is no longer permitted is removed. IMAGE_SWAP_TIMEOUT ends the
wait 5 s after it began. Forms that it says complete: PARAMETER, STOP, ACTIVATE, FORCE, UNFORCE, IMAGE_SWAP_TIMEOUT.
-/
def Obligations.OnlineChange : Prop :=
  ∀ (s : State) (p : PendingChange), s.inVoteCycle = true → s.pendingPackage = some p → p.posted = true →
    p.verdict = some (0, 0) → pkgFormat p.bytes = true → (∀ l, Memory.wf (s.lane l).store.cells = true) →
    let es := pkgEntries p.bytes
    let applied (t : State) : Prop := t.chg.busy = false ∧ t.md.mode = s.md.mode ∧
      ∀ l, s.serves l = true → (t.lane l).change.pend = none ∧ (t.lane l).core = (s.lane l).core ∧
        ∀ a, (∀ e ∈ es, e.kind = 0 → a < slotAddr e.index ∨ slotAddr e.index + 4 ≤ a) →
          (t.lane l).rd8 a = (s.lane l).rd8 a
    (s.md.step = .agreement → s.cycleReached p.apply = true →
      (pkgKind p.bytes = 1 → s.kindPermitted 1 = true →
        ∃ t, exec .parameter s = .next t ∧ applied t ∧ ∀ l, s.serves l = true →
          (t.lane l).change.lastSeq = pkgWord p.bytes 0x0C ∧ (t.lane l).change.forces = (s.lane l).change.forces ∧
          (t.lane l).meas.m[3] = digestBits (sha512
            (bitsDigest (s.lane l).meas.m[3] ++ sha512 (p.bytes.take (pkgLength p.bytes)))) ∧
          ∀ e ∈ es, (t.lane l).rd32 (slotAddr e.index) = e.new) ∧
      (pkgKind p.bytes = 3 → s.kindPermitted 3 = true →
        ∃ t, exec .activate s = .next t ∧ applied t ∧ ∀ l, s.serves l = true →
          (t.lane l).change.lastSeq = pkgWord p.bytes 0x0C ∧ (t.lane l).change.swapWait = some (s.lane l).tb.t0) ∧
      (pkgKind p.bytes = 4 → s.kindPermitted 4 = true →
        ∃ t, exec .force s = .next t ∧ applied t ∧ ∀ l, s.serves l = true → ∀ e ∈ es,
          (e.kind = 0 → (t.lane l).rd32 (slotAddr e.index) = e.new) ∧
          (∃ f ∈ (t.lane l).change.forces, f.target = e.target ∧ f.value = e.new ∧
            ((s.lane l).change.forced e.target = false → e.kind = 0 → f.previous = (s.lane l).rd32 (slotAddr e.index)))) ∧
      (pkgKind p.bytes = 5 → s.kindPermitted 5 = true →
        ∃ t, exec .unforce s = .next t ∧ applied t ∧ ∀ l, s.serves l = true → ∀ e ∈ es,
          (t.lane l).change.forced e.target = false ∧
          ∀ f ∈ (s.lane l).change.forces.find? (fun f => f.target = e.target), e.kind = 0 →
            (t.lane l).rd32 (slotAddr e.index) = f.previous) ∧
      (∀ i k, (i = .parameter ∧ k = 1) ∨ (i = .activate ∧ k = 3) ∨ (i = .force ∧ k = 4) ∨ (i = .unforce ∧ k = 5) →
        pkgKind p.bytes = k → s.kindPermitted k = false →
        ∃ t, exec i s = .next t ∧ t.chg.busy = false ∧ ∀ l, s.serves l = true → (t.lane l).change.pend = none ∧
          (t.lane l).store = (s.lane l).store ∧ (t.lane l).change.forces = (s.lane l).change.forces)) ∧
    (s.cycleReached (p.apply - 1) = true → pkgKind p.bytes = 2 → s.md.mode = .run → s.md.step = .voted →
      s.md.voted = true → s.md.vital = true → s.md.gateGm = .cont → s.md.events = [] →
      (∀ l, (s.lane l).cyc.events = []) → s.resync.shadowBad = false → s.resync.failed = false →
      s.guard.pendingReset = none → Quiet s →
      ∃ t, exec .stop s = .next t ∧ t.chg.busy = false ∧ t.md.mode = .stop ∧ t.md.step = .idle ∧
        t.stage.holdOff = true ∧ t.md.released = [] ∧ t.md.fenced = s.md.fenced ∧ ∀ l, s.serves l = true →
          (t.lane l).change.pend = none ∧ (t.lane l).change.lastSeq = pkgWord p.bytes 0x0C ∧
          (t.lane l).store = (s.lane l).store ∧ (t.lane l).core.pc = (s.lane l).core.pc ∧
          (t.lane l).core.g = (s.lane l).core.g ∧
          (t.lane l).vio.en = (s.lane l).cyc.enables.getD (s.lane l).vio.en) ∧
    (∀ k ∈ s.servingLanes.head?, ∀ at0, (s.lane k).change.swapWait = some at0 →
      ∃ t, exec .imageSwapTimeout s = .next t ∧ t.md = s.md ∧ Reaches s t (at0.toNat + 500000000) ∧
        t.svc.activating = false ∧ ∀ l, (t.lane l).change.swapWait = none ∧ (t.lane l).store = (s.lane l).store)

/-- The secure commands are fed, acted on where permitted, and answered by every serving lane (R25, R123, R124, R197,
R227, R415, R418, R424). In the evaluation of a cycle with a vote, ENTER_MAINT, LEAVE_MAINT, DEBUG_HALT and
FENCE_RELEASE are fed to the signature of every serving lane and answered with result 0 where the mode and its switch
permit them, which accepts the event or writes VOTE_RELEASE, and with 1 where they do not, with nothing else done.
SWAP_DONE within 5 s of the activation has the lanes request a reset. VOTE_RELEASE written by two other lanes with its
key in MAINTENANCE clears the lock-out and the history of a lane; VOTE_STATUS keeps LOCKED_OUT until the lanes are
released anew. HOLD_RELEASE with its key in HOLD with its switch set ends HOLD at the next t0; from the runtime it is
ignored, from the application it takes trap 0x06. Forms that it says complete: ENTER_MAINT, LEAVE_MAINT, DEBUG_HALT,
FENCE_RELEASE, SWAP_DONE, VOTE_RELEASE, HOLD_RELEASE. -/
def Obligations.ModeCommands : Prop :=
  ∀ s : State,
    (s.md.mode.votes = true → s.md.holdExit = false → s.md.step = .evaluation →
      (∀ l, s.serves l = true → (s.lane l).mbSec.out.length < 8) →
      let answered (t : State) (l : LaneId) (w a : Word) : Prop :=
        (t.lane l).mbSec.out = (s.lane l).mbSec.out ++ [a] ∧ (t.lane l).vote.feeds = (s.lane l).vote.feeds + 1 ∧
        (t.lane l).vote.s = sigFeed (s.lane l).vote.s w ∧ (t.lane l).core = (s.lane l).core ∧
        (t.lane l).store = (s.lane l).store
      let acted (t : State) (w : Word) (ev : ModeEvent) (may : Bool) : Prop := t.md = s.md ∧ ∀ l, s.serves l = true →
        answered t l w ((0x83000000 : Word) ||| ((w >>> 24) <<< 8) ||| (if may then 0 else 1)) ∧
        (may = true → ev ∈ (t.lane l).cyc.events) ∧ (may = false → (t.lane l).cyc = (s.lane l).cyc)
      (∃ t, exec .enterMaint s = .next t ∧
        acted t 0x01000000 .enterMaint (s.md.mode == .stop && s.sealSt.sw1.getLsbD 13)) ∧
      (∃ t, exec .leaveMaint s = .next t ∧ acted t 0x02000000 .leaveMaint (s.md.mode == .maintenance)) ∧
      (∃ t, exec .debugHalt s = .next t ∧
        acted t 0x03000000 .debugHalt ((s.md.mode == .stop || s.md.mode == .run) && s.sealSt.sw1.getLsbD 14)) ∧
      (∀ a : BitVec 24, a.toNat ≤ 2 → s.md.mode = .maintenance → s.sealSt.sw1.getLsbD 13 = true →
        s.servingLanes.length = 2 → (∀ k, a.toNat = k.num → s.serves k = false) →
        ∃ t, exec (.fenceRelease a) s = .next t ∧
          (∀ l, s.serves l = true → answered t l ((0x04000000 : Word) ||| a.setWidth 32) 0x83000400) ∧
          ∀ k, a.toNat = k.num → t.guard.lockedOut.get k = false ∧ t.md.lockedOut = s.md.lockedOut ∧
            (t.guard.hist0.get k).valid = false ∧ (t.guard.hist1.get k).valid = false) ∧
      (∀ a : BitVec 24, a.toNat ≤ 2 → s.md.mode ≠ .maintenance →
        ∃ t, exec (.fenceRelease a) s = .next t ∧ t.guard.lockedOut = s.guard.lockedOut ∧ t.md = s.md ∧
          ∀ l, s.serves l = true → answered t l ((0x04000000 : Word) ||| a.setWidth 32) 0x83000401) ∧
      (2 ≤ s.servingLanes.length → s.guard.priming = .done → s.guard.level .laneRequest = .sy →
        s.guard.pendingReset = none → (∀ l, (s.lane l).reqSy = none) →
        (∀ l, s.serves l = true → s.swapAwaited (s.lane l) = true) →
        ∃ t, exec .swapDone s = .next t ∧ t.guard.pendingReset ≠ none ∧
          ∀ l, s.serves l = true → (t.lane l).change.swapWait = none)) ∧
    (∀ (l k : LaneId), s.md.mode = .maintenance → s.sealSt.sw1.getLsbD 13 = true → l ≠ k →
      let w : Word := (0xA500 : Word) ||| BitVec.ofNat 32 k.num
      (∃ t, exec (.voteRelease l w) s = .next t ∧
        ((∃ j, j ≠ l ∧ j ≠ k ∧ (s.lane j).vote.release = some k) →
          t.guard.lockedOut.get k = false ∧ t.md.lockedOut = s.md.lockedOut ∧ (t.guard.hist0.get k).valid = false ∧
          (t.guard.hist1.get k).valid = false ∧ (∀ j, j ≠ k → t.guard.lockedOut.get j = s.guard.lockedOut.get j)) ∧
        ((∀ j, j ≠ l → j ≠ k → (s.lane j).vote.release ≠ some k) →
          t = onLane s l fun x => { x with vote := { x.vote with release := some k } }))) ∧
    (∀ l w, s.md.mode ≠ .maintenance ∨ w.toNat / 256 % 256 ≠ 0xA5 → exec (.voteRelease l w) s = .next s) ∧
    (∀ (l : LaneId) (w : Word),
      (w.toNat / 256 % 256 = 0xC3 → w.toNat % 256 = 1 → s.md.mode = .hold → s.sealSt.sw1.getLsbD 14 = true →
        .holdReleased ∉ s.md.events →
        exec (.holdRelease (.service l true) w) s =
          .next { s with md := { s.md with events := s.md.events ++ [.holdReleased] } }) ∧
      (w.toNat / 256 % 256 ≠ 0xC3 → exec (.holdRelease (.service l true) w) s = .next s) ∧
      exec (.holdRelease (.runtime l) w) s = .next s ∧
      ((s.lane l).core.run = .running → (s.lane l).core.priv = false →
        exec (.holdRelease (.app l) w) s = .next (s.trap l 0x06 none 0xF0007100)))

/-- The debugger halts, runs, reads and writes one lane in HOLD, and is refused outside it (R97, R131, R146, R148,
R201, R204, R205, R240). In HOLD, HALT stops a running core with reason 1; RESUME and STEP n let a halted core run on
from its pc, after a breakpoint from the address where BRK stands, with trap 0x01 at once where the word kept there
spells no instruction; NEXT_CYCLE starts a cycle at the entry with the registers of R97; READ and WRITE move a general
register, a control register or a word of the store of a halted core through the data register; SET_BRK keeps the word
of the program and puts BRK in its place, CLEAR_BRK puts it back; each shows DONE once it has completed. BRK itself
takes trap 0x0B and halts the core with reason 3. Outside HOLD every command is refused and does nothing else. Forms
that it says complete: BRK, LANE_DBG_HALT, RESUME, STEP, NEXT_CYCLE, READ_REG, WRITE_REG, READ_CR, WRITE_CR, READ_MEM,
WRITE_MEM, SET_BRK, CLEAR_BRK. -/
def Obligations.Debugger : Prop :=
  ∀ (s : State) (l : LaneId),
    let x := s.lane l
    let dbg (f : LaneBlk → LaneBlk) : State := onLane s l fun x => { x with blk := f x.blk }
    let done (b : LaneBlk) : LaneBlk := { b with dbgRefused := false, dbgDone := true }
    (s.laneMode l = 8 →
      (x.core.run = .running →
        exec (.laneDbgHalt l) s = .next (onLane s l fun x =>
          { x with core := { x.core with run := .debug }
                   blk := { done x.blk with dbgReason := 1, dbgSteps := none } })) ∧
      (x.core.run = .debug →
        (let went (n : Option Nat) : State := onLane s l fun x =>
            { x with
              core := if x.blk.dbgReason = 3 then
                  { x.core with
                    run := .running, pc := x.core.tpc, priv := x.core.tstatus.getLsbD 0
                    intrap := x.core.tstatus.getLsbD 1, cve := x.core.tstatus.getLsbD 2, ah := x.core.tstatus.getLsbD 3 }
                else { x.core with run := .running }
              blk := { x.blk with dbgRefused := false, dbgDone := false, dbgSteps := n, dbgReason := 0 } }
         (x.keptIllegal l = none → exec (.resume l) s = .next (went none) ∧
           ∀ k : Half, k ≠ 0 → exec (.step l k) s = .next (went (some k.toNat))) ∧
         (∀ w, x.keptIllegal l = some w → exec (.resume l) s = .next (((went none).illegal l w).counted l) ∧
           ∀ k : Half, k ≠ 0 → exec (.step l k) s = .next (((went (some k.toNat)).illegal l w).counted l))) ∧
        (s.chg.busy = false →
          ∃ t, exec (.nextCycle l) s = .next t ∧ t.md = s.md ∧
            let y := t.lane l
            y.core.run = .running ∧ y.core.pc = x.rd32 4 ∧ y.core.priv = false ∧ y.core.intrap = false ∧
            (∀ r : Reg, y.core.get r = if r.val = 30 then x.stackTop else 0) ∧ y.cyc.app = true ∧
            y.blk.dbgDone = true ∧ y.blk.dbgRefused = false ∧ (∀ k, k ≠ l → t.lane k = s.lane k)) ∧
        (∀ r : Reg, ∀ w,
          exec (.readReg l (BitVec.ofNat 32 r.val)) s = .next (dbg fun b =>
            { done b with dbgAddr := BitVec.ofNat 32 r.val, dbgData := x.core.get r }) ∧
          exec (.writeReg l (BitVec.ofNat 32 r.val) w) s = .next (onLane s l fun x =>
            { x with
              core := if r.val = 0 then x.core else { x.core with
                g := x.core.g.set r.val w, badReg := x.core.badReg.filter (fun k => k / 4 ≠ r.val) }
              blk := { done x.blk with dbgAddr := BitVec.ofNat 32 r.val, dbgData := w } })) ∧
        (∀ cr w v, x.core.readCr cr.toNat = some v →
          exec (.readCr l cr) s = .next (dbg fun b => { done b with dbgAddr := cr, dbgData := v }) ∧
          exec (.writeCr l cr w) s = .next (onLane s l fun x =>
            { x with core := x.core.writeCr cr.toNat w, blk := { done x.blk with dbgAddr := cr, dbgData := w } })) ∧
        (∀ a w : Word, a.toNat % 4 = 0 → a.toNat < storeTop →
          exec (.readMem l a) s = .next (dbg fun b => { done b with dbgAddr := a, dbgData := x.rd32 a.toNat }) ∧
          exec (.writeMem l a w) s = .next (onLane s l fun x =>
            { x.poke a.toNat (wordBytes w) with blk := { done x.blk with dbgAddr := a, dbgData := w } }))) ∧
      (∀ a : Word, x.codeWord a = true → x.hasBreak a = false → x.blk.breakpoints.length < 32 →
        exec (.setBrk l a) s = .next (onLane s l fun x =>
          { x.poke a.toNat (wordBytes 0xFC000005) with
            blk := { done x.blk with dbgAddr := a, breakpoints := x.blk.breakpoints ++ [(a, x.rd32 a.toNat)] } })) ∧
      (∀ a w : Word, x.blk.breakpoints.find? (fun b => b.1 = a) = some (a, w) →
        exec (.clearBrk l a) s = .next (onLane s l fun x =>
          { x.poke a.toNat (wordBytes w) with
            blk := { done x.blk with dbgAddr := a, breakpoints := x.blk.breakpoints.filter (fun b => b.1 ≠ a) } }))) ∧
    (s.laneMode l ≠ 8 → ∀ n : Half, ∀ i ∈ [.laneDbgHalt l, .resume l, .step l n, .nextCycle l],
      exec i s = .next (dbg fun b => { b with dbgRefused := true, dbgDone := false })) ∧
    (s.laneMode l ≠ 8 → ∀ (a w : Word), ∀ i ∈ [.readReg l a, .writeReg l a w, .readCr l a, .writeCr l a w, .readMem l a,
        .writeMem l a w, .setBrk l a, .clearBrk l a],
      exec i s = .next (dbg fun b => { b with dbgRefused := true, dbgDone := false })) ∧
    (Takes s l (.brk l) → s.md.mode = .hold → x.core.intrap = false → x.core.priv = false → Calm s →
      ∃ t, exec (.brk l) s = .next t ∧ (t.lane l).core.run = .debug ∧ (t.lane l).core.tpc = x.core.pc ∧
        (t.lane l).core.tval = x.core.pc ∧ (t.lane l).core.tcause = 0x10B ∧ (t.lane l).core.tstatus = x.core.saved ∧
        (t.lane l).core.priv = true ∧ (t.lane l).core.g = x.core.g ∧ (t.lane l).blk.dbgReason = 3 ∧
        (t.lane l).blk.dbgDone = true ∧ (t.lane l).store = x.store)

/-- Words, doorbells and locks pass between a lane and the service processor (R413, R414, R415, R416, R417, R421,
R422, R424, R425, R427). A word written to a channel is appended to the receiver's queue, and a ninth sets the full
flag and is counted; words and doorbells of the service processor on the secure channel wait for the lane's next cycle
start. A read takes the oldest visible word; of an empty queue it gives 0, sets the empty flag and counts; the read
that empties a queue whose sender waits gives that sender its event. A broadcast enters the secure queue of every
serving lane, or none with its flag. A non-secure access to a secure channel only sets ACCESS. CHG_CTRL arms and
disarms the staging buffer with its key; a package newly armed is remembered. A free lock read is the reader's; the
owner's 0 frees it; any other write flags an error. A stalled channel is flagged on both sides. The application's
accesses take trap 0x06; the service processor's restart frees its locks. Forms that it says complete: MB_OUT, MB_IN,
MB_DB_OUT, EMPTY_WAIT, MAILBOX_STALL, MB_BCAST, MB_BCAST_DB, CHG_ARM, CHG_DISARM, SEMA_ACQUIRE, SEMA_RELEASE,
SERVICE_PROCESSOR_RESET. -/
def Obligations.Mailboxes : Prop :=
  ∀ (s : State) (l : LaneId) (ch : Channel) (w : Word),
    let c := (s.lane l).chan ch
    let put (f : Chan → Chan) : State := onLane s l fun x => (x.updChan ch f).mboxEvent
    (exec (.mbOut (.runtime l) ch w) s = .next (put fun c =>
      if c.out.length < 8 then { c with out := c.out ++ [w] }
      else { c with errLane := c.errLane ||| 1, refFullLane := satInc c.refFullLane })) ∧
    (exec (.mbOut (.service l true) ch w) s = .next (put fun c =>
      if c.inq.length + c.hidden.length < 8 then
        (if ch = .secure then { c with hidden := c.hidden ++ [w] } else { c with inq := c.inq ++ [w] })
      else { c with errSvc := c.errSvc ||| 1, refFullSvc := satInc c.refFullSvc })) ∧
    (exec (.mbDbOut (.runtime l) ch w) s = .next (put fun c => { c with dbSvc := c.dbSvc ||| w })) ∧
    (exec (.mbDbOut (.service l true) ch w) s = .next (put fun c =>
      if ch = .secure then { c with dbHidden := c.dbHidden ||| w } else { c with dbLane := c.dbLane ||| w })) ∧
    (exec (.emptyWait (.runtime l) ch) s = .next (put fun c => { c with emptyLane := true }) ∧
      exec (.emptyWait (.service l true) ch) s = .next (put fun c => { c with emptySvc := true })) ∧
    (∀ r, c.inq = w :: r → (r ≠ [] ∨ c.hidden ≠ [] ∨ c.emptySvc = false →
        exec (.mbIn (.runtime l) ch) s = .next { put (fun c => { c with inq := r }) with readData := w }) ∧
      (r = [] → c.hidden = [] → c.emptySvc = true →
        exec (.mbIn (.runtime l) ch) s = .next { put (fun c =>
          { c with inq := [], errSvc := c.errSvc ||| 4, emptySvc := false }) with readData := w })) ∧
    (c.inq = [] → exec (.mbIn (.runtime l) ch) s = .next { put (fun c =>
      { c with errLane := c.errLane ||| 2, refEmptyLane := satInc c.refEmptyLane }) with readData := 0 }) ∧
    (∀ r, c.out = w :: r → r ≠ [] ∨ c.emptyLane = false →
      exec (.mbIn (.service l true) ch) s = .next { put (fun c => { c with out := r }) with readData := w }) ∧
    (exec (.mbOut (.service l false) .secure w) s =
      .next (onLane s l fun x => (x.updChan .secure fun c => { c with errSvc := c.errSvc ||| 0x10 }).mboxEvent)) ∧
    (c.out.length = 8 → c.inq.length = 8 → c.emptyLane = true → c.emptySvc = true →
      ∃ t, exec (.mailboxStall l ch) s = .next t ∧ ((t.lane l).chan ch).errLane = c.errLane ||| 8 ∧
        ((t.lane l).chan ch).errSvc = c.errSvc ||| 8 ∧ ((t.lane l).chan ch).inq = c.inq ∧ ((t.lane l).chan ch).out = c.out) ∧
    ((∀ k, s.serves k = true → (s.lane k).mbSec.inq.length + (s.lane k).mbSec.hidden.length < 8) →
      ∃ t, exec (.mbBcast (.service l true) w) s = .next t ∧
        ∀ k, (t.lane k).mbSec.hidden = (s.lane k).mbSec.hidden ++ (if s.serves k then [w] else []) ∧
          (t.lane k).mbSec.inq = (s.lane k).mbSec.inq ∧ (t.lane k).store = (s.lane k).store) ∧
    (∀ k, s.serves k = true → 8 ≤ (s.lane k).mbSec.inq.length + (s.lane k).mbSec.hidden.length →
      exec (.mbBcast (.service l true) w) s =
        .next (onLane s l fun x => (x.updChan .secure fun c => { c with errSvc := c.errSvc ||| 0x20 }).mboxEvent)) ∧
    (∃ t, exec (.mbBcastDb (.service l true) w) s = .next t ∧
      ∀ k, (t.lane k).mbSec.dbHidden = (s.lane k).mbSec.dbHidden ||| (if s.serves k then w else 0)) ∧
    (exec (.chgArm (.service l true) 0x3C) s = .next { s with
        chg := if s.chg.busy then { s.chg with refused := true } else { s.chg with armed := true, refused := false }
        svc := if s.chg.busy = false ∧ s.chg.armed = false then s.svc.remember none s.chg.bytes.toList else s.svc } ∧
      exec (.chgDisarm (.service l true) 0x3C) s = .next { s with chg := { s.chg with armed := false } } ∧
      ∀ key, key ≠ 0x3C → exec (.chgArm (.service l true) key) s = .next s ∧ exec (.chgDisarm (.service l true) key) s = .next s) ∧
    (∀ (n : Fin 16) (v : View) (me : BitVec 2), (v = .runtime l ∧ me = 1) ∨ (v = .service l true ∧ me = 2) ∨
        (v = .service l false ∧ me = 3) →
      let k := (s.lane l).sema
      (k.owner[n] = 0 → exec (.semaAcquire v n) s = .next { onLane s l (fun x =>
        { x with sema := { x.sema with owner := x.sema.owner.set n.val me } }) with
          readData := (0x80000000 : Word) ||| me.setWidth 32 }) ∧
      (k.owner[n] ≠ 0 → exec (.semaAcquire v n) s = .next { onLane s l (fun x =>
        { x with sema := { x.sema with contend := if k.owner[n] = me then x.sema.contend else satInc x.sema.contend } }) with
          readData := k.owner[n].setWidth 32 }) ∧
      (exec (.semaRelease v n w) s = .next (onLane s l fun x =>
        if w = 0 ∧ k.owner[n] = me then { x with sema := { x.sema with owner := x.sema.owner.set n.val 0 } }
        else { x with sema := { x.sema with err := x.sema.err ||| BitVec.ofNat 32 (2 ^ n.val) } }))) ∧
    ((s.lane l).core.run = .running → (s.lane l).core.priv = false → ch = .secure →
      exec (.mbIn (.app l) ch) s = .next (s.trap l 0x06 none 0xF0007044) ∧
      exec (.mbOut (.app l) ch w) s = .next (s.trap l 0x06 none 0xF0007040)) ∧
    (∃ t, exec .serviceProcessorReset s = .next t ∧ ∀ k (n : Fin 16),
      (t.lane k).sema.owner[n] = if (s.lane k).sema.owner[n] = 1 then 1 else 0)

/-- Sessions are opened by an anchor, and each service is done, or answered with why it is not (R384, R392, R393,
R403, R408, R409, R410, R411, R412, R415, R447). A connection to port 50419 in TLS 1.3 with a suite, key exchange and
signature scheme of the port, without resumption, pre-shared key or 0-RTT data, whose client an anchor admits takes
the lowest free session with that anchor's mask, no control, and the server's certificate and signature; any other,
and a fifth, changes nothing; a session closes on its client's word or after 300 s. A request whose permission bits or
control the session lacks is answered DENIED and does nothing. STATUS, RECORD_READ and QUOTE answer with what they
read; CONTROL is held by one session at a time; IMAGE_WRITE and FLASH_DIR_WRITE write the flash, refused where the
target is closed; PACKAGE_STAGE fills and arms a free staging buffer, else answers BUSY; the mode commands and
DEBUG_HALT are broadcast and await the lanes' answer; DEBUG releases HOLD and drives a lane's debug port; INJECT and
OTP_BURN answer OK or REFUSED. Forms that it says complete: TLS_CONNECT, SESSION_TIMEOUT, STATUS, CONTROL,
RECORD_READ, QUOTE, IMAGE_WRITE, FLASH_DIR_WRITE, PACKAGE_STAGE, SVC_ENTER_MAINT, SVC_LEAVE_MAINT, SVC_FENCE_RELEASE,
SVC_DEBUG_HALT, SVC_INJECT, SVC_OTP_BURN, SESSION_CLOSE. -/
def Obligations.MaintenanceSessions : Prop :=
  ∀ (s : State), s.svcUp = true →
    (∀ (h : Handshake) key m (i : Fin 4), h.port = 50419 → h.version = .tls13 → h.cipher ≠ .other → h.exchange = .x25519 →
      h.scheme = .ed25519 → h.resumed = false → h.preShared = false → h.earlyData = false →
      s.clientMask key = some m → s.svc.freeSession = some i.val →
      exec (.tlsConnect h (some key)) s = .next { s with svc := { s.svc with
        sessions := s.svc.sessions.set i.val (some {
          mask := m, control := false, last := s.guard.optime, certificate := Config.deviceCertificate
          proof := (List.range 64).map fun i => (Config.ed25519Sign h.transcript).getD i 0 }) } }) ∧
    (∀ (h : Handshake) anchor, h.port ≠ 50419 ∨ h.version ≠ .tls13 ∨ h.cipher = .other ∨ h.exchange ≠ .x25519 ∨ h.scheme ≠ .ed25519 ∨
        h.resumed = true ∨ h.preShared = true ∨ h.earlyData = true ∨ anchor.bind s.clientMask = none ∨
        s.svc.freeSession = none →
      exec (.tlsConnect h anchor) s = .next s) ∧
    (∀ (i : Fin 4) (k : Session) (q : Word), s.svc.sessions[i] = some k →
      let s1 := traffic s i k
      (∃ t, exec (.sessionClose i) s = .next t ∧ t.svc.sessions = s.svc.sessions.set i.val none ∧ t.md = s.md ∧
        t.lanes = s.lanes ∧ t.svc.flash = s.svc.flash) ∧
      (∃ t, exec (.sessionTimeout i) s = .next t ∧ t.svc.sessions = s.svc.sessions.set i.val none ∧ t.md = s.md ∧
        t.lanes = s.lanes ∧ k.last + 30000000000 ≤ t.guard.optime) ∧
      (∀ c service bits ctl, serviceOf c = some (i, q, service, bits, ctl) →
        (∃ b ∈ bits, k.mask.getLsbD b = false) ∨ (ctl = true ∧ k.control = false) →
        exec c s = .next (replied s1 i service q 1 .empty)) ∧
      (k.mask.getLsbD 0 = true →
        exec (.status i q) s = .next (replied s1 i 1 q 0 (.status s.md.mode.code s.md.serving (s.readSeal 4)
          s.svc.desig.region s.svc.desig.trial s.svc.verdicts)) ∧
        (∀ body, body.length = 20 → leAt body 16 1 < 8 → leAt body 17 1 = 0 → 1 ≤ leAt body 18 2 → leAt body 18 2 ≤ 2047 →
          let r := s.recorder
          let rs := r.select ((leAt body 0 4 * 2 ^ 48 + leAt body 4 6) * 65536 + leAt body 10 2) (leAt body 12 4)
            (leAt body 16 1)
          exec (.recordRead i q body) s = .next (replied s1 i 0x10 q 0
            (.records (decide (leAt body 18 2 < rs.length)) r.log.length r.buffer.length
              ((rs.take (leAt body 18 2)).map Rec.bytes)))) ∧
        (∀ nonce, nonce ≠ 0 → s.recentQuotes.length < 10 → s.svc.asked = [] → s.quoteTime = true →
          ∃ t, exec (.quote i q nonce) s = .next t ∧ t.lanes = s.lanes ∧ t.svc.asked = [] ∧
            t.svc.quotes = s.recentQuotes ++ [s.guard.optime] ∧
            t.svc.response = some { session := i.val, service := 0x11, code := 0, req := q
                                    length := (s.quoteOf nonce).length, reply := .quote (s.quoteOf nonce) }) ∧
        (exec (.quote i q 0) s = .next (replied s1 i 0x11 q 5 .empty)) ∧
        (∀ nonce, nonce ≠ 0 → 10 ≤ s.recentQuotes.length →
          exec (.quote i q nonce) s = .next (replied s1 i 0x11 q 3 .empty))) ∧
      (k.mask &&& 0x3E ≠ 0 →
        (s.controlled = false ∨ k.control = true →
          exec (.control i q true) s = .next (replied (traffic s i { k with control := true }) i 2 q 0 .empty)) ∧
        (s.controlled = true → k.control = false →
          exec (.control i q true) s = .next (replied s1 i 2 q 1 .empty)) ∧
        (k.control = true →
          exec (.control i q false) s = .next (replied (traffic s i { k with control := false }) i 2 q 0 .empty))) ∧
      (k.control = true →
        (k.mask.getLsbD 4 = true →
          (∀ tg ty off bs, 1 ≤ bs.length → bs.length ≤ 65536 → Memory.wf s.svc.flash = true →
            let broken := off < 12 ∧
              headBroken ty off bs.length ((s.svc.upload tg ty off bs).bytes (s.svc.target tg + imageOffset ty) 192) = true
            (s.uploadOpen tg = true → off + bs.length ≤ imageSpace ty → broken →
              exec (.imageWrite i q tg ty off bs) s = .next (replied s1 i 0x20 q 5 .empty)) ∧
            (s.uploadOpen tg = true → imageSpace ty < off + bs.length →
              exec (.imageWrite i q tg ty off bs) s = .next (replied s1 i 0x20 q 6 .empty)) ∧
            (s.uploadOpen tg = true → off + bs.length ≤ imageSpace ty → ¬ broken →
              ∃ t, exec (.imageWrite i q tg ty off bs) s = .next t ∧ t.lanes = s.lanes ∧ t.md = s.md ∧
                t.svc.bytes (s.svc.target tg + imageOffset ty + off) bs.length = bs ∧
                t.svc.response = some { session := i.val, service := 0x20, code := 0, req := q, length := 0, reply := .empty } ∧
                ∀ a, a < s.svc.target tg + imageOffset ty + off ∨ s.svc.target tg + imageOffset ty + off + bs.length ≤ a →
                  t.svc.byte a = if ty = .station ∧ tg = .slotB ∧ s.svc.target tg + 0x02C00000 ≤ a ∧
                    a < s.svc.target tg + 0x02C40000 then 0xFF else s.svc.byte a) ∧
            (s.uploadOpen tg = false →
              exec (.imageWrite i q tg ty off bs) s = .next (replied s1 i 0x20 q 5 .empty))) ∧
          (∀ an bs, dirFormat an bs = true → Memory.wf s.svc.flash = true →
            let a0 := if an then 0x00018000 else 0x00010000
            ∃ t, exec (.flashDirWrite i q an bs) s = .next t ∧ t.lanes = s.lanes ∧ t.md = s.md ∧
              t.svc.bytes a0 bs.length = bs ∧ ∀ a, a < a0 ∨ a0 + 0x8000 ≤ a → t.svc.byte a = s.svc.byte a)) ∧
        (k.mask.getLsbD 1 = true → ∀ bs, 1 ≤ bs.length → bs.length ≤ 1024 → bs.length % 4 = 0 → forceKind (pkgKind bs) = false →
          (s.chg.armed = false → s.chg.busy = false →
            ∃ t, exec (.packageStage i q bs) s = .next t ∧ t.chg.armed = true ∧ t.chg.busy = false ∧
              t.chg.bytes.toList.take bs.length = bs ∧ (some i.val, t.chg.bytes.toList) ∈ t.svc.packages ∧ t.lanes = s.lanes ∧
              t.svc.activating = (s.svc.activating || pkgKind t.chg.bytes.toList == 3) ∧
              t.svc.response = some { session := i.val, service := 0x30, code := 0, req := q, length := 0, reply := .empty }) ∧
          (s.chg.busy = true →
            ∃ t, exec (.packageStage i q bs) s = .next t ∧ t.chg.bytes = s.chg.bytes ∧ t.chg.refused = true ∧
              t.svc.response = some { session := i.val, service := 0x30, code := 3, req := q, length := 0, reply := .empty })) ∧
        ((∀ l, s.serves l = true → (s.lane l).mbSec.inq.length + (s.lane l).mbSec.hidden.length < 8) →
          let sent (t : State) (service : Half) (w : Word) : Prop := t.svc.response = s.svc.response ∧ t.md = s.md ∧
            t.svc.awaited = some { session := i.val, service := service, req := q, code := w.toNat / 2 ^ 24 } ∧
            ∀ l, (t.lane l).mbSec.hidden = (s.lane l).mbSec.hidden ++ (if s.serves l then [w] else [])
          (k.mask.getLsbD 2 = true →
            (∃ t, exec (.svcEnterMaint i q) s = .next t ∧ sent t 0x40 0x01000000) ∧
            (∃ t, exec (.svcLeaveMaint i q) s = .next t ∧ sent t 0x40 0x02000000) ∧
            ∀ l, ∃ t, exec (.svcFenceRelease i q l) s = .next t ∧ sent t 0x40 (0x04000000 + BitVec.ofNat 32 l.num)) ∧
          (k.mask.getLsbD 3 = true → ∃ t, exec (.svcDebugHalt i { req := q, ask := .halt }) s = .next t ∧ sent t 0x50 0x03000000)) ∧
        (k.mask.getLsbD 3 = true →
          (∃ t, exec (.svcDebugHalt i { req := q, ask := .holdRelease }) s = .next t ∧ t.lanes = s.lanes ∧ t.md.mode = s.md.mode ∧
            t.svc.response = some { session := i.val, service := 0x50, req := q, length := 0, reply := .empty
                                    code := if s.canRelease then 0 else 5 } ∧
            (s.canRelease = true → .holdReleased ∈ t.md.events) ∧ (s.canRelease = false → t.md = s.md)) ∧
          ∀ l cmd a d, exec (.svcDebugHalt i { req := q, ask := .lane l cmd a d }) s =
            let u := (s1.dbgPort l a (some d)).dbgCommand l cmd
            .next (replied u i 0x50 q (if (u.lane l).blk.dbgRefused then 5 else 0)
              (.debug (u.readLane l 0x10C) (u.lane l).blk.dbgData))) ∧
        (k.mask.getLsbD 2 = true → ∀ arm param,
          ∃ t, exec (.svcInject i q arm param) s = .next t ∧
            (s.md.mode ≠ .maintenance → t.inject.armed = s.inject.armed ∧
              t.svc.response = some { session := i.val, service := 0x60, code := 5, req := q, length := 0, reply := .empty })) ∧
        (k.mask.getLsbD 2 = true → k.mask.getLsbD 5 = true → ∀ b,
          (s1.doBurn b = none → exec (.svcOtpBurn i q b) s = .next (replied s1 i 0x70 q 5 .empty)) ∧
          (∀ u, s1.doBurn b = some u → exec (.svcOtpBurn i q b) s = .next (replied u i 0x70 q 0 .empty)))))

/-- A report of two lanes is acted on, one of a single lane is not (R402, R405, R406, R407, R411, R418, R419). With
the service processor running and the same words first in the secure queues of two lanes, VERDICT_REPORT keeps the
verdict with the session of its package for STATUS, APPLIED appends the staged PARAMETER package of its sequence to
the journal of slot A with its commit word, IMAGE_ACTIVATE, TRIAL_END and TRIAL_FAILED begin the rewrite of the
designation that each asks for, and COMMAND_ANSWER answers the session that waits, OK or REFUSED; the words leave the
queues of those lanes. The completed rewrite puts the new designation in force, and SWAP_DONE follows an exchange.
Words from one lane alone are taken and otherwise ignored. Forms that it says complete: VERDICT_REPORT, APPLIED,
IMAGE_ACTIVATE, DESIGNATION_REWRITE, TRIAL_END, TRIAL_FAILED, COMMAND_ANSWER. -/
def Obligations.LaneReports : Prop :=
  ∀ (s : State), s.svcUp = true → Memory.wf s.svc.flash = true →
    (∀ a b ws, TwoReport s a b ws →
      let taken (t : State) : Prop := t.md = s.md ∧ ∀ l, (l = a ∨ l = b →
        (t.lane l).mbSec.out = (s.lane l).mbSec.out.drop ws.length) ∧ (t.lane l).store = (s.lane l).store
      (∀ w q, ws = [w, q] → w.toNat / 2 ^ 24 = 0x53 →
        ∃ t, exec .verdictReport s = .next t ∧ taken t ∧ t.svc.flash = s.svc.flash ∧
          (let staged := s.svc.packages.find? (stagedAs (w.toNat % 256) q)
           t.svc.verdicts.getLast? = some { session := staged.bind (·.1), word := w, seq := q }) ∧
          (w.toNat / 65536 % 256 = 0 → t.svc.packages = s.svc.packages)) ∧
      (∀ w q, ws = [w, q] → w.toNat / 2 ^ 24 = 0x80 → s.svc.packages.find? (stagedAs 1 q) = none →
        ∃ t, exec .applied s = .next t ∧ taken t ∧ t.svc = s.svc) ∧
      (∀ w q i p, ws = [w, q] → w.toNat / 2 ^ 24 = 0x80 → s.svc.packages = [(i, p)] → packageKind p = 1 → packageSequence p = q →
        pkgLength p ≤ 1020 → pkgLength p ≤ p.length → (s.svc.journal s.svc.slotA).length < 256 →
        ∃ t, exec .applied s = .next t ∧ taken t ∧ t.svc.packages = [] ∧
          let n := (s.svc.journal s.svc.slotA).length
          let at0 := s.svc.slotA + 0x02C00000 + 1024 * n
          t.svc.bytes at0 (pkgLength p) = p.take (pkgLength p) ∧ leAt (t.svc.bytes (at0 + 0x3FC) 4) 0 4 = 0x00090013 ∧
          (∀ x, x < at0 ∨ at0 + 1024 ≤ x → t.svc.byte x = s.svc.byte x)) ∧
      (∀ w, ws = [w] → s.svc.rewrite = none →
        let begun (t : State) (r : Rewrite) : Prop :=
          taken t ∧ t.svc.rewrite = some r ∧ t.svc.desig.region = s.svc.desig.region
        (w.toNat / 2 ^ 24 = 0x82 → ∃ t, exec .imageActivate s = .next t ∧
          begun t { region := !s.svc.desig.region, trial := true, swap := true }) ∧
        (w = 0x84000000 → ∃ t, exec .trialEnd s = .next t ∧
          begun t { region := s.svc.desig.region, trial := false, swap := false }) ∧
        (w = 0x85000000 → ∃ t, exec .trialFailed s = .next t ∧
          begun t { region := !s.svc.desig.region, trial := false, swap := false })) ∧
      (∀ w aw, ws = [w] → w.toNat / 2 ^ 24 = 0x83 → s.svc.awaited = some aw → w.toNat / 256 % 256 = aw.code →
        ∃ t, exec .commandAnswer s = .next t ∧ taken t ∧ t.svc.awaited = none ∧ t.svc.answer = w ∧
          t.svc.response = some { session := aw.session, service := aw.service, req := aw.req, length := 0, reply := .empty
                                  code := if w.toNat % 256 = 0 then 0 else 5 })) ∧
    (∀ r, s.svc.rewrite = some r → s.svc.desig.counter + 1 < 2 ^ 32 →
      ∃ t, exec .designationRewrite s = .next t ∧ t.svc.rewrite = none ∧ t.svc.desig.region = r.region ∧
        t.svc.desig.trial = r.trial ∧ t.svc.desig.counter = s.svc.desig.counter + 1 ∧ t.md = s.md ∧
        (r.swap = false → t.lanes = s.lanes) ∧ (r.swap = true → t.svc.activating = false) ∧
        (r.swap = true → (∀ l, s.serves l = true → (s.lane l).mbSec.inq.length + (s.lane l).mbSec.hidden.length < 8) →
          ∀ l, s.serves l = true → (t.lane l).mbSec.hidden = (s.lane l).mbSec.hidden ++ [0x06000000])) ∧
    (∀ (l : LaneId) (w q : Word), (s.lane l).mbSec.out = [w, q] → w.toNat / 2 ^ 24 = 0x53 →
      (∀ k, k ≠ l → (s.lane k).mbSec.out = []) →
      ∃ t, exec .verdictReport s = .next t ∧ t.svc = s.svc ∧ t.md = s.md ∧ (t.lane l).mbSec.out = [] ∧
        ∀ k, (t.lane k).store = (s.lane k).store)

/-- A check-value unit starts, takes its bytes in order, and gives, appends or compares the check value (R338).
Through the view of the application or of the runtime, START of an idle unit with a valid configuration loads INIT and
makes it active, and with an invalid one sets CFG; a feed of an active unit that does not strip takes one, two or four
bytes of the word, lowest first, by the step of R339, and counts them; a stripping unit holds back the last bytes;
FINISH forms RESULT in compute mode, OUT with it in append mode, and CHECK in check-strip mode; ABORT makes the unit
idle; VALUE, COUNT and STRIP are stored in an active unit; any other action sets ORDER alone. A result register reads
its half in READY, and otherwise 0 with EARLY set. Through a service view no write does anything. Forms that it says
complete: CVU_START, CVU_FINISH, CVU_ABORT, FEED8, FEED16, FEED32, CVU_VALUE, CVU_COUNT, CVU_STRIP, CVU_RESULT. -/
def Obligations.CheckValueUnits : Prop :=
  ∀ (s : State) (l : LaneId) (v : View) (u : Fin 4), v = .runtime l ∨ v = .app l →
    let k := (s.lane l).cvu[u]
    let put (k' : Cvu) : State := onLane s l fun x => { x with cvu := x.cvu.set u.val k' }
    let order : State := put { k with err := k.err ||| 2 }
    let w := k.ctrl.toNat % 128
    let mode := k.ctrl.toNat / 2 ^ 12 % 4
    let top : Bool := bitN k.ctrl 9
    let valid : Bool := decide (1 ≤ w ∧ w ≤ 64 ∧ mode ≠ 3 ∧ (mode = 0 ∨ w % 8 = 0) ∧ k.poly.toNat < 2 ^ w ∧
      k.init.toNat < 2 ^ w ∧ k.xor.toNat < 2 ^ w)
    let r := k.value ^^^ k.xor
    let asBytes (bs : List Byte) : DWord := BitVec.ofNat 64 (leAt (if top then bs.reverse else bs) 0 bs.length)
    (k.state = 0 →
      (valid = true → exec (.cvuStart v u) s =
        .next (put { k with value := k.init, count := 0, strip := [], state := 1, check := 0 })) ∧
      (valid = false → exec (.cvuStart v u) s = .next (put { k with err := k.err ||| 1 })) ∧
      (∀ x hi, exec (.feed8 v u x) s = .next order ∧ exec (.feed16 v u x) s = .next order ∧
        exec (.feed32 v u x) s = .next order ∧ exec (.cvuFinish v u) s = .next order ∧
        exec (.cvuValue v u hi x) s = .next order ∧ exec (.cvuCount v u x) s = .next order ∧
        exec (.cvuStrip v u hi x) s = .next order)) ∧
    (k.state ≠ 0 → exec (.cvuStart v u) s = .next order) ∧
    (exec (.cvuAbort v u) s = .next (put { k with state := 0, check := 0 })) ∧
    (k.state = 1 ∨ (k.state = 2 ∧ mode = 0) → mode ≠ 2 → 1 ≤ w → w ≤ 64 → k.value.toNat < 2 ^ w → k.poly.toNat < 2 ^ w →
      ∀ x : Word,
        let fed (t : State) (n : Nat) : Prop := t = put (t.lane l).cvu[u] ∧
          let y := (t.lane l).cvu[u]
          y = { k with value := y.value, count := y.count, state := 1, check := 0 } ∧
          y.count.toNat = min (2 ^ 32 - 1) (k.count.toNat + n) ∧
          y.value.toNat = ((List.range n).map (fun i => x.extractLsb' (8 * i) 8)).foldl
            (crcByte w k.poly.toNat (bitN k.ctrl 8)) k.value.toNat
        (∃ t, exec (.feed8 v u x) s = .next t ∧ fed t 1) ∧ (∃ t, exec (.feed16 v u x) s = .next t ∧ fed t 2) ∧
          ∃ t, exec (.feed32 v u x) s = .next t ∧ fed t 4) ∧
    (k.state = 1 → mode = 2 → k.strip.length ≤ w / 8 → ∀ x : Word,
      ∃ t, exec (.feed8 v u x) s = .next t ∧
        let y := (t.lane l).cvu[u]
        let line := k.strip ++ [x.setWidth 8]
        y.strip = line.drop (line.length - w / 8) ∧ y.count = satInc k.count ∧
        (k.strip.length < w / 8 → y.value = k.value)) ∧
    (k.state = 1 →
      (mode = 0 → exec (.cvuFinish v u) s = .next (put { k with state := 2, result := r, out := 0, check := 0 })) ∧
      (mode = 1 → exec (.cvuFinish v u) s = .next (put { k with
        state := 2, result := r, check := 0
        out := asBytes ((List.range (w / 8)).map (fun i => r.extractLsb' (8 * i) 8)) })) ∧
      (mode = 2 → exec (.cvuFinish v u) s = .next (put (
        if k.count.toNat < w / 8 then { k with state := 2, result := 0, out := 0, check := 3 }
        else { k with state := 2, result := r, out := 0, check := if asBytes k.strip = r then 1 else 2 }))) ∧
      (1 ≤ w → w ≤ 64 → ∀ x : Word,
        exec (.cvuValue v u false x) s = .next (put { k with
          value := BitVec.ofNat 64 ((k.value.toNat / 2 ^ 32 * 2 ^ 32 + x.toNat) % 2 ^ w) }) ∧
        exec (.cvuValue v u true x) s = .next (put { k with
          value := BitVec.ofNat 64 ((x.toNat * 2 ^ 32 + k.value.toNat % 2 ^ 32) % 2 ^ w) })) ∧
      (∀ x, ∃ t, exec (.cvuCount v u x) s = .next t ∧ (t.lane l).cvu[u].count = x ∧
        (mode = 2 → (t.lane l).cvu[u].strip.length = min x.toNat (w / 8)) ∧
        (mode ≠ 2 → (t.lane l).cvu[u].strip = k.strip)) ∧
      (∀ x hi, ∃ t, exec (.cvuStrip v u hi x) s = .next t ∧ (t.lane l).cvu[u].strip.length = k.strip.length ∧
        ∀ i : Fin 8, i.val < k.strip.length → (t.lane l).cvu[u].strip[i.val]? =
          if (4 ≤ i.val) = (hi = true) then some (x.extractLsb' (8 * (i.val % 4)) 8) else k.strip[i.val]?)) ∧
    (k.state = 2 → exec (.cvuFinish v u) s = .next order) ∧
    (k.parity = false → ∀ out hi,
      let d := if out then k.out else k.result
      exec (.cvuResult v u out hi) s = .next (
        if k.state = 2 then { s with readData := if hi then d.extractLsb' 32 32 else d.extractLsb' 0 32 }
        else { put { k with err := k.err ||| 4 } with readData := 0 })) ∧
    (∀ sec x, exec (.cvuStart (.service l sec) u) s = .next s ∧ exec (.feed32 (.service l sec) u x) s = .next s)

/-- Reads of the low words latch the high ones, and a register write does what its own command does (R8, R112, R131,
R306, R373, R375, R401). TB_NT_LO, TB_CYCLE_LO, RING_NC_LO and RESET_OPTIME_LO read the low word and latch the rest of
the same instant. REGISTER_WRITE to an address of a command's register does what that command does; LANE_CTRL selects
the layout in STARTUP_TEST; to a read-only register or to none it changes nothing; a write of the application outside
CVU, and its read of RESET_OPTIME_LO, take trap 0x06 at that address. Forms that it says complete: TB_NT_LO,
TB_CYCLE_LO, RING_NC_LO, RESET_OPTIME_LO, REGISTER_WRITE. -/
def Obligations.RegisterViews : Prop :=
  ∀ (s : State) (l : LaneId) (w : Word),
    (∀ v, v = .runtime l ∨ v = .app l →
      exec (.tbNtLo v) s = .next { onLane s l (fun x => { x with
        tb := { x.tb with ntHi := s.tb.nt.extractLsb' 32 32, ntFrac := s.tb.ntf } }) with
          readData := s.tb.nt.extractLsb' 0 32 } ∧
      exec (.tbCycleLo v) s = .next { onLane s l (fun x => { x with
        tb := { x.tb with cycleHi := x.tb.cycle.extractLsb' 32 16 } }) with
          readData := (s.lane l).tb.cycle.extractLsb' 0 32 } ∧
      (s.ring.acquired = true →
        exec (.ringNcLo v) s = .next { onLane s l (fun x => { x with
          ring := { x.ring with ncHi := BitVec.ofNat 16 (s.netCycle / 2 ^ 32) } }) with
            readData := BitVec.ofNat 32 s.netCycle })) ∧
    (let ms := BitVec.ofNat 48 (s.guard.optime / 100000)
     exec (.resetOptimeLo (.runtime l)) s = .next { s with
       readData := ms.extractLsb' 0 32
       guard := { s.guard with
         optimeHi := BitVec.ofNat 16 (s.guard.optime % 100000 * 65536 / 100000) ++ ms.extractLsb' 32 16 } }) ∧
    (exec (.registerWrite (.runtime l) 0xF0007040 w) s = exec (.mbOut (.runtime l) .secure w) s ∧
      exec (.registerWrite (.runtime l) 0xF000709C w) s = exec (.mbDbOut (.runtime l) .nonSecure w) s ∧
      exec (.registerWrite (.service l true) (0xE0007100 + BitVec.ofNat 32 (l.num * 0x00100000)) w) s =
        exec (.mbBcast (.service l true) w) s ∧
      exec (.registerWrite (.runtime l) 0xF0003070 w) s = exec (.voteRelease l w) s ∧
      exec (.registerWrite (.runtime l) 0xF0004004 w) s = exec (.slCtrlEnable (.runtime l) (w.getLsbD 0)) s ∧
      exec (.registerWrite (.runtime l) 0xF0009020 w) s = exec (.recSub (.runtime l) w) s ∧
      exec (.registerWrite (.app l) 0xF0005034 w) s = exec (.feed8 (.app l) 0 w) s ∧
      exec (.registerWrite (.app l) 0xF000533C w) s = exec (.feed32 (.app l) 3 w) s ∧
      exec (.registerWrite (.runtime l) 0xF000E008 w) s = exec (.measCtrl (.runtime l) w) s ∧
      exec (.registerWrite (.runtime l) 0xF800000C 1) s = exec (.commit (.runtime l)) s) ∧
    (s.laneMode l = 2 → exec (.registerWrite (.runtime l) 0xF000000C w) s = .next (onLane s l fun x =>
      { x with blk := { x.blk with layout := w.getLsbD 0, mirrored := w.getLsbD 0 } })) ∧
    (∀ a : Word, a ∈ [0xF0000000, 0xF0000008, 0xF0001004, 0xF0003004, 0xF000B004, 0xF8000004, 0xF000F000, 0x12345678] →
      exec (.registerWrite (.runtime l) a w) s = .next s) ∧
    ((s.lane l).core.run = .running → (s.lane l).core.priv = false →
      (∀ a : Word, 0xF0000000 ≤ a.toNat → a.toNat < 0xF000F000 → a.toNat % 4 = 0 → a.toNat / 4096 % 16 ≠ 5 →
        exec (.registerWrite (.app l) a w) s = .next (s.trap l 0x06 none a)) ∧
      exec (.resetOptimeLo (.app l)) s = .next (s.trap l 0x06 none 0xF000B01C))

/-- Records pass the bucket and the FIFO to the buffer, and a flush writes them to the log (R434, R435, R436, R437,
R438, R439, R440, R444, R448, R450). REC_SUB through a runtime's view commits a record with the view's parameters:
accepted into the FIFO while its places are free, and taking a token where its code is limited; suppressed and counted
where the bucket is empty; lost where the FIFO is full; refused, with result 0, where its word is not one that may be
committed. FIFO_DRAIN moves the oldest record to a buffer with room. BUCKET_REFILL adds a token at the refill instant.
FLUSH with its key keeps a trigger, FLUSH_START starts it once its condition holds, and FLUSH_DONE writes the buffer
to the log in order. COMPACTION frees deleted places. REC_CT_DATA applies an entry that two views offer alike. The
application's writes take trap 0x06. Forms that it says complete: REC_SUB, FIFO_DRAIN, BUCKET_REFILL, FLUSH,
FLUSH_START, FLUSH_DONE, COMPACTION, REC_CT_DATA. -/
def Obligations.RecorderActs : Prop :=
  ∀ (s : State) (l : LaneId) (w : Word),
    let r := s.recorder
    let c := w.toNat % 4096
    let sev := w.toNat / 65536 % 8
    let v := (s.lane l).recv
    let answered (t : State) (n : BitVec 2) : Prop := (t.lane l).recv = { v with result := n } ∧
      (t.lane l).core = (s.lane l).core ∧ (∀ k, k ≠ l → t.lane k = s.lane k) ∧ t.md = s.md
    (recSubOk w = true →
      (Quiet s → r.lostInt = Vector.replicate 8 0 → r.taken < 64 →
          entryDepth (r.entry c) = 0 ∨ (6 ≤ sev ∧ refillsDue s.guard.optime (entryPeriod (r.entry c)) (r.bucket c) = 0) →
        let x : Rec := {
          code := w.extractLsb' 0 12, severity := w.extractLsb' 16 3, source := BitVec.ofNat 4 (1 + l.num)
          summary := false, pf := s.md.mode == .powerFail, app := w.getLsbD 24, agreed := w.getLsbD 25
          optime := BitVec.ofNat 48 (s.guard.optime / 100000)
          frac := BitVec.ofNat 16 (s.guard.optime % 100000 * 65536 / 100000), pcycle := s.guard.pcycle
          p0 := v.p0, p1 := v.p1, p2 := v.p2, p3 := v.p3 }
        ∃ t, exec (.recSub (.runtime l) w) s = .next t ∧ answered t 1 ∧ t.recorder = { r with fifo := r.fifo ++ [x] }) ∧
      (Quiet s → 64 ≤ r.taken → 6 ≤ sev →
        ∃ t, exec (.recSub (.runtime l) w) s = .next t ∧ answered t 3 ∧ t.recorder.fifo = r.fifo ∧
          ∀ i : Fin 8, t.recorder.lost[i] = (if i.val = sev then satInc r.lost[i] else r.lost[i]) ∧
            t.recorder.lostInt[i] = (if i.val = sev then satInc r.lostInt[i] else r.lostInt[i])) ∧
      (sev < 6 → entryDepth (r.entry c) ≠ 0 → (r.bucket c).tokens = 0 →
        refillsDue s.guard.optime (entryPeriod (r.entry c)) (r.bucket c) = 0 →
        ∃ t, exec (.recSub (.runtime l) w) s = .next t ∧ answered t 2 ∧ t.recorder.fifo = r.fifo ∧
          t.recorder.suppressed = satInc r.suppressed ∧
          (t.recorder.bucket c).suppressed = satInc (r.bucket c).suppressed ∧ (t.recorder.bucket c).p0 = v.p0)) ∧
    (recSubOk w = false →
      exec (.recSub (.runtime l) w) s = .next (onLane s l fun x => { x with recv := { x.recv with result := 0 } })) ∧
    (∀ x xs, r.fifo = x :: xs → r.buffer.length < 4096 →
      ∃ t, exec .fifoDrain s = .next t ∧ t.recorder.fifo = xs ∧ t.recorder.buffer = r.buffer ++ [x] ∧
        t.recorder.log = r.log ∧ t.lanes = s.lanes ∧ t.md = s.md) ∧
    (∀ code : BitVec 12, ∀ at0, r.nextRefill code.toNat = some at0 → s.guard.optime ≤ at0 → 1 ≤ entryPeriod (r.entry code.toNat) →
      (r.bucket code.toNat).suppressed = 0 →
      ∃ t, exec (.bucketRefill code) s = .next t ∧ t.guard.optime = at0 ∧ t.lanes = s.lanes ∧
        (t.recorder.bucket code.toNat).tokens = (r.bucket code.toNat).tokens + 1 ∧
        t.recorder.entry code.toNat = r.entry code.toNat) ∧
    (w.toNat / 256 % 256 = 0x9E → w.getLsbD 0 = true → r.flushing = none → r.trigger = none →
      exec (.flush (.runtime l) w) s = .next { s with recorder := { r with trigger := some 4 } }) ∧
    (w.toNat / 256 % 256 ≠ 0x9E → exec (.flush (.runtime l) w) s = .next s) ∧
    (∀ q, r.flushing = none → r.trigger = some q →
      (q = 1 ∨ q = 2 ∨ 8320 ≤ r.erased → r.logFault = false →
        exec .flushStart s = .next { s with recorder := { r with flushing := some q, trigger := none } }) ∧
      (q = 3 ∨ q = 4 → r.erased < 8320 → exec .flushStart s = .next s)) ∧
    (∀ q, r.flushing = some q → q ≠ 1 → Calm s → r.logFault = false → r.logFull = false →
      r.log.length + r.deleted + r.buffer.length + 8320 ≤ 1040384 →
      ∃ t, exec (.flushDone 0) s = .next t ∧ t.recorder.log = r.log ++ r.buffer ∧ t.recorder.buffer = [] ∧
        t.recorder.flushing = none ∧ t.recorder.flushReason = q ∧ t.recorder.flushCount = satInc r.flushCount ∧
        t.recorder.flushWritten.toNat = min r.buffer.length 8191 ∧ t.lanes = s.lanes) ∧
    (r.flushing = none → r.logFault = false → 1 ≤ r.deleted →
      ∃ t, exec .compaction s = .next t ∧ t.recorder = { r with deleted := t.recorder.deleted } ∧
        t.recorder.deleted < r.deleted ∧ t.lanes = s.lanes) ∧
    (s.laneMode l = 2 → s.md.role ≠ .split →
      (∀ k, k ≠ l → alook v.ctIndex.toNat (s.lane k).recv.offers = some w → (r.bucket v.ctIndex.toNat).suppressed = 0 →
        ∃ t, exec (.recCtData (.runtime l) w) s = .next t ∧ t.recorder.entry v.ctIndex.toNat = w ∧
          (t.recorder.bucket v.ctIndex.toNat).tokens = entryDepth w ∧ t.recorder.fifo = r.fifo) ∧
      ((∀ k, k ≠ l → alook v.ctIndex.toNat (s.lane k).recv.offers ≠ some w) →
        ∃ t, exec (.recCtData (.runtime l) w) s = .next t ∧ t.recorder = r)) ∧
    ((s.lane l).core.run = .running → (s.lane l).core.priv = false →
      exec (.recSub (.app l) w) s = .next (s.trap l 0x06 none 0xF0009020) ∧
      exec (.flush (.app l) w) s = .next (s.trap l 0x06 none 0xF0009028) ∧
      exec (.recCtData (.app l) w) s = .next (s.trap l 0x06 none 0xF0009044))

/-- A slice is started, judged and counted, and an injection is armed, withdrawn or lapses (R455, R457, R458, R459,
R460, R461, R462, R463, R466, R467, R469). In the gap with ROTATE set, the two-key comparison done by t0 + TI - 2.0 ms
and no shared slice yet, SHARED_SLICE_START takes the shared position under test. BIST_RUN_STOP notes the checkpoints
of a run that stops early. SLICE_RELEASE of a full run with the expected MISR and a good restore is PASS: counted,
reported with its word and event, and the position moves on; a failed restore is FAIL: its bit in the map, a pending
cause for the lane, and for a shared slice a guardian instance disabled or SAFE_STOP; an early stop with the expected
MISR is INCOMPLETE and keeps the position. BIST_CTRL acts from a runtime in STARTUP_TEST alone. INJ_ARM of the secure
service view arms what GUARD accepts and flags what it refuses; INJ_DISARM with its key and 200 cycles without firing
end the arming, shown in INJ_LAST. Other writers change nothing, and the application takes trap 0x06. Forms that it
says complete: SHARED_SLICE_START, BIST_RUN_STOP, SLICE_RELEASE, BIST_ROTATE, BIST_FULL, INJ_ARM, INJ_DISARM,
INJECT_LAPSED. -/
def Obligations.SelfTestAndInjection : Prop :=
  ∀ s : State,
    (s.gapDuties = true → s.lead.bist.rotate = true → s.md.compared.isSome = true → s.bist.shared = none →
      s.bist.disabled = 0 → s.lead.bist.feedShared = none → s.tb.nt.toNat ≤ s.lead.beforeEnd 200000 →
      ∃ t, exec .sharedSliceStart s = .next t ∧ t.bist = { s.bist with shared := some s.bist.q, sharedStop := none } ∧
        t.lanes = s.lanes ∧ t.md = s.md) ∧
    (∀ n : Fin 9, n.val ≠ 8 →
      (s.bist.lane ≠ none →
        exec (.bistRunStop false n) s = .next { s with bist := { s.bist with laneStop := some n.val } }) ∧
      (s.bist.shared ≠ none →
        exec (.bistRunStop true n) s = .next { s with bist := { s.bist with sharedStop := some n.val } })) ∧
    (∀ l i (misr : DWord) ok time, Calm s → s.bist.lane = some (l, i) → i < 48 → s.bist.p < 144 →
      let n := s.bist.laneStop.getD 8
      let b := (s.lane l).bist
      let word (r : Nat) : Word := BitVec.ofNat 32 (0x57000000 + i + l.num * 64 + r * 256 + n % 16 * 4096)
      let equal : Prop := n = 0 ∨ misr = Config.bistExpected false i n
      let reported (t : State) (r : Nat) : Prop := (t.lane l).bist.last = word r ∧ (t.lane l).bist.misr = misr ∧
        (t.lane l).bist.time = time ∧ (t.lane l).bist.feedLane = some (word r) ∧ t.bist.lane = none ∧ t.md = s.md ∧
        (t.lane l).core = { (s.lane l).core with events := (s.lane l).core.events ||| 0x40 } ∧
        (t.lane l).store = (s.lane l).store
      (ok = true → n = 8 → misr = Config.bistExpected false i 8 →
        ∃ t, exec (.sliceRelease false misr ok time) s = .next t ∧ reported t 1 ∧ (t.lane l).bist.pass = satInc b.pass ∧
          t.bist.p = (s.bist.p + 1) % 144 ∧ t.bist.incP = 0 ∧ (t.lane l).vote.pending = (s.lane l).vote.pending) ∧
      (ok = false →
        ∃ t, exec (.sliceRelease false misr ok time) s = .next t ∧ reported t 2 ∧ t.bist.p = (s.bist.p + 1) % 144 ∧
          ((t.lane l).bist.failMap.get l).getLsbD i = true ∧
          (t.lane l).vote.pending = (s.lane l).vote.pending ++ [(l, .audit)] ∧ (t.lane l).bist.pass = b.pass) ∧
      (ok = true → n < 8 → equal → s.bist.incP < 2 →
        ∃ t, exec (.sliceRelease false misr ok time) s = .next t ∧ reported t 3 ∧ t.bist.p = s.bist.p ∧
          t.bist.incP = s.bist.incP + 1 ∧ (t.lane l).bist.incomplete = satInc b.incomplete ∧
          (t.lane l).vote.pending = (s.lane l).vote.pending)) ∧
    (∀ q (misr : DWord) ok time, Calm s → s.bist.shared = some q → q < 8 → s.bist.q < 8 → s.bist.sharedStop = none →
      (ok = true → misr = Config.bistExpected true q 8 →
        ∃ t, exec (.sliceRelease true misr ok time) s = .next t ∧ t.bist.shared = none ∧ t.bist.q = (s.bist.q + 1) % 8 ∧
          t.md = s.md ∧ ∀ l, s.serves l = true → (t.lane l).bist.pass = satInc (s.lane l).bist.pass ∧
            (t.lane l).bist.lastSh = BitVec.ofNat 32 (0x570081C0 + q)) ∧
      (ok = false → q < 4 → s.bist.disabled = 0 →
        ∃ t, exec (.sliceRelease true misr ok time) s = .next t ∧ t.bist.shared = none ∧
          t.bist.disabled = BitVec.ofNat 4 (2 ^ q) ∧ t.md = s.md ∧ ∀ l, s.serves l = true →
            (t.lane l).bist.lastSh = BitVec.ofNat 32 (0x570082C0 + q) ∧ (t.lane l).bist.shFail.getLsbD q = true) ∧
      (ok = false → 4 ≤ q → MayStop s → s.servingLanes ≠ [] →
        ∃ t, exec (.sliceRelease true misr ok time) s = .next t ∧ Stopped t 2)) ∧
    (∀ l on,
      (s.laneMode l = 2 →
        exec (.bistRotate (.runtime l) on) s = .next (onLane s l fun x => { x with bist := { x.bist with rotate := on } }) ∧
        exec (.bistFull (.runtime l)) s = .next (onLane s l fun x => { x with bist := { x.bist with full := true } })) ∧
      (s.laneMode l ≠ 2 → exec (.bistRotate (.runtime l) on) s = .next s ∧ exec (.bistFull (.runtime l)) s = .next s) ∧
      ((s.lane l).core.run = .running → (s.lane l).core.priv = false →
        exec (.bistRotate (.app l) on) s = .next (s.trap l 0x06 none 0xF000A008) ∧
        ∀ w, exec (.injArm (.app l) w) s = .next (s.trap l 0x06 none 0xF000D008) ∧
          exec (.injDisarm (.app l) w) s = .next (s.trap l 0x06 none 0xF000D010))) ∧
    (∀ l (w : Word),
      (s.sealSt.sw1.getLsbD 13 = true → s.md.mode = .maintenance → s.inject.armed = none → w.toNat / 2 ^ 16 = 0x6B →
        w.toNat / 64 % 4 = 0 → w.toNat / 1024 % 64 = 0 → injModule (w.toNat % 64) = true → w.toNat / 256 % 4 = 3 →
        ∃ t, exec (.injArm (.service l true) w) s = .next t ∧ t.lanes = s.lanes ∧ t.md = s.md ∧ t.inject =
          { s.inject with
            armed := some { ident := w.toNat % 64, lane := none, effective := false, cycles := 0 }
            refused := false, armings := satInc s.inject.armings }) ∧
      (s.sealSt.sw1.getLsbD 13 = false ∨ w.toNat / 2 ^ 16 ≠ 0x6B ∨ s.inject.armed ≠ none →
        ∃ t, exec (.injArm (.service l true) w) s = .next t ∧ t.lanes = s.lanes ∧ t.md = s.md ∧
          (s.inject.lasting = [] → t.inject = { s.inject with refused := true })) ∧
      (exec (.injArm (.service l false) w) s = .next s ∧ exec (.injDisarm (.service l false) w) s = .next s ∧
        exec (.injArm (.runtime l) w) s = .next s)) ∧
    (∀ a, s.inject.armed = some a → s.inject.lasting = [] → a.ident < 64 →
      let last : Word := BitVec.ofNat 32 (a.ident + (match a.lane with | some l => l.num | none => 3) * 256 +
        s.cycleNow.toNat % 2 ^ 16 * 2 ^ 16)
      (∀ l, ∃ t, exec (.injDisarm (.service l true) 0x6B01) s = .next t ∧ t.inject = { s.inject with armed := none, last := last } ∧
        t.lanes = s.lanes ∧ t.md = s.md) ∧
      (200 ≤ a.cycles ∨ injPermits a.ident s.md.mode = false →
        ∃ t, exec .injectLapsed s = .next t ∧ t.inject = { s.inject with armed := none, last := last } ∧
          t.lanes = s.lanes ∧ t.md = s.md) ∧
      (a.cycles < 200 → injPermits a.ident s.md.mode = true → exec .injectLapsed s = .next s))

/-- A step runs the command at the front of the queue; an empty queue passes one tick (R106, R372). For every command
and state, the step of the state with the command at the front of its queue is the command's effect on the state with
the queue's rest. On an empty queue (the model's choice, log 26) a step passes one tick of 10 ns: the operating time
counts one, and where the time base runs and no correction is being spread, the pair NT and NTF advances by 2^32 +
RATE; a core that stands at a word of its store which spells no instruction takes trap 0x01 (log 26); nothing else
changes. -/
def Obligations.StepRunsFront : Prop :=
  (∀ (c : Instr) (rest : List Instr) (s : State),
    step { s with pending := c :: rest } = exec c { s with pending := rest }) ∧
  (∀ s : State, s.pending = [] → ∃ u : State,
    step s = .next (((u.stray .A).stray .B).stray .C) ∧
    u = { s with tb := u.tb, guard := { s.guard with optime := s.guard.optime + 1 } } ∧
    (s.tb.runs = false → u.tb = s.tb) ∧
    (s.tb.runs = true → s.tb.slewTicks = 0 →
      u.tb.nt ++ u.tb.ntf = s.tb.nt ++ s.tb.ntf + 0x100000000 + s.tb.rate.signExtend 96) ∧
    ((∀ l, (s.lane l).strayWord l = none) → step s = .next u) ∧
    (∀ l w, (s.lane l).strayWord l = some w → u.stray l = (u.illegal l w).counted l))

/-- Every command completes, leaves the queue of commands alone and clears no fuse (R381, R384). For every command and
every state the command answers a next state in which the queue of waiting commands is the same and every OTP bit that
was burned is still burned; so no run of the block loses or invents a command, and burning sets a bit for good. -/
def Obligations.QueueAndFusesKept : Prop :=
  ∀ (c : Instr) (s : State), ∃ t, exec c s = .next t ∧ t.pending = s.pending ∧
    ∀ w, s.sealSt.fuse w &&& t.sealSt.fuse w = s.sealSt.fuse w

/-- No step lets an output conduct through an open group switch or under the hold-off (R120, R252, R253). In every
state in which no output conducts whose group switch is open (PRIMING, STARTUP_TEST, SAFE_STOP, POWER_FAIL, SPLIT, the
SPLIT role, a group after STUCK_ON or BACKFEED) and none conducts under the hold-off, every step keeps that so,
whatever command stands at the front of the queue; in the modes with open group switches it follows that no output
conducts at all. -/
def Obligations.OutputsStayGated : Prop :=
  (∀ s t : State, OutputsGated s → step s = .next t → OutputsGated t) ∧
  (∀ s : State, OutputsGated s → s.md.mode ∈ [Mode.priming, .startupTest, .safeStop, .powerFail, .split] → s.stage.on = 0)

/-- After reset the registers hold the values of their tables (R6, R112, R127, R243, R267, R304, R375, R396, R424). At
reset the module is in PRIMING with an empty queue, no output conducting and every lane's memory in canonical form
with nothing listed; for every lane, every register at an offset below 0x100 of the blocks LANECTL to MEAS and of the
RING view reads the reset value of its table (0 where no table lists it), those that priming loads apart; STATUS reads
1, TVEC 0x40000000 and every other control register 0; both mailbox status words read 0x2000; every general register
is 0 (the model's choice, log 1). -/
def Obligations.ResetValues : Prop :=
  (∀ l n k, n ≤ 16 → k < 64 → (n, 4 * k) ∉ loadedAtPriming → State.reset.regValue l n (4 * k) = resetWord l n (4 * k)) ∧
  State.reset.md.mode = .priming ∧ State.reset.pending = [] ∧ OutputsGated State.reset ∧
  (∀ l, (State.reset.lane l).store.cells = [] ∧ Memory.wf (State.reset.lane l).store.cells = true ∧
    (∀ n w, (State.reset.lane l).core.readCr n = some w → w = if n = 0 then 1 else if n = 5 then 0x40000000 else 0) ∧
    (State.reset.lane l).mbNon.statusLane = 0x2000 ∧ (State.reset.lane l).mbSec.statusLane = 0x2000 ∧
    (State.reset.lane l).mbNon.statusSvc = 0x2000 ∧ (State.reset.lane l).mbSec.statusSvc = 0x2000 ∧
    ∀ r, (State.reset.lane l).core.get r = 0)
end

