-- ==== Sys2Proof/Laws/State.lean ====
section
/-! SUPPORT. The lemmas of the lanes of a state: what a change of one lane, of every lane or of a core leaves, one lemma
for each field and each update. -/

namespace Sys2Proof.Machine

@[simp] theorem PerLane.get_set_same {α : Type} (x : PerLane α) (l : LaneId) (v : α) : (x.set l v).get l = v := by
  cases l <;> rfl

theorem PerLane.get_set_other {α : Type} (x : PerLane α) {l k : LaneId} (v : α) (h : k ≠ l) :
    (x.set l v).get k = x.get k := by
  cases l <;> cases k <;> first | rfl | exact absurd rfl h

theorem PerLane.get_set {α : Type} (x : PerLane α) (l k : LaneId) (v : α) :
    (x.set l v).get k = if k = l then v else x.get k := by
  cases l <;> cases k <;> rfl

@[simp] theorem PerLane.get_map {α β : Type} (f : α → β) (x : PerLane α) (l : LaneId) :
    (x.map f).get l = f (x.get l) := by cases l <;> rfl

@[simp] theorem PerLane.get_all {α : Type} (v : α) (l : LaneId) : (PerLane.all v).get l = v := by cases l <;> rfl

@[simp] theorem PerLane.set_set {α : Type} (x : PerLane α) (l : LaneId) (v w : α) :
    (x.set l v).set l w = x.set l w := by cases l <;> rfl

@[simp] theorem PerLane.set_get {α : Type} (x : PerLane α) (l : LaneId) : x.set l (x.get l) = x := by cases l <;> rfl

@[simp] theorem State.lane_setLane (s : State) (l : LaneId) (x : Lane) : (s.setLane l x).lane l = x :=
  PerLane.get_set_same _ _ _

theorem State.lane_setLane_other (s : State) {l k : LaneId} (x : Lane) (h : k ≠ l) :
    (s.setLane l x).lane k = s.lane k := PerLane.get_set_other _ _ h

@[simp] theorem State.lane_updLane (s : State) (l : LaneId) (f : Lane → Lane) : (s.updLane l f).lane l = f (s.lane l) :=
  PerLane.get_set_same _ _ _

theorem State.lane_updLane_other (s : State) {l k : LaneId} (f : Lane → Lane) (h : k ≠ l) :
    (s.updLane l f).lane k = s.lane k := PerLane.get_set_other _ _ h

theorem State.lane_updLane_if (s : State) (l k : LaneId) (f : Lane → Lane) :
    (s.updLane l f).lane k = if k = l then f (s.lane k) else s.lane k := by
  cases l <;> cases k <;> rfl

@[simp] theorem State.lane_mapLanes (s : State) (l : LaneId) (f : Lane → Lane) : (s.mapLanes f).lane l = f (s.lane l) := by
  cases l <;> rfl

@[simp] theorem State.updLane_updLane (s : State) (l : LaneId) (f g : Lane → Lane) :
    (s.updLane l f).updLane l g = s.updLane l (fun x => g (f x)) := by cases l <;> rfl

@[simp] theorem State.updLane_id (s : State) (l : LaneId) : s.updLane l (fun x => x) = s := by cases l <;> rfl

@[simp] theorem State.setLane_md (s : State) (l : LaneId) (x : Lane) : (s.setLane l x).md = s.md := rfl

@[simp] theorem State.updLane_md (s : State) (l : LaneId) (f : Lane → Lane) : (s.updLane l f).md = s.md := rfl

@[simp] theorem State.mapLanes_md (s : State) (f : Lane → Lane) : (s.mapLanes f).md = s.md := rfl

@[simp] theorem State.updCore_md (s : State) (l : LaneId) (f : Core → Core) : (s.updCore l f).md = s.md := rfl

@[simp] theorem State.setLane_tb (s : State) (l : LaneId) (x : Lane) : (s.setLane l x).tb = s.tb := rfl

@[simp] theorem State.updLane_tb (s : State) (l : LaneId) (f : Lane → Lane) : (s.updLane l f).tb = s.tb := rfl

@[simp] theorem State.mapLanes_tb (s : State) (f : Lane → Lane) : (s.mapLanes f).tb = s.tb := rfl

@[simp] theorem State.updCore_tb (s : State) (l : LaneId) (f : Core → Core) : (s.updCore l f).tb = s.tb := rfl

@[simp] theorem State.setLane_recorder (s : State) (l : LaneId) (x : Lane) : (s.setLane l x).recorder = s.recorder := rfl

@[simp] theorem State.updLane_recorder (s : State) (l : LaneId) (f : Lane → Lane) : (s.updLane l f).recorder = s.recorder := rfl

@[simp] theorem State.mapLanes_recorder (s : State) (f : Lane → Lane) : (s.mapLanes f).recorder = s.recorder := rfl

@[simp] theorem State.updCore_recorder (s : State) (l : LaneId) (f : Core → Core) : (s.updCore l f).recorder = s.recorder := rfl

@[simp] theorem State.setLane_guard (s : State) (l : LaneId) (x : Lane) : (s.setLane l x).guard = s.guard := rfl

@[simp] theorem State.updLane_guard (s : State) (l : LaneId) (f : Lane → Lane) : (s.updLane l f).guard = s.guard := rfl

@[simp] theorem State.mapLanes_guard (s : State) (f : Lane → Lane) : (s.mapLanes f).guard = s.guard := rfl

@[simp] theorem State.updCore_guard (s : State) (l : LaneId) (f : Core → Core) : (s.updCore l f).guard = s.guard := rfl

@[simp] theorem State.setLane_resync (s : State) (l : LaneId) (x : Lane) : (s.setLane l x).resync = s.resync := rfl

@[simp] theorem State.updLane_resync (s : State) (l : LaneId) (f : Lane → Lane) : (s.updLane l f).resync = s.resync := rfl

@[simp] theorem State.mapLanes_resync (s : State) (f : Lane → Lane) : (s.mapLanes f).resync = s.resync := rfl

@[simp] theorem State.updCore_resync (s : State) (l : LaneId) (f : Core → Core) : (s.updCore l f).resync = s.resync := rfl

@[simp] theorem State.setLane_stage (s : State) (l : LaneId) (x : Lane) : (s.setLane l x).stage = s.stage := rfl

@[simp] theorem State.updLane_stage (s : State) (l : LaneId) (f : Lane → Lane) : (s.updLane l f).stage = s.stage := rfl

@[simp] theorem State.mapLanes_stage (s : State) (f : Lane → Lane) : (s.mapLanes f).stage = s.stage := rfl

@[simp] theorem State.updCore_stage (s : State) (l : LaneId) (f : Core → Core) : (s.updCore l f).stage = s.stage := rfl

@[simp] theorem State.setLane_chg (s : State) (l : LaneId) (x : Lane) : (s.setLane l x).chg = s.chg := rfl

@[simp] theorem State.updLane_chg (s : State) (l : LaneId) (f : Lane → Lane) : (s.updLane l f).chg = s.chg := rfl

@[simp] theorem State.mapLanes_chg (s : State) (f : Lane → Lane) : (s.mapLanes f).chg = s.chg := rfl

@[simp] theorem State.updCore_chg (s : State) (l : LaneId) (f : Core → Core) : (s.updCore l f).chg = s.chg := rfl

@[simp] theorem State.setLane_sealSt (s : State) (l : LaneId) (x : Lane) : (s.setLane l x).sealSt = s.sealSt := rfl

@[simp] theorem State.updLane_sealSt (s : State) (l : LaneId) (f : Lane → Lane) : (s.updLane l f).sealSt = s.sealSt := rfl

@[simp] theorem State.mapLanes_sealSt (s : State) (f : Lane → Lane) : (s.mapLanes f).sealSt = s.sealSt := rfl

@[simp] theorem State.updCore_sealSt (s : State) (l : LaneId) (f : Core → Core) : (s.updCore l f).sealSt = s.sealSt := rfl

@[simp] theorem State.setLane_svc (s : State) (l : LaneId) (x : Lane) : (s.setLane l x).svc = s.svc := rfl

@[simp] theorem State.updLane_svc (s : State) (l : LaneId) (f : Lane → Lane) : (s.updLane l f).svc = s.svc := rfl

@[simp] theorem State.mapLanes_svc (s : State) (f : Lane → Lane) : (s.mapLanes f).svc = s.svc := rfl

@[simp] theorem State.updCore_svc (s : State) (l : LaneId) (f : Core → Core) : (s.updCore l f).svc = s.svc := rfl

@[simp] theorem State.setLane_ring (s : State) (l : LaneId) (x : Lane) : (s.setLane l x).ring = s.ring := rfl

@[simp] theorem State.updLane_ring (s : State) (l : LaneId) (f : Lane → Lane) : (s.updLane l f).ring = s.ring := rfl

@[simp] theorem State.mapLanes_ring (s : State) (f : Lane → Lane) : (s.mapLanes f).ring = s.ring := rfl

@[simp] theorem State.updCore_ring (s : State) (l : LaneId) (f : Core → Core) : (s.updCore l f).ring = s.ring := rfl

@[simp] theorem State.setLane_bist (s : State) (l : LaneId) (x : Lane) : (s.setLane l x).bist = s.bist := rfl

@[simp] theorem State.updLane_bist (s : State) (l : LaneId) (f : Lane → Lane) : (s.updLane l f).bist = s.bist := rfl

@[simp] theorem State.mapLanes_bist (s : State) (f : Lane → Lane) : (s.mapLanes f).bist = s.bist := rfl

@[simp] theorem State.updCore_bist (s : State) (l : LaneId) (f : Core → Core) : (s.updCore l f).bist = s.bist := rfl

@[simp] theorem State.setLane_inject (s : State) (l : LaneId) (x : Lane) : (s.setLane l x).inject = s.inject := rfl

@[simp] theorem State.updLane_inject (s : State) (l : LaneId) (f : Lane → Lane) : (s.updLane l f).inject = s.inject := rfl

@[simp] theorem State.mapLanes_inject (s : State) (f : Lane → Lane) : (s.mapLanes f).inject = s.inject := rfl

@[simp] theorem State.updCore_inject (s : State) (l : LaneId) (f : Core → Core) : (s.updCore l f).inject = s.inject := rfl

@[simp] theorem State.setLane_freeCtr (s : State) (l : LaneId) (x : Lane) : (s.setLane l x).freeCtr = s.freeCtr := rfl

@[simp] theorem State.updLane_freeCtr (s : State) (l : LaneId) (f : Lane → Lane) : (s.updLane l f).freeCtr = s.freeCtr := rfl

@[simp] theorem State.mapLanes_freeCtr (s : State) (f : Lane → Lane) : (s.mapLanes f).freeCtr = s.freeCtr := rfl

@[simp] theorem State.updCore_freeCtr (s : State) (l : LaneId) (f : Core → Core) : (s.updCore l f).freeCtr = s.freeCtr := rfl

@[simp] theorem State.setLane_readData (s : State) (l : LaneId) (x : Lane) : (s.setLane l x).readData = s.readData := rfl

@[simp] theorem State.updLane_readData (s : State) (l : LaneId) (f : Lane → Lane) : (s.updLane l f).readData = s.readData := rfl

@[simp] theorem State.mapLanes_readData (s : State) (f : Lane → Lane) : (s.mapLanes f).readData = s.readData := rfl

@[simp] theorem State.updCore_readData (s : State) (l : LaneId) (f : Core → Core) : (s.updCore l f).readData = s.readData := rfl

@[simp] theorem State.setLane_pending (s : State) (l : LaneId) (x : Lane) : (s.setLane l x).pending = s.pending := rfl

@[simp] theorem State.updLane_pending (s : State) (l : LaneId) (f : Lane → Lane) : (s.updLane l f).pending = s.pending := rfl

@[simp] theorem State.mapLanes_pending (s : State) (f : Lane → Lane) : (s.mapLanes f).pending = s.pending := rfl

@[simp] theorem State.updCore_pending (s : State) (l : LaneId) (f : Core → Core) : (s.updCore l f).pending = s.pending := rfl

@[simp] theorem State.lane_updCore (s : State) (l : LaneId) (f : Core → Core) :
    (s.updCore l f).lane l = { s.lane l with core := f (s.lane l).core } := PerLane.get_set_same _ _ _

theorem State.lane_updCore_other (s : State) {l k : LaneId} (f : Core → Core) (h : k ≠ l) :
    (s.updCore l f).lane k = s.lane k := PerLane.get_set_other _ _ h

@[simp] theorem Lane.feed_core (x : Lane) (m : Mode) (w : Word) : (x.feed m w).core = x.core := by
  unfold Lane.feed; split <;> rfl

@[simp] theorem Lane.feed_store (x : Lane) (m : Mode) (w : Word) : (x.feed m w).store = x.store := by
  unfold Lane.feed; split <;> rfl

@[simp] theorem Core.set_pc (c : Core) (r : Reg) (w : Word) : (c.set r w).pc = c.pc := by
  unfold Core.set; split <;> rfl

@[simp] theorem Core.set_priv (c : Core) (r : Reg) (w : Word) : (c.set r w).priv = c.priv := by
  unfold Core.set; split <;> rfl

@[simp] theorem Core.set_run (c : Core) (r : Reg) (w : Word) : (c.set r w).run = c.run := by
  unfold Core.set; split <;> rfl

@[simp] theorem Core.get_zero (c : Core) : c.get 0 = 0 := rfl

theorem Core.get_set_same (c : Core) (r : Reg) (w : Word) (h : r.val ≠ 0) : (c.set r w).get r = w := by
  simp [Core.get, Core.set, h]

theorem Core.get_set_other (c : Core) (r q : Reg) (w : Word) (h : q.val ≠ r.val) : (c.set r w).get q = c.get q := by
  unfold Core.get Core.set
  by_cases hr : r.val = 0 <;> by_cases hq : q.val = 0 <;> simp [hr, hq, h.symm]

end Sys2Proof.Machine
end

