-- ==== Sys2Proof/Laws/Ixlo.lean ====
section
/-! SUPPORT. What the shared operations of Ixlo instructions do: the start of an instruction, its source registers, the
ways in which it ends. -/

namespace Sys2Proof.Machine

open Sys2Proof.Safety

/-- The fetch of an instruction that a core takes has right parity. -/
theorem Takes.parity {s : State} {l : LaneId} {i : Instr} (h : Takes s l i) :
    (decide ((s.lane l).core.pc.toNat < storeTop) && (s.lane l).parityBad (s.lane l).core.pc.toNat 4) = false := by
  by_cases hh : (s.lane l).core.pc.toNat < storeTop
  · simp [h.2.2.1 hh]
  · simp [hh]

/-- An instruction that a core takes is carried out, and the debugger counts it in HOLD. -/
theorem State.begin_takes {s : State} {l : LaneId} {i : Instr} (h : Takes s l i) (x : Option Nat)
    (body : State → State) : s.begin l i false x body = (body s).counted l := by
  have hp := Takes.parity h
  obtain ⟨h1, h2, _, h4⟩ := h
  simp [State.begin, h1, h2, h4, hp]

/-- The same for an instruction of the runtime level, at that level. -/
theorem State.begin_takes_runtime {s : State} {l : LaneId} {i : Instr} (h : Takes s l i)
    (hp : (s.lane l).core.priv = true) (rt : Bool) (x : Option Nat) (body : State → State) :
    s.begin l i rt x body = (body s).counted l := by
  have hf := Takes.parity h
  obtain ⟨h1, h2, _, h4⟩ := h
  simp [State.begin, h1, h2, h4, hf, hp]

/-- With no injection armed no point of injection is met. -/
theorem State.injected_calm {s : State} (h : Calm s) (id : Nat) (l : Option LaneId) : s.injected id l = false := by
  unfold Calm at h
  simp [State.injected, h]

/-- Sound source registers are read without a trap. -/
theorem State.sources_sound {s : State} {l : LaneId} {rs : List Reg} (h : SoundRegs s l rs) (hc : Calm s)
    (x : Option Nat) (body : State → State) : s.sources l rs x body = body s := by
  unfold SoundRegs at h
  simp [State.sources, h, State.injected_calm hc]

/-- An instruction that ends with a change of the core and the next address. -/
theorem State.finish_counted (s : State) (l : LaneId) (f : Core → Core) :
    (s.finish l f).counted l = withCore s l (fun c => (f c).retire (!c.priv) (c.pc + 4)) := rfl

/-- An instruction that ends with a register written: the core is as retired describes it. -/
theorem Core.set_retire (c : Core) (d : Reg) (w : Word) :
    (c.set d w).retire (!c.priv) (c.pc + 4) = retired c d w := by
  unfold Core.set Core.retire retired
  by_cases h : d.val = 0 <;> cases hp : c.priv <;> simp [h, hp]

/-- A register written into g0 is none: the core passes to the next instruction. -/
theorem Core.retire_plain (c : Core) : c.retire (!c.priv) (c.pc + 4) = retired c 0 0 := by
  unfold Core.retire retired
  cases c.priv <;> simp

/-- Two changes of a core that agree on the present core give the same state. -/
theorem withCore_congr {s : State} {l : LaneId} {f g : Core → Core} (h : f (s.lane l).core = g (s.lane l).core) :
    withCore s l f = withCore s l g := by
  simp [withCore, h]

/-- An instruction that computes a register from sound sources. -/
theorem State.compute_takes {s : State} {l : LaneId} {i : Instr} {d : Reg} {rs : List Reg} (h : Takes s l i)
    (hs : SoundRegs s l rs) (hc : Calm s) (f : Core → Word) :
    s.compute l i d rs f = withCore s l (fun c => retired c d (f c)) := by
  rw [State.compute, State.begin_takes h, State.sources_sound hs hc, State.finish_counted]
  exact withCore_congr (Core.set_retire _ _ _)

/-- A coded operation that computes a register from sound sources with no injection armed. -/
theorem State.computeCoded_takes {s : State} {l : LaneId} {i : Instr} {d : Reg} {rs : List Reg} (h : Takes s l i)
    (hs : SoundRegs s l rs) (hc : Calm s) (f : Core → Word) :
    s.computeCoded l i d rs f = withCore s l (fun c => retired c d (f c)) := by
  rw [State.computeCoded, State.begin_takes h, State.sources_sound hs hc]
  simp only [State.injected_calm hc, Bool.false_eq_true, if_false]
  rw [State.finish_counted]
  exact withCore_congr (Core.set_retire _ _ _)

end Sys2Proof.Machine
end

