-- ==== Sys2Proof/Laws/Mem.lean ====
section
/-! SUPPORT. The lane store: every operation keeps the canonical form, a byte written reads back, and every other byte
reads as before. -/

namespace Sys2Proof.Machine

/-- The canonical form in the form used for proofs: addresses rising, no entry that is unlisted. -/
def Memory.Canon (m : List Host.Cell) : Prop :=
  m.Pairwise (fun p q => p.1 < q.1) ∧ ∀ p ∈ m, p.2 ≠ Memory.unlisted

theorem Memory.canon_cons {k : Nat} {b : Byte} {r : List Host.Cell} :
    Memory.Canon ((k, b) :: r) ↔ b ≠ Memory.unlisted ∧ (∀ p ∈ r, k < p.1) ∧ Memory.Canon r := by
  unfold Memory.Canon
  rw [List.pairwise_cons]
  constructor
  · rintro ⟨⟨h1, h2⟩, h3⟩
    exact ⟨h3 _ (List.mem_cons_self ..), fun p hp => h1 p hp, h2, fun p hp => h3 p (List.mem_cons_of_mem _ hp)⟩
  · rintro ⟨h1, h2, h3, h4⟩
    refine ⟨⟨fun p hp => h2 p hp, h3⟩, fun p hp => ?_⟩
    rcases List.mem_cons.mp hp with rfl | hp
    · exact h1
    · exact h4 p hp

theorem Memory.canon_nil : Memory.Canon [] := ⟨List.Pairwise.nil, fun _ h => absurd h List.not_mem_nil⟩

/-- The canonical form as the model checks it. -/
theorem Memory.wf_iff (m : List Host.Cell) : Memory.wf m = true ↔ Memory.Canon m := by
  induction m with
  | nil => simp [Memory.wf, Memory.canon_nil]
  | cons p r ih =>
    obtain ⟨k, b⟩ := p
    cases r with
    | nil => simp [Memory.wf, Memory.canon_cons, Memory.canon_nil]
    | cons q r =>
      obtain ⟨j, c⟩ := q
      rw [Memory.canon_cons, ← ih]
      simp only [Memory.wf, Bool.and_eq_true, decide_eq_true_eq, ne_eq, decide_not, Bool.not_eq_true',
        decide_eq_false_iff_not]
      constructor
      · rintro ⟨⟨h1, h2⟩, h3⟩
        refine ⟨h1, fun p hp => ?_, h3⟩
        rcases List.mem_cons.mp hp with rfl | hp
        · exact h2
        · exact Nat.lt_trans h2 ((Memory.canon_cons.mp (ih.mp h3)).2.1 p hp)
      · rintro ⟨h1, h2, h3⟩
        exact ⟨⟨h1, h2 _ (List.mem_cons_self ..)⟩, h3⟩

/-- The addresses of a memory after a write are those before and the one written. -/
theorem Memory.mem_write {m : List Host.Cell} {a : Nat} {b : Byte} {p : Host.Cell} (h : p ∈ Memory.write m a b) :
    p = (a, b) ∨ p ∈ m := by
  induction m with
  | nil =>
    simp only [Memory.write] at h
    split at h
    · exact absurd h List.not_mem_nil
    · exact .inl (List.mem_singleton.mp h)
  | cons q r ih =>
    obtain ⟨k, c⟩ := q
    simp only [Memory.write] at h
    split at h
    · split at h
      · exact .inr h
      · exact List.mem_cons.mp h
    · split at h
      · split at h
        · exact .inr (List.mem_cons_of_mem _ h)
        · rcases List.mem_cons.mp h with h | h
          · exact .inl h
          · exact .inr (List.mem_cons_of_mem _ h)
      · rcases List.mem_cons.mp h with h | h
        · exact .inr (h ▸ List.mem_cons_self ..)
        · rcases ih h with h | h
          · exact .inl h
          · exact .inr (List.mem_cons_of_mem _ h)

theorem Memory.write_canon {m : List Host.Cell} (h : Memory.Canon m) (a : Nat) (b : Byte) :
    Memory.Canon (Memory.write m a b) := by
  induction m with
  | nil =>
    simp only [Memory.write]
    split
    · exact Memory.canon_nil
    · rename_i hb
      exact Memory.canon_cons.mpr ⟨hb, fun _ hp => absurd hp List.not_mem_nil, Memory.canon_nil⟩
  | cons q r ih =>
    obtain ⟨k, c⟩ := q
    have hc := Memory.canon_cons.mp h
    simp only [Memory.write]
    split
    · rename_i hk
      split
      · exact h
      · rename_i hb
        refine Memory.canon_cons.mpr ⟨hb, fun p hp => ?_, h⟩
        rcases List.mem_cons.mp hp with rfl | hp
        · exact hk
        · exact Nat.lt_trans hk (hc.2.1 p hp)
    · split
      · rename_i hk
        split
        · exact hc.2.2
        · rename_i hb
          exact Memory.canon_cons.mpr ⟨hb, fun p hp => hk ▸ hc.2.1 p hp, hc.2.2⟩
      · rename_i h1 h2
        refine Memory.canon_cons.mpr ⟨hc.1, fun p hp => ?_, ih hc.2.2⟩
        rcases Memory.mem_write hp with rfl | hp
        · show k < a
          omega
        · exact hc.2.1 p hp

/-- A write keeps the canonical form. -/
theorem Memory.write_wf {m : List Host.Cell} (h : Memory.wf m = true) (a : Nat) (b : Byte) :
    Memory.wf (Memory.write m a b) = true :=
  (Memory.wf_iff _).mpr (Memory.write_canon ((Memory.wf_iff _).mp h) a b)

/-- A list of bytes written keeps the canonical form. -/
theorem Memory.writeList_wf {m : List Host.Cell} (h : Memory.wf m = true) (a : Nat) (bs : List Byte) :
    Memory.wf (Memory.writeList m a bs) = true := by
  induction bs generalizing m a with
  | nil => exact h
  | cons b bs ih => exact ih (Memory.write_wf h a b) (a + 1)

theorem Memory.filter_canon {m : List Host.Cell} (h : Memory.Canon m) (f : Host.Cell → Bool) :
    Memory.Canon (m.filter f) :=
  ⟨h.1.sublist List.filter_sublist, fun p hp => h.2 p (List.mem_of_mem_filter hp)⟩

/-- A range cleared keeps the canonical form. -/
theorem Memory.clear_wf {m : List Host.Cell} (h : Memory.wf m = true) (lo hi : Nat) :
    Memory.wf (Memory.clear m lo hi) = true :=
  (Memory.wf_iff _).mpr (Memory.filter_canon ((Memory.wf_iff _).mp h) _)

/-- A range copied from another canonical memory keeps the canonical form. -/
theorem Memory.copy_wf {m src : List Host.Cell} (h : Memory.wf m = true) (hs : Memory.wf src = true) (lo hi : Nat)
    (hle : lo ≤ hi) : Memory.wf (Memory.copy m src lo hi) = true := by
  have hm := (Memory.wf_iff _).mp h
  have hc := (Memory.wf_iff _).mp hs
  refine (Memory.wf_iff _).mpr ⟨?_, ?_⟩
  · unfold Memory.copy
    refine List.pairwise_append.mpr ⟨List.pairwise_append.mpr ⟨(Memory.filter_canon hm _).1,
      (Memory.filter_canon hc _).1, ?_⟩, (Memory.filter_canon hm _).1, ?_⟩
    · intro p hp q hq
      have h1 := (List.mem_filter.mp hp).2
      have h2 := (List.mem_filter.mp hq).2
      simp only [decide_eq_true_eq, Bool.and_eq_true] at h1 h2
      omega
    · intro p hp q hq
      have h2 := (List.mem_filter.mp hq).2
      simp only [decide_eq_true_eq] at h2
      rcases List.mem_append.mp hp with hp | hp
      · have h1 := (List.mem_filter.mp hp).2
        simp only [decide_eq_true_eq] at h1
        omega
      · have h1 := (List.mem_filter.mp hp).2
        simp only [decide_eq_true_eq, Bool.and_eq_true] at h1
        omega
  · intro p hp
    unfold Memory.copy at hp
    rcases List.mem_append.mp hp with hp | hp
    · rcases List.mem_append.mp hp with hp | hp
      · exact hm.2 p (List.mem_of_mem_filter hp)
      · exact hc.2 p (List.mem_of_mem_filter hp)
    · exact hm.2 p (List.mem_of_mem_filter hp)

/-- Any list of bytes brought into the canonical form has it. -/
theorem Memory.normal_wf (top : Nat) (m : List (Nat × Byte)) : Memory.wf (Memory.normal top m) = true := by
  have key : ∀ (m : List (Nat × Byte)) (acc : List Host.Cell), Memory.wf acc = true →
      Memory.wf (m.foldl (fun acc c => if c.1 < top then Memory.write acc c.1 c.2 else acc) acc) = true := by
    intro m
    induction m with
    | nil => exact fun _ h => h
    | cons c m ih =>
      intro acc h
      refine ih _ ?_
      show Memory.wf (if c.1 < top then Memory.write acc c.1 c.2 else acc) = true
      split
      · exact Memory.write_wf h _ _
      · exact h
  exact key m [] rfl

/-- An address below every listed one reads as unlisted. -/
theorem Memory.read_below {m : List Host.Cell} {a : Nat} (h : ∀ p ∈ m, a < p.1) :
    Memory.read m a = Memory.unlisted := by
  cases m with
  | nil => rfl
  | cons q r =>
    obtain ⟨k, c⟩ := q
    have : a < k := h _ (List.mem_cons_self ..)
    simp only [Memory.read]
    rw [if_neg (by omega), if_pos this]

/-- A byte written reads back, and every other byte reads as before. -/
theorem Memory.read_write {m : List Host.Cell} (h : Memory.wf m = true) (a k : Nat) (b : Byte) :
    Memory.read (Memory.write m a b) k = if k = a then b else Memory.read m k := by
  replace h := (Memory.wf_iff _).mp h
  induction m with
  | nil =>
    simp only [Memory.write]
    split
    · rename_i hb
      by_cases hk : k = a <;> simp [hk, Memory.read, hb]
    · by_cases hk : k = a
      · simp [hk, Memory.read]
      · simp only [Memory.read, if_neg hk]
        rw [if_neg (fun h => hk h.symm)]
        split <;> rfl
  | cons q r ih =>
    obtain ⟨j, c⟩ := q
    have hc := Memory.canon_cons.mp h
    simp only [Memory.write]
    split
    · rename_i haj
      split
      · rename_i hb
        by_cases hk : k = a
        · subst hk
          rw [if_pos rfl, Memory.read, if_neg (by omega), if_pos haj, hb]
        · rw [if_neg hk]
      · by_cases hk : k = a
        · rw [if_pos hk, hk, Memory.read, if_pos rfl]
        · rw [if_neg hk, Memory.read, if_neg (fun h => hk h.symm)]
          split
          · rename_i hka
            rw [Memory.read, if_neg (by omega), if_pos (by omega)]
          · rfl
    · split
      · rename_i hja
        split
        · rename_i hb
          by_cases hk : k = a
          · rw [if_pos hk, hb]
            exact Memory.read_below (fun p hp => by have := hc.2.1 p hp; omega)
          · rw [if_neg hk, Memory.read, if_neg (by omega)]
            split
            · rename_i hkj
              exact Memory.read_below (fun p hp => by have := hc.2.1 p hp; omega)
            · rfl
        · by_cases hk : k = a
          · rw [if_pos hk, hk, Memory.read, if_pos rfl]
          · subst hja
            have hk' : ¬ j = k := fun h => hk h.symm
            simp [Memory.read, hk, hk']
      · rename_i h1 h2
        simp only [Memory.read]
        by_cases hjk : j = k
        · have hka : ¬ k = a := by omega
          simp [hjk, hka]
        · rw [if_neg hjk, if_neg hjk, ih hc.2.2]
          by_cases hk : k = a
          · rw [if_pos hk, if_neg (by omega), if_pos hk]
          · rw [if_neg hk]
            simp only [hk, if_false]

/-- Bytes written one after another: those of the range read as written, the others as before. -/
theorem Memory.read_writeList {m : List Host.Cell} (h : Memory.wf m = true) (a k : Nat) (bs : List Byte) :
    Memory.read (Memory.writeList m a bs) k =
      if a ≤ k ∧ k < a + bs.length then bs.getD (k - a) 0 else Memory.read m k := by
  induction bs generalizing m a with
  | nil => simp [Memory.writeList]
  | cons b bs ih =>
    rw [Memory.writeList, ih (Memory.write_wf h a b), Memory.read_write h]
    simp only [List.length_cons]
    by_cases hk : k = a
    · subst hk
      rw [if_neg (by omega), if_pos rfl, if_pos (by omega)]
      simp
    · by_cases hr : a + 1 ≤ k ∧ k < a + 1 + bs.length
      · rw [if_pos hr, if_pos (by omega)]
        have : k - a = k - (a + 1) + 1 := by omega
        rw [this, List.getD_cons_succ]
      · rw [if_neg hr, if_neg hk, if_neg (by omega)]

/-- The cells of a store after bytes have been put into it. -/
theorem Store.putList_cells (t : Store) (a : Nat) (bs : List Byte) :
    (t.putList a bs).cells = Memory.writeList t.cells a bs := by
  induction bs generalizing t a with
  | nil => rfl
  | cons b bs ih => rw [Store.putList, ih]; rfl

/-- The canonical form of a store is kept by bytes put into it. -/
theorem Store.putList_wf {t : Store} (h : Memory.wf t.cells = true) (a : Nat) (bs : List Byte) :
    Memory.wf (t.putList a bs).cells = true := by
  rw [Store.putList_cells]
  exact Memory.writeList_wf h a bs

/-- The canonical form of a store is kept by a range cleared in it. -/
theorem Store.clearRange_wf {t : Store} (h : Memory.wf t.cells = true) (lo hi : Nat) :
    Memory.wf (t.clearRange lo hi).cells = true := Memory.clear_wf h lo hi

@[simp] theorem Lane.addHash_store (x : Lane) (a : Nat) : (x.addHash a).store = x.store := by
  unfold Lane.addHash; split <;> rfl

@[simp] theorem Lane.addHash_core (x : Lane) (a : Nat) : (x.addHash a).core = x.core := by
  unfold Lane.addHash; split <;> rfl

/-- The store after a word of the lane. -/
@[simp] theorem Lane.wr32_store (x : Lane) (a : Nat) (w : Word) :
    (x.wr32 a w).store = x.store.putList a (wordBytes w) := by
  simp [Lane.wr32, Lane.poke]

@[simp] theorem Lane.wr32_core (x : Lane) (a : Nat) (w : Word) : (x.wr32 a w).core = x.core := by
  simp [Lane.wr32, Lane.poke]

/-- A byte of a lane's store after a word has been stored: one of its four bytes, or the byte as it was. -/
theorem Lane.rd8_wr32 {x : Lane} (h : Memory.wf x.store.cells = true) (a k : Nat) (w : Word) :
    (x.wr32 a w).rd8 k = if a ≤ k ∧ k < a + 4 then byteOf w (k - a) else x.rd8 k := by
  unfold Lane.rd8
  rw [Lane.wr32_store, Store.putList_cells, Memory.read_writeList h]
  have hl : (wordBytes w).length = 4 := rfl
  rw [hl]
  by_cases hk : a ≤ k ∧ k < a + 4
  · rw [if_pos hk, if_pos hk]
    have : k - a = 0 ∨ k - a = 1 ∨ k - a = 2 ∨ k - a = 3 := by omega
    rcases this with h | h | h | h <;> rw [h] <;> rfl
  · rw [if_neg hk, if_neg hk]

/-- A word of a lane's store is the word last stored there. -/
theorem Lane.rd32_wr32 {x : Lane} (h : Memory.wf x.store.cells = true) (a : Nat) (w : Word) :
    (x.wr32 a w).rd32 a = w := by
  unfold Lane.rd32
  rw [Lane.rd8_wr32 h, Lane.rd8_wr32 h, Lane.rd8_wr32 h, Lane.rd8_wr32 h]
  simp only [Nat.le_add_right, Nat.add_lt_add_iff_left, Nat.reduceLT, and_self, if_true, Nat.le_refl,
    Nat.lt_add_right_iff_pos, Nat.ofNat_pos, Nat.sub_self, Nat.add_sub_cancel_left, wordOfBytes, byteOf]
  ext i hi
  simp only [BitVec.getElem_append, BitVec.getElem_setWidth, BitVec.getLsbD_ushiftRight]
  rcases Nat.lt_or_ge i 8 with h | h
  · simp [h, BitVec.getLsbD_eq_getElem, hi]
  · rcases Nat.lt_or_ge i 16 with h2 | h2
    · have : ¬ i < 8 := by omega
      simp [this, show i - 8 < 8 by omega, show 8 + (i - 8) = i by omega, BitVec.getLsbD_eq_getElem hi]
    · rcases Nat.lt_or_ge i 24 with h3 | h3
      · have h4 : ¬ i < 8 := by omega
        have h5 : ¬ i - 8 < 8 := by omega
        have h6 : i - 8 - 8 < 8 := by omega
        simp [h4, h5, h6, show 16 + (i - 8 - 8) = i by omega]
        exact BitVec.getLsbD_eq_getElem hi
      · have h4 : ¬ i < 8 := by omega
        have h5 : ¬ i - 8 < 8 := by omega
        have h6 : ¬ i - 8 - 8 < 8 := by omega
        simp [h4, h5, h6, show 24 + (i - 8 - 8 - 8) = i by omega]
        exact BitVec.getLsbD_eq_getElem hi

/-- The memories of the machine at reset are canonical. -/
theorem State.reset_wf : (∀ l, Memory.wf (State.reset.lane l).store.cells = true) ∧
    Memory.wf State.reset.svc.flash = true := by
  constructor
  · intro l; cases l <;> rfl
  · rfl

end Sys2Proof.Machine
end

