-- ==== Sys2Proof/Laws/Queue.lean ====
section
/-! SUPPORT. No operation of the model touches the queue of commands, and none but a burn touches the fuses: two lemmas for
each operation on the state. -/

namespace Sys2Proof.Machine

/-- A fold keeps what each of its steps keeps. -/
theorem foldl_keep {α β γ : Type} (p : β → γ) (f : β → α → β) (h : ∀ b a, p (f b a) = p b) (xs : List α) (b : β) :
    p (xs.foldl f b) = p b := by
  induction xs generalizing b with
  | nil => rfl
  | cons x xs ih => rw [List.foldl_cons, ih, h]

@[simp] theorem ite_pending (c : Prop) [Decidable c] (x y : State) :
    (if c then x else y).pending = if c then x.pending else y.pending := by split <;> rfl

@[simp] theorem ite_otp (c : Prop) [Decidable c] (x y : State) :
    (if c then x else y).sealSt.otp = if c then x.sealSt.otp else y.sealSt.otp := by split <;> rfl

@[simp] theorem foldl_pending {α : Type} (f : State → α → State) (h : ∀ s a, (f s a).pending = s.pending) (xs : List α)
    (s : State) : (xs.foldl f s).pending = s.pending := foldl_keep State.pending f h xs s

@[simp] theorem foldl_otp {α : Type} (f : State → α → State) (h : ∀ s a, (f s a).sealSt.otp = s.sealSt.otp)
    (xs : List α) (s : State) : (xs.foldl f s).sealSt.otp = s.sealSt.otp :=
  foldl_keep (fun t : State => t.sealSt.otp) f h xs s

@[simp] theorem State.setLane_otp (s : State) (l : LaneId) (x : Lane) :
    (State.setLane s l x).sealSt.otp = s.sealSt.otp := by
  rfl

@[simp] theorem State.mapLanes_otp (s : State) (f : Lane → Lane) :
    (State.mapLanes s f).sealSt.otp = s.sealSt.otp := by
  rfl

@[simp] theorem State.updLane_otp (s : State) (l : LaneId) (f : Lane → Lane) :
    (State.updLane s l f).sealSt.otp = s.sealSt.otp := by
  rfl

@[simp] theorem State.putSummary_pending (s : State) (c : Nat) (b : Bucket) :
    (State.putSummary s c b).1.pending = s.pending := by
  unfold State.putSummary
  repeat' (first | rfl | (simp; done) | split | dsimp only | (refine (foldl_keep State.pending _ (fun _ _ => ?_) _ _).trans ?_))

@[simp] theorem State.putSummary_otp (s : State) (c : Nat) (b : Bucket) :
    (State.putSummary s c b).1.sealSt.otp = s.sealSt.otp := by
  unfold State.putSummary
  repeat' (first | rfl | (simp; done) | split | dsimp only | (refine (foldl_keep (fun t : State => t.sealSt.otp) _ (fun _ _ => ?_) _ _).trans ?_))

@[simp] theorem State.refill_pending (s : State) (c : Nat) :
    (State.refill s c).pending = s.pending := by
  unfold State.refill
  repeat' (first | rfl | (simp; done) | split | dsimp only | (refine (foldl_keep State.pending _ (fun _ _ => ?_) _ _).trans ?_))

@[simp] theorem State.refill_otp (s : State) (c : Nat) :
    (State.refill s c).sealSt.otp = s.sealSt.otp := by
  unfold State.refill
  repeat' (first | rfl | (simp; done) | split | dsimp only | (refine (foldl_keep (fun t : State => t.sealSt.otp) _ (fun _ _ => ?_) _ _).trans ?_))

@[simp] theorem State.intake_pending (s : State) (x : Rec) :
    (State.intake s x).1.pending = s.pending := by
  unfold State.intake
  repeat' (first | rfl | (simp; done) | split | dsimp only | (refine (foldl_keep State.pending _ (fun _ _ => ?_) _ _).trans ?_))

@[simp] theorem State.intake_otp (s : State) (x : Rec) :
    (State.intake s x).1.sealSt.otp = s.sealSt.otp := by
  unfold State.intake
  repeat' (first | rfl | (simp; done) | split | dsimp only | (refine (foldl_keep (fun t : State => t.sealSt.otp) _ (fun _ _ => ?_) _ _).trans ?_))

@[simp] theorem State.submit_pending (s : State) (x : Rec) :
    (State.submit s x).1.pending = s.pending := by
  unfold State.submit
  repeat' (first | rfl | (simp; done) | split | dsimp only | (refine (foldl_keep State.pending _ (fun _ _ => ?_) _ _).trans ?_))

@[simp] theorem State.submit_otp (s : State) (x : Rec) :
    (State.submit s x).1.sealSt.otp = s.sealSt.otp := by
  unfold State.submit
  repeat' (first | rfl | (simp; done) | split | dsimp only | (refine (foldl_keep (fun t : State => t.sealSt.otp) _ (fun _ _ => ?_) _ _).trans ?_))

@[simp] theorem State.recAs_pending (s : State) (src : Nat) (agreed : Bool) (name : RecName) (ps : List Word) :
    (State.recAs s src agreed name ps).pending = s.pending := by
  unfold State.recAs; simp

@[simp] theorem State.recAs_otp (s : State) (src : Nat) (agreed : Bool) (name : RecName) (ps : List Word) :
    (State.recAs s src agreed name ps).sealSt.otp = s.sealSt.otp := by
  unfold State.recAs; simp

@[simp] theorem State.recG_pending (s : State) (name : RecName) (ps : List Word) :
    (State.recG s name ps).pending = s.pending := by
  unfold State.recG; simp

@[simp] theorem State.recG_otp (s : State) (name : RecName) (ps : List Word) :
    (State.recG s name ps).sealSt.otp = s.sealSt.otp := by
  unfold State.recG; simp

@[simp] theorem State.recL_pending (s : State) (l : LaneId) (name : RecName) (ps : List Word) :
    (State.recL s l name ps).pending = s.pending := by
  unfold State.recL; simp

@[simp] theorem State.recL_otp (s : State) (l : LaneId) (name : RecName) (ps : List Word) :
    (State.recL s l name ps).sealSt.otp = s.sealSt.otp := by
  unfold State.recL; simp

@[simp] theorem State.recRing_pending (s : State) (name : RecName) (ps : List Word) :
    (State.recRing s name ps).pending = s.pending := by
  unfold State.recRing; simp

@[simp] theorem State.recRing_otp (s : State) (name : RecName) (ps : List Word) :
    (State.recRing s name ps).sealSt.otp = s.sealSt.otp := by
  unfold State.recRing; simp

@[simp] theorem State.recStage_pending (s : State) (name : RecName) (ps : List Word) :
    (State.recStage s name ps).pending = s.pending := by
  unfold State.recStage; simp

@[simp] theorem State.recStage_otp (s : State) (name : RecName) (ps : List Word) :
    (State.recStage s name ps).sealSt.otp = s.sealSt.otp := by
  unfold State.recStage; simp

@[simp] theorem State.recSvc_pending (s : State) (name : RecName) (ps : List Word) :
    (State.recSvc s name ps).pending = s.pending := by
  unfold State.recSvc; simp

@[simp] theorem State.recSvc_otp (s : State) (name : RecName) (ps : List Word) :
    (State.recSvc s name ps).sealSt.otp = s.sealSt.otp := by
  unfold State.recSvc; simp

@[simp] theorem State.recM_pending (s : State) (name : RecName) (ps : List Word) :
    (State.recM s name ps).pending = s.pending := by
  unfold State.recM; split <;> simp

@[simp] theorem State.recM_otp (s : State) (name : RecName) (ps : List Word) :
    (State.recM s name ps).sealSt.otp = s.sealSt.otp := by
  unfold State.recM; split <;> simp

@[simp] theorem State.flushTrigger_pending (s : State) (reason : BitVec 3) :
    (State.flushTrigger s reason).pending = s.pending := by
  unfold State.flushTrigger; split <;> simp

@[simp] theorem State.flushTrigger_otp (s : State) (reason : BitVec 3) :
    (State.flushTrigger s reason).sealSt.otp = s.sealSt.otp := by
  unfold State.flushTrigger; split <;> simp

@[simp] theorem State.bufferTriggers_pending (s : State) (x : Rec) :
    (State.bufferTriggers s x).pending = s.pending := by
  unfold State.bufferTriggers; simp

@[simp] theorem State.bufferTriggers_otp (s : State) (x : Rec) :
    (State.bufferTriggers s x).sealSt.otp = s.sealSt.otp := by
  unfold State.bufferTriggers; simp

@[simp] theorem State.drainOne_pending (s : State) :
    (State.drainOne s).pending = s.pending := by
  unfold State.drainOne; split <;> simp

@[simp] theorem State.drainOne_otp (s : State) :
    (State.drainOne s).sealSt.otp = s.sealSt.otp := by
  unfold State.drainOne; split <;> simp

@[simp] theorem State.noteFull_pending (s : State) :
    (State.noteFull s).pending = s.pending := by
  unfold State.noteFull; simp

@[simp] theorem State.noteFull_otp (s : State) :
    (State.noteFull s).sealSt.otp = s.sealSt.otp := by
  unfold State.noteFull; simp

@[simp] theorem State.logWrite_pending (s : State) (x : Rec) :
    (State.logWrite s x).pending = s.pending := by
  unfold State.logWrite
  repeat' (first | rfl | (simp; done) | split | dsimp only | (refine (foldl_keep State.pending _ (fun _ _ => ?_) _ _).trans ?_))

@[simp] theorem State.logWrite_otp (s : State) (x : Rec) :
    (State.logWrite s x).sealSt.otp = s.sealSt.otp := by
  unfold State.logWrite
  repeat' (first | rfl | (simp; done) | split | dsimp only | (refine (foldl_keep (fun t : State => t.sealSt.otp) _ (fun _ _ => ?_) _ _).trans ?_))

@[simp] theorem State.failPlaces_pending (s : State) (n : Nat) :
    (State.failPlaces s n).pending = s.pending := by
  unfold State.failPlaces; simp

@[simp] theorem State.failPlaces_otp (s : State) (n : Nat) :
    (State.failPlaces s n).sealSt.otp = s.sealSt.otp := by
  unfold State.failPlaces; simp

@[simp] theorem State.endArming_pending (s : State) (fired : Bool) :
    (State.endArming s fired).pending = s.pending := by
  unfold State.endArming; split <;> simp

@[simp] theorem State.endArming_otp (s : State) (fired : Bool) :
    (State.endArming s fired).sealSt.otp = s.sealSt.otp := by
  unfold State.endArming; split <;> simp

@[simp] theorem State.fire_pending (s : State) :
    (State.fire s).pending = s.pending := by
  unfold State.fire; simp

@[simp] theorem State.fire_otp (s : State) :
    (State.fire s).sealSt.otp = s.sealSt.otp := by
  unfold State.fire; simp

@[simp] theorem State.lapseByMode_pending (s : State) :
    (State.lapseByMode s).pending = s.pending := by
  unfold State.lapseByMode; split <;> simp

@[simp] theorem State.lapseByMode_otp (s : State) :
    (State.lapseByMode s).sealSt.otp = s.sealSt.otp := by
  unfold State.lapseByMode; split <;> simp

@[simp] theorem State.startLasting_pending (s : State) (id : Nat) (l : Option LaneId) (n : Nat) :
    (State.startLasting s id l n).pending = s.pending := by
  rfl

@[simp] theorem State.startLasting_otp (s : State) (id : Nat) (l : Option LaneId) (n : Nat) :
    (State.startLasting s id l n).sealSt.otp = s.sealSt.otp := by
  rfl

@[simp] theorem State.passLasting_pending (s : State) (id : Nat) (l : Option LaneId) :
    (State.passLasting s id l).pending = s.pending := by
  rfl

@[simp] theorem State.passLasting_otp (s : State) (id : Nat) (l : Option LaneId) :
    (State.passLasting s id l).sealSt.otp = s.sealSt.otp := by
  rfl

@[simp] theorem State.fireLasting_pending (s : State) (id : Nat) (l : Option LaneId) (n : Nat) :
    (State.fireLasting s id l n).pending = s.pending := by
  unfold State.fireLasting; simp

@[simp] theorem State.fireLasting_otp (s : State) (id : Nat) (l : Option LaneId) (n : Nat) :
    (State.fireLasting s id l n).sealSt.otp = s.sealSt.otp := by
  unfold State.fireLasting; simp

@[simp] theorem State.arm_pending (s : State) (w : Word) :
    (State.arm s w).pending = s.pending := by
  unfold State.arm; simp

@[simp] theorem State.arm_otp (s : State) (w : Word) :
    (State.arm s w).sealSt.otp = s.sealSt.otp := by
  unfold State.arm; simp

@[simp] theorem State.disarm_pending (s : State) (w : Word) :
    (State.disarm s w).pending = s.pending := by
  unfold State.disarm; simp

@[simp] theorem State.disarm_otp (s : State) (w : Word) :
    (State.disarm s w).sealSt.otp = s.sealSt.otp := by
  unfold State.disarm; simp

@[simp] theorem State.writeInject_pending (s : State) (secure : Bool) (off : Nat) (w : Word) :
    (State.writeInject s secure off w).pending = s.pending := by
  unfold State.writeInject
  repeat' (first | rfl | (simp; done) | split | dsimp only | (refine (foldl_keep State.pending _ (fun _ _ => ?_) _ _).trans ?_))

@[simp] theorem State.writeInject_otp (s : State) (secure : Bool) (off : Nat) (w : Word) :
    (State.writeInject s secure off w).sealSt.otp = s.sealSt.otp := by
  unfold State.writeInject
  repeat' (first | rfl | (simp; done) | split | dsimp only | (refine (foldl_keep (fun t : State => t.sealSt.otp) _ (fun _ _ => ?_) _ _).trans ?_))

@[simp] theorem State.conduct_pending (s : State) :
    (State.conduct s).pending = s.pending := by
  rfl

@[simp] theorem State.conduct_otp (s : State) :
    (State.conduct s).sealSt.otp = s.sealSt.otp := by
  rfl

@[simp] theorem State.discardPulse_pending (s : State) :
    (State.discardPulse s).pending = s.pending := by
  unfold State.discardPulse; split <;> simp

@[simp] theorem State.discardPulse_otp (s : State) :
    (State.discardPulse s).sealSt.otp = s.sealSt.otp := by
  unfold State.discardPulse; split <;> simp

@[simp] theorem State.stageOff_pending (s : State) :
    (State.stageOff s).pending = s.pending := by
  unfold State.stageOff; simp

@[simp] theorem State.stageOff_otp (s : State) :
    (State.stageOff s).sealSt.otp = s.sealSt.otp := by
  unfold State.stageOff; simp

@[simp] theorem State.evaluate_pending (s : State) (force : OutBits) :
    (State.evaluate s force).pending = s.pending := by
  rfl

@[simp] theorem State.evaluate_otp (s : State) (force : OutBits) :
    (State.evaluate s force).sealSt.otp = s.sealSt.otp := by
  rfl

@[simp] theorem State.noteFault_pending (s : State) (o : Nat) (code : BitVec 4) :
    (State.noteFault s o code).pending = s.pending := by
  rfl

@[simp] theorem State.noteFault_otp (s : State) (o : Nat) (code : BitVec 4) :
    (State.noteFault s o code).sealSt.otp = s.sealSt.otp := by
  rfl

@[simp] theorem State.stageLatch_pending (s : State) :
    (State.stageLatch s).pending = s.pending := by
  rfl

@[simp] theorem State.stageLatch_otp (s : State) :
    (State.stageLatch s).sealSt.otp = s.sealSt.otp := by
  rfl

@[simp] theorem State.judgeSlice_pending (s : State) (k : LaneId) :
    (State.judgeSlice s k).pending = s.pending := by
  unfold State.judgeSlice; split <;> simp

@[simp] theorem State.judgeSlice_otp (s : State) (k : LaneId) :
    (State.judgeSlice s k).sealSt.otp = s.sealSt.otp := by
  unfold State.judgeSlice; split <;> simp

@[simp] theorem State.bistAbort_pending (s : State) :
    (State.bistAbort s).pending = s.pending := by
  unfold State.bistAbort
  repeat' (first | rfl | (simp; done) | split | dsimp only | (refine (foldl_keep State.pending _ (fun _ _ => ?_) _ _).trans ?_))

@[simp] theorem State.bistAbort_otp (s : State) :
    (State.bistAbort s).sealSt.otp = s.sealSt.otp := by
  unfold State.bistAbort
  repeat' (first | rfl | (simp; done) | split | dsimp only | (refine (foldl_keep (fun t : State => t.sealSt.otp) _ (fun _ _ => ?_) _ _).trans ?_))

@[simp] theorem State.updRing_pending (s : State) (f : RingSt → RingSt) :
    (State.updRing s f).pending = s.pending := by
  rfl

@[simp] theorem State.updRing_otp (s : State) (f : RingSt → RingSt) :
    (State.updRing s f).sealSt.otp = s.sealSt.otp := by
  rfl

@[simp] theorem State.updPort_pending (s : State) (p : Port) (f : RingPort → RingPort) :
    (State.updPort s p f).pending = s.pending := by
  rfl

@[simp] theorem State.updPort_otp (s : State) (p : Port) (f : RingPort → RingPort) :
    (State.updPort s p f).sealSt.otp = s.sealSt.otp := by
  rfl

@[simp] theorem State.sendOut_pending (s : State) (slot : Nat) (out : Port) (body : List Byte) :
    (State.sendOut s slot out body).pending = s.pending := by
  unfold State.sendOut; simp

@[simp] theorem State.sendOut_otp (s : State) (slot : Nat) (out : Port) (body : List Byte) :
    (State.sendOut s slot out body).sealSt.otp = s.sealSt.otp := by
  unfold State.sendOut; simp

@[simp] theorem State.endSlot_pending (s : State) (p : Port) :
    (State.endSlot s p).pending = s.pending := by
  unfold State.endSlot; split <;> simp

@[simp] theorem State.endSlot_otp (s : State) (p : Port) :
    (State.endSlot s p).sealSt.otp = s.sealSt.otp := by
  unfold State.endSlot; split <;> simp

@[simp] theorem State.discardChange_pending (s : State) :
    (State.discardChange s).pending = s.pending := by
  unfold State.discardChange
  repeat' (first
    | rfl
    | (simp [*]; done)
    | split
    | (refine (foldl_keep State.pending _ (fun _ _ => ?_) _ _).trans ?_)
    | intro _
    | dsimp only
    | (simp only [*]; done)
    | simp [*])

@[simp] theorem State.discardChange_otp (s : State) :
    (State.discardChange s).sealSt.otp = s.sealSt.otp := by
  unfold State.discardChange
  repeat' (first
    | rfl
    | (simp [*]; done)
    | split
    | (refine (foldl_keep (fun t : State => t.sealSt.otp) _ (fun _ _ => ?_) _ _).trans ?_)
    | intro _
    | dsimp only
    | (simp only [*]; done)
    | simp [*])

@[simp] theorem State.holdVote_pending (s : State) :
    (State.holdVote s).pending = s.pending := by
  rfl

@[simp] theorem State.holdVote_otp (s : State) :
    (State.holdVote s).sealSt.otp = s.sealSt.otp := by
  rfl

@[simp] theorem State.restrictive_pending (s : State) :
    (State.restrictive s).pending = s.pending := by
  unfold State.restrictive; simp

@[simp] theorem State.restrictive_otp (s : State) :
    (State.restrictive s).sealSt.otp = s.sealSt.otp := by
  unfold State.restrictive; simp

@[simp] theorem State.endResync_pending (s : State) :
    (State.endResync s).pending = s.pending := by
  unfold State.endResync; simp

@[simp] theorem State.endResync_otp (s : State) :
    (State.endResync s).sealSt.otp = s.sealSt.otp := by
  unfold State.endResync; simp

@[simp] theorem State.dropEvents_pending (s : State) (m : Mode) (es : List ModeEvent) :
    (s.dropEvents m es).pending = s.pending := by
  induction es generalizing s with
  | nil => rfl
  | cons e es ih => unfold State.dropEvents; rw [ih]; split <;> simp

@[simp] theorem State.dropEvents_otp (s : State) (m : Mode) (es : List ModeEvent) :
    (s.dropEvents m es).sealSt.otp = s.sealSt.otp := by
  induction es generalizing s with
  | nil => rfl
  | cons e es ih => unfold State.dropEvents; rw [ih]; split <;> simp

@[simp] theorem State.enterSafeStop_pending (s : State) (o : Origin) (reason : Half) :
    (State.enterSafeStop s o reason).pending = s.pending := by
  unfold State.enterSafeStop; simp

@[simp] theorem State.enterSafeStop_otp (s : State) (o : Origin) (reason : Half) :
    (State.enterSafeStop s o reason).sealSt.otp = s.sealSt.otp := by
  unfold State.enterSafeStop; simp

@[simp] theorem State.safeStop_pending (s : State) (o : Origin) (reason : Half) :
    (State.safeStop s o reason).pending = s.pending := by
  unfold State.safeStop; split <;> simp

@[simp] theorem State.safeStop_otp (s : State) (o : Origin) (reason : Half) :
    (State.safeStop s o reason).sealSt.otp = s.sealSt.otp := by
  unfold State.safeStop; split <;> simp

@[simp] theorem State.noteCleared_pending (s : State) (l : LaneId) :
    (State.noteCleared s l).pending = s.pending := by
  unfold State.noteCleared; simp

@[simp] theorem State.noteCleared_otp (s : State) (l : LaneId) :
    (State.noteCleared s l).sealSt.otp = s.sealSt.otp := by
  unfold State.noteCleared; simp

@[simp] theorem State.coReset_pending (s : State) (l : LaneId) (src : Source) :
    (State.coReset s l src).pending = s.pending := by
  unfold State.coReset; simp

@[simp] theorem State.coReset_otp (s : State) (l : LaneId) (src : Source) :
    (State.coReset s l src).sealSt.otp = s.sealSt.otp := by
  unfold State.coReset; simp

@[simp] theorem State.haltCore_pending (s : State) (l : LaneId) :
    (State.haltCore s l).pending = s.pending := by
  rfl

@[simp] theorem State.haltCore_otp (s : State) (l : LaneId) :
    (State.haltCore s l).sealSt.otp = s.sealSt.otp := by
  rfl

@[simp] theorem State.clearShared_pending (s : State) :
    (State.clearShared s).pending = s.pending := by
  rfl

@[simp] theorem State.clearShared_otp (s : State) :
    (State.clearShared s).sealSt.otp = s.sealSt.otp := by
  rfl

@[simp] theorem State.doSy_pending (s : State) (causes : List Source) :
    (State.doSy s causes).pending = s.pending := by
  unfold State.doSy; simp

@[simp] theorem State.doSy_otp (s : State) (causes : List Source) :
    (State.doSy s causes).sealSt.otp = s.sealSt.otp := by
  unfold State.doSy; simp

@[simp] theorem State.doPo_pending (s : State) (causes : List Source) :
    (State.doPo s causes).pending = s.pending := by
  unfold State.doPo; simp

@[simp] theorem State.doPo_otp (s : State) (causes : List Source) :
    (State.doPo s causes).sealSt.otp = s.sealSt.otp := by
  unfold State.doPo; simp

@[simp] theorem State.restartPriming_pending (s : State) (src : Source) :
    (State.restartPriming s src).pending = s.pending := by
  unfold State.restartPriming; simp

@[simp] theorem State.restartPriming_otp (s : State) (src : Source) :
    (State.restartPriming s src).sealSt.otp = s.sealSt.otp := by
  unfold State.restartPriming; simp

@[simp] theorem State.requestReset_pending (s : State) (src : Source) (level : Level) :
    (State.requestReset s src level).pending = s.pending := by
  unfold State.requestReset; split <;> simp

@[simp] theorem State.requestReset_otp (s : State) (src : Source) (level : Level) :
    (State.requestReset s src level).sealSt.otp = s.sealSt.otp := by
  unfold State.requestReset; split <;> simp

@[simp] theorem State.raise_pending (s : State) (src : Source) (l : Option LaneId) :
    (State.raise s src l).pending = s.pending := by
  unfold State.raise
  repeat' (first | rfl | (simp; done) | split | dsimp only | (refine (foldl_keep State.pending _ (fun _ _ => ?_) _ _).trans ?_))

@[simp] theorem State.raise_otp (s : State) (src : Source) (l : Option LaneId) :
    (State.raise s src l).sealSt.otp = s.sealSt.otp := by
  unfold State.raise
  repeat' (first | rfl | (simp; done) | split | dsimp only | (refine (foldl_keep (fun t : State => t.sealSt.otp) _ (fun _ _ => ?_) _ _).trans ?_))

@[simp] theorem State.passTime_pending (s : State) (n : Nat) :
    (State.passTime s n).pending = s.pending := by
  rfl

@[simp] theorem State.passTime_otp (s : State) (n : Nat) :
    (State.passTime s n).sealSt.otp = s.sealSt.otp := by
  rfl

@[simp] theorem State.advanceTo_pending (s : State) (t : Nat) :
    (State.advanceTo s t).pending = s.pending := by
  rfl

@[simp] theorem State.advanceTo_otp (s : State) (t : Nat) :
    (State.advanceTo s t).sealSt.otp = s.sealSt.otp := by
  rfl

@[simp] theorem State.feed_pending (s : State) (l : LaneId) (w : Word) :
    (State.feed s l w).pending = s.pending := by
  rfl

@[simp] theorem State.feed_otp (s : State) (l : LaneId) (w : Word) :
    (State.feed s l w).sealSt.otp = s.sealSt.otp := by
  rfl

@[simp] theorem State.recJoint_pending (s : State) (l : LaneId) (name : RecName) (ps : List Word) :
    (State.recJoint s l name ps).pending = s.pending := by
  unfold State.recJoint
  repeat' (first | rfl | (simp; done) | split | dsimp only | (refine (foldl_keep State.pending _ (fun _ _ => ?_) _ _).trans ?_))

@[simp] theorem State.recJoint_otp (s : State) (l : LaneId) (name : RecName) (ps : List Word) :
    (State.recJoint s l name ps).sealSt.otp = s.sealSt.otp := by
  unfold State.recJoint
  repeat' (first | rfl | (simp; done) | split | dsimp only | (refine (foldl_keep (fun t : State => t.sealSt.otp) _ (fun _ _ => ?_) _ _).trans ?_))

@[simp] theorem State.spoilRequest_pending (s : State) (l : LaneId) :
    (State.spoilRequest s l).pending = s.pending := by
  unfold State.spoilRequest; simp

@[simp] theorem State.spoilRequest_otp (s : State) (l : LaneId) :
    (State.spoilRequest s l).sealSt.otp = s.sealSt.otp := by
  unfold State.spoilRequest; simp

@[simp] theorem State.descParity_pending (s : State) (l : LaneId) (body : State → State) (h0 : (body s).pending = (s).pending) :
    (State.descParity s l body).pending = s.pending := by
  unfold State.descParity; simp [*]

@[simp] theorem State.descParity_otp (s : State) (l : LaneId) (body : State → State) (h0 : (body s).sealSt.otp = (s).sealSt.otp) :
    (State.descParity s l body).sealSt.otp = s.sealSt.otp := by
  unfold State.descParity; simp [*]

@[simp] theorem State.engineDrain_pending (s : State) (l : LaneId) :
    (State.engineDrain s l).pending = s.pending := by
  unfold State.engineDrain; simp

@[simp] theorem State.engineDrain_otp (s : State) (l : LaneId) :
    (State.engineDrain s l).sealSt.otp = s.sealSt.otp := by
  unfold State.engineDrain; simp

@[simp] theorem State.closeEngine_pending (s : State) (l : LaneId) :
    (State.closeEngine s l).pending = s.pending := by
  unfold State.closeEngine; simp

@[simp] theorem State.closeEngine_otp (s : State) (l : LaneId) :
    (State.closeEngine s l).sealSt.otp = s.sealSt.otp := by
  unfold State.closeEngine; simp

@[simp] theorem State.injectHash_pending (s : State) (l : LaneId) :
    (State.injectHash s l).pending = s.pending := by
  unfold State.injectHash; simp

@[simp] theorem State.injectHash_otp (s : State) (l : LaneId) :
    (State.injectHash s l).sealSt.otp = s.sealSt.otp := by
  unfold State.injectHash; simp

@[simp] theorem State.injectSignature_pending (s : State) (l : LaneId) :
    (State.injectSignature s l).pending = s.pending := by
  unfold State.injectSignature; simp

@[simp] theorem State.injectSignature_otp (s : State) (l : LaneId) :
    (State.injectSignature s l).sealSt.otp = s.sealSt.otp := by
  unfold State.injectSignature; simp

@[simp] theorem State.recCoded_pending (s : State) (l : LaneId) (n : Word) :
    (State.recCoded s l n).pending = s.pending := by
  unfold State.recCoded; simp

@[simp] theorem State.recCoded_otp (s : State) (l : LaneId) (n : Word) :
    (State.recCoded s l n).sealSt.otp = s.sealSt.otp := by
  unfold State.recCoded; simp

@[simp] theorem State.closeSignature_pending (s : State) (l : LaneId) :
    (State.closeSignature s l).pending = s.pending := by
  unfold State.closeSignature; simp

@[simp] theorem State.closeSignature_otp (s : State) (l : LaneId) :
    (State.closeSignature s l).sealSt.otp = s.sealSt.otp := by
  unfold State.closeSignature; simp

@[simp] theorem State.endCore_pending (s : State) (l : LaneId) (reason : BitVec 3) :
    (State.endCore s l reason).pending = s.pending := by
  rfl

@[simp] theorem State.endCore_otp (s : State) (l : LaneId) (reason : BitVec 3) :
    (State.endCore s l reason).sealSt.otp = s.sealSt.otp := by
  rfl

@[simp] theorem State.holdPost_pending (s : State) (l : LaneId) :
    (State.holdPost s l).pending = s.pending := by
  unfold State.holdPost
  repeat' (first | rfl | (simp; done) | split | dsimp only | (refine (foldl_keep State.pending _ (fun _ _ => ?_) _ _).trans ?_))

@[simp] theorem State.holdPost_otp (s : State) (l : LaneId) :
    (State.holdPost s l).sealSt.otp = s.sealSt.otp := by
  unfold State.holdPost
  repeat' (first | rfl | (simp; done) | split | dsimp only | (refine (foldl_keep (fun t : State => t.sealSt.otp) _ (fun _ _ => ?_) _ _).trans ?_))

@[simp] theorem State.initTrapped_pending (s : State) (l : LaneId) :
    (State.initTrapped s l).pending = s.pending := by
  unfold State.initTrapped; split <;> simp

@[simp] theorem State.initTrapped_otp (s : State) (l : LaneId) :
    (State.initTrapped s l).sealSt.otp = s.sealSt.otp := by
  unfold State.initTrapped; split <;> simp

@[simp] theorem State.budgetTrap_pending (s : State) (l : LaneId) (tpc : Word) :
    (State.budgetTrap s l tpc).pending = s.pending := by
  unfold State.budgetTrap; simp

@[simp] theorem State.budgetTrap_otp (s : State) (l : LaneId) (tpc : Word) :
    (State.budgetTrap s l tpc).sealSt.otp = s.sealSt.otp := by
  unfold State.budgetTrap; simp

@[simp] theorem State.endCycle_pending (s : State) (l : LaneId) :
    (State.endCycle s l).pending = s.pending := by
  unfold State.endCycle; simp

@[simp] theorem State.endCycle_otp (s : State) (l : LaneId) :
    (State.endCycle s l).sealSt.otp = s.sealSt.otp := by
  unfold State.endCycle; simp

@[simp] theorem State.laneFault_pending (s : State) (l : LaneId) :
    (State.laneFault s l).pending = s.pending := by
  unfold State.laneFault; simp

@[simp] theorem State.laneFault_otp (s : State) (l : LaneId) :
    (State.laneFault s l).sealSt.otp = s.sealSt.otp := by
  unfold State.laneFault; simp

@[simp] theorem State.doubleTrap_pending (s : State) (l : LaneId) :
    (State.doubleTrap s l).pending = s.pending := by
  unfold State.doubleTrap; simp

@[simp] theorem State.doubleTrap_otp (s : State) (l : LaneId) :
    (State.doubleTrap s l).sealSt.otp = s.sealSt.otp := by
  unfold State.doubleTrap; simp

@[simp] theorem State.refuseRun_pending (s : State) (l : LaneId) (p : Nat) :
    (State.refuseRun s l p).pending = s.pending := by
  unfold State.refuseRun; simp

@[simp] theorem State.refuseRun_otp (s : State) (l : LaneId) (p : Nat) :
    (State.refuseRun s l p).sealSt.otp = s.sealSt.otp := by
  unfold State.refuseRun; simp

@[simp] theorem State.unhandled_pending (s : State) (l : LaneId) :
    (State.unhandled s l).pending = s.pending := by
  unfold State.unhandled; simp

@[simp] theorem State.unhandled_otp (s : State) (l : LaneId) :
    (State.unhandled s l).sealSt.otp = s.sealSt.otp := by
  unfold State.unhandled; simp

@[simp] theorem State.appTrapped_pending (s : State) (l : LaneId) (num : Nat) (ah : Bool) :
    (State.appTrapped s l num ah).pending = s.pending := by
  unfold State.appTrapped; split <;> simp

@[simp] theorem State.appTrapped_otp (s : State) (l : LaneId) (num : Nat) (ah : Bool) :
    (State.appTrapped s l num ah).sealSt.otp = s.sealSt.otp := by
  unfold State.appTrapped; split <;> simp

@[simp] theorem State.trap_pending (s : State) (l : LaneId) (num : Nat) (x : Option Nat) (tval : Word) :
    (State.trap s l num x tval).pending = s.pending := by
  unfold State.trap; simp

@[simp] theorem State.trap_otp (s : State) (l : LaneId) (num : Nat) (x : Option Nat) (tval : Word) :
    (State.trap s l num x tval).sealSt.otp = s.sealSt.otp := by
  unfold State.trap; simp

@[simp] theorem State.illegal_pending (s : State) (l : LaneId) (w : Word) :
    (State.illegal s l w).pending = s.pending := by
  unfold State.illegal; simp

@[simp] theorem State.illegal_otp (s : State) (l : LaneId) (w : Word) :
    (State.illegal s l w).sealSt.otp = s.sealSt.otp := by
  unfold State.illegal; simp

@[simp] theorem State.counted_pending (s : State) (l : LaneId) :
    (State.counted s l).pending = s.pending := by
  unfold State.counted; simp

@[simp] theorem State.counted_otp (s : State) (l : LaneId) :
    (State.counted s l).sealSt.otp = s.sealSt.otp := by
  unfold State.counted; simp

@[simp] theorem State.begin_pending (s : State) (l : LaneId) (i : Instr) (rt : Bool) (x : Option Nat) (body : State → State) (h0 : (body s).pending = (s).pending) :
    (State.begin s l i rt x body).pending = s.pending := by
  unfold State.begin
  repeat' (first
    | rfl
    | (simp [*]; done)
    | split
    | (refine (foldl_keep State.pending _ (fun _ _ => ?_) _ _).trans ?_)
    | (refine State.descParity_pending _ _ _ ?_ )
    | intro _
    | dsimp only
    | (simp only [*]; done)
    | simp [*])

@[simp] theorem State.begin_otp (s : State) (l : LaneId) (i : Instr) (rt : Bool) (x : Option Nat) (body : State → State) (h0 : (body s).sealSt.otp = (s).sealSt.otp) :
    (State.begin s l i rt x body).sealSt.otp = s.sealSt.otp := by
  unfold State.begin
  repeat' (first
    | rfl
    | (simp [*]; done)
    | split
    | (refine (foldl_keep (fun t : State => t.sealSt.otp) _ (fun _ _ => ?_) _ _).trans ?_)
    | (refine State.begin_otp _ _ _ _ _ _ ?_ )
    | (refine State.descParity_otp _ _ _ ?_ )
    | intro _
    | dsimp only
    | (simp only [*]; done)
    | simp [*])

@[simp] theorem State.sources_pending (s : State) (l : LaneId) (rs : List Reg) (x : Option Nat) (body : State → State) (h0 : (body s).pending = (s).pending) :
    (State.sources s l rs x body).pending = s.pending := by
  unfold State.sources
  repeat' (first
    | rfl
    | (simp [*]; done)
    | split
    | (refine (foldl_keep State.pending _ (fun _ _ => ?_) _ _).trans ?_)
    | (refine State.begin_pending _ _ _ _ _ _ ?_ )
    | (refine State.descParity_pending _ _ _ ?_ )
    | intro _
    | dsimp only
    | (simp only [*]; done)
    | simp [*])

@[simp] theorem State.sources_otp (s : State) (l : LaneId) (rs : List Reg) (x : Option Nat) (body : State → State) (h0 : (body s).sealSt.otp = (s).sealSt.otp) :
    (State.sources s l rs x body).sealSt.otp = s.sealSt.otp := by
  unfold State.sources
  repeat' (first
    | rfl
    | (simp [*]; done)
    | split
    | (refine (foldl_keep (fun t : State => t.sealSt.otp) _ (fun _ _ => ?_) _ _).trans ?_)
    | (refine State.begin_otp _ _ _ _ _ _ ?_ )
    | (refine State.sources_otp _ _ _ _ _ ?_ )
    | (refine State.descParity_otp _ _ _ ?_ )
    | intro _
    | dsimp only
    | (simp only [*]; done)
    | simp [*])

@[simp] theorem State.updCore_otp (s : State) (l : LaneId) (f : Core → Core) :
    (State.updCore s l f).sealSt.otp = s.sealSt.otp := by
  rfl

@[simp] theorem State.finish_pending (s : State) (l : LaneId) (f : Core → Core) :
    (State.finish s l f).pending = s.pending := by
  rfl

@[simp] theorem State.finish_otp (s : State) (l : LaneId) (f : Core → Core) :
    (State.finish s l f).sealSt.otp = s.sealSt.otp := by
  rfl

@[simp] theorem State.compute_pending (s : State) (l : LaneId) (i : Instr) (d : Reg) (rs : List Reg) (f : Core → Word) :
    (State.compute s l i d rs f).pending = s.pending := by
  unfold State.compute; simp

@[simp] theorem State.compute_otp (s : State) (l : LaneId) (i : Instr) (d : Reg) (rs : List Reg) (f : Core → Word) :
    (State.compute s l i d rs f).sealSt.otp = s.sealSt.otp := by
  unfold State.compute; simp

@[simp] theorem State.finishSet_pending (s : State) (l : LaneId) (d : Reg) (w : Word) :
    (State.finishSet s l d w).pending = s.pending := by
  rfl

@[simp] theorem State.finishSet_otp (s : State) (l : LaneId) (d : Reg) (w : Word) :
    (State.finishSet s l d w).sealSt.otp = s.sealSt.otp := by
  rfl

@[simp] theorem State.jumpTo_pending (s : State) (l : LaneId) (f : Core → Core) (pc : Word) :
    (State.jumpTo s l f pc).pending = s.pending := by
  rfl

@[simp] theorem State.jumpTo_otp (s : State) (l : LaneId) (f : Core → Core) (pc : Word) :
    (State.jumpTo s l f pc).sealSt.otp = s.sealSt.otp := by
  rfl

@[simp] theorem State.stray_pending (s : State) (l : LaneId) :
    (State.stray s l).pending = s.pending := by
  unfold State.stray; split <;> simp

@[simp] theorem State.stray_otp (s : State) (l : LaneId) :
    (State.stray s l).sealSt.otp = s.sealSt.otp := by
  unfold State.stray; split <;> simp

@[simp] theorem State.tick_pending (s : State) :
    (State.tick s).pending = s.pending := by
  unfold State.tick; simp

@[simp] theorem State.tick_otp (s : State) :
    (State.tick s).sealSt.otp = s.sealSt.otp := by
  unfold State.tick; simp

@[simp] theorem State.divide_pending (s : State) (l : LaneId) (i : Instr) (d a b : Reg) (f : Word → Word → Word) :
    (State.divide s l i d a b f).pending = s.pending := by
  unfold State.divide; simp

@[simp] theorem State.divide_otp (s : State) (l : LaneId) (i : Instr) (d a b : Reg) (f : Word → Word → Word) :
    (State.divide s l i d a b f).sealSt.otp = s.sealSt.otp := by
  unfold State.divide; simp

@[simp] theorem State.branch_pending (s : State) (l : LaneId) (i : Instr) (rs : List Reg) (off : Half) (taken : Core → Bool) (f : Core → Core) :
    (State.branch s l i rs off taken f).pending = s.pending := by
  unfold State.branch; simp

@[simp] theorem State.branch_otp (s : State) (l : LaneId) (i : Instr) (rs : List Reg) (off : Half) (taken : Core → Bool) (f : Core → Core) :
    (State.branch s l i rs off taken f).sealSt.otp = s.sealSt.otp := by
  unfold State.branch; simp

@[simp] theorem State.codedBranch_pending (s : State) (l : LaneId) (i : Instr) (r : Reg) (off : Half) (want : Bool) :
    (State.codedBranch s l i r off want).pending = s.pending := by
  unfold State.codedBranch; simp

@[simp] theorem State.codedBranch_otp (s : State) (l : LaneId) (i : Instr) (r : Reg) (off : Half) (want : Bool) :
    (State.codedBranch s l i r off want).sealSt.otp = s.sealSt.otp := by
  unfold State.codedBranch; simp

@[simp] theorem State.jump_pending (s : State) (l : LaneId) (i : Instr) (off : BitVec 26) (f : Core → Core) :
    (State.jump s l i off f).pending = s.pending := by
  unfold State.jump; simp

@[simp] theorem State.jump_otp (s : State) (l : LaneId) (i : Instr) (off : BitVec 26) (f : Core → Core) :
    (State.jump s l i off f).sealSt.otp = s.sealSt.otp := by
  unfold State.jump; simp

@[simp] theorem State.computeCoded_pending (s : State) (l : LaneId) (i : Instr) (d : Reg) (rs : List Reg) (f : Core → Word) :
    (State.computeCoded s l i d rs f).pending = s.pending := by
  unfold State.computeCoded; simp

@[simp] theorem State.computeCoded_otp (s : State) (l : LaneId) (i : Instr) (d : Reg) (rs : List Reg) (f : Core → Word) :
    (State.computeCoded s l i d rs f).sealSt.otp = s.sealSt.otp := by
  unfold State.computeCoded; simp

@[simp] theorem State.readReg_pending (s : State) (l : LaneId) (sub : Nat) (r : Reg) (body : Word → State) (h0 : ∀ (u0 : Word), ((body u0).pending) = (s).pending) :
    (State.readReg s l sub r body).pending = s.pending := by
  unfold State.readReg; simp [*]

@[simp] theorem State.readReg_otp (s : State) (l : LaneId) (sub : Nat) (r : Reg) (body : Word → State) (h0 : ∀ (u0 : Word), ((body u0).sealSt.otp) = (s).sealSt.otp) :
    (State.readReg s l sub r body).sealSt.otp = s.sealSt.otp := by
  unfold State.readReg; simp [*]

@[simp] theorem State.readStore_pending (s : State) (l : LaneId) (sub addr n : Nat) (body : State) (h0 : (body).pending = (s).pending) :
    (State.readStore s l sub addr n body).pending = s.pending := by
  unfold State.readStore
  repeat' (first
    | rfl
    | (simp [*]; done)
    | split
    | (refine (foldl_keep State.pending _ (fun _ _ => ?_) _ _).trans ?_)
    | (refine State.begin_pending _ _ _ _ _ _ ?_ )
    | (refine State.sources_pending _ _ _ _ _ ?_ )
    | (refine State.readReg_pending _ _ _ _ _ ?_ )
    | (refine State.descParity_pending _ _ _ ?_ )
    | intro _
    | dsimp only
    | (simp only [*]; done)
    | simp [*])

@[simp] theorem State.readStore_otp (s : State) (l : LaneId) (sub addr n : Nat) (body : State) (h0 : (body).sealSt.otp = (s).sealSt.otp) :
    (State.readStore s l sub addr n body).sealSt.otp = s.sealSt.otp := by
  unfold State.readStore
  repeat' (first
    | rfl
    | (simp [*]; done)
    | split
    | (refine (foldl_keep (fun t : State => t.sealSt.otp) _ (fun _ _ => ?_) _ _).trans ?_)
    | (refine State.begin_otp _ _ _ _ _ _ ?_ )
    | (refine State.sources_otp _ _ _ _ _ ?_ )
    | (refine State.readReg_otp _ _ _ _ _ ?_ )
    | (refine State.readStore_otp _ _ _ _ _ _ ?_ )
    | (refine State.descParity_otp _ _ _ ?_ )
    | intro _
    | dsimp only
    | (simp only [*]; done)
    | simp [*])

@[simp] theorem State.bounds_pending (s : State) (l : LaneId) (sub : Nat) (good : Bool) (addr : Nat) (body : State) (h0 : (body).pending = (s).pending) :
    (State.bounds s l sub good addr body).pending = s.pending := by
  unfold State.bounds; simp [*]

@[simp] theorem State.bounds_otp (s : State) (l : LaneId) (sub : Nat) (good : Bool) (addr : Nat) (body : State) (h0 : (body).sealSt.otp = (s).sealSt.otp) :
    (State.bounds s l sub good addr body).sealSt.otp = s.sealSt.otp := by
  unfold State.bounds; simp [*]

@[simp] theorem State.element_pending (s : State) (l : LaneId) (i : Instr) (sub : Nat) (a b : Reg) (body : State → Nat → Nat → State) (h0 : ∀ e w, (body s e w).pending = (s).pending) :
    (State.element s l i sub a b body).pending = s.pending := by
  unfold State.element
  repeat' (first
    | rfl
    | (simp [*]; done)
    | split
    | (refine (foldl_keep State.pending _ (fun _ _ => ?_) _ _).trans ?_)
    | (refine State.begin_pending _ _ _ _ _ _ ?_ )
    | (refine State.sources_pending _ _ _ _ _ ?_ )
    | (refine State.readReg_pending _ _ _ _ _ ?_ )
    | (refine State.bounds_pending _ _ _ _ _ _ ?_ )
    | (refine State.readStore_pending _ _ _ _ _ _ ?_ )
    | (refine State.descParity_pending _ _ _ ?_ )
    | intro _
    | dsimp only
    | (simp only [*]; done)
    | simp [*])

@[simp] theorem State.element_otp (s : State) (l : LaneId) (i : Instr) (sub : Nat) (a b : Reg) (body : State → Nat → Nat → State) (h0 : ∀ e w, (body s e w).sealSt.otp = (s).sealSt.otp) :
    (State.element s l i sub a b body).sealSt.otp = s.sealSt.otp := by
  unfold State.element
  repeat' (first
    | rfl
    | (simp [*]; done)
    | split
    | (refine (foldl_keep (fun t : State => t.sealSt.otp) _ (fun _ _ => ?_) _ _).trans ?_)
    | (refine State.begin_otp _ _ _ _ _ _ ?_ )
    | (refine State.sources_otp _ _ _ _ _ ?_ )
    | (refine State.readReg_otp _ _ _ _ _ ?_ )
    | (refine State.bounds_otp _ _ _ _ _ _ ?_ )
    | (refine State.readStore_otp _ _ _ _ _ _ ?_ )
    | (refine State.element_otp _ _ _ _ _ _ _ ?_ )
    | (refine State.descParity_otp _ _ _ ?_ )
    | intro _
    | dsimp only
    | (simp only [*]; done)
    | simp [*])

@[simp] theorem State.eld_pending (s : State) (l : LaneId) (d a b : Reg) :
    (State.eld s l d a b).pending = s.pending := by
  unfold State.eld
  repeat' (first
    | rfl
    | (simp [*]; done)
    | split
    | (refine (foldl_keep State.pending _ (fun _ _ => ?_) _ _).trans ?_)
    | (refine State.begin_pending _ _ _ _ _ _ ?_ )
    | (refine State.sources_pending _ _ _ _ _ ?_ )
    | (refine State.readReg_pending _ _ _ _ _ ?_ )
    | (refine State.bounds_pending _ _ _ _ _ _ ?_ )
    | (refine State.readStore_pending _ _ _ _ _ _ ?_ )
    | (refine State.element_pending _ _ _ _ _ _ _ ?_ )
    | (refine State.descParity_pending _ _ _ ?_ )
    | intro _
    | dsimp only
    | (simp only [*]; done)
    | simp [*])

@[simp] theorem State.eld_otp (s : State) (l : LaneId) (d a b : Reg) :
    (State.eld s l d a b).sealSt.otp = s.sealSt.otp := by
  unfold State.eld
  repeat' (first
    | rfl
    | (simp [*]; done)
    | split
    | (refine (foldl_keep (fun t : State => t.sealSt.otp) _ (fun _ _ => ?_) _ _).trans ?_)
    | (refine State.begin_otp _ _ _ _ _ _ ?_ )
    | (refine State.sources_otp _ _ _ _ _ ?_ )
    | (refine State.readReg_otp _ _ _ _ _ ?_ )
    | (refine State.bounds_otp _ _ _ _ _ _ ?_ )
    | (refine State.readStore_otp _ _ _ _ _ _ ?_ )
    | (refine State.element_otp _ _ _ _ _ _ _ ?_ )
    | (refine State.descParity_otp _ _ _ ?_ )
    | intro _
    | dsimp only
    | (simp only [*]; done)
    | simp [*])

@[simp] theorem State.est_pending (s : State) (l : LaneId) (d a b : Reg) :
    (State.est s l d a b).pending = s.pending := by
  unfold State.est
  repeat' (first
    | rfl
    | (simp [*]; done)
    | split
    | (refine (foldl_keep State.pending _ (fun _ _ => ?_) _ _).trans ?_)
    | (refine State.begin_pending _ _ _ _ _ _ ?_ )
    | (refine State.sources_pending _ _ _ _ _ ?_ )
    | (refine State.readReg_pending _ _ _ _ _ ?_ )
    | (refine State.bounds_pending _ _ _ _ _ _ ?_ )
    | (refine State.readStore_pending _ _ _ _ _ _ ?_ )
    | (refine State.element_pending _ _ _ _ _ _ _ ?_ )
    | (refine State.descParity_pending _ _ _ ?_ )
    | intro _
    | dsimp only
    | (simp only [*]; done)
    | simp [*])

@[simp] theorem State.est_otp (s : State) (l : LaneId) (d a b : Reg) :
    (State.est s l d a b).sealSt.otp = s.sealSt.otp := by
  unfold State.est
  repeat' (first
    | rfl
    | (simp [*]; done)
    | split
    | (refine (foldl_keep (fun t : State => t.sealSt.otp) _ (fun _ _ => ?_) _ _).trans ?_)
    | (refine State.begin_otp _ _ _ _ _ _ ?_ )
    | (refine State.sources_otp _ _ _ _ _ ?_ )
    | (refine State.readReg_otp _ _ _ _ _ ?_ )
    | (refine State.bounds_otp _ _ _ _ _ _ ?_ )
    | (refine State.readStore_otp _ _ _ _ _ _ ?_ )
    | (refine State.element_otp _ _ _ _ _ _ _ ?_ )
    | (refine State.descParity_otp _ _ _ ?_ )
    | intro _
    | dsimp only
    | (simp only [*]; done)
    | simp [*])

@[simp] theorem State.readTimer_pending (s : State) (l : LaneId) (i : Instr) (sub : Nat) (d a : Reg) (idle : Word) (f : Lane → Nat → Word) :
    (State.readTimer s l i sub d a idle f).pending = s.pending := by
  unfold State.readTimer
  repeat' (first
    | rfl
    | (simp [*]; done)
    | split
    | (refine (foldl_keep State.pending _ (fun _ _ => ?_) _ _).trans ?_)
    | (refine State.begin_pending _ _ _ _ _ _ ?_ )
    | (refine State.sources_pending _ _ _ _ _ ?_ )
    | (refine State.readReg_pending _ _ _ _ _ ?_ )
    | (refine State.bounds_pending _ _ _ _ _ _ ?_ )
    | (refine State.readStore_pending _ _ _ _ _ _ ?_ )
    | (refine State.element_pending _ _ _ _ _ _ _ ?_ )
    | (refine State.descParity_pending _ _ _ ?_ )
    | intro _
    | dsimp only
    | (simp only [*]; done)
    | simp [*])

@[simp] theorem State.readTimer_otp (s : State) (l : LaneId) (i : Instr) (sub : Nat) (d a : Reg) (idle : Word) (f : Lane → Nat → Word) :
    (State.readTimer s l i sub d a idle f).sealSt.otp = s.sealSt.otp := by
  unfold State.readTimer
  repeat' (first
    | rfl
    | (simp [*]; done)
    | split
    | (refine (foldl_keep (fun t : State => t.sealSt.otp) _ (fun _ _ => ?_) _ _).trans ?_)
    | (refine State.begin_otp _ _ _ _ _ _ ?_ )
    | (refine State.sources_otp _ _ _ _ _ ?_ )
    | (refine State.readReg_otp _ _ _ _ _ ?_ )
    | (refine State.bounds_otp _ _ _ _ _ _ ?_ )
    | (refine State.readStore_otp _ _ _ _ _ _ ?_ )
    | (refine State.element_otp _ _ _ _ _ _ _ ?_ )
    | (refine State.descParity_otp _ _ _ ?_ )
    | intro _
    | dsimp only
    | (simp only [*]; done)
    | simp [*])

@[simp] theorem State.readBound_pending (s : State) (l : LaneId) (sub w : Nat) (body : State) (h0 : (body).pending = (s).pending) :
    (State.readBound s l sub w body).pending = s.pending := by
  unfold State.readBound; simp [*]

@[simp] theorem State.readBound_otp (s : State) (l : LaneId) (sub w : Nat) (body : State) (h0 : (body).sealSt.otp = (s).sealSt.otp) :
    (State.readBound s l sub w body).sealSt.otp = s.sealSt.otp := by
  unfold State.readBound; simp [*]

@[simp] theorem State.edge_pending (s : State) (l : LaneId) (i : Instr) (sub : Nat) (up : Bool) (d a b : Reg) :
    (State.edge s l i sub up d a b).pending = s.pending := by
  unfold State.edge
  repeat' (first
    | rfl
    | (simp [*]; done)
    | split
    | (refine State.begin_pending _ _ _ _ _ _ ?_ )
    | (refine State.readReg_pending _ _ _ _ _ ?_ )
    | (refine State.bounds_pending _ _ _ _ _ _ ?_ )
    | (refine State.readStore_pending _ _ _ _ _ _ ?_ )
    | (refine State.readBound_pending _ _ _ _ _ ?_ )
    | intro _
    | dsimp only)

@[simp] theorem State.edge_otp (s : State) (l : LaneId) (i : Instr) (sub : Nat) (up : Bool) (d a b : Reg) :
    (State.edge s l i sub up d a b).sealSt.otp = s.sealSt.otp := by
  unfold State.edge
  repeat' (first
    | rfl
    | (simp [*]; done)
    | split
    | (refine State.begin_otp _ _ _ _ _ _ ?_ )
    | (refine State.readReg_otp _ _ _ _ _ ?_ )
    | (refine State.bounds_otp _ _ _ _ _ _ ?_ )
    | (refine State.readStore_otp _ _ _ _ _ _ ?_ )
    | (refine State.readBound_otp _ _ _ _ _ ?_ )
    | intro _
    | dsimp only)

@[simp] theorem State.dropInit_pending (s : State) (l : LaneId) :
    (State.dropInit s l).pending = s.pending := by
  unfold State.dropInit; split <;> simp

@[simp] theorem State.dropInit_otp (s : State) (l : LaneId) :
    (State.dropInit s l).sealSt.otp = s.sealSt.otp := by
  unfold State.dropInit; split <;> simp

@[simp] theorem State.engineTrap_pending (s : State) (l : LaneId) (sub bitNo object : Nat) (tval : Word) :
    (State.engineTrap s l sub bitNo object tval).pending = s.pending := by
  unfold State.engineTrap; simp

@[simp] theorem State.engineTrap_otp (s : State) (l : LaneId) (sub bitNo object : Nat) (tval : Word) :
    (State.engineTrap s l sub bitNo object tval).sealSt.otp = s.sealSt.otp := by
  unfold State.engineTrap; simp

@[simp] theorem State.rqget_pending (s : State) (l : LaneId) (d : Reg) :
    (State.rqget s l d).pending = s.pending := by
  unfold State.rqget
  repeat' (first
    | rfl
    | (simp [*]; done)
    | split
    | (refine (foldl_keep State.pending _ (fun _ _ => ?_) _ _).trans ?_)
    | (refine State.begin_pending _ _ _ _ _ _ ?_ )
    | (refine State.sources_pending _ _ _ _ _ ?_ )
    | (refine State.readReg_pending _ _ _ _ _ ?_ )
    | (refine State.bounds_pending _ _ _ _ _ _ ?_ )
    | (refine State.readStore_pending _ _ _ _ _ _ ?_ )
    | (refine State.element_pending _ _ _ _ _ _ _ ?_ )
    | (refine State.descParity_pending _ _ _ ?_ )
    | intro _
    | dsimp only
    | (simp only [*]; done)
    | simp [*])

@[simp] theorem State.rqget_otp (s : State) (l : LaneId) (d : Reg) :
    (State.rqget s l d).sealSt.otp = s.sealSt.otp := by
  unfold State.rqget
  repeat' (first
    | rfl
    | (simp [*]; done)
    | split
    | (refine (foldl_keep (fun t : State => t.sealSt.otp) _ (fun _ _ => ?_) _ _).trans ?_)
    | (refine State.begin_otp _ _ _ _ _ _ ?_ )
    | (refine State.sources_otp _ _ _ _ _ ?_ )
    | (refine State.readReg_otp _ _ _ _ _ ?_ )
    | (refine State.bounds_otp _ _ _ _ _ _ ?_ )
    | (refine State.readStore_otp _ _ _ _ _ _ ?_ )
    | (refine State.element_otp _ _ _ _ _ _ _ ?_ )
    | (refine State.descParity_otp _ _ _ ?_ )
    | intro _
    | dsimp only
    | (simp only [*]; done)
    | simp [*])

@[simp] theorem State.rwait_pending (s : State) (l : LaneId) :
    (State.rwait s l).pending = s.pending := by
  unfold State.rwait; simp

@[simp] theorem State.rwait_otp (s : State) (l : LaneId) :
    (State.rwait s l).sealSt.otp = s.sealSt.otp := by
  unfold State.rwait; simp

@[simp] theorem State.denied_pending (s : State) (l : LaneId) (sub : Nat) (d : Option (Nat × Right)) (body : State) (h0 : (body).pending = (s).pending) :
    (State.denied s l sub d body).pending = s.pending := by
  unfold State.denied
  repeat' (first
    | rfl
    | (simp [*]; done)
    | split
    | (refine (foldl_keep State.pending _ (fun _ _ => ?_) _ _).trans ?_)
    | (refine State.begin_pending _ _ _ _ _ _ ?_ )
    | (refine State.sources_pending _ _ _ _ _ ?_ )
    | (refine State.readReg_pending _ _ _ _ _ ?_ )
    | (refine State.bounds_pending _ _ _ _ _ _ ?_ )
    | (refine State.readStore_pending _ _ _ _ _ _ ?_ )
    | (refine State.element_pending _ _ _ _ _ _ _ ?_ )
    | (refine State.descParity_pending _ _ _ ?_ )
    | intro _
    | dsimp only
    | (simp only [*]; done)
    | simp [*])

@[simp] theorem State.denied_otp (s : State) (l : LaneId) (sub : Nat) (d : Option (Nat × Right)) (body : State) (h0 : (body).sealSt.otp = (s).sealSt.otp) :
    (State.denied s l sub d body).sealSt.otp = s.sealSt.otp := by
  unfold State.denied
  repeat' (first
    | rfl
    | (simp [*]; done)
    | split
    | (refine (foldl_keep (fun t : State => t.sealSt.otp) _ (fun _ _ => ?_) _ _).trans ?_)
    | (refine State.begin_otp _ _ _ _ _ _ ?_ )
    | (refine State.sources_otp _ _ _ _ _ ?_ )
    | (refine State.readReg_otp _ _ _ _ _ ?_ )
    | (refine State.bounds_otp _ _ _ _ _ _ ?_ )
    | (refine State.readStore_otp _ _ _ _ _ _ ?_ )
    | (refine State.denied_otp _ _ _ _ _ ?_ )
    | (refine State.element_otp _ _ _ _ _ _ _ ?_ )
    | (refine State.descParity_otp _ _ _ ?_ )
    | intro _
    | dsimp only
    | (simp only [*]; done)
    | simp [*])

@[simp] theorem State.linkTrap_pending (s : State) (l : LaneId) (sub : Nat) (a : Word) (reason : Nat) :
    (State.linkTrap s l sub a reason).pending = s.pending := by
  unfold State.linkTrap; simp

@[simp] theorem State.linkTrap_otp (s : State) (l : LaneId) (sub : Nat) (a : Word) (reason : Nat) :
    (State.linkTrap s l sub a reason).sealSt.otp = s.sealSt.otp := by
  unfold State.linkTrap; simp

@[simp] theorem State.readDir_pending (s : State) (l : LaneId) (p off : Nat) (body : State) (h0 : (body).pending = (s).pending) :
    (State.readDir s l p off body).pending = s.pending := by
  unfold State.readDir; simp [*]

@[simp] theorem State.readDir_otp (s : State) (l : LaneId) (p off : Nat) (body : State) (h0 : (body).sealSt.otp = (s).sealSt.otp) :
    (State.readDir s l p off body).sealSt.otp = s.sealSt.otp := by
  unfold State.readDir; simp [*]

@[simp] theorem State.initReturned_pending (s : State) (l : LaneId) (p : Nat) (rest : List Nat) :
    (State.initReturned s l p rest).pending = s.pending := by
  unfold State.initReturned
  repeat' (first | rfl | (simp; done) | split | dsimp only | (refine (foldl_keep State.pending _ (fun _ _ => ?_) _ _).trans ?_))

@[simp] theorem State.initReturned_otp (s : State) (l : LaneId) (p : Nat) (rest : List Nat) :
    (State.initReturned s l p rest).sealSt.otp = s.sealSt.otp := by
  unfold State.initReturned
  repeat' (first | rfl | (simp; done) | split | dsimp only | (refine (foldl_keep (fun t : State => t.sealSt.otp) _ (fun _ _ => ?_) _ _).trans ?_))

@[simp] theorem State.engineDo_pending (s : State) (l : LaneId) (kind : Nat) :
    (State.engineDo s l kind).pending = s.pending := by
  unfold State.engineDo; split <;> simp

@[simp] theorem State.engineDo_otp (s : State) (l : LaneId) (kind : Nat) :
    (State.engineDo s l kind).sealSt.otp = s.sealSt.otp := by
  unfold State.engineDo; split <;> simp

@[simp] theorem State.denyWrite_pending (s : State) (v : View) (addr : Nat) :
    (State.denyWrite s v addr).pending = s.pending := by
  unfold State.denyWrite
  repeat' (first | rfl | (simp; done) | split | dsimp only | (refine (foldl_keep State.pending _ (fun _ _ => ?_) _ _).trans ?_))

@[simp] theorem State.denyWrite_otp (s : State) (v : View) (addr : Nat) :
    (State.denyWrite s v addr).sealSt.otp = s.sealSt.otp := by
  unfold State.denyWrite
  repeat' (first | rfl | (simp; done) | split | dsimp only | (refine (foldl_keep (fun t : State => t.sealSt.otp) _ (fun _ _ => ?_) _ _).trans ?_))

@[simp] theorem State.engineEnable_pending (s : State) (l : LaneId) (on : Bool) :
    (State.engineEnable s l on).pending = s.pending := by
  unfold State.engineEnable; simp

@[simp] theorem State.engineEnable_otp (s : State) (l : LaneId) (on : Bool) :
    (State.engineEnable s l on).sealSt.otp = s.sealSt.otp := by
  unfold State.engineEnable; simp

@[simp] theorem State.writeRouteCtrl_pending (s : State) (l : LaneId) (w : Word) :
    (State.writeRouteCtrl s l w).pending = s.pending := by
  unfold State.writeRouteCtrl; simp

@[simp] theorem State.writeRouteCtrl_otp (s : State) (l : LaneId) (w : Word) :
    (State.writeRouteCtrl s l w).sealSt.otp = s.sealSt.otp := by
  unfold State.writeRouteCtrl; simp

@[simp] theorem State.writeRoute_pending (s : State) (l : LaneId) (off : Nat) (w : Word) :
    (State.writeRoute s l off w).pending = s.pending := by
  unfold State.writeRoute; split <;> simp

@[simp] theorem State.writeRoute_otp (s : State) (l : LaneId) (off : Nat) (w : Word) :
    (State.writeRoute s l off w).sealSt.otp = s.sealSt.otp := by
  unfold State.writeRoute; split <;> simp

@[simp] theorem State.clearRoute_pending (s : State) (l : LaneId) (off : Nat) :
    (State.clearRoute s l off).pending = s.pending := by
  rfl

@[simp] theorem State.clearRoute_otp (s : State) (l : LaneId) (off : Nat) :
    (State.clearRoute s l off).sealSt.otp = s.sealSt.otp := by
  rfl

@[simp] theorem State.cvuWrite_pending (s : State) (v : View) (u : Nat) (f : Cvu → Cvu) :
    (State.cvuWrite s v u f).pending = s.pending := by
  unfold State.cvuWrite; split <;> simp

@[simp] theorem State.cvuWrite_otp (s : State) (v : View) (u : Nat) (f : Cvu → Cvu) :
    (State.cvuWrite s v u f).sealSt.otp = s.sealSt.otp := by
  unfold State.cvuWrite; split <;> simp

@[simp] theorem State.recCommit_pending (s : State) (l : LaneId) (w : Word) :
    (State.recCommit s l w).pending = s.pending := by
  unfold State.recCommit; simp

@[simp] theorem State.recCommit_otp (s : State) (l : LaneId) (w : Word) :
    (State.recCommit s l w).sealSt.otp = s.sealSt.otp := by
  unfold State.recCommit; simp

@[simp] theorem State.applyEntry_pending (s : State) (c : Nat) (w : Word) :
    (State.applyEntry s c w).pending = s.pending := by
  unfold State.applyEntry; simp

@[simp] theorem State.applyEntry_otp (s : State) (c : Nat) (w : Word) :
    (State.applyEntry s c w).sealSt.otp = s.sealSt.otp := by
  unfold State.applyEntry; simp

@[simp] theorem State.recOffer_pending (s : State) (l : LaneId) (w : Word) :
    (State.recOffer s l w).pending = s.pending := by
  unfold State.recOffer; simp

@[simp] theorem State.recOffer_otp (s : State) (l : LaneId) (w : Word) :
    (State.recOffer s l w).sealSt.otp = s.sealSt.otp := by
  unfold State.recOffer; simp

@[simp] theorem State.recCommand_pending (s : State) (w : Word) :
    (State.recCommand s w).pending = s.pending := by
  unfold State.recCommand; simp

@[simp] theorem State.recCommand_otp (s : State) (w : Word) :
    (State.recCommand s w).sealSt.otp = s.sealSt.otp := by
  unfold State.recCommand; simp

@[simp] theorem State.writeRec_pending (s : State) (l : LaneId) (off : Nat) (w : Word) :
    (State.writeRec s l off w).pending = s.pending := by
  unfold State.writeRec; split <;> simp

@[simp] theorem State.writeRec_otp (s : State) (l : LaneId) (off : Nat) (w : Word) :
    (State.writeRec s l off w).sealSt.otp = s.sealSt.otp := by
  unfold State.writeRec
  dsimp only
  split
  · simp
  · simp
  · simp
  · simp
  · simp
  · simp
  · split <;> simp
  · simp
  · rfl

@[simp] theorem State.flushAll_pending (s : State) (n : Nat) : (s.flushAll n).1.pending = s.pending := by
  induction n generalizing s with
  | zero => rfl
  | succ n ih =>
    unfold State.flushAll
    split
    · rfl
    · split
      · rfl
      · dsimp only; rw [ih]; simp

@[simp] theorem State.flushRun_pending (s : State) (b : Bool) (n : Nat) : (s.flushRun b n).1.pending = s.pending := by
  induction n generalizing s with
  | zero => unfold State.flushRun; exact State.flushAll_pending ..
  | succ n ih =>
    unfold State.flushRun
    dsimp only
    split
    · exact State.flushAll_pending ..
    · rw [ih, State.drainOne_pending]; exact State.flushAll_pending ..

@[simp] theorem State.flushAll_otp (s : State) (n : Nat) : (s.flushAll n).1.sealSt.otp = s.sealSt.otp := by
  induction n generalizing s with
  | zero => rfl
  | succ n ih =>
    unfold State.flushAll
    split
    · rfl
    · split
      · rfl
      · dsimp only; rw [ih]; simp

@[simp] theorem State.flushRun_otp (s : State) (b : Bool) (n : Nat) : (s.flushRun b n).1.sealSt.otp = s.sealSt.otp := by
  induction n generalizing s with
  | zero => unfold State.flushRun; exact State.flushAll_otp ..
  | succ n ih =>
    unfold State.flushRun
    dsimp only
    split
    · exact State.flushAll_otp ..
    · rw [ih, State.drainOne_otp]; exact State.flushAll_otp ..

@[simp] theorem State.flushEnd_pending (s : State) (failed : Nat) :
    (State.flushEnd s failed).pending = s.pending := by
  unfold State.flushEnd
  repeat' (first | rfl | (simp; done) | split | dsimp only | (refine (foldl_keep State.pending _ (fun _ _ => ?_) _ _).trans ?_))

@[simp] theorem State.flushEnd_otp (s : State) (failed : Nat) :
    (State.flushEnd s failed).sealSt.otp = s.sealSt.otp := by
  unfold State.flushEnd
  repeat' (first | rfl | (simp; done) | split | dsimp only | (refine (foldl_keep (fun t : State => t.sealSt.otp) _ (fun _ _ => ?_) _ _).trans ?_))

@[simp] theorem State.onChan_pending (s : State) (l : LaneId) (ch : Channel) (f : Chan → Chan) :
    (State.onChan s l ch f).pending = s.pending := by
  rfl

@[simp] theorem State.onChan_otp (s : State) (l : LaneId) (ch : Channel) (f : Chan → Chan) :
    (State.onChan s l ch f).sealSt.otp = s.sealSt.otp := by
  rfl

@[simp] theorem State.chanWrite_pending (s : State) (v : View) (ch : Channel) (off : Nat) (w : Word) :
    (State.chanWrite s v ch off w).pending = s.pending := by
  unfold State.chanWrite; split <;> simp

@[simp] theorem State.chanWrite_otp (s : State) (v : View) (ch : Channel) (off : Nat) (w : Word) :
    (State.chanWrite s v ch off w).sealSt.otp = s.sealSt.otp := by
  unfold State.chanWrite; split <;> simp

@[simp] theorem State.chanRead_pending (s : State) (v : View) (ch : Channel) (off : Nat) :
    (State.chanRead s v ch off).pending = s.pending := by
  unfold State.chanRead; split <;> simp

@[simp] theorem State.chanRead_otp (s : State) (v : View) (ch : Channel) (off : Nat) :
    (State.chanRead s v ch off).sealSt.otp = s.sealSt.otp := by
  unfold State.chanRead; split <;> simp

@[simp] theorem State.broadcast_pending (s : State) (l : LaneId) (w : Word) :
    (State.broadcast s l w).pending = s.pending := by
  unfold State.broadcast; simp

@[simp] theorem State.broadcast_otp (s : State) (l : LaneId) (w : Word) :
    (State.broadcast s l w).sealSt.otp = s.sealSt.otp := by
  unfold State.broadcast; simp

@[simp] theorem State.broadcastDb_pending (s : State) (w : Word) :
    (State.broadcastDb s w).pending = s.pending := by
  unfold State.broadcastDb; simp

@[simp] theorem State.broadcastDb_otp (s : State) (w : Word) :
    (State.broadcastDb s w).sealSt.otp = s.sealSt.otp := by
  unfold State.broadcastDb; simp

@[simp] theorem State.secureOnly_pending (s : State) (v : View) (f : LaneId → State) (h0 : ∀ (u0 : LaneId), ((f u0).pending) = (s).pending) :
    (State.secureOnly s v f).pending = s.pending := by
  unfold State.secureOnly
  repeat' (first
    | rfl
    | (simp [*]; done)
    | split
    | (refine (foldl_keep State.pending _ (fun _ _ => ?_) _ _).trans ?_)
    | (refine State.begin_pending _ _ _ _ _ _ ?_ )
    | (refine State.sources_pending _ _ _ _ _ ?_ )
    | (refine State.readReg_pending _ _ _ _ _ ?_ )
    | (refine State.bounds_pending _ _ _ _ _ _ ?_ )
    | (refine State.readStore_pending _ _ _ _ _ _ ?_ )
    | (refine State.denied_pending _ _ _ _ _ ?_ )
    | (refine State.element_pending _ _ _ _ _ _ _ ?_ )
    | (refine State.descParity_pending _ _ _ ?_ )
    | intro _
    | dsimp only
    | (simp only [*]; done)
    | simp [*])

@[simp] theorem State.secureOnly_otp (s : State) (v : View) (f : LaneId → State) (h0 : ∀ (u0 : LaneId), ((f u0).sealSt.otp) = (s).sealSt.otp) :
    (State.secureOnly s v f).sealSt.otp = s.sealSt.otp := by
  unfold State.secureOnly
  repeat' (first
    | rfl
    | (simp [*]; done)
    | split
    | (refine (foldl_keep (fun t : State => t.sealSt.otp) _ (fun _ _ => ?_) _ _).trans ?_)
    | (refine State.begin_otp _ _ _ _ _ _ ?_ )
    | (refine State.sources_otp _ _ _ _ _ ?_ )
    | (refine State.readReg_otp _ _ _ _ _ ?_ )
    | (refine State.bounds_otp _ _ _ _ _ _ ?_ )
    | (refine State.readStore_otp _ _ _ _ _ _ ?_ )
    | (refine State.denied_otp _ _ _ _ _ ?_ )
    | (refine State.element_otp _ _ _ _ _ _ _ ?_ )
    | (refine State.descParity_otp _ _ _ ?_ )
    | intro _
    | dsimp only
    | (simp only [*]; done)
    | simp [*])

@[simp] theorem State.svcCommand_pending (s : State) (w : Word) :
    (State.svcCommand s w).pending = s.pending := by
  unfold State.svcCommand; simp

@[simp] theorem State.svcCommand_otp (s : State) (w : Word) :
    (State.svcCommand s w).sealSt.otp = s.sealSt.otp := by
  unfold State.svcCommand; simp

@[simp] theorem State.staged_pending (s : State) (sid : Option Nat) (c : ChgBuf) :
    (State.staged s sid c).pending = s.pending := by
  rfl

@[simp] theorem State.staged_otp (s : State) (sid : Option Nat) (c : ChgBuf) :
    (State.staged s sid c).sealSt.otp = s.sealSt.otp := by
  rfl

@[simp] theorem State.mboxWrite_pending (s : State) (v : View) (off : Nat) (w : Word) :
    (State.mboxWrite s v off w).pending = s.pending := by
  unfold State.mboxWrite
  repeat' (first | rfl | (simp; done) | split | dsimp only | (refine (foldl_keep State.pending _ (fun _ _ => ?_) _ _).trans ?_))

@[simp] theorem State.mboxWrite_otp (s : State) (v : View) (off : Nat) (w : Word) :
    (State.mboxWrite s v off w).sealSt.otp = s.sealSt.otp := by
  unfold State.mboxWrite
  repeat' (first | rfl | (simp; done) | split | dsimp only | (refine (foldl_keep (fun t : State => t.sealSt.otp) _ (fun _ _ => ?_) _ _).trans ?_))

@[simp] theorem State.mboxRead_pending (s : State) (v : View) (off : Nat) :
    (State.mboxRead s v off).pending = s.pending := by
  unfold State.mboxRead; simp

@[simp] theorem State.mboxRead_otp (s : State) (v : View) (off : Nat) :
    (State.mboxRead s v off).sealSt.otp = s.sealSt.otp := by
  unfold State.mboxRead; simp

@[simp] theorem State.semaRead_pending (s : State) (v : View) (n : Nat) :
    (State.semaRead s v n).pending = s.pending := by
  rfl

@[simp] theorem State.semaRead_otp (s : State) (v : View) (n : Nat) :
    (State.semaRead s v n).sealSt.otp = s.sealSt.otp := by
  rfl

@[simp] theorem State.semaWrite_pending (s : State) (v : View) (n : Nat) (w : Word) :
    (State.semaWrite s v n w).pending = s.pending := by
  rfl

@[simp] theorem State.semaWrite_otp (s : State) (v : View) (n : Nat) (w : Word) :
    (State.semaWrite s v n w).sealSt.otp = s.sealSt.otp := by
  rfl

@[simp] theorem State.semaBlockWrite_pending (s : State) (v : View) (off : Nat) (w : Word) :
    (State.semaBlockWrite s v off w).pending = s.pending := by
  unfold State.semaBlockWrite; split <;> simp

@[simp] theorem State.semaBlockWrite_otp (s : State) (v : View) (off : Nat) (w : Word) :
    (State.semaBlockWrite s v off w).sealSt.otp = s.sealSt.otp := by
  unfold State.semaBlockWrite; split <;> simp

@[simp] theorem State.semaBlockRead_pending (s : State) (v : View) (off : Nat) :
    (State.semaBlockRead s v off).pending = s.pending := by
  unfold State.semaBlockRead
  repeat' (first | rfl | (simp; done) | split | dsimp only | (refine (foldl_keep State.pending _ (fun _ _ => ?_) _ _).trans ?_))

@[simp] theorem State.semaBlockRead_otp (s : State) (v : View) (off : Nat) :
    (State.semaBlockRead s v off).sealSt.otp = s.sealSt.otp := by
  unfold State.semaBlockRead
  repeat' (first | rfl | (simp; done) | split | dsimp only | (refine (foldl_keep (fun t : State => t.sealSt.otp) _ (fun _ _ => ?_) _ _).trans ?_))

@[simp] theorem State.sealChange_pending (s : State) :
    (State.sealChange s).pending = s.pending := by
  unfold State.sealChange; simp

@[simp] theorem State.sealChange_otp (s : State) :
    (State.sealChange s).sealSt.otp = s.sealSt.otp := by
  unfold State.sealChange; simp

@[simp] theorem State.sealGlitch_pending (s : State) :
    (State.sealGlitch s).pending = s.pending := by
  unfold State.sealGlitch; simp

@[simp] theorem State.sealGlitch_otp (s : State) :
    (State.sealGlitch s).sealSt.otp = s.sealSt.otp := by
  unfold State.sealGlitch; simp

@[simp] theorem State.burned_pending (s : State) (kind arg : Nat) (k : Seal) :
    (State.burned s kind arg k).pending = s.pending := by
  unfold State.burned; simp

@[simp] theorem State.doBurnGeneration_pending (s : State) (w0 w1 w2 w3 : DWord) (torn : Option (BitVec 256)) :
    ∀ t, State.doBurnGeneration s w0 w1 w2 w3 torn = some t → t.pending = s.pending := by
  intro t h; unfold State.doBurnGeneration at h; revert h
  repeat' (first | (intro h; simp at h; done) | (intro h; simp at h; subst h; simp; done) | (intro h; simp at h; rw [← h]; simp; done) | split | dsimp only)

@[simp] theorem State.doBurnRetire_pending (s : State) (g : Nat) :
    ∀ t, State.doBurnRetire s g = some t → t.pending = s.pending := by
  intro t h; unfold State.doBurnRetire at h; revert h
  repeat' (first | (intro h; simp at h; done) | (intro h; simp at h; subst h; simp; done) | (intro h; simp at h; rw [← h]; simp; done) | split | dsimp only)

@[simp] theorem State.doBurnKeySlot_pending (s : State) (slot : Nat) (hash : BitVec 512) (torn : Option (BitVec 512 × Bool)) :
    ∀ t, State.doBurnKeySlot s slot hash torn = some t → t.pending = s.pending := by
  intro t h; unfold State.doBurnKeySlot at h; revert h
  repeat' (first | (intro h; simp at h; done) | (intro h; simp at h; subst h; simp; done) | (intro h; simp at h; rw [← h]; simp; done) | split | dsimp only)

@[simp] theorem State.doBurnRevoked_pending (s : State) (slot : Nat) :
    ∀ t, State.doBurnRevoked s slot = some t → t.pending = s.pending := by
  intro t h; unfold State.doBurnRevoked at h; revert h
  repeat' (first | (intro h; simp at h; done) | (intro h; simp at h; subst h; simp; done) | (intro h; simp at h; rw [← h]; simp; done) | split | dsimp only)

@[simp] theorem State.clearSeal_pending (s : State) (off : Nat) :
    (State.clearSeal s off).pending = s.pending := by
  unfold State.clearSeal; simp

@[simp] theorem State.clearSeal_otp (s : State) (off : Nat) :
    (State.clearSeal s off).sealSt.otp = s.sealSt.otp := by
  unfold State.clearSeal; simp

@[simp] theorem State.writeMeas_pending (s : State) (l : LaneId) (off : Nat) (w : Word) :
    (State.writeMeas s l off w).pending = s.pending := by
  rfl

@[simp] theorem State.writeMeas_otp (s : State) (l : LaneId) (off : Nat) (w : Word) :
    (State.writeMeas s l off w).sealSt.otp = s.sealSt.otp := by
  rfl

@[simp] theorem State.settleMeas_pending (s : State) (l : LaneId) (off : Nat) :
    (State.settleMeas s l off).pending = s.pending := by
  unfold State.settleMeas; simp

@[simp] theorem State.settleMeas_otp (s : State) (l : LaneId) (off : Nat) :
    (State.settleMeas s l off).sealSt.otp = s.sealSt.otp := by
  unfold State.settleMeas; simp

@[simp] theorem State.doBurnSvn_pending (s : State) :
    ∀ t, State.doBurnSvn s = some t → t.pending = s.pending := by
  intro t h; unfold State.doBurnSvn at h; revert h
  repeat' (first | (intro h; simp at h; done) | (intro h; simp at h; subst h; simp; done) | (intro h; simp at h; rw [← h]; simp; done) | split | dsimp only)

@[simp] theorem State.recordForces_pending (s : State) (b : List Byte) (rc : State → List Word → State) (h0 : ∀ (u0 : State) (u1 : List Word), ((rc u0 u1).pending) = (u0).pending) :
    (State.recordForces s b rc).pending = s.pending := by
  unfold State.recordForces; simp [*]

@[simp] theorem State.recordForces_otp (s : State) (b : List Byte) (rc : State → List Word → State) (h0 : ∀ (u0 : State) (u1 : List Word), ((rc u0 u1).sealSt.otp) = (u0).sealSt.otp) :
    (State.recordForces s b rc).sealSt.otp = s.sealSt.otp := by
  unfold State.recordForces; simp [*]

@[simp] theorem State.releaseBuffer_pending (s : State) :
    (State.releaseBuffer s).pending = s.pending := by
  rfl

@[simp] theorem State.releaseBuffer_otp (s : State) :
    (State.releaseBuffer s).sealSt.otp = s.sealSt.otp := by
  rfl

@[simp] theorem State.dropPending_pending (s : State) :
    (State.dropPending s).pending = s.pending := by
  rfl

@[simp] theorem State.dropPending_otp (s : State) :
    (State.dropPending s).sealSt.otp = s.sealSt.otp := by
  rfl

@[simp] theorem State.applyNow_pending (s : State) (p : PendingChange) :
    (State.applyNow s p).pending = s.pending := by
  unfold State.applyNow
  repeat' (first
    | rfl
    | (simp [*]; done)
    | split
    | (refine (foldl_keep State.pending _ (fun _ _ => ?_) _ _).trans ?_)
    | (refine State.begin_pending _ _ _ _ _ _ ?_ )
    | (refine State.sources_pending _ _ _ _ _ ?_ )
    | (refine State.readReg_pending _ _ _ _ _ ?_ )
    | (refine State.bounds_pending _ _ _ _ _ _ ?_ )
    | (refine State.readStore_pending _ _ _ _ _ _ ?_ )
    | (refine State.denied_pending _ _ _ _ _ ?_ )
    | (refine State.element_pending _ _ _ _ _ _ _ ?_ )
    | (refine State.descParity_pending _ _ _ ?_ )
    | intro _
    | dsimp only
    | (simp only [*]; done)
    | simp [*])

@[simp] theorem State.applyNow_otp (s : State) (p : PendingChange) :
    (State.applyNow s p).sealSt.otp = s.sealSt.otp := by
  unfold State.applyNow
  repeat' (first
    | rfl
    | (simp [*]; done)
    | split
    | (refine (foldl_keep (fun t : State => t.sealSt.otp) _ (fun _ _ => ?_) _ _).trans ?_)
    | (refine State.begin_otp _ _ _ _ _ _ ?_ )
    | (refine State.sources_otp _ _ _ _ _ ?_ )
    | (refine State.readReg_otp _ _ _ _ _ ?_ )
    | (refine State.bounds_otp _ _ _ _ _ _ ?_ )
    | (refine State.readStore_otp _ _ _ _ _ _ ?_ )
    | (refine State.denied_otp _ _ _ _ _ ?_ )
    | (refine State.element_otp _ _ _ _ _ _ _ ?_ )
    | (refine State.descParity_otp _ _ _ ?_ )
    | intro _
    | dsimp only
    | (simp only [*]; done)
    | simp [*])

@[simp] theorem State.applyDue_pending (s : State) (kinds : List Nat) :
    (State.applyDue s kinds).pending = s.pending := by
  unfold State.applyDue; split <;> simp

@[simp] theorem State.applyDue_otp (s : State) (kinds : List Nat) :
    (State.applyDue s kinds).sealSt.otp = s.sealSt.otp := by
  unfold State.applyDue; split <;> simp

@[simp] theorem State.latchChange_pending (s : State) :
    (State.latchChange s).pending = s.pending := by
  unfold State.latchChange
  repeat' (first | rfl | (simp; done) | split | dsimp only | (refine (foldl_keep State.pending _ (fun _ _ => ?_) _ _).trans ?_))

@[simp] theorem State.latchChange_otp (s : State) :
    (State.latchChange s).sealSt.otp = s.sealSt.otp := by
  unfold State.latchChange
  repeat' (first | rfl | (simp; done) | split | dsimp only | (refine (foldl_keep (fun t : State => t.sealSt.otp) _ (fun _ _ => ?_) _ _).trans ?_))

@[simp] theorem State.changeSlice_pending (s : State) (l : LaneId) :
    (State.changeSlice s l).pending = s.pending := by
  unfold State.changeSlice; split <;> simp

@[simp] theorem State.changeSlice_otp (s : State) (l : LaneId) :
    (State.changeSlice s l).sealSt.otp = s.sealSt.otp := by
  unfold State.changeSlice; split <;> simp

@[simp] theorem State.postVerdict_pending (s : State) :
    (State.postVerdict s).pending = s.pending := by
  unfold State.postVerdict
  repeat' (first
    | rfl
    | (simp [*]; done)
    | split
    | (refine (foldl_keep State.pending _ (fun _ _ => ?_) _ _).trans ?_)
    | (refine State.begin_pending _ _ _ _ _ _ ?_ )
    | (refine State.sources_pending _ _ _ _ _ ?_ )
    | (refine State.readReg_pending _ _ _ _ _ ?_ )
    | (refine State.bounds_pending _ _ _ _ _ _ ?_ )
    | (refine State.readStore_pending _ _ _ _ _ _ ?_ )
    | (refine State.denied_pending _ _ _ _ _ ?_ )
    | (refine State.element_pending _ _ _ _ _ _ _ ?_ )
    | (refine State.descParity_pending _ _ _ ?_ )
    | intro _
    | dsimp only
    | (simp only [*]; done)
    | simp [*])

@[simp] theorem State.postVerdict_otp (s : State) :
    (State.postVerdict s).sealSt.otp = s.sealSt.otp := by
  unfold State.postVerdict
  repeat' (first
    | rfl
    | (simp [*]; done)
    | split
    | (refine (foldl_keep (fun t : State => t.sealSt.otp) _ (fun _ _ => ?_) _ _).trans ?_)
    | (refine State.begin_otp _ _ _ _ _ _ ?_ )
    | (refine State.sources_otp _ _ _ _ _ ?_ )
    | (refine State.readReg_otp _ _ _ _ _ ?_ )
    | (refine State.bounds_otp _ _ _ _ _ _ ?_ )
    | (refine State.readStore_otp _ _ _ _ _ _ ?_ )
    | (refine State.denied_otp _ _ _ _ _ ?_ )
    | (refine State.element_otp _ _ _ _ _ _ _ ?_ )
    | (refine State.descParity_otp _ _ _ ?_ )
    | intro _
    | dsimp only
    | (simp only [*]; done)
    | simp [*])

@[simp] theorem State.holdTake_pending (s : State) (l : LaneId) :
    (State.holdTake s l).pending = s.pending := by
  unfold State.holdTake; simp

@[simp] theorem State.holdTake_otp (s : State) (l : LaneId) :
    (State.holdTake s l).sealSt.otp = s.sealSt.otp := by
  unfold State.holdTake; simp

@[simp] theorem State.forward_pending (s : State) (p : Port) (f : Frame) (bytes : List Byte) (ns : Nat) :
    (State.forward s p f bytes ns).pending = s.pending := by
  rfl

@[simp] theorem State.forward_otp (s : State) (p : Port) (f : Frame) (bytes : List Byte) (ns : Nat) :
    (State.forward s p f bytes ns).sealSt.otp = s.sealSt.otp := by
  rfl

@[simp] theorem State.coldCollision_pending (s : State) :
    (State.coldCollision s).pending = s.pending := by
  unfold State.coldCollision; simp

@[simp] theorem State.coldCollision_otp (s : State) :
    (State.coldCollision s).sealSt.otp = s.sealSt.otp := by
  unfold State.coldCollision; simp

@[simp] theorem State.ringCut_pending (s : State) (p : Port) (source reason : Nat) :
    (State.ringCut s p source reason).pending = s.pending := by
  unfold State.ringCut; simp

@[simp] theorem State.ringCut_otp (s : State) (p : Port) (source reason : Nat) :
    (State.ringCut s p source reason).sealSt.otp = s.sealSt.otp := by
  unfold State.ringCut; simp

@[simp] theorem State.guardian_pending (s : State) (p : Port) (f : Frame) (ns : Nat) :
    (State.guardian s p f ns).1.pending = s.pending := by
  unfold State.guardian
  repeat' (first | rfl | (simp; done) | split | dsimp only | (refine (foldl_keep State.pending _ (fun _ _ => ?_) _ _).trans ?_))

@[simp] theorem State.guardian_otp (s : State) (p : Port) (f : Frame) (ns : Nat) :
    (State.guardian s p f ns).1.sealSt.otp = s.sealSt.otp := by
  unfold State.guardian
  repeat' (first | rfl | (simp; done) | split | dsimp only | (refine (foldl_keep (fun t : State => t.sealSt.otp) _ (fun _ _ => ?_) _ _).trans ?_))

@[simp] theorem State.watch_pending (s : State) (p : Port) (f : Frame) (len ns : Nat) :
    (State.watch s p f len ns).pending = s.pending := by
  unfold State.watch; simp

@[simp] theorem State.watch_otp (s : State) (p : Port) (f : Frame) (len ns : Nat) :
    (State.watch s p f len ns).sealSt.otp = s.sealSt.otp := by
  unfold State.watch; simp

@[simp] theorem State.truncate_pending (s : State) (p : Port) (start limit : Nat) :
    (State.truncate s p start limit).pending = s.pending := by
  rfl

@[simp] theorem State.truncate_otp (s : State) (p : Port) (start limit : Nat) :
    (State.truncate s p start limit).sealSt.otp = s.sealSt.otp := by
  rfl

@[simp] theorem State.reading_pending (s : State) (p : Port) (f : Frame) (i ns : Nat) (fwd : Bool) :
    (State.reading s p f i ns fwd).pending = s.pending := by
  unfold State.reading; simp

@[simp] theorem State.reading_otp (s : State) (p : Port) (f : Frame) (i ns : Nat) (fwd : Bool) :
    (State.reading s p f i ns fwd).sealSt.otp = s.sealSt.otp := by
  unfold State.reading; simp

@[simp] theorem State.acquire_pending (s : State) (nt : Nat) (armedNow : Bool) :
    (State.acquire s nt armedNow).pending = s.pending := by
  rfl

@[simp] theorem State.acquire_otp (s : State) (nt : Nat) (armedNow : Bool) :
    (State.acquire s nt armedNow).sealSt.otp = s.sealSt.otp := by
  rfl

@[simp] theorem State.lanesStop_pending (s : State) (name : RecName) (ps : List Word) :
    (State.lanesStop s name ps).pending = s.pending := by
  unfold State.lanesStop; simp

@[simp] theorem State.lanesStop_otp (s : State) (name : RecName) (ps : List Word) :
    (State.lanesStop s name ps).sealSt.otp = s.sealSt.otp := by
  unfold State.lanesStop; simp

@[simp] theorem State.observeTn_pending (s : State) (f : Frame) (ns : Nat) :
    (State.observeTn s f ns).pending = s.pending := by
  unfold State.observeTn
  repeat' (first | rfl | (simp; done) | split | dsimp only | (refine (foldl_keep State.pending _ (fun _ _ => ?_) _ _).trans ?_))

@[simp] theorem State.observeTn_otp (s : State) (f : Frame) (ns : Nat) :
    (State.observeTn s f ns).sealSt.otp = s.sealSt.otp := by
  unfold State.observeTn
  repeat' (first | rfl | (simp; done) | split | dsimp only | (refine (foldl_keep (fun t : State => t.sealSt.otp) _ (fun _ _ => ?_) _ _).trans ?_))

@[simp] theorem State.syncFrame_pending (s : State) (p : Port) (f : Frame) (i ns : Nat) (fwd : Bool) :
    (State.syncFrame s p f i ns fwd).pending = s.pending := by
  unfold State.syncFrame; simp

@[simp] theorem State.syncFrame_otp (s : State) (p : Port) (f : Frame) (i ns : Nat) (fwd : Bool) :
    (State.syncFrame s p f i ns fwd).sealSt.otp = s.sealSt.otp := by
  unfold State.syncFrame; simp

@[simp] theorem State.observe_pending (s : State) (p : Port) (f : Frame) (ns : Nat) (fwd : Bool) :
    (State.observe s p f ns fwd).pending = s.pending := by
  unfold State.observe
  repeat' (first
    | rfl
    | (simp [*]; done)
    | split
    | (refine (foldl_keep State.pending _ (fun _ _ => ?_) _ _).trans ?_)
    | (refine State.begin_pending _ _ _ _ _ _ ?_ )
    | (refine State.sources_pending _ _ _ _ _ ?_ )
    | (refine State.readReg_pending _ _ _ _ _ ?_ )
    | (refine State.bounds_pending _ _ _ _ _ _ ?_ )
    | (refine State.readStore_pending _ _ _ _ _ _ ?_ )
    | (refine State.denied_pending _ _ _ _ _ ?_ )
    | (refine State.element_pending _ _ _ _ _ _ _ ?_ )
    | (refine State.descParity_pending _ _ _ ?_ )
    | intro _
    | dsimp only
    | (simp only [*]; done)
    | simp [*])

@[simp] theorem State.observe_otp (s : State) (p : Port) (f : Frame) (ns : Nat) (fwd : Bool) :
    (State.observe s p f ns fwd).sealSt.otp = s.sealSt.otp := by
  unfold State.observe
  repeat' (first
    | rfl
    | (simp [*]; done)
    | split
    | (refine (foldl_keep (fun t : State => t.sealSt.otp) _ (fun _ _ => ?_) _ _).trans ?_)
    | (refine State.begin_otp _ _ _ _ _ _ ?_ )
    | (refine State.sources_otp _ _ _ _ _ ?_ )
    | (refine State.readReg_otp _ _ _ _ _ ?_ )
    | (refine State.bounds_otp _ _ _ _ _ _ ?_ )
    | (refine State.readStore_otp _ _ _ _ _ _ ?_ )
    | (refine State.denied_otp _ _ _ _ _ ?_ )
    | (refine State.element_otp _ _ _ _ _ _ _ ?_ )
    | (refine State.descParity_otp _ _ _ ?_ )
    | intro _
    | dsimp only
    | (simp only [*]; done)
    | simp [*])

@[simp] theorem State.deliver_pending (s : State) (p : Port) (f : Frame) (stamp : Nat) :
    (State.deliver s p f stamp).pending = s.pending := by
  unfold State.deliver
  repeat' (first | rfl | (simp; done) | split | dsimp only | (refine (foldl_keep State.pending _ (fun _ _ => ?_) _ _).trans ?_))

@[simp] theorem State.deliver_otp (s : State) (p : Port) (f : Frame) (stamp : Nat) :
    (State.deliver s p f stamp).sealSt.otp = s.sealSt.otp := by
  unfold State.deliver
  repeat' (first | rfl | (simp; done) | split | dsimp only | (refine (foldl_keep (fun t : State => t.sealSt.otp) _ (fun _ _ => ?_) _ _).trans ?_))

@[simp] theorem State.impostor_pending (s : State) :
    (State.impostor s).pending = s.pending := by
  unfold State.impostor; simp

@[simp] theorem State.impostor_otp (s : State) :
    (State.impostor s).sealSt.otp = s.sealSt.otp := by
  unfold State.impostor; simp

@[simp] theorem State.ownFrame_pending (s : State) (p : Port) (f : Frame) (bytes : List Byte) (ns : Nat) :
    (State.ownFrame s p f bytes ns).pending = s.pending := by
  unfold State.ownFrame; simp

@[simp] theorem State.ownFrame_otp (s : State) (p : Port) (f : Frame) (bytes : List Byte) (ns : Nat) :
    (State.ownFrame s p f bytes ns).sealSt.otp = s.sealSt.otp := by
  unfold State.ownFrame; simp

@[simp] theorem State.frameIn_pending (s : State) (p : Port) (bytes : List Byte) (ns : Nat) :
    (State.frameIn s p bytes ns).pending = s.pending := by
  unfold State.frameIn; simp

@[simp] theorem State.frameIn_otp (s : State) (p : Port) (bytes : List Byte) (ns : Nat) :
    (State.frameIn s p bytes ns).sealSt.otp = s.sealSt.otp := by
  unfold State.frameIn; simp

@[simp] theorem State.ringClash_pending (s : State) (running : Option (BitVec 10)) :
    (State.ringClash s running).pending = s.pending := by
  unfold State.ringClash; split <;> simp

@[simp] theorem State.ringClash_otp (s : State) (running : Option (BitVec 10)) :
    (State.ringClash s running).sealSt.otp = s.sealSt.otp := by
  unfold State.ringClash; split <;> simp

@[simp] theorem State.slotBody_pending (s : State) (slot : Nat) :
    (State.slotBody s slot).2.pending = s.pending := by
  unfold State.slotBody
  repeat' (first | rfl | (simp; done) | split | dsimp only | (refine (foldl_keep State.pending _ (fun _ _ => ?_) _ _).trans ?_))

@[simp] theorem State.slotBody_otp (s : State) (slot : Nat) :
    (State.slotBody s slot).2.sealSt.otp = s.sealSt.otp := by
  unfold State.slotBody
  repeat' (first | rfl | (simp; done) | split | dsimp only | (refine (foldl_keep (fun t : State => t.sealSt.otp) _ (fun _ _ => ?_) _ _).trans ?_))

@[simp] theorem State.ownSlot_pending (s : State) (slot : Nat) (runX runY : Option (BitVec 10)) :
    (State.ownSlot s slot runX runY).pending = s.pending := by
  unfold State.ownSlot; simp

@[simp] theorem State.ownSlot_otp (s : State) (slot : Nat) (runX runY : Option (BitVec 10)) :
    (State.ownSlot s slot runX runY).sealSt.otp = s.sealSt.otp := by
  unfold State.ownSlot; simp

@[simp] theorem State.formDelta_pending (s : State) :
    (State.formDelta s).1.pending = s.pending := by
  unfold State.formDelta; simp

@[simp] theorem State.formDelta_otp (s : State) :
    (State.formDelta s).1.sealSt.otp = s.sealSt.otp := by
  unfold State.formDelta; simp

@[simp] theorem State.slewBy_pending (s : State) (d : Int) :
    (State.slewBy s d).pending = s.pending := by
  rfl

@[simp] theorem State.slewBy_otp (s : State) (d : Int) :
    (State.slewBy s d).sealSt.otp = s.sealSt.otp := by
  rfl

@[simp] theorem State.applyDelta_pending (s : State) (delta : Option Int) :
    (State.applyDelta s delta).pending = s.pending := by
  unfold State.applyDelta; split <;> simp

@[simp] theorem State.applyDelta_otp (s : State) (delta : Option Int) :
    (State.applyDelta s delta).sealSt.otp = s.sealSt.otp := by
  unfold State.applyDelta; split <;> simp

@[simp] theorem State.listenBoundary_pending (s : State) (delta : Option Int) :
    (State.listenBoundary s delta).pending = s.pending := by
  unfold State.listenBoundary
  repeat' (first | rfl | (simp; done) | split | dsimp only | (refine (foldl_keep State.pending _ (fun _ _ => ?_) _ _).trans ?_))

@[simp] theorem State.listenBoundary_otp (s : State) (delta : Option Int) :
    (State.listenBoundary s delta).sealSt.otp = s.sealSt.otp := by
  unfold State.listenBoundary
  repeat' (first | rfl | (simp; done) | split | dsimp only | (refine (foldl_keep (fun t : State => t.sealSt.otp) _ (fun _ _ => ?_) _ _).trans ?_))

@[simp] theorem State.join_pending (s : State) :
    (State.join s).pending = s.pending := by
  unfold State.join; simp

@[simp] theorem State.join_otp (s : State) :
    (State.join s).sealSt.otp = s.sealSt.otp := by
  unfold State.join; simp

@[simp] theorem State.judgeCycle_pending (s : State) (delta : Option Int) :
    (State.judgeCycle s delta).pending = s.pending := by
  unfold State.judgeCycle
  repeat' (first | rfl | (simp; done) | split | dsimp only | (refine (foldl_keep State.pending _ (fun _ _ => ?_) _ _).trans ?_))

@[simp] theorem State.judgeCycle_otp (s : State) (delta : Option Int) :
    (State.judgeCycle s delta).sealSt.otp = s.sealSt.otp := by
  unfold State.judgeCycle
  repeat' (first | rfl | (simp; done) | split | dsimp only | (refine (foldl_keep (fun t : State => t.sealSt.otp) _ (fun _ _ => ?_) _ _).trans ?_))

@[simp] theorem State.silenceCheck_pending (s : State) :
    (State.silenceCheck s).pending = s.pending := by
  unfold State.silenceCheck; simp

@[simp] theorem State.silenceCheck_otp (s : State) :
    (State.silenceCheck s).sealSt.otp = s.sealSt.otp := by
  unfold State.silenceCheck; simp

@[simp] theorem State.ringBoundary_pending (s : State) :
    (State.ringBoundary s).pending = s.pending := by
  unfold State.ringBoundary; simp

@[simp] theorem State.ringBoundary_otp (s : State) :
    (State.ringBoundary s).sealSt.otp = s.sealSt.otp := by
  unfold State.ringBoundary; simp

@[simp] theorem State.updateRate_pending (s : State) :
    (State.updateRate s).pending = s.pending := by
  unfold State.updateRate; simp

@[simp] theorem State.updateRate_otp (s : State) :
    (State.updateRate s).sealSt.otp = s.sealSt.otp := by
  unfold State.updateRate; simp

@[simp] theorem State.propose_pending (s : State) (p : Port) :
    (State.propose s p).pending = s.pending := by
  unfold State.propose
  repeat' (first | rfl | (simp; done) | split | dsimp only | (refine (foldl_keep State.pending _ (fun _ _ => ?_) _ _).trans ?_))

@[simp] theorem State.propose_otp (s : State) (p : Port) :
    (State.propose s p).sealSt.otp = s.sealSt.otp := by
  unfold State.propose
  repeat' (first | rfl | (simp; done) | split | dsimp only | (refine (foldl_keep (fun t : State => t.sealSt.otp) _ (fun _ _ => ?_) _ _).trans ?_))

@[simp] theorem State.probeReply_pending (s : State) (p : Port) (seq : Byte) :
    (State.probeReply s p seq).pending = s.pending := by
  unfold State.probeReply
  repeat' (first | rfl | (simp; done) | split | dsimp only | (refine (foldl_keep State.pending _ (fun _ _ => ?_) _ _).trans ?_))

@[simp] theorem State.probeReply_otp (s : State) (p : Port) (seq : Byte) :
    (State.probeReply s p seq).sealSt.otp = s.sealSt.otp := by
  unfold State.probeReply
  repeat' (first | rfl | (simp; done) | split | dsimp only | (refine (foldl_keep (fun t : State => t.sealSt.otp) _ (fun _ _ => ?_) _ _).trans ?_))

@[simp] theorem State.enterJoining_pending (s : State) :
    (State.enterJoining s).pending = s.pending := by
  unfold State.enterJoining; simp

@[simp] theorem State.enterJoining_otp (s : State) :
    (State.enterJoining s).sealSt.otp = s.sealSt.otp := by
  unfold State.enterJoining; simp

@[simp] theorem State.adoptSchedule_pending (s : State) :
    (State.adoptSchedule s).pending = s.pending := by
  unfold State.adoptSchedule
  repeat' (first | rfl | (simp; done) | split | dsimp only | (refine (foldl_keep State.pending _ (fun _ _ => ?_) _ _).trans ?_))

@[simp] theorem State.adoptSchedule_otp (s : State) :
    (State.adoptSchedule s).sealSt.otp = s.sealSt.otp := by
  unfold State.adoptSchedule
  repeat' (first | rfl | (simp; done) | split | dsimp only | (refine (foldl_keep (fun t : State => t.sealSt.otp) _ (fun _ _ => ?_) _ _).trans ?_))

@[simp] theorem State.commitSchedule_pending (s : State) (l : LaneId) :
    (State.commitSchedule s l).pending = s.pending := by
  unfold State.commitSchedule; simp

@[simp] theorem State.commitSchedule_otp (s : State) (l : LaneId) :
    (State.commitSchedule s l).sealSt.otp = s.sealSt.otp := by
  unfold State.commitSchedule; simp

@[simp] theorem State.writeRing_pending (s : State) (l : LaneId) (off : Nat) (w : Word) :
    (State.writeRing s l off w).pending = s.pending := by
  unfold State.writeRing; simp

@[simp] theorem State.writeRing_otp (s : State) (l : LaneId) (off : Nat) (w : Word) :
    (State.writeRing s l off w).sealSt.otp = s.sealSt.otp := by
  unfold State.writeRing; simp

@[simp] theorem State.afterReadRing_pending (s : State) (l : LaneId) (off : Nat) :
    (State.afterReadRing s l off).pending = s.pending := by
  unfold State.afterReadRing; split <;> simp

@[simp] theorem State.afterReadRing_otp (s : State) (l : LaneId) (off : Nat) :
    (State.afterReadRing s l off).sealSt.otp = s.sealSt.otp := by
  unfold State.afterReadRing; split <;> simp

@[simp] theorem State.requestSy_pending (s : State) (l : LaneId) (reason : Half) :
    (State.requestSy s l reason).pending = s.pending := by
  unfold State.requestSy; simp

@[simp] theorem State.requestSy_otp (s : State) (l : LaneId) (reason : Half) :
    (State.requestSy s l reason).sealSt.otp = s.sealSt.otp := by
  unfold State.requestSy; simp

@[simp] theorem State.requestStop_pending (s : State) (l : LaneId) (reason : Half) :
    (State.requestStop s l reason).pending = s.pending := by
  unfold State.requestStop
  repeat' (first | rfl | (simp; done) | split | dsimp only | (refine (foldl_keep State.pending _ (fun _ _ => ?_) _ _).trans ?_))

@[simp] theorem State.requestStop_otp (s : State) (l : LaneId) (reason : Half) :
    (State.requestStop s l reason).sealSt.otp = s.sealSt.otp := by
  unfold State.requestStop
  repeat' (first | rfl | (simp; done) | split | dsimp only | (refine (foldl_keep (fun t : State => t.sealSt.otp) _ (fun _ _ => ?_) _ _).trans ?_))

@[simp] theorem State.resetReq_pending (s : State) (l : LaneId) (req : Nat) (key : Byte) (reason : Half) :
    (State.resetReq s l req key reason).pending = s.pending := by
  unfold State.resetReq; simp

@[simp] theorem State.resetReq_otp (s : State) (l : LaneId) (req : Nat) (key : Byte) (reason : Half) :
    (State.resetReq s l req key reason).sealSt.otp = s.sealSt.otp := by
  unfold State.resetReq; simp

@[simp] theorem State.brownOut_pending (s : State) :
    (State.brownOut s).pending = s.pending := by
  unfold State.brownOut; simp

@[simp] theorem State.brownOut_otp (s : State) :
    (State.brownOut s).sealSt.otp = s.sealSt.otp := by
  unfold State.brownOut; simp

@[simp] theorem State.powerEvents_pending (s : State) :
    (State.powerEvents s).pending = s.pending := by
  unfold State.powerEvents; simp

@[simp] theorem State.powerEvents_otp (s : State) :
    (State.powerEvents s).sealSt.otp = s.sealSt.otp := by
  unfold State.powerEvents; simp

@[simp] theorem State.supplyLow_pending (s : State) :
    (State.supplyLow s).pending = s.pending := by
  unfold State.supplyLow; simp

@[simp] theorem State.supplyLow_otp (s : State) :
    (State.supplyLow s).sealSt.otp = s.sealSt.otp := by
  unfold State.supplyLow; simp

@[simp] theorem State.enterPowerFail_pending (s : State) :
    (State.enterPowerFail s).pending = s.pending := by
  unfold State.enterPowerFail; simp

@[simp] theorem State.enterPowerFail_otp (s : State) :
    (State.enterPowerFail s).sealSt.otp = s.sealSt.otp := by
  unfold State.enterPowerFail; simp

@[simp] theorem State.feedLoss_pending (s : State) (f : Feed) :
    (State.feedLoss s f).pending = s.pending := by
  unfold State.feedLoss; simp

@[simp] theorem State.feedLoss_otp (s : State) (f : Feed) :
    (State.feedLoss s f).sealSt.otp = s.sealSt.otp := by
  unfold State.feedLoss; simp

@[simp] theorem State.svcReset_pending (s : State) :
    (State.svcReset s).pending = s.pending := by
  rfl

@[simp] theorem State.svcReset_otp (s : State) :
    (State.svcReset s).sealSt.otp = s.sealSt.otp := by
  rfl

@[simp] theorem State.svcHold_pending (s : State) :
    (State.svcHold s).pending = s.pending := by
  unfold State.svcHold; simp

@[simp] theorem State.svcHold_otp (s : State) :
    (State.svcHold s).sealSt.otp = s.sealSt.otp := by
  unfold State.svcHold; simp

@[simp] theorem State.laneRail_pending (s : State) (l : LaneId) :
    (State.laneRail s l).pending = s.pending := by
  unfold State.laneRail; simp

@[simp] theorem State.laneRail_otp (s : State) (l : LaneId) :
    (State.laneRail s l).sealSt.otp = s.sealSt.otp := by
  unfold State.laneRail; simp

@[simp] theorem State.railFault_pending (s : State) (pd : Nat) :
    (State.railFault s pd).pending = s.pending := by
  unfold State.railFault; split <;> simp

@[simp] theorem State.railFault_otp (s : State) (pd : Nat) :
    (State.railFault s pd).sealSt.otp = s.sealSt.otp := by
  unfold State.railFault; split <;> simp

@[simp] theorem State.trialReport_pending (s : State) :
    (State.trialReport s).pending = s.pending := by
  unfold State.trialReport
  repeat' (first
    | rfl
    | (simp [*]; done)
    | split
    | (refine (foldl_keep State.pending _ (fun _ _ => ?_) _ _).trans ?_)
    | (refine State.begin_pending _ _ _ _ _ _ ?_ )
    | (refine State.sources_pending _ _ _ _ _ ?_ )
    | (refine State.readReg_pending _ _ _ _ _ ?_ )
    | (refine State.bounds_pending _ _ _ _ _ _ ?_ )
    | (refine State.readStore_pending _ _ _ _ _ _ ?_ )
    | (refine State.denied_pending _ _ _ _ _ ?_ )
    | (refine State.element_pending _ _ _ _ _ _ _ ?_ )
    | (refine State.descParity_pending _ _ _ ?_ )
    | intro _
    | dsimp only
    | (simp only [*]; done)
    | simp [*])

@[simp] theorem State.trialReport_otp (s : State) :
    (State.trialReport s).sealSt.otp = s.sealSt.otp := by
  unfold State.trialReport
  repeat' (first
    | rfl
    | (simp [*]; done)
    | split
    | (refine (foldl_keep (fun t : State => t.sealSt.otp) _ (fun _ _ => ?_) _ _).trans ?_)
    | (refine State.begin_otp _ _ _ _ _ _ ?_ )
    | (refine State.sources_otp _ _ _ _ _ ?_ )
    | (refine State.readReg_otp _ _ _ _ _ ?_ )
    | (refine State.bounds_otp _ _ _ _ _ _ ?_ )
    | (refine State.readStore_otp _ _ _ _ _ _ ?_ )
    | (refine State.denied_otp _ _ _ _ _ ?_ )
    | (refine State.element_otp _ _ _ _ _ _ _ ?_ )
    | (refine State.descParity_otp _ _ _ ?_ )
    | intro _
    | dsimp only
    | (simp only [*]; done)
    | simp [*])

@[simp] theorem State.waitFailed_pending (s : State) (name : RecName) :
    (State.waitFailed s name).pending = s.pending := by
  unfold State.waitFailed; simp

@[simp] theorem State.waitFailed_otp (s : State) (name : RecName) :
    (State.waitFailed s name).sealSt.otp = s.sealSt.otp := by
  unfold State.waitFailed; simp

@[simp] theorem State.clockLost_pending (s : State) :
    (State.clockLost s).pending = s.pending := by
  unfold State.clockLost; simp

@[simp] theorem State.clockLost_otp (s : State) :
    (State.clockLost s).sealSt.otp = s.sealSt.otp := by
  unfold State.clockLost; simp

@[simp] theorem State.clkLoss_pending (s : State) (c : ClockBlock) :
    (State.clkLoss s c).pending = s.pending := by
  unfold State.clkLoss; split <;> simp

@[simp] theorem State.clkLoss_otp (s : State) (c : ClockBlock) :
    (State.clkLoss s c).sealSt.otp = s.sealSt.otp := by
  unfold State.clkLoss; split <;> simp

@[simp] theorem State.unlockLane_pending (s : State) (k : LaneId) :
    (State.unlockLane s k).pending = s.pending := by
  unfold State.unlockLane; simp

@[simp] theorem State.unlockLane_otp (s : State) (k : LaneId) :
    (State.unlockLane s k).sealSt.otp = s.sealSt.otp := by
  unfold State.unlockLane; simp

@[simp] theorem State.voteRelease_pending (s : State) (l : LaneId) (w : Word) :
    (State.voteRelease s l w).pending = s.pending := by
  unfold State.voteRelease; split <;> simp

@[simp] theorem State.voteRelease_otp (s : State) (l : LaneId) (w : Word) :
    (State.voteRelease s l w).sealSt.otp = s.sealSt.otp := by
  unfold State.voteRelease; split <;> simp

@[simp] theorem State.secureAct_pending (s : State) (l : LaneId) (w : Word) :
    (State.secureAct s l w).pending = s.pending := by
  unfold State.secureAct; split <;> simp

@[simp] theorem State.secureAct_otp (s : State) (l : LaneId) (w : Word) :
    (State.secureAct s l w).sealSt.otp = s.sealSt.otp := by
  unfold State.secureAct; split <;> simp

@[simp] theorem State.secureWord_pending (s : State) (l : LaneId) (w : Word) :
    (State.secureWord s l w).pending = s.pending := by
  unfold State.secureWord
  repeat' (first | rfl | (simp; done) | split | dsimp only | (refine (foldl_keep State.pending _ (fun _ _ => ?_) _ _).trans ?_))

@[simp] theorem State.secureWord_otp (s : State) (l : LaneId) (w : Word) :
    (State.secureWord s l w).sealSt.otp = s.sealSt.otp := by
  unfold State.secureWord
  repeat' (first | rfl | (simp; done) | split | dsimp only | (refine (foldl_keep (fun t : State => t.sealSt.otp) _ (fun _ _ => ?_) _ _).trans ?_))

@[simp] theorem State.secureRead_pending (s : State) (l : LaneId) :
    (State.secureRead s l).pending = s.pending := by
  unfold State.secureRead; simp

@[simp] theorem State.secureRead_otp (s : State) (l : LaneId) :
    (State.secureRead s l).sealSt.otp = s.sealSt.otp := by
  unfold State.secureRead; simp

@[simp] theorem State.secureAll_pending (s : State) (w : Word) :
    (State.secureAll s w).pending = s.pending := by
  unfold State.secureAll; simp

@[simp] theorem State.secureAll_otp (s : State) (w : Word) :
    (State.secureAll s w).sealSt.otp = s.sealSt.otp := by
  unfold State.secureAll; simp

@[simp] theorem State.respond_pending (s : State) (sid : Nat) (service : Half) (req : Word) (code : Nat) (r : Reply) :
    (State.respond s sid service req code r).pending = s.pending := by
  rfl

@[simp] theorem State.respond_otp (s : State) (sid : Nat) (service : Half) (req : Word) (code : Nat) (r : Reply) :
    (State.respond s sid service req code r).sealSt.otp = s.sealSt.otp := by
  rfl

@[simp] theorem State.answerQuotes_pending (s : State) :
    (State.answerQuotes s).pending = s.pending := by
  unfold State.answerQuotes; simp

@[simp] theorem State.answerQuotes_otp (s : State) :
    (State.answerQuotes s).sealSt.otp = s.sealSt.otp := by
  unfold State.answerQuotes; simp

@[simp] theorem State.askQuote_pending (s : State) (sid : Nat) (req : Word) (nonce : BitVec 256) :
    (State.askQuote s sid req nonce).pending = s.pending := by
  unfold State.askQuote; simp

@[simp] theorem State.askQuote_otp (s : State) (sid : Nat) (req : Word) (nonce : BitVec 256) :
    (State.askQuote s sid req nonce).sealSt.otp = s.sealSt.otp := by
  unfold State.askQuote; simp

@[simp] theorem State.enterStartupTest_pending (s : State) :
    (State.enterStartupTest s).pending = s.pending := by
  unfold State.enterStartupTest
  repeat' (first
    | rfl
    | (simp [*]; done)
    | split
    | (refine (foldl_keep State.pending _ (fun _ _ => ?_) _ _).trans ?_)
    | (refine State.begin_pending _ _ _ _ _ _ ?_ )
    | (refine State.sources_pending _ _ _ _ _ ?_ )
    | (refine State.readReg_pending _ _ _ _ _ ?_ )
    | (refine State.bounds_pending _ _ _ _ _ _ ?_ )
    | (refine State.readStore_pending _ _ _ _ _ _ ?_ )
    | (refine State.denied_pending _ _ _ _ _ ?_ )
    | (refine State.element_pending _ _ _ _ _ _ _ ?_ )
    | (refine State.descParity_pending _ _ _ ?_ )
    | intro _
    | dsimp only
    | (simp only [*]; done)
    | simp [*])

@[simp] theorem State.enterStartupTest_otp (s : State) :
    (State.enterStartupTest s).sealSt.otp = s.sealSt.otp := by
  unfold State.enterStartupTest
  repeat' (first
    | rfl
    | (simp [*]; done)
    | split
    | (refine (foldl_keep (fun t : State => t.sealSt.otp) _ (fun _ _ => ?_) _ _).trans ?_)
    | (refine State.begin_otp _ _ _ _ _ _ ?_ )
    | (refine State.sources_otp _ _ _ _ _ ?_ )
    | (refine State.readReg_otp _ _ _ _ _ ?_ )
    | (refine State.bounds_otp _ _ _ _ _ _ ?_ )
    | (refine State.readStore_otp _ _ _ _ _ _ ?_ )
    | (refine State.denied_otp _ _ _ _ _ ?_ )
    | (refine State.element_otp _ _ _ _ _ _ _ ?_ )
    | (refine State.descParity_otp _ _ _ ?_ )
    | intro _
    | dsimp only
    | (simp only [*]; done)
    | simp [*])

@[simp] theorem State.recorderStart_pending (s : State) :
    (State.recorderStart s).pending = s.pending := by
  unfold State.recorderStart; simp

@[simp] theorem State.recorderStart_otp (s : State) :
    (State.recorderStart s).sealSt.otp = s.sealSt.otp := by
  unfold State.recorderStart; simp

@[simp] theorem State.loadOtp_pending (s : State) :
    (State.loadOtp s).pending = s.pending := by
  unfold State.loadOtp; simp

@[simp] theorem State.loadOtp_otp (s : State) :
    (State.loadOtp s).sealSt.otp = s.sealSt.otp := by
  unfold State.loadOtp; simp

@[simp] theorem State.latchSeal_pending (s : State) (b : SwitchReading) :
    (State.latchSeal s b).pending = s.pending := by
  rfl

@[simp] theorem State.latchSeal_otp (s : State) (b : SwitchReading) :
    (State.latchSeal s b).sealSt.otp = s.sealSt.otp := by
  rfl

@[simp] theorem State.releaseLanes_pending (s : State) :
    (State.releaseLanes s).pending = s.pending := by
  unfold State.releaseLanes
  dsimp only
  split
  · refine (State.enterSafeStop_pending ..).trans ?_
    refine (State.recG_pending ..).trans ?_
    refine (foldl_keep State.pending _ (fun _ _ => ?_) _ _).trans rfl
    split <;> simp
  · exact State.enterStartupTest_pending _

@[simp] theorem State.releaseLanes_otp (s : State) :
    (State.releaseLanes s).sealSt.otp = s.sealSt.otp := by
  unfold State.releaseLanes
  dsimp only
  split
  · refine (State.enterSafeStop_otp ..).trans ?_
    refine (State.recG_otp ..).trans ?_
    refine (foldl_keep (fun t : State => t.sealSt.otp) _ (fun _ _ => ?_) _ _).trans rfl
    split <;> simp
  · exact State.enterStartupTest_otp _

@[simp] theorem State.countCorrected_pending (s : State) (otp : List (Fin 64 × BitVec 72)) :
    (State.countCorrected s otp).pending = s.pending := by
  rfl

@[simp] theorem State.countCorrected_otp (s : State) (otp : List (Fin 64 × BitVec 72)) :
    (State.countCorrected s otp).sealSt.otp = s.sealSt.otp := by
  rfl

@[simp] theorem State.primingSeal_pending (s : State) (first second : SwitchReading) :
    (State.primingSeal s first second).pending = s.pending := by
  unfold State.primingSeal
  repeat' (first
    | rfl
    | (simp [*]; done)
    | split
    | (refine (foldl_keep State.pending _ (fun _ _ => ?_) _ _).trans ?_)
    | (refine State.begin_pending _ _ _ _ _ _ ?_ )
    | (refine State.sources_pending _ _ _ _ _ ?_ )
    | (refine State.readReg_pending _ _ _ _ _ ?_ )
    | (refine State.bounds_pending _ _ _ _ _ _ ?_ )
    | (refine State.readStore_pending _ _ _ _ _ _ ?_ )
    | (refine State.denied_pending _ _ _ _ _ ?_ )
    | (refine State.element_pending _ _ _ _ _ _ _ ?_ )
    | (refine State.descParity_pending _ _ _ ?_ )
    | intro _
    | dsimp only
    | (simp only [*]; done)
    | simp [*])

@[simp] theorem State.primingSeal_otp (s : State) (first second : SwitchReading) :
    (State.primingSeal s first second).sealSt.otp = s.sealSt.otp := by
  unfold State.primingSeal
  repeat' (first
    | rfl
    | (simp [*]; done)
    | split
    | (refine (foldl_keep (fun t : State => t.sealSt.otp) _ (fun _ _ => ?_) _ _).trans ?_)
    | (refine State.begin_otp _ _ _ _ _ _ ?_ )
    | (refine State.sources_otp _ _ _ _ _ ?_ )
    | (refine State.readReg_otp _ _ _ _ _ ?_ )
    | (refine State.bounds_otp _ _ _ _ _ _ ?_ )
    | (refine State.readStore_otp _ _ _ _ _ _ ?_ )
    | (refine State.denied_otp _ _ _ _ _ ?_ )
    | (refine State.element_otp _ _ _ _ _ _ _ ?_ )
    | (refine State.descParity_otp _ _ _ ?_ )
    | intro _
    | dsimp only
    | (simp only [*]; done)
    | simp [*])

@[simp] theorem State.primingComplete_pending (s : State) (first second : SwitchReading) (otp : List (Fin 64 × BitVec 72)) :
    (State.primingComplete s first second otp).pending = s.pending := by
  unfold State.primingComplete; simp

@[simp] theorem State.primingComplete_otp (s : State) (first second : SwitchReading) (otp : List (Fin 64 × BitVec 72)) :
    (State.primingComplete s first second otp).sealSt.otp = s.sealSt.otp := by
  unfold State.primingComplete
  repeat' (first
    | rfl
    | (simp [*]; done)
    | split
    | (refine (foldl_keep (fun t : State => t.sealSt.otp) _ (fun _ _ => ?_) _ _).trans ?_)
    | (refine State.begin_otp _ _ _ _ _ _ ?_ )
    | (refine State.sources_otp _ _ _ _ _ ?_ )
    | (refine State.readReg_otp _ _ _ _ _ ?_ )
    | (refine State.bounds_otp _ _ _ _ _ _ ?_ )
    | (refine State.readStore_otp _ _ _ _ _ _ ?_ )
    | (refine State.denied_otp _ _ _ _ _ ?_ )
    | (refine State.element_otp _ _ _ _ _ _ _ ?_ )
    | (refine State.descParity_otp _ _ _ ?_ )
    | intro _
    | dsimp only
    | (simp only [*]; done)
    | simp [*])

@[simp] theorem State.testBoot_pending (s : State) (l : LaneId) :
    (State.testBoot s l).1.pending = s.pending := by
  unfold State.testBoot; simp

@[simp] theorem State.testBoot_otp (s : State) (l : LaneId) :
    (State.testBoot s l).1.sealSt.otp = s.sealSt.otp := by
  unfold State.testBoot; simp

@[simp] theorem State.testJournal_pending (s : State) (l : LaneId) :
    (State.testJournal s l).1.pending = s.pending := by
  unfold State.testJournal; split <;> simp

@[simp] theorem State.testJournal_otp (s : State) (l : LaneId) :
    (State.testJournal s l).1.sealSt.otp = s.sealSt.otp := by
  unfold State.testJournal; split <;> simp

@[simp] theorem State.bistPassed_pending (s : State) :
    (State.bistPassed s).pending = s.pending := by
  unfold State.bistPassed
  repeat' (first | rfl | (simp; done) | split | dsimp only | (refine (foldl_keep State.pending _ (fun _ _ => ?_) _ _).trans ?_))

@[simp] theorem State.bistPassed_otp (s : State) :
    (State.bistPassed s).sealSt.otp = s.sealSt.otp := by
  unfold State.bistPassed
  repeat' (first
    | rfl
    | (simp [*]; done)
    | split
    | (refine (foldl_keep (fun t : State => t.sealSt.otp) _ (fun _ _ => ?_) _ _).trans ?_)
    | (refine State.begin_otp _ _ _ _ _ _ ?_ )
    | (refine State.sources_otp _ _ _ _ _ ?_ )
    | (refine State.readReg_otp _ _ _ _ _ ?_ )
    | (refine State.bounds_otp _ _ _ _ _ _ ?_ )
    | (refine State.readStore_otp _ _ _ _ _ _ ?_ )
    | (refine State.denied_otp _ _ _ _ _ ?_ )
    | (refine State.element_otp _ _ _ _ _ _ _ ?_ )
    | (refine State.descParity_otp _ _ _ ?_ )
    | intro _
    | dsimp only
    | (simp only [*]; done)
    | simp [*])

theorem State.laneStep_pending (f : State → LaneId → State × Option Failure)
    (h : ∀ s l, (f s l).1.pending = s.pending) (ls : List LaneId) (s : State) : (s.laneStep f ls).1.pending = s.pending := by
  induction ls generalizing s with
  | nil => rfl
  | cons l ls ih => exact (ih _).trans (h s l)

@[simp] theorem State.runTests_pending (s : State) (t : TestReport) :
    (State.runTests s t).1.pending = s.pending := by
  unfold State.runTests
  split
  · rfl
  dsimp only
  split
  · simp
  split <;> rename_i heq
  · have := State.laneStep_pending State.testBoot (fun _ _ => by simp) s.bistPassed.servingLanes s.bistPassed
    rw [heq] at this; simpa using this
  · have := State.laneStep_pending State.testBoot (fun _ _ => by simp) s.bistPassed.servingLanes s.bistPassed
    rw [heq] at this
    split
    · simpa using this
    · rw [State.laneStep_pending _ (fun _ _ => by simp)]; simpa using this

theorem State.laneStep_otp (f : State → LaneId → State × Option Failure)
    (h : ∀ s l, (f s l).1.sealSt.otp = s.sealSt.otp) (ls : List LaneId) (s : State) : (s.laneStep f ls).1.sealSt.otp = s.sealSt.otp := by
  induction ls generalizing s with
  | nil => rfl
  | cons l ls ih => exact (ih _).trans (h s l)

@[simp] theorem State.runTests_otp (s : State) (t : TestReport) :
    (State.runTests s t).1.sealSt.otp = s.sealSt.otp := by
  unfold State.runTests
  split
  · rfl
  dsimp only
  split
  · simp
  split <;> rename_i heq
  · have := State.laneStep_otp State.testBoot (fun _ _ => by simp) s.bistPassed.servingLanes s.bistPassed
    rw [heq] at this; simpa using this
  · have := State.laneStep_otp State.testBoot (fun _ _ => by simp) s.bistPassed.servingLanes s.bistPassed
    rw [heq] at this
    split
    · simpa using this
    · rw [State.laneStep_otp _ (fun _ _ => by simp)]; simpa using this

@[simp] theorem State.recLockedOut_pending (s : State) :
    (State.recLockedOut s).pending = s.pending := by
  unfold State.recLockedOut; simp

@[simp] theorem State.recLockedOut_otp (s : State) :
    (State.recLockedOut s).sealSt.otp = s.sealSt.otp := by
  unfold State.recLockedOut; simp

@[simp] theorem State.noteTable_pending (s : State) :
    (State.noteTable s).pending = s.pending := by
  unfold State.noteTable
  repeat' (first | rfl | (simp; done) | split | dsimp only | (refine (foldl_keep State.pending _ (fun _ _ => ?_) _ _).trans ?_))

@[simp] theorem State.noteTable_otp (s : State) :
    (State.noteTable s).sealSt.otp = s.sealSt.otp := by
  unfold State.noteTable
  repeat' (first | rfl | (simp; done) | split | dsimp only | (refine (foldl_keep (fun t : State => t.sealSt.otp) _ (fun _ _ => ?_) _ _).trans ?_))

@[simp] theorem State.startupFailed_pending (s : State) (e : Failure) :
    (State.startupFailed s e).pending = s.pending := by
  unfold State.startupFailed; simp

@[simp] theorem State.startupFailed_otp (s : State) (e : Failure) :
    (State.startupFailed s e).sealSt.otp = s.sealSt.otp := by
  unfold State.startupFailed; simp

@[simp] theorem State.applyCodes_pending (s : State) (l : LaneId) :
    (State.applyCodes s l).pending = s.pending := by
  unfold State.applyCodes; simp

@[simp] theorem State.applyCodes_otp (s : State) (l : LaneId) :
    (State.applyCodes s l).sealSt.otp = s.sealSt.otp := by
  unfold State.applyCodes; simp

@[simp] theorem State.startupPassed_pending (s : State) :
    (State.startupPassed s).pending = s.pending := by
  unfold State.startupPassed
  repeat' (first
    | rfl
    | (simp [*]; done)
    | split
    | (refine (foldl_keep State.pending _ (fun _ _ => ?_) _ _).trans ?_)
    | (refine State.begin_pending _ _ _ _ _ _ ?_ )
    | (refine State.sources_pending _ _ _ _ _ ?_ )
    | (refine State.readReg_pending _ _ _ _ _ ?_ )
    | (refine State.bounds_pending _ _ _ _ _ _ ?_ )
    | (refine State.readStore_pending _ _ _ _ _ _ ?_ )
    | (refine State.denied_pending _ _ _ _ _ ?_ )
    | (refine State.element_pending _ _ _ _ _ _ _ ?_ )
    | (refine State.descParity_pending _ _ _ ?_ )
    | intro _
    | dsimp only
    | (simp only [*]; done)
    | simp [*])

@[simp] theorem State.startupPassed_otp (s : State) :
    (State.startupPassed s).sealSt.otp = s.sealSt.otp := by
  unfold State.startupPassed
  have key (s : State) : ((if s.md.mode = .startupTest then s.enterJoining else s).sealSt.otp) = s.sealSt.otp := by
    split
    · exact State.enterJoining_otp s
    · rfl
  refine (key _).trans ?_
  rw [State.adoptSchedule_otp]
  repeat rw [foldl_keep (fun t : State => t.sealSt.otp) _ (fun _ _ => by simp)]

@[simp] theorem State.startupDone_pending (s : State) (t : TestReport) :
    (State.startupDone s t).pending = s.pending := by
  unfold State.startupDone
  repeat' (first | rfl | (simp; done) | split | dsimp only | (refine (foldl_keep State.pending _ (fun _ _ => ?_) _ _).trans ?_))

@[simp] theorem State.startupDone_otp (s : State) (t : TestReport) :
    (State.startupDone s t).sealSt.otp = s.sealSt.otp := by
  unfold State.startupDone
  repeat' (first | rfl | (simp; done) | split | dsimp only | (refine (foldl_keep (fun t : State => t.sealSt.otp) _ (fun _ _ => ?_) _ _).trans ?_))

@[simp] theorem State.linkArrive_pending (s : State) (dst : LaneId) (m : LinkMsg) (typ len : Nat) (act : State → LaneId → State) (h0 : ∀ (u0 : State) (u1 : LaneId), ((act u0 u1).pending) = (u0).pending) :
    (State.linkArrive s dst m typ len act).pending = s.pending := by
  unfold State.linkArrive; simp [*]

@[simp] theorem State.linkArrive_otp (s : State) (dst : LaneId) (m : LinkMsg) (typ len : Nat) (act : State → LaneId → State) (h0 : ∀ (u0 : State) (u1 : LaneId), ((act u0 u1).sealSt.otp) = (u0).sealSt.otp) :
    (State.linkArrive s dst m typ len act).sealSt.otp = s.sealSt.otp := by
  unfold State.linkArrive; simp [*]

@[simp] theorem State.takeSignature_pending (s : State) (dst : LaneId) (m : LinkMsg) (k : LaneId) :
    (State.takeSignature s dst m k).pending = s.pending := by
  unfold State.takeSignature; simp

@[simp] theorem State.takeSignature_otp (s : State) (dst : LaneId) (m : LinkMsg) (k : LaneId) :
    (State.takeSignature s dst m k).sealSt.otp = s.sealSt.otp := by
  unfold State.takeSignature; simp

@[simp] theorem State.closeLane_pending (s : State) (l : LaneId) :
    (State.closeLane s l).pending = s.pending := by
  unfold State.closeLane; simp

@[simp] theorem State.closeLane_otp (s : State) (l : LaneId) :
    (State.closeLane s l).sealSt.otp = s.sealSt.otp := by
  unfold State.closeLane; simp

@[simp] theorem State.takeView_pending (s : State) (dst : LaneId) (m : LinkMsg) (k : LaneId) :
    (State.takeView s dst m k).pending = s.pending := by
  unfold State.takeView; simp

@[simp] theorem State.takeView_otp (s : State) (dst : LaneId) (m : LinkMsg) (k : LaneId) :
    (State.takeView s dst m k).sealSt.otp = s.sealSt.otp := by
  unfold State.takeView; simp

@[simp] theorem State.driveLane_pending (s : State) (l : LaneId) :
    (State.driveLane s l).pending = s.pending := by
  unfold State.driveLane; simp

@[simp] theorem State.driveLane_otp (s : State) (l : LaneId) :
    (State.driveLane s l).sealSt.otp = s.sealSt.otp := by
  unfold State.driveLane; simp

@[simp] theorem State.switchCauses_pending (s : State) :
    (State.switchCauses s).pending = s.pending := by
  rfl

@[simp] theorem State.switchCauses_otp (s : State) :
    (State.switchCauses s).sealSt.otp = s.sealSt.otp := by
  rfl

@[simp] theorem State.dropOwn_pending (s : State) (d : Decision) :
    (State.dropOwn s d).pending = s.pending := by
  unfold State.dropOwn
  repeat' (first | rfl | (simp; done) | split | dsimp only | (refine (foldl_keep State.pending _ (fun _ _ => ?_) _ _).trans ?_))

@[simp] theorem State.dropOwn_otp (s : State) (d : Decision) :
    (State.dropOwn s d).sealSt.otp = s.sealSt.otp := by
  unfold State.dropOwn
  repeat' (first | rfl | (simp; done) | split | dsimp only | (refine (foldl_keep (fun t : State => t.sealSt.otp) _ (fun _ _ => ?_) _ _).trans ?_))

@[simp] theorem State.singleRequests_pending (s : State) :
    (State.singleRequests s).pending = s.pending := by
  unfold State.singleRequests; simp

@[simp] theorem State.singleRequests_otp (s : State) :
    (State.singleRequests s).sealSt.otp = s.sealSt.otp := by
  unfold State.singleRequests; simp

@[simp] theorem State.recordVote_pending (s : State) (x : Lane) :
    (State.recordVote s x).pending = s.pending := by
  unfold State.recordVote; simp

@[simp] theorem State.recordVote_otp (s : State) (x : Lane) :
    (State.recordVote s x).sealSt.otp = s.sealSt.otp := by
  unfold State.recordVote; simp

@[simp] theorem State.sampleGates_pending (s : State) :
    (State.sampleGates s).pending = s.pending := by
  unfold State.sampleGates; simp

@[simp] theorem State.sampleGates_otp (s : State) :
    (State.sampleGates s).sealSt.otp = s.sealSt.otp := by
  unfold State.sampleGates; simp

@[simp] theorem State.startAudit_pending (s : State) :
    (State.startAudit s).pending = s.pending := by
  unfold State.startAudit
  repeat' (first | rfl | (simp; done) | split | dsimp only | (refine (foldl_keep State.pending _ (fun _ _ => ?_) _ _).trans ?_))

@[simp] theorem State.startAudit_otp (s : State) :
    (State.startAudit s).sealSt.otp = s.sealSt.otp := by
  unfold State.startAudit
  repeat' (first | rfl | (simp; done) | split | dsimp only | (refine (foldl_keep (fun t : State => t.sealSt.otp) _ (fun _ _ => ?_) _ _).trans ?_))

@[simp] theorem State.startSlice_pending (s : State) :
    (State.startSlice s).pending = s.pending := by
  unfold State.startSlice; simp

@[simp] theorem State.startSlice_otp (s : State) :
    (State.startSlice s).sealSt.otp = s.sealSt.otp := by
  unfold State.startSlice; simp

@[simp] theorem State.voteDeadline_pending (s : State) :
    (State.voteDeadline s).pending = s.pending := by
  unfold State.voteDeadline; simp

@[simp] theorem State.voteDeadline_otp (s : State) :
    (State.voteDeadline s).sealSt.otp = s.sealSt.otp := by
  unfold State.voteDeadline; simp

@[simp] theorem State.twoKeyDiffers_pending (s : State) :
    (State.twoKeyDiffers s).pending = s.pending := by
  unfold State.twoKeyDiffers; simp

@[simp] theorem State.twoKeyDiffers_otp (s : State) :
    (State.twoKeyDiffers s).sealSt.otp = s.sealSt.otp := by
  unfold State.twoKeyDiffers; simp

@[simp] theorem State.compareLate_pending (s : State) (a b : List Pdu) (keep : Bool) :
    (State.compareLate s a b keep).pending = s.pending := by
  unfold State.compareLate; simp

@[simp] theorem State.compareLate_otp (s : State) (a b : List Pdu) (keep : Bool) :
    (State.compareLate s a b keep).sealSt.otp = s.sealSt.otp := by
  unfold State.compareLate; simp

@[simp] theorem State.twoKey_pending (s : State) :
    (State.twoKey s).pending = s.pending := by
  unfold State.twoKey; split <;> simp

@[simp] theorem State.twoKey_otp (s : State) :
    (State.twoKey s).sealSt.otp = s.sealSt.otp := by
  unfold State.twoKey; split <;> simp

@[simp] theorem State.countProbation_pending (s : State) (d : LaneId) :
    (State.countProbation s d).pending = s.pending := by
  unfold State.countProbation; simp

@[simp] theorem State.countProbation_otp (s : State) (d : LaneId) :
    (State.countProbation s d).sealSt.otp = s.sealSt.otp := by
  unfold State.countProbation; simp

@[simp] theorem State.takePage_pending (s : State) (d : LaneId) (p : Nat) (v : PageVerdict) :
    (s.takePage d p v).pending = s.pending := by
  unfold State.takePage; split <;> simp

@[simp] theorem State.takePage_otp (s : State) (d : LaneId) (p : Nat) (v : PageVerdict) :
    (s.takePage d p v).sealSt.otp = s.sealSt.otp := by
  unfold State.takePage; split <;> simp

@[simp] theorem State.compareAudit_pending (s : State) (d : LaneId) :
    (State.compareAudit s d).pending = s.pending := by
  unfold State.compareAudit; simp

@[simp] theorem State.compareAudit_otp (s : State) (d : LaneId) :
    (State.compareAudit s d).sealSt.otp = s.sealSt.otp := by
  unfold State.compareAudit; simp

@[simp] theorem State.abandonGap_pending (s : State) :
    (State.abandonGap s).pending = s.pending := by
  unfold State.abandonGap; simp

@[simp] theorem State.abandonGap_otp (s : State) :
    (State.abandonGap s).sealSt.otp = s.sealSt.otp := by
  unfold State.abandonGap; simp

@[simp] theorem State.closeGap_pending (s : State) :
    (State.closeGap s).pending = s.pending := by
  unfold State.closeGap; simp

@[simp] theorem State.closeGap_otp (s : State) :
    (State.closeGap s).sealSt.otp = s.sealSt.otp := by
  unfold State.closeGap; simp

@[simp] theorem State.spoilMisr_pending (s : State) (id : Nat) (l : Option LaneId) (misr : DWord) :
    (State.spoilMisr s id l misr).1.pending = s.pending := by
  unfold State.spoilMisr; split <;> simp

@[simp] theorem State.spoilMisr_otp (s : State) (id : Nat) (l : Option LaneId) (misr : DWord) :
    (State.spoilMisr s id l misr).1.sealSt.otp = s.sealSt.otp := by
  unfold State.spoilMisr; split <;> simp

@[simp] theorem State.releaseLane_pending (s : State) (l : LaneId) (slice : Nat) (misr : DWord) (restoreOk : Bool) (time : Word) :
    (State.releaseLane s l slice misr restoreOk time).pending = s.pending := by
  unfold State.releaseLane; simp

@[simp] theorem State.releaseLane_otp (s : State) (l : LaneId) (slice : Nat) (misr : DWord) (restoreOk : Bool) (time : Word) :
    (State.releaseLane s l slice misr restoreOk time).sealSt.otp = s.sealSt.otp := by
  unfold State.releaseLane; simp

@[simp] theorem State.disableGuardian_pending (s : State) (q : Nat) :
    (State.disableGuardian s q).pending = s.pending := by
  unfold State.disableGuardian; simp

@[simp] theorem State.disableGuardian_otp (s : State) (q : Nat) :
    (State.disableGuardian s q).sealSt.otp = s.sealSt.otp := by
  unfold State.disableGuardian; simp

@[simp] theorem State.sharedResult_pending (s : State) (q : Nat) (w : Word) (r : BistResult) :
    (s.sharedResult q w r).pending = s.pending := by
  unfold State.sharedResult
  repeat' (first | split | (simp; done))

@[simp] theorem State.sharedResult_otp (s : State) (q : Nat) (w : Word) (r : BistResult) :
    (s.sharedResult q w r).sealSt.otp = s.sealSt.otp := by
  unfold State.sharedResult
  repeat' (first | split | (simp; done))

@[simp] theorem State.releaseShared_pending (s : State) (q : Nat) (misr : DWord) (restoreOk : Bool) :
    (State.releaseShared s q misr restoreOk).pending = s.pending := by
  unfold State.releaseShared
  dsimp only
  rw [State.sharedResult_pending]
  show (List.foldl (_ : State → LaneId → State) _ _).pending = _
  rw [foldl_keep State.pending _ (fun _ _ => by simp)]
  exact State.spoilMisr_pending ..

@[simp] theorem State.releaseShared_otp (s : State) (q : Nat) (misr : DWord) (restoreOk : Bool) :
    (State.releaseShared s q misr restoreOk).sealSt.otp = s.sealSt.otp := by
  unfold State.releaseShared
  dsimp only
  rw [State.sharedResult_otp]
  show (List.foldl (_ : State → LaneId → State) _ _).sealSt.otp = _
  rw [foldl_keep (fun t : State => t.sealSt.otp) _ (fun _ _ => by simp)]
  exact State.spoilMisr_otp ..

@[simp] theorem State.bistCtrl_pending (s : State) (v : View) (w : Word) :
    (State.bistCtrl s v w).pending = s.pending := by
  unfold State.bistCtrl; split <;> simp

@[simp] theorem State.bistCtrl_otp (s : State) (v : View) (w : Word) :
    (State.bistCtrl s v w).sealSt.otp = s.sealSt.otp := by
  unfold State.bistCtrl; split <;> simp

@[simp] theorem State.updResync_pending (s : State) (f : Resync → Resync) :
    (State.updResync s f).pending = s.pending := by
  rfl

@[simp] theorem State.updResync_otp (s : State) (f : Resync → Resync) :
    (State.updResync s f).sealSt.otp = s.sealSt.otp := by
  rfl

@[simp] theorem State.markPage_pending (s : State) (p : Nat) (dirty : Bool) :
    (State.markPage s p dirty).pending = s.pending := by
  rfl

@[simp] theorem State.markPage_otp (s : State) (p : Nat) (dirty : Bool) :
    (State.markPage s p dirty).sealSt.otp = s.sealSt.otp := by
  rfl

@[simp] theorem State.pageArrived_pending (s : State) (p : Nat) (body : List Byte) :
    (State.pageArrived s p body).pending = s.pending := by
  rfl

@[simp] theorem State.pageArrived_otp (s : State) (p : Nat) (body : List Byte) :
    (State.pageArrived s p body).sealSt.otp = s.sealSt.otp := by
  rfl

@[simp] theorem State.copyPage_pending (s : State) (p : Nat) (m : LinkMsg) :
    (State.copyPage s p m).pending = s.pending := by
  unfold State.copyPage; simp

@[simp] theorem State.copyPage_otp (s : State) (p : Nat) (m : LinkMsg) :
    (State.copyPage s p m).sealSt.otp = s.sealSt.otp := by
  unfold State.copyPage; simp

@[simp] theorem State.copyM3_pending (s : State) :
    (State.copyM3 s).pending = s.pending := by
  rfl

@[simp] theorem State.copyM3_otp (s : State) :
    (State.copyM3 s).sealSt.otp = s.sealSt.otp := by
  rfl

@[simp] theorem State.newLayout_pending (s : State) (mirrored : Bool) :
    (State.newLayout s mirrored).pending = s.pending := by
  rfl

@[simp] theorem State.newLayout_otp (s : State) (mirrored : Bool) :
    (State.newLayout s mirrored).sealSt.otp = s.sealSt.otp := by
  rfl

@[simp] theorem State.startCopy_pending (s : State) (mirrored : Bool) :
    (State.startCopy s mirrored).pending = s.pending := by
  rfl

@[simp] theorem State.startCopy_otp (s : State) (mirrored : Bool) :
    (State.startCopy s mirrored).sealSt.otp = s.sealSt.otp := by
  rfl

@[simp] theorem State.startResync_pending (s : State) (x : LaneId) :
    (State.startResync s x).pending = s.pending := by
  rfl

@[simp] theorem State.startResync_otp (s : State) (x : LaneId) :
    (State.startResync s x).sealSt.otp = s.sealSt.otp := by
  rfl

@[simp] theorem State.failResync_pending (s : State) (d : Nat) :
    (State.failResync s d).pending = s.pending := by
  unfold State.failResync; simp

@[simp] theorem State.failResync_otp (s : State) (d : Nat) :
    (State.failResync s d).sealSt.otp = s.sealSt.otp := by
  unfold State.failResync; simp

@[simp] theorem State.startShadow_pending (s : State) :
    (State.startShadow s).pending = s.pending := by
  rfl

@[simp] theorem State.startShadow_otp (s : State) :
    (State.startShadow s).sealSt.otp = s.sealSt.otp := by
  rfl

@[simp] theorem State.endShadow_pending (s : State) :
    (State.endShadow s).pending = s.pending := by
  rfl

@[simp] theorem State.endShadow_otp (s : State) :
    (State.endShadow s).sealSt.otp = s.sealSt.otp := by
  rfl

@[simp] theorem State.clearCounts_pending (s : State) (l : LaneId) :
    (State.clearCounts s l).pending = s.pending := by
  rfl

@[simp] theorem State.clearCounts_otp (s : State) (l : LaneId) :
    (State.clearCounts s l).sealSt.otp = s.sealSt.otp := by
  rfl

@[simp] theorem State.rejoin_pending (s : State) (x : LaneId) :
    (State.rejoin s x).pending = s.pending := by
  unfold State.rejoin; simp

@[simp] theorem State.rejoin_otp (s : State) (x : LaneId) :
    (State.rejoin s x).sealSt.otp = s.sealSt.otp := by
  unfold State.rejoin; simp

@[simp] theorem State.countFence_pending (s : State) (x : LaneId) :
    (State.countFence s x).pending = s.pending := by
  rfl

@[simp] theorem State.countFence_otp (s : State) (x : LaneId) :
    (State.countFence s x).sealSt.otp = s.sealSt.otp := by
  rfl

@[simp] theorem State.fenceReset_pending (s : State) (x : LaneId) :
    (State.fenceReset s x).pending = s.pending := by
  unfold State.fenceReset; simp

@[simp] theorem State.fenceReset_otp (s : State) (x : LaneId) :
    (State.fenceReset s x).sealSt.otp = s.sealSt.otp := by
  unfold State.fenceReset; simp

@[simp] theorem State.setLatch_pending (s : State) (x : LaneId) :
    (State.setLatch s x).pending = s.pending := by
  unfold State.setLatch; simp

@[simp] theorem State.setLatch_otp (s : State) (x : LaneId) :
    (State.setLatch s x).sealSt.otp = s.sealSt.otp := by
  unfold State.setLatch; simp

@[simp] theorem State.applyLatch_pending (s : State) :
    (State.applyLatch s).pending = s.pending := by
  unfold State.applyLatch
  repeat' (first | rfl | (simp; done) | split | dsimp only | (refine (foldl_keep State.pending _ (fun _ _ => ?_) _ _).trans ?_))

@[simp] theorem State.applyLatch_otp (s : State) :
    (State.applyLatch s).sealSt.otp = s.sealSt.otp := by
  unfold State.applyLatch
  repeat' (first | rfl | (simp; done) | split | dsimp only | (refine (foldl_keep (fun t : State => t.sealSt.otp) _ (fun _ _ => ?_) _ _).trans ?_))

@[simp] theorem State.endAttempt_pending (s : State) :
    (State.endAttempt s).pending = s.pending := by
  unfold State.endAttempt; simp

@[simp] theorem State.endAttempt_otp (s : State) :
    (State.endAttempt s).sealSt.otp = s.sealSt.otp := by
  unfold State.endAttempt; simp

@[simp] theorem State.setMode_pending (s : State) (m : Mode) :
    (State.setMode s m).pending = s.pending := by
  rfl

@[simp] theorem State.setMode_otp (s : State) (m : Mode) :
    (State.setMode s m).sealSt.otp = s.sealSt.otp := by
  rfl

@[simp] theorem State.enterHold_pending (s : State) :
    (State.enterHold s).pending = s.pending := by
  unfold State.enterHold; simp

@[simp] theorem State.enterHold_otp (s : State) :
    (State.enterHold s).sealSt.otp = s.sealSt.otp := by
  unfold State.enterHold; simp

@[simp] theorem State.trialOver_pending (s : State) :
    (State.trialOver s).pending = s.pending := by
  unfold State.trialOver
  repeat' (first | rfl | (simp; done) | split | dsimp only | (refine (foldl_keep State.pending _ (fun _ _ => ?_) _ _).trans ?_))

@[simp] theorem State.trialOver_otp (s : State) :
    (State.trialOver s).sealSt.otp = s.sealSt.otp := by
  unfold State.trialOver
  repeat' (first | rfl | (simp; done) | split | dsimp only | (refine (foldl_keep (fun t : State => t.sealSt.otp) _ (fun _ _ => ?_) _ _).trans ?_))

@[simp] theorem State.enterRun_pending (s : State) :
    (State.enterRun s).pending = s.pending := by
  unfold State.enterRun; simp

@[simp] theorem State.enterRun_otp (s : State) :
    (State.enterRun s).sealSt.otp = s.sealSt.otp := by
  unfold State.enterRun; simp

@[simp] theorem State.exitJoining_pending (s : State) :
    (State.exitJoining s).pending = s.pending := by
  unfold State.exitJoining
  repeat' (first | rfl | (simp; done) | split | dsimp only | (refine (foldl_keep State.pending _ (fun _ _ => ?_) _ _).trans ?_))

@[simp] theorem State.exitJoining_otp (s : State) :
    (State.exitJoining s).sealSt.otp = s.sealSt.otp := by
  unfold State.exitJoining
  repeat' (first | rfl | (simp; done) | split | dsimp only | (refine (foldl_keep (fun t : State => t.sealSt.otp) _ (fun _ _ => ?_) _ _).trans ?_))

@[simp] theorem State.changeMode_pending (s : State) (e : ModeEvent) :
    (State.changeMode s e).pending = s.pending := by
  unfold State.changeMode
  repeat' (first | rfl | (simp; done) | split | dsimp only | (refine (foldl_keep State.pending _ (fun _ _ => ?_) _ _).trans ?_))

@[simp] theorem State.changeMode_otp (s : State) (e : ModeEvent) :
    (State.changeMode s e).sealSt.otp = s.sealSt.otp := by
  unfold State.changeMode
  repeat' (first | rfl | (simp; done) | split | dsimp only | (refine (foldl_keep (fun t : State => t.sealSt.otp) _ (fun _ _ => ?_) _ _).trans ?_))

@[simp] theorem State.decideMode_pending (s : State) (es : List ModeEvent) :
    (State.decideMode s es).pending = s.pending := by
  unfold State.decideMode
  repeat' (first | rfl | (simp; done) | split | dsimp only | (refine (foldl_keep State.pending _ (fun _ _ => ?_) _ _).trans ?_))

@[simp] theorem State.decideMode_otp (s : State) (es : List ModeEvent) :
    (State.decideMode s es).sealSt.otp = s.sealSt.otp := by
  unfold State.decideMode
  repeat' (first | rfl | (simp; done) | split | dsimp only | (refine (foldl_keep (fun t : State => t.sealSt.otp) _ (fun _ _ => ?_) _ _).trans ?_))

@[simp] theorem State.stopPackage_pending (s : State) (es : List ModeEvent) :
    (State.stopPackage s es).pending = s.pending := by
  unfold State.stopPackage; split <;> simp

@[simp] theorem State.stopPackage_otp (s : State) (es : List ModeEvent) :
    (State.stopPackage s es).sealSt.otp = s.sealSt.otp := by
  unfold State.stopPackage; split <;> simp

@[simp] theorem State.nextPhase_pending (s : State) :
    (State.nextPhase s).pending = s.pending := by
  unfold State.nextPhase
  repeat' (first | rfl | (simp; done) | split | dsimp only | (refine (foldl_keep State.pending _ (fun _ _ => ?_) _ _).trans ?_))

@[simp] theorem State.nextPhase_otp (s : State) :
    (State.nextPhase s).sealSt.otp = s.sealSt.otp := by
  unfold State.nextPhase
  repeat' (first | rfl | (simp; done) | split | dsimp only | (refine (foldl_keep (fun t : State => t.sealSt.otp) _ (fun _ _ => ?_) _ _).trans ?_))

@[simp] theorem State.applyOutputs_pending (s : State) (vital : Bool) :
    (State.applyOutputs s vital).pending = s.pending := by
  rfl

@[simp] theorem State.applyOutputs_otp (s : State) (vital : Bool) :
    (State.applyOutputs s vital).sealSt.otp = s.sealSt.otp := by
  rfl

@[simp] theorem State.releasePdus_pending (s : State) (vital : Bool) (late : Option (List Pdu × List Pdu)) :
    (State.releasePdus s vital late).pending = s.pending := by
  rfl

@[simp] theorem State.releasePdus_otp (s : State) (vital : Bool) (late : Option (List Pdu × List Pdu)) :
    (State.releasePdus s vital late).sealSt.otp = s.sealSt.otp := by
  rfl

@[simp] theorem State.showServing_pending (s : State) :
    (State.showServing s).pending = s.pending := by
  rfl

@[simp] theorem State.showServing_otp (s : State) :
    (State.showServing s).sealSt.otp = s.sealSt.otp := by
  rfl

@[simp] theorem State.clearCycle_pending (s : State) :
    (State.clearCycle s).pending = s.pending := by
  rfl

@[simp] theorem State.clearCycle_otp (s : State) :
    (State.clearCycle s).sealSt.otp = s.sealSt.otp := by
  rfl

@[simp] theorem State.cut_pending (s : State) :
    (State.cut s).pending = s.pending := by
  unfold State.cut; simp

@[simp] theorem State.cut_otp (s : State) :
    (State.cut s).sealSt.otp = s.sealSt.otp := by
  unfold State.cut; simp

@[simp] theorem State.cutHoldExit_pending (s : State) :
    (State.cutHoldExit s).pending = s.pending := by
  unfold State.cutHoldExit; simp

@[simp] theorem State.cutHoldExit_otp (s : State) :
    (State.cutHoldExit s).sealSt.otp = s.sealSt.otp := by
  unfold State.cutHoldExit; simp

@[simp] theorem State.cutJoining_pending (s : State) :
    (State.cutJoining s).pending = s.pending := by
  unfold State.cutJoining; simp

@[simp] theorem State.cutJoining_otp (s : State) :
    (State.cutJoining s).sealSt.otp = s.sealSt.otp := by
  unfold State.cutJoining; simp

@[simp] theorem State.cutSplit_pending (s : State) :
    (State.cutSplit s).pending = s.pending := by
  unfold State.cutSplit; split <;> simp

@[simp] theorem State.cutSplit_otp (s : State) :
    (State.cutSplit s).sealSt.otp = s.sealSt.otp := by
  unfold State.cutSplit; split <;> simp

@[simp] theorem State.disagreeing_pending (s : State) (l k : LaneId) (bad : RawWord) :
    (State.disagreeing s l k bad).pending = s.pending := by
  unfold State.disagreeing; simp

@[simp] theorem State.disagreeing_otp (s : State) (l k : LaneId) (bad : RawWord) :
    (State.disagreeing s l k bad).sealSt.otp = s.sealSt.otp := by
  unfold State.disagreeing; simp

@[simp] theorem State.agree_pending (s : State) (l : LaneId) (w : RawWord) :
    (State.agree s l w).pending = s.pending := by
  unfold State.agree; simp

@[simp] theorem State.agree_otp (s : State) (l : LaneId) (w : RawWord) :
    (State.agree s l w).sealSt.otp = s.sealSt.otp := by
  unfold State.agree; simp

@[simp] theorem State.agreementFails_pending (s : State) (l : LaneId) :
    (State.agreementFails s l).pending = s.pending := by
  unfold State.agreementFails; simp

@[simp] theorem State.agreementFails_otp (s : State) (l : LaneId) :
    (State.agreementFails s l).sealSt.otp = s.sealSt.otp := by
  unfold State.agreementFails; simp

@[simp] theorem State.agreeLane_pending (s : State) (l : LaneId) :
    (State.agreeLane s l).pending = s.pending := by
  unfold State.agreeLane; split <;> simp

@[simp] theorem State.agreeLane_otp (s : State) (l : LaneId) :
    (State.agreeLane s l).sealSt.otp = s.sealSt.otp := by
  unfold State.agreeLane; split <;> simp

@[simp] theorem State.formWord_pending (s : State) (l : LaneId) :
    (State.formWord s l).pending = s.pending := by
  unfold State.formWord; simp

@[simp] theorem State.formWord_otp (s : State) (l : LaneId) :
    (State.formWord s l).sealSt.otp = s.sealSt.otp := by
  unfold State.formWord; simp

@[simp] theorem State.fireAtStart_pending (s : State) :
    (State.fireAtStart s).pending = s.pending := by
  unfold State.fireAtStart
  repeat' (first | rfl | (simp; done) | split | dsimp only | (refine (foldl_keep State.pending _ (fun _ _ => ?_) _ _).trans ?_))

@[simp] theorem State.fireAtStart_otp (s : State) :
    (State.fireAtStart s).sealSt.otp = s.sealSt.otp := by
  unfold State.fireAtStart
  repeat' (first | rfl | (simp; done) | split | dsimp only | (refine (foldl_keep (fun t : State => t.sealSt.otp) _ (fun _ _ => ?_) _ _).trans ?_))

@[simp] theorem State.countArming_pending (s : State) :
    (State.countArming s).pending = s.pending := by
  rfl

@[simp] theorem State.countArming_otp (s : State) :
    (State.countArming s).sealSt.otp = s.sealSt.otp := by
  rfl

@[simp] theorem State.armCycle_pending (s : State) :
    (State.armCycle s).pending = s.pending := by
  unfold State.armCycle; simp

@[simp] theorem State.armCycle_otp (s : State) :
    (State.armCycle s).sealSt.otp = s.sealSt.otp := by
  unfold State.armCycle; simp

@[simp] theorem State.startViews_pending (s : State) (t : Nat) (loc : Bool) (p : Lane → Bool) :
    (State.startViews s t loc p).pending = s.pending := by
  rfl

@[simp] theorem State.startViews_otp (s : State) (t : Nat) (loc : Bool) (p : Lane → Bool) :
    (State.startViews s t loc p).sealSt.otp = s.sealSt.otp := by
  rfl

@[simp] theorem State.startAt_pending (s : State) (t : Nat) (loc : Bool) :
    (State.startAt s t loc).pending = s.pending := by
  unfold State.startAt
  repeat' (first
    | rfl
    | (simp [*]; done)
    | split
    | (refine (foldl_keep State.pending _ (fun _ _ => ?_) _ _).trans ?_)
    | (refine State.begin_pending _ _ _ _ _ _ ?_ )
    | (refine State.sources_pending _ _ _ _ _ ?_ )
    | (refine State.readReg_pending _ _ _ _ _ ?_ )
    | (refine State.bounds_pending _ _ _ _ _ _ ?_ )
    | (refine State.readStore_pending _ _ _ _ _ _ ?_ )
    | (refine State.denied_pending _ _ _ _ _ ?_ )
    | (refine State.element_pending _ _ _ _ _ _ _ ?_ )
    | (refine State.descParity_pending _ _ _ ?_ )
    | intro _
    | dsimp only
    | (simp only [*]; done)
    | simp [*])

@[simp] theorem State.startAt_otp (s : State) (t : Nat) (loc : Bool) :
    (State.startAt s t loc).sealSt.otp = s.sealSt.otp := by
  unfold State.startAt
  repeat' (first
    | rfl
    | (simp [*]; done)
    | split
    | (refine (foldl_keep (fun t : State => t.sealSt.otp) _ (fun _ _ => ?_) _ _).trans ?_)
    | (refine State.begin_otp _ _ _ _ _ _ ?_ )
    | (refine State.sources_otp _ _ _ _ _ ?_ )
    | (refine State.readReg_otp _ _ _ _ _ ?_ )
    | (refine State.bounds_otp _ _ _ _ _ _ ?_ )
    | (refine State.readStore_otp _ _ _ _ _ _ ?_ )
    | (refine State.denied_otp _ _ _ _ _ ?_ )
    | (refine State.element_otp _ _ _ _ _ _ _ ?_ )
    | (refine State.descParity_otp _ _ _ ?_ )
    | intro _
    | dsimp only
    | (simp only [*]; done)
    | simp [*])

@[simp] theorem State.startSplit_pending (s : State) :
    (State.startSplit s).pending = s.pending := by
  unfold State.startSplit
  repeat' (first
    | rfl
    | (simp [*]; done)
    | split
    | (refine (foldl_keep State.pending _ (fun _ _ => ?_) _ _).trans ?_)
    | (refine State.begin_pending _ _ _ _ _ _ ?_ )
    | (refine State.sources_pending _ _ _ _ _ ?_ )
    | (refine State.readReg_pending _ _ _ _ _ ?_ )
    | (refine State.bounds_pending _ _ _ _ _ _ ?_ )
    | (refine State.readStore_pending _ _ _ _ _ _ ?_ )
    | (refine State.denied_pending _ _ _ _ _ ?_ )
    | (refine State.element_pending _ _ _ _ _ _ _ ?_ )
    | (refine State.descParity_pending _ _ _ ?_ )
    | intro _
    | dsimp only
    | (simp only [*]; done)
    | simp [*])

@[simp] theorem State.startSplit_otp (s : State) :
    (State.startSplit s).sealSt.otp = s.sealSt.otp := by
  unfold State.startSplit
  repeat' (first
    | rfl
    | (simp [*]; done)
    | split
    | (refine (foldl_keep (fun t : State => t.sealSt.otp) _ (fun _ _ => ?_) _ _).trans ?_)
    | (refine State.begin_otp _ _ _ _ _ _ ?_ )
    | (refine State.sources_otp _ _ _ _ _ ?_ )
    | (refine State.readReg_otp _ _ _ _ _ ?_ )
    | (refine State.bounds_otp _ _ _ _ _ _ ?_ )
    | (refine State.readStore_otp _ _ _ _ _ _ ?_ )
    | (refine State.denied_otp _ _ _ _ _ ?_ )
    | (refine State.element_otp _ _ _ _ _ _ _ ?_ )
    | (refine State.descParity_otp _ _ _ ?_ )
    | intro _
    | dsimp only
    | (simp only [*]; done)
    | simp [*])

@[simp] theorem State.leaveHold_pending (s : State) :
    (State.leaveHold s).pending = s.pending := by
  unfold State.leaveHold; simp

@[simp] theorem State.leaveHold_otp (s : State) :
    (State.leaveHold s).sealSt.otp = s.sealSt.otp := by
  unfold State.leaveHold; simp

@[simp] theorem State.viewsOnly_pending (s : State) :
    (State.viewsOnly s).pending = s.pending := by
  rfl

@[simp] theorem State.viewsOnly_otp (s : State) :
    (State.viewsOnly s).sealSt.otp = s.sealSt.otp := by
  rfl

@[simp] theorem State.holdWatch_pending (s : State) (t : Nat) :
    (State.holdWatch s t).pending = s.pending := by
  unfold State.holdWatch
  repeat' (first | rfl | (simp; done) | split | dsimp only | (refine (foldl_keep State.pending _ (fun _ _ => ?_) _ _).trans ?_))

@[simp] theorem State.holdWatch_otp (s : State) (t : Nat) :
    (State.holdWatch s t).sealSt.otp = s.sealSt.otp := by
  unfold State.holdWatch
  repeat' (first | rfl | (simp; done) | split | dsimp only | (refine (foldl_keep (fun t : State => t.sealSt.otp) _ (fun _ _ => ?_) _ _).trans ?_))

@[simp] theorem State.holdBoundary_pending (s : State) :
    (State.holdBoundary s).pending = s.pending := by
  unfold State.holdBoundary; simp

@[simp] theorem State.holdBoundary_otp (s : State) :
    (State.holdBoundary s).sealSt.otp = s.sealSt.otp := by
  unfold State.holdBoundary; simp

@[simp] theorem State.startLocal_pending (s : State) :
    (State.startLocal s).pending = s.pending := by
  unfold State.startLocal; simp

@[simp] theorem State.startLocal_otp (s : State) :
    (State.startLocal s).sealSt.otp = s.sealSt.otp := by
  unfold State.startLocal; simp

@[simp] theorem State.openingFeeds_pending (s : State) (l : LaneId) :
    (State.openingFeeds s l).pending = s.pending := by
  rfl

@[simp] theorem State.openingFeeds_otp (s : State) (l : LaneId) :
    (State.openingFeeds s l).sealSt.otp = s.sealSt.otp := by
  rfl

@[simp] theorem State.recordLinks_pending (s : State) (l : LaneId) (es : List SlEvent) :
    (State.recordLinks s l es).pending = s.pending := by
  unfold State.recordLinks
  repeat' (first | rfl | (simp; done) | split | dsimp only | (refine (foldl_keep State.pending _ (fun _ _ => ?_) _ _).trans ?_))

@[simp] theorem State.recordLinks_otp (s : State) (l : LaneId) (es : List SlEvent) :
    (State.recordLinks s l es).sealSt.otp = s.sealSt.otp := by
  unfold State.recordLinks
  repeat' (first | rfl | (simp; done) | split | dsimp only | (refine (foldl_keep (fun t : State => t.sealSt.otp) _ (fun _ _ => ?_) _ _).trans ?_))

@[simp] theorem State.spoilCuts_pending (s : State) (ls : List LaneId) :
    (State.spoilCuts s ls).pending = s.pending := by
  unfold State.spoilCuts
  repeat' (first
    | rfl
    | (simp [*]; done)
    | split
    | (refine (foldl_keep State.pending _ (fun _ _ => ?_) _ _).trans ?_)
    | (refine State.begin_pending _ _ _ _ _ _ ?_ )
    | (refine State.sources_pending _ _ _ _ _ ?_ )
    | (refine State.readReg_pending _ _ _ _ _ ?_ )
    | (refine State.bounds_pending _ _ _ _ _ _ ?_ )
    | (refine State.readStore_pending _ _ _ _ _ _ ?_ )
    | (refine State.denied_pending _ _ _ _ _ ?_ )
    | (refine State.element_pending _ _ _ _ _ _ _ ?_ )
    | (refine State.descParity_pending _ _ _ ?_ )
    | intro _
    | dsimp only
    | (simp only [*]; done)
    | simp [*])

@[simp] theorem State.spoilCuts_otp (s : State) (ls : List LaneId) :
    (State.spoilCuts s ls).sealSt.otp = s.sealSt.otp := by
  unfold State.spoilCuts
  repeat' (first
    | rfl
    | (simp [*]; done)
    | split
    | (refine (foldl_keep (fun t : State => t.sealSt.otp) _ (fun _ _ => ?_) _ _).trans ?_)
    | (refine State.begin_otp _ _ _ _ _ _ ?_ )
    | (refine State.sources_otp _ _ _ _ _ ?_ )
    | (refine State.readReg_otp _ _ _ _ _ ?_ )
    | (refine State.bounds_otp _ _ _ _ _ _ ?_ )
    | (refine State.readStore_otp _ _ _ _ _ _ ?_ )
    | (refine State.denied_otp _ _ _ _ _ ?_ )
    | (refine State.element_otp _ _ _ _ _ _ _ ?_ )
    | (refine State.descParity_otp _ _ _ ?_ )
    | intro _
    | dsimp only
    | (simp only [*]; done)
    | simp [*])

@[simp] theorem State.receive_pending (s : State) (l : LaneId) :
    (State.receive s l).pending = s.pending := by
  unfold State.receive; simp

@[simp] theorem State.receive_otp (s : State) (l : LaneId) :
    (State.receive s l).sealSt.otp = s.sealSt.otp := by
  unfold State.receive; simp

@[simp] theorem State.restartEvents_pending (s : State) (l : LaneId) :
    (State.restartEvents s l).1.pending = s.pending := by
  unfold State.restartEvents; split <;> simp

@[simp] theorem State.restartEvents_otp (s : State) (l : LaneId) :
    (State.restartEvents s l).1.sealSt.otp = s.sealSt.otp := by
  unfold State.restartEvents; split <;> simp

@[simp] theorem State.startApp_pending (s : State) (l : LaneId) (request : Option Bool) :
    (State.startApp s l request).pending = s.pending := by
  rfl

@[simp] theorem State.startApp_otp (s : State) (l : LaneId) (request : Option Bool) :
    (State.startApp s l request).sealSt.otp = s.sealSt.otp := by
  rfl

@[simp] theorem State.stopPdu_pending (s : State) (l : LaneId) :
    (State.stopPdu s l).pending = s.pending := by
  unfold State.stopPdu; simp

@[simp] theorem State.stopPdu_otp (s : State) (l : LaneId) :
    (State.stopPdu s l).sealSt.otp = s.sealSt.otp := by
  unfold State.stopPdu; simp

@[simp] theorem State.actRestart_pending (s : State) (l : LaneId) (r : Option Bool) : (s.actRestart l r).1.pending = s.pending := by
  cases r with
  | none => rfl
  | some b => unfold State.actRestart; repeat' (first | rfl | (simp; done) | split)

@[simp] theorem State.prepare_pending (s : State) (l : LaneId) :
    (State.prepare s l).pending = s.pending := by
  unfold State.prepare
  repeat' (first
    | rfl
    | (simp [*]; done)
    | split
    | (refine (foldl_keep State.pending _ (fun _ _ => ?_) _ _).trans ?_)
    | (refine State.begin_pending _ _ _ _ _ _ ?_ )
    | (refine State.sources_pending _ _ _ _ _ ?_ )
    | (refine State.readReg_pending _ _ _ _ _ ?_ )
    | (refine State.bounds_pending _ _ _ _ _ _ ?_ )
    | (refine State.readStore_pending _ _ _ _ _ _ ?_ )
    | (refine State.denied_pending _ _ _ _ _ ?_ )
    | (refine State.element_pending _ _ _ _ _ _ _ ?_ )
    | (refine State.descParity_pending _ _ _ ?_ )
    | intro _
    | dsimp only
    | (simp only [*]; done)
    | simp [*])

@[simp] theorem State.actRestart_otp (s : State) (l : LaneId) (r : Option Bool) : (s.actRestart l r).1.sealSt.otp = s.sealSt.otp := by
  cases r with
  | none => rfl
  | some b => unfold State.actRestart; repeat' (first | rfl | (simp; done) | split)

@[simp] theorem State.prepare_otp (s : State) (l : LaneId) :
    (State.prepare s l).sealSt.otp = s.sealSt.otp := by
  unfold State.prepare
  repeat' (first
    | rfl
    | (simp [*]; done)
    | split
    | (refine (foldl_keep (fun t : State => t.sealSt.otp) _ (fun _ _ => ?_) _ _).trans ?_)
    | (refine State.begin_otp _ _ _ _ _ _ ?_ )
    | (refine State.sources_otp _ _ _ _ _ ?_ )
    | (refine State.readReg_otp _ _ _ _ _ ?_ )
    | (refine State.bounds_otp _ _ _ _ _ _ ?_ )
    | (refine State.readStore_otp _ _ _ _ _ _ ?_ )
    | (refine State.denied_otp _ _ _ _ _ ?_ )
    | (refine State.element_otp _ _ _ _ _ _ _ ?_ )
    | (refine State.descParity_otp _ _ _ ?_ )
    | intro _
    | dsimp only
    | (simp only [*]; done)
    | simp [*])

@[simp] theorem State.agreementVote_pending (s : State) :
    (State.agreementVote s).pending = s.pending := by
  unfold State.agreementVote; simp

@[simp] theorem State.agreementVote_otp (s : State) :
    (State.agreementVote s).sealSt.otp = s.sealSt.otp := by
  unfold State.agreementVote; simp

@[simp] theorem State.agreementIdle_pending (s : State) :
    (State.agreementIdle s).pending = s.pending := by
  unfold State.agreementIdle; simp

@[simp] theorem State.agreementIdle_otp (s : State) :
    (State.agreementIdle s).sealSt.otp = s.sealSt.otp := by
  unfold State.agreementIdle; simp

@[simp] theorem State.agreementSafe_pending (s : State) :
    (State.agreementSafe s).pending = s.pending := by
  unfold State.agreementSafe
  repeat' (first
    | rfl
    | (simp [*]; done)
    | split
    | (refine (foldl_keep State.pending _ (fun _ _ => ?_) _ _).trans ?_)
    | (refine State.begin_pending _ _ _ _ _ _ ?_ )
    | (refine State.sources_pending _ _ _ _ _ ?_ )
    | (refine State.readReg_pending _ _ _ _ _ ?_ )
    | (refine State.bounds_pending _ _ _ _ _ _ ?_ )
    | (refine State.readStore_pending _ _ _ _ _ _ ?_ )
    | (refine State.denied_pending _ _ _ _ _ ?_ )
    | (refine State.element_pending _ _ _ _ _ _ _ ?_ )
    | (refine State.descParity_pending _ _ _ ?_ )
    | intro _
    | dsimp only
    | (simp only [*]; done)
    | simp [*])

@[simp] theorem State.agreementSafe_otp (s : State) :
    (State.agreementSafe s).sealSt.otp = s.sealSt.otp := by
  unfold State.agreementSafe
  repeat' (first
    | rfl
    | (simp [*]; done)
    | split
    | (refine (foldl_keep (fun t : State => t.sealSt.otp) _ (fun _ _ => ?_) _ _).trans ?_)
    | (refine State.begin_otp _ _ _ _ _ _ ?_ )
    | (refine State.sources_otp _ _ _ _ _ ?_ )
    | (refine State.readReg_otp _ _ _ _ _ ?_ )
    | (refine State.bounds_otp _ _ _ _ _ _ ?_ )
    | (refine State.readStore_otp _ _ _ _ _ _ ?_ )
    | (refine State.denied_otp _ _ _ _ _ ?_ )
    | (refine State.element_otp _ _ _ _ _ _ _ ?_ )
    | (refine State.descParity_otp _ _ _ ?_ )
    | intro _
    | dsimp only
    | (simp only [*]; done)
    | simp [*])

@[simp] theorem State.agreementSplit_pending (s : State) (l : LaneId) :
    (State.agreementSplit s l).pending = s.pending := by
  unfold State.agreementSplit; simp

@[simp] theorem State.agreementSplit_otp (s : State) (l : LaneId) :
    (State.agreementSplit s l).sealSt.otp = s.sealSt.otp := by
  unfold State.agreementSplit; simp

@[simp] theorem State.checkClocks_pending (s : State) (act : State → State) (h0 : ∀ u : State, ((act u).pending) = (u).pending) :
    (State.checkClocks s act).pending = s.pending := by
  unfold State.checkClocks; simp [*]

@[simp] theorem State.checkClocks_otp (s : State) (act : State → State) (h0 : ∀ u : State, ((act u).sealSt.otp) = (u).sealSt.otp) :
    (State.checkClocks s act).sealSt.otp = s.sealSt.otp := by
  unfold State.checkClocks; simp [*]

@[simp] theorem State.addCause_pending (s : State) (l : LaneId) :
    (State.addCause s l).pending = s.pending := by
  unfold State.addCause
  repeat' (first | rfl | (simp; done) | split | dsimp only | (refine (foldl_keep State.pending _ (fun _ _ => ?_) _ _).trans ?_))

@[simp] theorem State.addCause_otp (s : State) (l : LaneId) :
    (State.addCause s l).sealSt.otp = s.sealSt.otp := by
  unfold State.addCause
  repeat' (first | rfl | (simp; done) | split | dsimp only | (refine (foldl_keep (fun t : State => t.sealSt.otp) _ (fun _ _ => ?_) _ _).trans ?_))

@[simp] theorem State.addUnattributable_pending (s : State) :
    (State.addUnattributable s).pending = s.pending := by
  unfold State.addUnattributable
  repeat' (first | rfl | (simp; done) | split | dsimp only | (refine (foldl_keep State.pending _ (fun _ _ => ?_) _ _).trans ?_))

@[simp] theorem State.addUnattributable_otp (s : State) :
    (State.addUnattributable s).sealSt.otp = s.sealSt.otp := by
  unfold State.addUnattributable
  repeat' (first | rfl | (simp; done) | split | dsimp only | (refine (foldl_keep (fun t : State => t.sealSt.otp) _ (fun _ _ => ?_) _ _).trans ?_))

@[simp] theorem State.startEvalInjections_pending (s : State) :
    (State.startEvalInjections s).pending = s.pending := by
  unfold State.startEvalInjections; simp

@[simp] theorem State.startEvalInjections_otp (s : State) :
    (State.startEvalInjections s).sealSt.otp = s.sealSt.otp := by
  unfold State.startEvalInjections; simp

@[simp] theorem State.passEvalInjections_pending (s : State) :
    (State.passEvalInjections s).pending = s.pending := by
  unfold State.passEvalInjections; simp

@[simp] theorem State.passEvalInjections_otp (s : State) :
    (State.passEvalInjections s).sealSt.otp = s.sealSt.otp := by
  rfl

@[simp] theorem State.tripOutput_pending (s : State) (o : Nat) :
    (State.tripOutput s o).pending = s.pending := by
  unfold State.tripOutput; simp

@[simp] theorem State.tripOutput_otp (s : State) (o : Nat) :
    (State.tripOutput s o).sealSt.otp = s.sealSt.otp := by
  unfold State.tripOutput; simp

@[simp] theorem State.discardIn_pending (s : State) (g : Nat) :
    (State.discardIn s g).pending = s.pending := by
  unfold State.discardIn; split <;> simp

@[simp] theorem State.discardIn_otp (s : State) (g : Nat) :
    (State.discardIn s g).sealSt.otp = s.sealSt.otp := by
  unfold State.discardIn; split <;> simp

@[simp] theorem State.groupStop_pending (s : State) (o : Nat) (code : BitVec 4) (name : RecName) :
    (State.groupStop s o code name).pending = s.pending := by
  unfold State.groupStop; simp

@[simp] theorem State.groupStop_otp (s : State) (o : Nat) (code : BitVec 4) (name : RecName) :
    (State.groupStop s o code name).sealSt.otp = s.sealSt.otp := by
  unfold State.groupStop; simp

@[simp] theorem State.switchFault_pending (s : State) (l : LaneId) (o : Fin 48) :
    (State.switchFault s l o).pending = s.pending := by
  unfold State.switchFault; simp

@[simp] theorem State.switchFault_otp (s : State) (l : LaneId) (o : Fin 48) :
    (State.switchFault s l o).sealSt.otp = s.sealSt.otp := by
  unfold State.switchFault; simp

@[simp] theorem State.startPulse_pending (s : State) (o : Fin 48) :
    (State.startPulse s o).pending = s.pending := by
  rfl

@[simp] theorem State.startPulse_otp (s : State) (o : Fin 48) :
    (State.startPulse s o).sealSt.otp = s.sealSt.otp := by
  rfl

@[simp] theorem State.slotPulse_pending (s : State) (o : Fin 48) :
    (State.slotPulse s o).pending = s.pending := by
  unfold State.slotPulse; split <;> simp

@[simp] theorem State.slotPulse_otp (s : State) (o : Fin 48) :
    (State.slotPulse s o).sealSt.otp = s.sealSt.otp := by
  unfold State.slotPulse; split <;> simp

@[simp] theorem State.latePulse_pending (s : State) (o : Fin 48) (t : DWord) :
    (State.latePulse s o t).pending = s.pending := by
  unfold State.latePulse; simp

@[simp] theorem State.latePulse_otp (s : State) (o : Fin 48) (t : DWord) :
    (State.latePulse s o t).sealSt.otp = s.sealSt.otp := by
  unfold State.latePulse; simp

@[simp] theorem State.closePulse_pending (s : State) (o : Fin 48) :
    (State.closePulse s o).pending = s.pending := by
  rfl

@[simp] theorem State.closePulse_otp (s : State) (o : Fin 48) :
    (State.closePulse s o).sealSt.otp = s.sealSt.otp := by
  rfl

@[simp] theorem State.pulseResult_pending (s : State) (o : Fin 48) (high : Bool) (v : PulseSample) :
    (State.pulseResult s o high v).pending = s.pending := by
  unfold State.pulseResult
  repeat' (first | rfl | (simp; done) | split | dsimp only | (refine (foldl_keep State.pending _ (fun _ _ => ?_) _ _).trans ?_))

@[simp] theorem State.pulseResult_otp (s : State) (o : Fin 48) (high : Bool) (v : PulseSample) :
    (State.pulseResult s o high v).sealSt.otp = s.sealSt.otp := by
  unfold State.pulseResult
  repeat' (first | rfl | (simp; done) | split | dsimp only | (refine (foldl_keep (fun t : State => t.sealSt.otp) _ (fun _ _ => ?_) _ _).trans ?_))

@[simp] theorem State.pulseLane_pending (s : State) (l : LaneId) (src : Nat) (w : RawWord) :
    (State.pulseLane s l src w).pending = s.pending := by
  unfold State.pulseLane; simp

@[simp] theorem State.pulseLane_otp (s : State) (l : LaneId) (src : Nat) (w : RawWord) :
    (State.pulseLane s l src w).sealSt.otp = s.sealSt.otp := by
  unfold State.pulseLane; simp

@[simp] theorem State.tpCondition_pending (s : State) (src : Nat) (on off : Bool) :
    (State.tpCondition s src on off).pending = s.pending := by
  unfold State.tpCondition; simp

@[simp] theorem State.tpCondition_otp (s : State) (src : Nat) (on off : Bool) :
    (State.tpCondition s src on off).sealSt.otp = s.sealSt.otp := by
  unfold State.tpCondition; simp

@[simp] theorem State.tpPulseEnd_pending (s : State) (source : Fin 8) (volt : BitVec 12) :
    (State.tpPulseEnd s source volt).pending = s.pending := by
  unfold State.tpPulseEnd; split <;> simp

@[simp] theorem State.tpPulseEnd_otp (s : State) (source : Fin 8) (volt : BitVec 12) :
    (State.tpPulseEnd s source volt).sealSt.otp = s.sealSt.otp := by
  unfold State.tpPulseEnd; split <;> simp

@[simp] theorem State.tpOutside_pending (s : State) (source : Fin 8) (volt : BitVec 12) (us : Nat) :
    (State.tpOutside s source volt us).pending = s.pending := by
  unfold State.tpOutside; simp

@[simp] theorem State.tpOutside_otp (s : State) (source : Fin 8) (volt : BitVec 12) (us : Nat) :
    (State.tpOutside s source volt us).sealSt.otp = s.sealSt.otp := by
  unfold State.tpOutside; simp

@[simp] theorem State.debug_pending (s : State) (l : LaneId) (may : Lane → Bool) (act : Lane → Lane) :
    (State.debug s l may act).pending = s.pending := by
  rfl

@[simp] theorem State.debug_otp (s : State) (l : LaneId) (may : Lane → Bool) (act : Lane → Lane) :
    (State.debug s l may act).sealSt.otp = s.sealSt.otp := by
  rfl

@[simp] theorem State.dbgPort_pending (s : State) (l : LaneId) (addr : Word) (data : Option Word) :
    (State.dbgPort s l addr data).pending = s.pending := by
  unfold State.dbgPort; simp

@[simp] theorem State.dbgPort_otp (s : State) (l : LaneId) (addr : Word) (data : Option Word) :
    (State.dbgPort s l addr data).sealSt.otp = s.sealSt.otp := by
  unfold State.dbgPort; simp

@[simp] theorem State.dbgRead_pending (s : State) (l : LaneId) (addr : Word) (f : Lane → Option Word) :
    (State.dbgRead s l addr f).pending = s.pending := by
  unfold State.dbgRead; simp

@[simp] theorem State.dbgRead_otp (s : State) (l : LaneId) (addr : Word) (f : Lane → Option Word) :
    (State.dbgRead s l addr f).sealSt.otp = s.sealSt.otp := by
  unfold State.dbgRead; simp

@[simp] theorem State.runOn_pending (s : State) (l : LaneId) (may : Lane → Bool) (steps : Option Nat) :
    (State.runOn s l may steps).pending = s.pending := by
  unfold State.runOn
  repeat' (first | rfl | (simp; done) | split | dsimp only | (refine (foldl_keep State.pending _ (fun _ _ => ?_) _ _).trans ?_))

@[simp] theorem State.runOn_otp (s : State) (l : LaneId) (may : Lane → Bool) (steps : Option Nat) :
    (State.runOn s l may steps).sealSt.otp = s.sealSt.otp := by
  unfold State.runOn
  repeat' (first | rfl | (simp; done) | split | dsimp only | (refine (foldl_keep (fun t : State => t.sealSt.otp) _ (fun _ _ => ?_) _ _).trans ?_))

@[simp] theorem State.dbgHalt_pending (s : State) (l : LaneId) :
    (State.dbgHalt s l).pending = s.pending := by
  rfl

@[simp] theorem State.dbgHalt_otp (s : State) (l : LaneId) :
    (State.dbgHalt s l).sealSt.otp = s.sealSt.otp := by
  rfl

@[simp] theorem State.dbgResume_pending (s : State) (l : LaneId) :
    (State.dbgResume s l).pending = s.pending := by
  unfold State.dbgResume; simp

@[simp] theorem State.dbgResume_otp (s : State) (l : LaneId) :
    (State.dbgResume s l).sealSt.otp = s.sealSt.otp := by
  unfold State.dbgResume; simp

@[simp] theorem State.dbgStep_pending (s : State) (l : LaneId) (n : Half) :
    (State.dbgStep s l n).pending = s.pending := by
  unfold State.dbgStep; simp

@[simp] theorem State.dbgStep_otp (s : State) (l : LaneId) (n : Half) :
    (State.dbgStep s l n).sealSt.otp = s.sealSt.otp := by
  unfold State.dbgStep; simp

@[simp] theorem State.dbgNextCycle_pending (s : State) (l : LaneId) :
    (State.dbgNextCycle s l).pending = s.pending := by
  unfold State.dbgNextCycle; simp

@[simp] theorem State.dbgNextCycle_otp (s : State) (l : LaneId) :
    (State.dbgNextCycle s l).sealSt.otp = s.sealSt.otp := by
  unfold State.dbgNextCycle; simp

@[simp] theorem State.dbgReadReg_pending (s : State) (l : LaneId) (addr : Word) :
    (State.dbgReadReg s l addr).pending = s.pending := by
  unfold State.dbgReadReg; simp

@[simp] theorem State.dbgReadReg_otp (s : State) (l : LaneId) (addr : Word) :
    (State.dbgReadReg s l addr).sealSt.otp = s.sealSt.otp := by
  unfold State.dbgReadReg; simp

@[simp] theorem State.dbgWriteReg_pending (s : State) (l : LaneId) (addr data : Word) :
    (State.dbgWriteReg s l addr data).pending = s.pending := by
  unfold State.dbgWriteReg; simp

@[simp] theorem State.dbgWriteReg_otp (s : State) (l : LaneId) (addr data : Word) :
    (State.dbgWriteReg s l addr data).sealSt.otp = s.sealSt.otp := by
  unfold State.dbgWriteReg; simp

@[simp] theorem State.dbgReadCr_pending (s : State) (l : LaneId) (addr : Word) :
    (State.dbgReadCr s l addr).pending = s.pending := by
  unfold State.dbgReadCr; simp

@[simp] theorem State.dbgReadCr_otp (s : State) (l : LaneId) (addr : Word) :
    (State.dbgReadCr s l addr).sealSt.otp = s.sealSt.otp := by
  unfold State.dbgReadCr; simp

@[simp] theorem State.dbgWriteCr_pending (s : State) (l : LaneId) (addr data : Word) :
    (State.dbgWriteCr s l addr data).pending = s.pending := by
  unfold State.dbgWriteCr; simp

@[simp] theorem State.dbgWriteCr_otp (s : State) (l : LaneId) (addr data : Word) :
    (State.dbgWriteCr s l addr data).sealSt.otp = s.sealSt.otp := by
  unfold State.dbgWriteCr; simp

@[simp] theorem State.dbgReadMem_pending (s : State) (l : LaneId) (addr : Word) :
    (State.dbgReadMem s l addr).pending = s.pending := by
  unfold State.dbgReadMem; simp

@[simp] theorem State.dbgReadMem_otp (s : State) (l : LaneId) (addr : Word) :
    (State.dbgReadMem s l addr).sealSt.otp = s.sealSt.otp := by
  unfold State.dbgReadMem; simp

@[simp] theorem State.dbgWriteMem_pending (s : State) (l : LaneId) (addr data : Word) :
    (State.dbgWriteMem s l addr data).pending = s.pending := by
  unfold State.dbgWriteMem; simp

@[simp] theorem State.dbgWriteMem_otp (s : State) (l : LaneId) (addr data : Word) :
    (State.dbgWriteMem s l addr data).sealSt.otp = s.sealSt.otp := by
  unfold State.dbgWriteMem; simp

@[simp] theorem State.dbgSetBrk_pending (s : State) (l : LaneId) (addr : Word) :
    (State.dbgSetBrk s l addr).pending = s.pending := by
  unfold State.dbgSetBrk; simp

@[simp] theorem State.dbgSetBrk_otp (s : State) (l : LaneId) (addr : Word) :
    (State.dbgSetBrk s l addr).sealSt.otp = s.sealSt.otp := by
  unfold State.dbgSetBrk; simp

@[simp] theorem State.dbgClearBrk_pending (s : State) (l : LaneId) (addr : Word) :
    (State.dbgClearBrk s l addr).pending = s.pending := by
  unfold State.dbgClearBrk; simp

@[simp] theorem State.dbgClearBrk_otp (s : State) (l : LaneId) (addr : Word) :
    (State.dbgClearBrk s l addr).sealSt.otp = s.sealSt.otp := by
  unfold State.dbgClearBrk; simp

@[simp] theorem State.dbgCommand_pending (s : State) (l : LaneId) (w : Word) :
    (State.dbgCommand s l w).pending = s.pending := by
  unfold State.dbgCommand; split <;> simp

@[simp] theorem State.dbgCommand_otp (s : State) (l : LaneId) (w : Word) :
    (State.dbgCommand s l w).sealSt.otp = s.sealSt.otp := by
  unfold State.dbgCommand; split <;> simp

@[simp] theorem State.latchNt_pending (s : State) (l : LaneId) :
    (State.latchNt s l).pending = s.pending := by
  rfl

@[simp] theorem State.latchNt_otp (s : State) (l : LaneId) :
    (State.latchNt s l).sealSt.otp = s.sealSt.otp := by
  rfl

@[simp] theorem State.latchCycle_pending (s : State) (l : LaneId) :
    (State.latchCycle s l).pending = s.pending := by
  rfl

@[simp] theorem State.latchCycle_otp (s : State) (l : LaneId) :
    (State.latchCycle s l).sealSt.otp = s.sealSt.otp := by
  rfl

@[simp] theorem State.latchOptime_pending (s : State) :
    (State.latchOptime s).pending = s.pending := by
  rfl

@[simp] theorem State.latchOptime_otp (s : State) :
    (State.latchOptime s).sealSt.otp = s.sealSt.otp := by
  rfl

@[simp] theorem State.latchRead_pending (s : State) (l : LaneId) (n off : Nat) :
    (State.latchRead s l n off).pending = s.pending := by
  unfold State.latchRead; split <;> simp

@[simp] theorem State.latchRead_otp (s : State) (l : LaneId) (n off : Nat) :
    (State.latchRead s l n off).sealSt.otp = s.sealSt.otp := by
  unfold State.latchRead; split <;> simp

@[simp] theorem State.clearRead_pending (s : State) (l : LaneId) (n off : Nat) :
    (State.clearRead s l n off).pending = s.pending := by
  unfold State.clearRead; split <;> simp

@[simp] theorem State.clearRead_otp (s : State) (l : LaneId) (n off : Nat) :
    (State.clearRead s l n off).sealSt.otp = s.sealSt.otp := by
  unfold State.clearRead; split <;> simp

@[simp] theorem State.readRegister_pending (s : State) (v : View) (n off : Nat) :
    (State.readRegister s v n off).pending = s.pending := by
  unfold State.readRegister
  repeat' (first | rfl | (simp; done) | split | dsimp only | (refine (foldl_keep State.pending _ (fun _ _ => ?_) _ _).trans ?_))

@[simp] theorem State.readRegister_otp (s : State) (v : View) (n off : Nat) :
    (State.readRegister s v n off).sealSt.otp = s.sealSt.otp := by
  unfold State.readRegister
  repeat' (first | rfl | (simp; done) | split | dsimp only | (refine (foldl_keep (fun t : State => t.sealSt.otp) _ (fun _ _ => ?_) _ _).trans ?_))

@[simp] theorem State.slControl_pending (s : State) (l : LaneId) (on : Bool) :
    (State.slControl s l on).pending = s.pending := by
  unfold State.slControl; simp

@[simp] theorem State.slControl_otp (s : State) (l : LaneId) (on : Bool) :
    (State.slControl s l on).sealSt.otp = s.sealSt.otp := by
  unfold State.slControl; simp

@[simp] theorem State.cycleConfig_pending (s : State) (l : LaneId) (w : Word) :
    (State.cycleConfig s l w).pending = s.pending := by
  unfold State.cycleConfig; simp

@[simp] theorem State.cycleConfig_otp (s : State) (l : LaneId) (w : Word) :
    (State.cycleConfig s l w).sealSt.otp = s.sealSt.otp := by
  unfold State.cycleConfig; simp

@[simp] theorem State.writeVio_pending (s : State) (l : LaneId) (off : Nat) (w : Word) :
    (State.writeVio s l off w).pending = s.pending := by
  unfold State.writeVio; simp

@[simp] theorem State.writeVio_otp (s : State) (l : LaneId) (off : Nat) (w : Word) :
    (State.writeVio s l off w).sealSt.otp = s.sealSt.otp := by
  unfold State.writeVio; simp

@[simp] theorem State.resetReqWord_pending (s : State) (l : LaneId) (w : Word) :
    (State.resetReqWord s l w).pending = s.pending := by
  unfold State.resetReqWord; simp

@[simp] theorem State.resetReqWord_otp (s : State) (l : LaneId) (w : Word) :
    (State.resetReqWord s l w).sealSt.otp = s.sealSt.otp := by
  unfold State.resetReqWord; simp

@[simp] theorem State.laneCtrl_pending (s : State) (l : LaneId) (mirrored : Bool) :
    (State.laneCtrl s l mirrored).pending = s.pending := by
  unfold State.laneCtrl; simp

@[simp] theorem State.laneCtrl_otp (s : State) (l : LaneId) (mirrored : Bool) :
    (State.laneCtrl s l mirrored).sealSt.otp = s.sealSt.otp := by
  unfold State.laneCtrl; simp

@[simp] theorem State.runtimeWrite_pending (s : State) (l : LaneId) (n off : Nat) (w : Word) :
    (State.runtimeWrite s l n off w).pending = s.pending := by
  unfold State.runtimeWrite; split <;> simp

@[simp] theorem State.runtimeWrite_otp (s : State) (l : LaneId) (n off : Nat) (w : Word) :
    (State.runtimeWrite s l n off w).sealSt.otp = s.sealSt.otp := by
  unfold State.runtimeWrite; split <;> simp

@[simp] theorem State.serviceWrite_pending (s : State) (l : LaneId) (secure : Bool) (n off : Nat) (w : Word) :
    (State.serviceWrite s l secure n off w).pending = s.pending := by
  unfold State.serviceWrite; split <;> simp

@[simp] theorem State.serviceWrite_otp (s : State) (l : LaneId) (secure : Bool) (n off : Nat) (w : Word) :
    (State.serviceWrite s l secure n off w).sealSt.otp = s.sealSt.otp := by
  unfold State.serviceWrite; split <;> simp

@[simp] theorem State.writeRegister_pending (s : State) (v : View) (n off addr : Nat) (w : Word) :
    (State.writeRegister s v n off addr w).pending = s.pending := by
  unfold State.writeRegister; split <;> simp

@[simp] theorem State.writeRegister_otp (s : State) (v : View) (n off addr : Nat) (w : Word) :
    (State.writeRegister s v n off addr w).sealSt.otp = s.sealSt.otp := by
  unfold State.writeRegister; split <;> simp

@[simp] theorem State.loadBlock_pending (s : State) (l : LaneId) (d : Reg) (ea : Word) :
    (State.loadBlock s l d ea).pending = s.pending := by
  unfold State.loadBlock
  repeat' (first | rfl | (simp; done) | split | dsimp only | (refine (foldl_keep State.pending _ (fun _ _ => ?_) _ _).trans ?_))

@[simp] theorem State.loadBlock_otp (s : State) (l : LaneId) (d : Reg) (ea : Word) :
    (State.loadBlock s l d ea).sealSt.otp = s.sealSt.otp := by
  unfold State.loadBlock
  repeat' (first | rfl | (simp; done) | split | dsimp only | (refine (foldl_keep (fun t : State => t.sealSt.otp) _ (fun _ _ => ?_) _ _).trans ?_))

@[simp] theorem State.loadFrom_pending (s : State) (l : LaneId) (i : Instr) (d : Reg) (n : Nat) (ea : Word) (f : Nat → Word) :
    (State.loadFrom s l i d n ea f).pending = s.pending := by
  unfold State.loadFrom; simp

@[simp] theorem State.loadFrom_otp (s : State) (l : LaneId) (i : Instr) (d : Reg) (n : Nat) (ea : Word) (f : Nat → Word) :
    (State.loadFrom s l i d n ea f).sealSt.otp = s.sealSt.otp := by
  unfold State.loadFrom; simp

@[simp] theorem State.load_pending (s : State) (l : LaneId) (i : Instr) (d a : Reg) (imm : Half) (n : Nat) (f : Nat → Word) :
    (State.load s l i d a imm n f).pending = s.pending := by
  unfold State.load
  repeat' (first
    | rfl
    | (simp [*]; done)
    | split
    | (refine (foldl_keep State.pending _ (fun _ _ => ?_) _ _).trans ?_)
    | (refine State.begin_pending _ _ _ _ _ _ ?_ )
    | (refine State.sources_pending _ _ _ _ _ ?_ )
    | (refine State.readReg_pending _ _ _ _ _ ?_ )
    | (refine State.bounds_pending _ _ _ _ _ _ ?_ )
    | (refine State.readStore_pending _ _ _ _ _ _ ?_ )
    | (refine State.denied_pending _ _ _ _ _ ?_ )
    | (refine State.element_pending _ _ _ _ _ _ _ ?_ )
    | (refine State.descParity_pending _ _ _ ?_ )
    | intro _
    | dsimp only
    | (simp only [*]; done)
    | simp [*])

@[simp] theorem State.load_otp (s : State) (l : LaneId) (i : Instr) (d a : Reg) (imm : Half) (n : Nat) (f : Nat → Word) :
    (State.load s l i d a imm n f).sealSt.otp = s.sealSt.otp := by
  unfold State.load
  repeat' (first
    | rfl
    | (simp [*]; done)
    | split
    | (refine (foldl_keep (fun t : State => t.sealSt.otp) _ (fun _ _ => ?_) _ _).trans ?_)
    | (refine State.begin_otp _ _ _ _ _ _ ?_ )
    | (refine State.sources_otp _ _ _ _ _ ?_ )
    | (refine State.readReg_otp _ _ _ _ _ ?_ )
    | (refine State.bounds_otp _ _ _ _ _ _ ?_ )
    | (refine State.readStore_otp _ _ _ _ _ _ ?_ )
    | (refine State.denied_otp _ _ _ _ _ ?_ )
    | (refine State.element_otp _ _ _ _ _ _ _ ?_ )
    | (refine State.descParity_otp _ _ _ ?_ )
    | intro _
    | dsimp only
    | (simp only [*]; done)
    | simp [*])

@[simp] theorem State.lb_pending (s : State) (l : LaneId) (d a : Reg) (imm : Half) :
    (State.lb s l d a imm).pending = s.pending := by
  unfold State.lb; simp

@[simp] theorem State.lb_otp (s : State) (l : LaneId) (d a : Reg) (imm : Half) :
    (State.lb s l d a imm).sealSt.otp = s.sealSt.otp := by
  unfold State.lb; simp

@[simp] theorem State.lbu_pending (s : State) (l : LaneId) (d a : Reg) (imm : Half) :
    (State.lbu s l d a imm).pending = s.pending := by
  unfold State.lbu; simp

@[simp] theorem State.lbu_otp (s : State) (l : LaneId) (d a : Reg) (imm : Half) :
    (State.lbu s l d a imm).sealSt.otp = s.sealSt.otp := by
  unfold State.lbu; simp

@[simp] theorem State.lh_pending (s : State) (l : LaneId) (d a : Reg) (imm : Half) :
    (State.lh s l d a imm).pending = s.pending := by
  unfold State.lh; simp

@[simp] theorem State.lh_otp (s : State) (l : LaneId) (d a : Reg) (imm : Half) :
    (State.lh s l d a imm).sealSt.otp = s.sealSt.otp := by
  unfold State.lh; simp

@[simp] theorem State.lhu_pending (s : State) (l : LaneId) (d a : Reg) (imm : Half) :
    (State.lhu s l d a imm).pending = s.pending := by
  unfold State.lhu; simp

@[simp] theorem State.lhu_otp (s : State) (l : LaneId) (d a : Reg) (imm : Half) :
    (State.lhu s l d a imm).sealSt.otp = s.sealSt.otp := by
  unfold State.lhu; simp

@[simp] theorem State.lw_pending (s : State) (l : LaneId) (d a : Reg) (imm : Half) :
    (State.lw s l d a imm).pending = s.pending := by
  unfold State.lw; simp

@[simp] theorem State.lw_otp (s : State) (l : LaneId) (d a : Reg) (imm : Half) :
    (State.lw s l d a imm).sealSt.otp = s.sealSt.otp := by
  unfold State.lw; simp

@[simp] theorem State.storeBlock_pending (s : State) (l : LaneId) (ea w : Word) :
    (State.storeBlock s l ea w).pending = s.pending := by
  unfold State.storeBlock
  repeat' (first | rfl | (simp; done) | split | dsimp only | (refine (foldl_keep State.pending _ (fun _ _ => ?_) _ _).trans ?_))

@[simp] theorem State.storeBlock_otp (s : State) (l : LaneId) (ea w : Word) :
    (State.storeBlock s l ea w).sealSt.otp = s.sealSt.otp := by
  unfold State.storeBlock
  repeat' (first | rfl | (simp; done) | split | dsimp only | (refine (foldl_keep (fun t : State => t.sealSt.otp) _ (fun _ _ => ?_) _ _).trans ?_))

@[simp] theorem State.retireStore_pending (s : State) (l : LaneId) (c : Core) :
    (State.retireStore s l c).pending = s.pending := by
  unfold State.retireStore; simp

@[simp] theorem State.retireStore_otp (s : State) (l : LaneId) (c : Core) :
    (State.retireStore s l c).sealSt.otp = s.sealSt.otp := by
  unfold State.retireStore; simp

@[simp] theorem State.storeTo_pending (s : State) (l : LaneId) (d : Reg) (n : Nat) (ea : Word) :
    (State.storeTo s l d n ea).pending = s.pending := by
  unfold State.storeTo; simp

@[simp] theorem State.storeTo_otp (s : State) (l : LaneId) (d : Reg) (n : Nat) (ea : Word) :
    (State.storeTo s l d n ea).sealSt.otp = s.sealSt.otp := by
  unfold State.storeTo; simp

@[simp] theorem State.store_pending (s : State) (l : LaneId) (i : Instr) (d a : Reg) (imm : Half) (n : Nat) :
    (State.store s l i d a imm n).pending = s.pending := by
  unfold State.store
  repeat' (first
    | rfl
    | (simp [*]; done)
    | split
    | (refine (foldl_keep State.pending _ (fun _ _ => ?_) _ _).trans ?_)
    | (refine State.begin_pending _ _ _ _ _ _ ?_ )
    | (refine State.sources_pending _ _ _ _ _ ?_ )
    | (refine State.readReg_pending _ _ _ _ _ ?_ )
    | (refine State.bounds_pending _ _ _ _ _ _ ?_ )
    | (refine State.readStore_pending _ _ _ _ _ _ ?_ )
    | (refine State.denied_pending _ _ _ _ _ ?_ )
    | (refine State.element_pending _ _ _ _ _ _ _ ?_ )
    | (refine State.descParity_pending _ _ _ ?_ )
    | intro _
    | dsimp only
    | (simp only [*]; done)
    | simp [*])

@[simp] theorem State.store_otp (s : State) (l : LaneId) (i : Instr) (d a : Reg) (imm : Half) (n : Nat) :
    (State.store s l i d a imm n).sealSt.otp = s.sealSt.otp := by
  unfold State.store
  repeat' (first
    | rfl
    | (simp [*]; done)
    | split
    | (refine (foldl_keep (fun t : State => t.sealSt.otp) _ (fun _ _ => ?_) _ _).trans ?_)
    | (refine State.begin_otp _ _ _ _ _ _ ?_ )
    | (refine State.sources_otp _ _ _ _ _ ?_ )
    | (refine State.readReg_otp _ _ _ _ _ ?_ )
    | (refine State.bounds_otp _ _ _ _ _ _ ?_ )
    | (refine State.readStore_otp _ _ _ _ _ _ ?_ )
    | (refine State.denied_otp _ _ _ _ _ ?_ )
    | (refine State.element_otp _ _ _ _ _ _ _ ?_ )
    | (refine State.descParity_otp _ _ _ ?_ )
    | intro _
    | dsimp only
    | (simp only [*]; done)
    | simp [*])

@[simp] theorem State.rerun_pending (s : State) (l : LaneId) (i : Instr) :
    (State.rerun s l i).pending = s.pending := by
  unfold State.rerun; split <;> simp

@[simp] theorem State.rerun_otp (s : State) (l : LaneId) (i : Instr) :
    (State.rerun s l i).sealSt.otp = s.sealSt.otp := by
  unfold State.rerun; split <;> simp

@[simp] theorem State.limitReached_pending (s : State) (l : LaneId) :
    (State.limitReached s l).pending = s.pending := by
  unfold State.limitReached
  repeat' (first | rfl | (simp; done) | split | dsimp only | (refine (foldl_keep State.pending _ (fun _ _ => ?_) _ _).trans ?_))

@[simp] theorem State.limitReached_otp (s : State) (l : LaneId) :
    (State.limitReached s l).sealSt.otp = s.sealSt.otp := by
  unfold State.limitReached
  repeat' (first | rfl | (simp; done) | split | dsimp only | (refine (foldl_keep (fun t : State => t.sealSt.otp) _ (fun _ _ => ?_) _ _).trans ?_))

@[simp] theorem State.setSession_pending (s : State) (i : Nat) (k : Option Session) :
    (State.setSession s i k).pending = s.pending := by
  rfl

@[simp] theorem State.setSession_otp (s : State) (i : Nat) (k : Option Session) :
    (State.setSession s i k).sealSt.otp = s.sealSt.otp := by
  rfl

@[simp] theorem State.connect_pending (s : State) (h : Handshake) (anchor : Option (BitVec 256)) :
    (State.connect s h anchor).pending = s.pending := by
  unfold State.connect
  repeat' (first | rfl | (simp; done) | split | dsimp only | (refine (foldl_keep State.pending _ (fun _ _ => ?_) _ _).trans ?_))

@[simp] theorem State.connect_otp (s : State) (h : Handshake) (anchor : Option (BitVec 256)) :
    (State.connect s h anchor).sealSt.otp = s.sealSt.otp := by
  unfold State.connect
  repeat' (first | rfl | (simp; done) | split | dsimp only | (refine (foldl_keep (fun t : State => t.sealSt.otp) _ (fun _ _ => ?_) _ _).trans ?_))

@[simp] theorem State.closeSession_pending (s : State) (i : Nat) :
    (State.closeSession s i).pending = s.pending := by
  rfl

@[simp] theorem State.closeSession_otp (s : State) (i : Nat) :
    (State.closeSession s i).sealSt.otp = s.sealSt.otp := by
  rfl

@[simp] theorem State.serve_pending (s : State) (sid : Fin 4) (service : Half) (req : Word) (n : Needs) (format : Bool) (act : State → State) (h0 : ∀ u : State, ((act u).pending) = (u).pending) :
    (State.serve s sid service req n format act).pending = s.pending := by
  unfold State.serve
  repeat' (first
    | rfl
    | (simp [*]; done)
    | split
    | (refine (foldl_keep State.pending _ (fun _ _ => ?_) _ _).trans ?_)
    | (refine State.begin_pending _ _ _ _ _ _ ?_ )
    | (refine State.sources_pending _ _ _ _ _ ?_ )
    | (refine State.readReg_pending _ _ _ _ _ ?_ )
    | (refine State.bounds_pending _ _ _ _ _ _ ?_ )
    | (refine State.readStore_pending _ _ _ _ _ _ ?_ )
    | (refine State.denied_pending _ _ _ _ _ ?_ )
    | (refine State.element_pending _ _ _ _ _ _ _ ?_ )
    | (refine State.descParity_pending _ _ _ ?_ )
    | intro _
    | dsimp only
    | (simp only [*]; done)
    | simp [*])

@[simp] theorem State.serve_otp (s : State) (sid : Fin 4) (service : Half) (req : Word) (n : Needs) (format : Bool) (act : State → State) (h0 : ∀ u : State, ((act u).sealSt.otp) = (u).sealSt.otp) :
    (State.serve s sid service req n format act).sealSt.otp = s.sealSt.otp := by
  unfold State.serve
  repeat' (first
    | rfl
    | (simp [*]; done)
    | split
    | (refine (foldl_keep (fun t : State => t.sealSt.otp) _ (fun _ _ => ?_) _ _).trans ?_)
    | (refine State.begin_otp _ _ _ _ _ _ ?_ )
    | (refine State.sources_otp _ _ _ _ _ ?_ )
    | (refine State.readReg_otp _ _ _ _ _ ?_ )
    | (refine State.bounds_otp _ _ _ _ _ _ ?_ )
    | (refine State.readStore_otp _ _ _ _ _ _ ?_ )
    | (refine State.denied_otp _ _ _ _ _ ?_ )
    | (refine State.element_otp _ _ _ _ _ _ _ ?_ )
    | (refine State.descParity_otp _ _ _ ?_ )
    | intro _
    | dsimp only
    | (simp only [*]; done)
    | simp [*])

@[simp] theorem State.command_pending (s : State) (sid : Nat) (service : Half) (req : Word) (w : Word) :
    (State.command s sid service req w).pending = s.pending := by
  unfold State.command; simp

@[simp] theorem State.command_otp (s : State) (sid : Nat) (service : Half) (req : Word) (w : Word) :
    (State.command s sid service req w).sealSt.otp = s.sealSt.otp := by
  unfold State.command; simp

@[simp] theorem State.laneDebug_pending (s : State) (sid : Nat) (req : Word) (l : LaneId) (cmd addr data : Word) :
    (State.laneDebug s sid req l cmd addr data).pending = s.pending := by
  unfold State.laneDebug; simp

@[simp] theorem State.laneDebug_otp (s : State) (sid : Nat) (req : Word) (l : LaneId) (cmd addr data : Word) :
    (State.laneDebug s sid req l cmd addr data).sealSt.otp = s.sealSt.otp := by
  unfold State.laneDebug; simp

@[simp] theorem State.svcTake_pending (s : State) (l : LaneId) (n : Nat) : (s.svcTake l n).pending = s.pending := by
  induction n generalizing s with
  | zero => rfl
  | succ n ih => unfold State.svcTake; rw [ih]; simp

@[simp] theorem State.report_pending (s : State) (n : Nat) (kind : Word → Bool) (act : State → List Word → State) (h0 : ∀ (u0 : State) (u1 : List Word), ((act u0 u1).pending) = (u0).pending) :
    (State.report s n kind act).pending = s.pending := by
  unfold State.report
  repeat' (first
    | rfl
    | (simp [*]; done)
    | split
    | (refine (foldl_keep State.pending _ (fun _ _ => ?_) _ _).trans ?_)
    | (refine State.begin_pending _ _ _ _ _ _ ?_ )
    | (refine State.sources_pending _ _ _ _ _ ?_ )
    | (refine State.readReg_pending _ _ _ _ _ ?_ )
    | (refine State.bounds_pending _ _ _ _ _ _ ?_ )
    | (refine State.readStore_pending _ _ _ _ _ _ ?_ )
    | (refine State.denied_pending _ _ _ _ _ ?_ )
    | (refine State.element_pending _ _ _ _ _ _ _ ?_ )
    | (refine State.descParity_pending _ _ _ ?_ )
    | intro _
    | dsimp only
    | (simp only [*]; done)
    | simp [*])

@[simp] theorem State.svcTake_otp (s : State) (l : LaneId) (n : Nat) : (s.svcTake l n).sealSt.otp = s.sealSt.otp := by
  induction n generalizing s with
  | zero => rfl
  | succ n ih => unfold State.svcTake; rw [ih]; simp

@[simp] theorem State.report_otp (s : State) (n : Nat) (kind : Word → Bool) (act : State → List Word → State) (h0 : ∀ (u0 : State) (u1 : List Word), ((act u0 u1).sealSt.otp) = (u0).sealSt.otp) :
    (State.report s n kind act).sealSt.otp = s.sealSt.otp := by
  unfold State.report
  repeat' (first
    | rfl
    | (simp [*]; done)
    | split
    | (refine (foldl_keep (fun t : State => t.sealSt.otp) _ (fun _ _ => ?_) _ _).trans ?_)
    | (refine State.begin_otp _ _ _ _ _ _ ?_ )
    | (refine State.sources_otp _ _ _ _ _ ?_ )
    | (refine State.readReg_otp _ _ _ _ _ ?_ )
    | (refine State.bounds_otp _ _ _ _ _ _ ?_ )
    | (refine State.readStore_otp _ _ _ _ _ _ ?_ )
    | (refine State.denied_otp _ _ _ _ _ ?_ )
    | (refine State.element_otp _ _ _ _ _ _ _ ?_ )
    | (refine State.descParity_otp _ _ _ ?_ )
    | intro _
    | dsimp only
    | (simp only [*]; done)
    | simp [*])

@[simp] theorem State.takeVerdict_pending (s : State) (w seq : Word) :
    (State.takeVerdict s w seq).pending = s.pending := by
  rfl

@[simp] theorem State.takeVerdict_otp (s : State) (w seq : Word) :
    (State.takeVerdict s w seq).sealSt.otp = s.sealSt.otp := by
  rfl

@[simp] theorem State.journalApplied_pending (s : State) (seq : Word) :
    (State.journalApplied s seq).pending = s.pending := by
  unfold State.journalApplied; split <;> simp

@[simp] theorem State.journalApplied_otp (s : State) (seq : Word) :
    (State.journalApplied s seq).sealSt.otp = s.sealSt.otp := by
  unfold State.journalApplied; split <;> simp

@[simp] theorem State.finishRewrite_pending (s : State) :
    (State.finishRewrite s).pending = s.pending := by
  unfold State.finishRewrite; split <;> simp

@[simp] theorem State.finishRewrite_otp (s : State) :
    (State.finishRewrite s).sealSt.otp = s.sealSt.otp := by
  unfold State.finishRewrite; split <;> simp

@[simp] theorem State.startRewrite_pending (s : State) (r : Rewrite) :
    (State.startRewrite s r).pending = s.pending := by
  rfl

@[simp] theorem State.startRewrite_otp (s : State) (r : Rewrite) :
    (State.startRewrite s r).sealSt.otp = s.sealSt.otp := by
  rfl

@[simp] theorem State.takeAnswer_pending (s : State) (w : Word) :
    (State.takeAnswer s w).pending = s.pending := by
  unfold State.takeAnswer
  repeat' (first | rfl | (simp; done) | split | dsimp only | (refine (foldl_keep State.pending _ (fun _ _ => ?_) _ _).trans ?_))

@[simp] theorem State.takeAnswer_otp (s : State) (w : Word) :
    (State.takeAnswer s w).sealSt.otp = s.sealSt.otp := by
  unfold State.takeAnswer
  repeat' (first | rfl | (simp; done) | split | dsimp only | (refine (foldl_keep (fun t : State => t.sealSt.otp) _ (fun _ _ => ?_) _ _).trans ?_))

/-- A burn clears no fuse. -/
theorem Seal.burn_keeps (k : Seal) (w : Nat) (v : DWord) (j i : Nat) (h : (k.fuse j).getLsbD i = true) :
    ((k.burn w v).fuse j).getLsbD i = true := by
  unfold Seal.burn Seal.fuse vget vset at *
  by_cases e : w = j
  · subst e
    by_cases hj : w < 64
    · simp_all
    · simp_all
  · by_cases hj : j < 64
    · simp_all [Vector.getElem_setIfInBounds]
    · simp_all

end Sys2Proof.Machine
end

