-- ==== Sys2Proof/Machine/Panel.lean ====
section
/-! DEFINITION. The front panel: the eight indicators that GUARD drives from the module status (R482), and the status
contact (R475). They hold no state of their own, and no command reads them. -/

namespace Sys2Proof.Machine

/-- A colour of an indicator. -/
inductive Colour | green | yellow | red
  deriving DecidableEq, Repr

/-- What an indicator shows: dark, one colour steady or blinking, or two colours in turn. -/
inductive Lamp
  | dark
  | steady (c : Colour)
  | blinking (c : Colour)
  | alternating (c d : Colour)
  deriving DecidableEq, Repr

/-- PWR: the feeds (R482). -/
def State.lampPwr (s : State) : Lamp :=
  match s.guard.feedAOk, s.guard.feedBOk with
  | true, true => .steady .green
  | false, false => .dark
  | _, _ => .steady .yellow

/-- MODE (R482). -/
def Mode.lamp : Mode → Lamp
  | .run => .steady .green
  | .degraded | .resync => .blinking .green
  | .stop => .steady .yellow
  | .maintenance | .hold => .blinking .yellow
  | .safeStop => .steady .red
  | .powerFail => .blinking .red
  | .priming | .startupTest | .joining => .alternating .yellow .red
  | .split => .alternating .green .yellow

/-- LANE A, B, C: without supply of its core dark; locked out; fenced or resynchronising; serving (R482, R225). -/
def State.lampLane (s : State) (l : LaneId) : Lamp :=
  if s.md.mode = .powerFail || !s.guard.domainUp (1 + l.num) then .dark
  else if s.guard.lockedOut.get l then .steady .red
  else if s.md.fenced.get l then .steady .yellow
  else .steady .green

/-- RING W, RING E: a port with a link fault that is not looped is dark towards the ring (R482, R302). -/
def State.lampRing (s : State) (p : Port) : Lamp :=
  let k := match p with
    | .W => s.ring.w
    | .E => s.ring.e
  if s.md.mode = .powerFail || !s.ring.qualified then .dark
  else if k.looped then .steady .yellow
  else if k.fault then .steady .red
  else .steady .green

/-- SEAL (R482). -/
def State.lampSeal (s : State) : Lamp :=
  if s.md.mode = .powerFail then .dark
  else if s.sealSt.changed then .steady .red
  else if s.md.debugBroken then .steady .yellow
  else .dark

/-- The status contact STAT_A to STAT_B on P4 (R475): closed in RUN, DEGRADED and RESYNC, open otherwise. -/
def State.statusContact (s : State) : Bool := s.md.mode ∈ [Mode.run, Mode.degraded, Mode.resync]

/-- The eight indicators in the order of the panel: PWR, MODE, LANE A to C, RING W and E, SEAL (R482). -/
def State.panel (s : State) : List Lamp :=
  [s.lampPwr, s.md.mode.lamp] ++ LaneId.list.map s.lampLane ++ [s.lampRing .W, s.lampRing .E, s.lampSeal]

end Sys2Proof.Machine
end

