-- ==== Sys2Proof/Tests/Slice0.lean ====
section
/-! SUPPORT. The author's own tests: a small state for each clause of a statement that meets its hypotheses together
(`witness_<statement>_<n>`, one conjunction per clause), the checks of WellFormed, words of the Ixlo encoding. -/

namespace Sys2Proof.Tests

open Sys2Proof.Machine Sys2Proof.Safety

set_option Elab.async false

/-- A word stored in a lane's store, with right parity and outside the hash. -/
def put (a : Nat) (w : Word) (s : State) : State := s.updLane .A (fun x => x.poke a (wordBytes w))

/-- A register of lane A's core. -/
def reg (r : Nat) (w : Word) (s : State) : State := s.updCore .A (fun c => { c with g := vset c.g r w })

/-- The mode of the module. -/
def inMode (m : Mode) (s : State) : State := { s with md := { s.md with mode := m } }

/-- Lane A's core runs application code at 0x100. -/
def app : State :=
  (put 0x10 0x1000 State.reset).updCore .A (fun c => { c with run := .running, priv := false, pc := 0x100 })

/-- Lane A's core runs code of the runtime at 0x0060_0100. -/
def rt : State := app.updCore .A (fun c => { c with priv := true, pc := 0x600100 })

/-- Lane A's route engine changed. -/
def eng (f : Engine → Engine) (s : State) : State := s.updLane .A (fun x => { x with engine := f x.engine })

def two : State := reg 1 0x80000000 (reg 2 0xFFFFFFFF app)
def loaded : State := put 0x03EFFFFC 0x8081F2F3 (reg 1 0x03EFFFFC app)
def calls : State := app.updCore .A (fun c => { c with tvec := 0x40000000, cve := true })
def trapped : State := rt.updCore .A (fun c => { c with tstatus := 0xC, tpc := 0x104, intrap := true, cvcount := 7 })
def events : State := rt.updCore .A (fun c => { c with events := 0x81, evmask := 0x80 })
def waits : State := events.updCore .A (fun c => { c with run := .waiting 5 })
def heldApp : State := inMode .hold app
def handled : State := inMode .run (app.updCore .A (fun c => { c with amask := 0x0020, ahvec := 0x800 }))

def pin65 : State := put 0x02000028 0x2 (reg 1 65 app)
def pout47 : State := reg 2 codedTrue (reg 1 47 app)
def elements : State := reg 1 2 (reg 2 7 (eng (fun g => { g with cfgElements := 3 }) app))
def soundElements : State := put 0x00810080 0x00020002 (put 0x008100BC 2155417820 elements)
def busyElements : State := eng (fun g => { g with queue := [{ request := 1, result := none }] }) elements
def timer255 : State := put 0x02F00FF0 5 (put 0x02F00FFC codedTrue (put 0x02000008 100 (put 0x02F00FF8 95 (reg 1 255 app))))
def timerAny : State := put 0x02F00FEC codedTrue (reg 1 0x800000FE app)
def counter1023 : State := put 0x02F01FFC 0xFFFFFFFE (reg 1 1023 app)
def edgeKey : State := reg 2 codedTrue (put 0x02F05FFC codedFalse (put 0x02F2FFFC 0x10000000 (reg 1 65535 app)))
def fallKey : State := reg 2 7 (put 0x02F05FFC codedTrue edgeKey)
def sigState : State := inMode .run (reg 1 0x12345678 app)
def evaluating : State := inMode .run ((app.updLane .A (fun x => { x with tb := { x.tb with
  phase := .evaluation, t0 := 1000000, tn := 1, km1 := 0, cfgValid := true } })))
def budgeted : State := { evaluating with tb := { evaluating.tb with nt := 1000500 }, md := { evaluating.md with step := .evaluation } }
def s02_1 := budgeted.updCore .A (fun c => {c with priv := true})
def routes : State := reg 1 0x0000C002 (eng (fun g => { g with enable := true, cfgRoutes := 16383 }) app)
def gotResult : State := eng (fun g => { g with queue := [{ request := 2, result := some 0x00000022 }] }) app
def gotError : State := eng (fun g => { g with queue := [{ request := 2, result := some 0x00000042 }] }) app
def waitsResult : State := eng (fun g => { g with enable := true, queue := [{ request := 2, result := none }] }) app
def stalledGet : State := gotResult.updCore .A (fun c => { c with run := .stalled (.rqget .A 5) })
def stalledLoad : State := app.updCore .A (fun c => { c with run := .stalled (.lw .A 5 0 0x40) })
def linkTx : State := inMode .run (put 0x00B70004 512 (put (0x00B70040 + 511 * 32) 0x00030007 (put (0x00B70048 + 511 * 32) 0x100 (
  put 0x02100000 0x00001060 (reg 1 511 (reg 2 0x02100000 (app.updLane .A (fun x => { x with sl := { x.sl with enable := true, cfgOk := true } }))))))))
def linkRx : State := put (0x00B70040 + 511 * 32) 0x00020007 linkTx
def packs : State := reg 1 7 (reg 2 1 (put 0x00B201C0 0x100 (put 0x00B201D4 0x400 (put 0x00B201D8 2 (put 0x404 0xFFC app)))))
def called : State := app.updCore .A (fun c => { c with packStack := [(0x200, none)], pack := some 3 })
def s02_2 := app.updCore .A (fun c => {c with pc := 0x1000})
def badFetch : State := app.updLane .A (fun x => { x with store := { x.store with badParity := [0x103] } })
def s02_3 := app.updCore .A (fun c => {c with badReg := [127]})

/-- Element `e` of a type: its record without check words, and its state entry FREE, CLEAR and usable. -/
def element (e t : Nat) (s : State) : State :=
  put (recAddr e) (place e 0 ||| place t 16) (put (stAddr e) codedTrue (put (stAddr e + 8) codedTrue
    (put (stAddr e + 0x0C) codedTrue (put (stAddr e + 0x10) codedFalse s))))

/-- A station of three elements, one route over two signals in two segments, one chain of that route. -/
def station : State :=
  let s := element 0 6 (element 1 6 (element 2 2 app))
  let s := put 0x008100A8 4 s
  let s := put 0x00910004 0x00010000 (put 0x00910008 0x02000202 s)
  let s := put 0x00910040 0x01000000 (put 0x00910044 0x100 s)
  let s := put 0x0091003C 2533077188 s
  let s := put 0x00B10000 0x00010000 (put 0x00B10008 0xFFFF0000 s)
  let s := [0x00B1000C, 0x00B10010, 0x00B10014, 0x00B10018, 0x00B1001C, 0x00B10020, 0x00B10024].foldl
    (fun s a => put a 0xFFFFFFFF s) s
  let s := put 0x00B30000 5 (put 0x00B30004 5 s)
  let s := put 0x00B1003C 2023345796 s
  eng (fun g => { g with enable := true, cfgElements := 3, cfgRoutes := 1, cfgChains := 1 }) (inMode .run s)

/-- The station's engine asked one request. -/
def asks (q : Word) (s : State) : State := eng (fun g => { g with queue := [{ request := q, result := none }] }) s
def twoAsked : State := eng (fun g => { g with queue := [{ request := 1, result := some 1 }, { request := 0xFC000001, result := none },
  { request := 2, result := none }] }) station
def routeState (w : Word) (s : State) : State := put 0x02490000 w s
def chainState (w : Word) (s : State) : State := put 0x024A0000 w s
def overdue : State := put 0x024A000C 0xFFFF (put 0x024A0004 0xFFFFFFFA (chainState 1 (routeState 0x21 station)))
def initCounts : State := eng (fun g => { g with cfgElements := 16384, cfgRoutes := 8192, cfgChains := 1024 }) app

/-- Every lane changed. -/
def each (f : Lane → Lane) (s : State) : State := s.mapLanes f

/-- The three lanes hold a configured view of a 10 ms cycle that began at 100 ms, and their cores have ended. -/
def cyclic (m : Mode) (st : CycleStep) : State :=
  let s := each (fun x => { x with
    tb := { x.tb with cfgValid := true, tn := 1, cycle := 10, t0 := 10000000, started := true, phase := .evaluation }
    vio := { x.vio with qualified := true }
    core := { x.core with run := .ended } }) State.reset
  { s with
    md := { s.md with mode := m, step := st, vital := true }, tb := { s.tb with nt := 10100000 }
    guard := { s.guard with priming := .done, pendingReset := none } }

/-- The lanes hold the input words given. -/
def holding (a b c : Option RawWord) (s : State) : State :=
  each (fun x => { x with blk := { x.blk with inputs := { a := a, b := b, c := c } } }) s

def sampled : State := each (fun x => { x with vio := { x.vio with
  samples := #v[some 7, some 6, none, some 5, some 1], pfail := 1 } }) (cyclic .run .idle)
def sampledStop : State := { sampled with md := { sampled.md with mode := .stop, holdExit := true } }
def localIdle : State :=
  let s := cyclic .safeStop .idle
  { s with guard := { s.guard with sstopAt := some 10050000 } }
def agreeing : State := holding (some 7) (some 6) (some 3) (cyclic .run .agreement)
def agreeingTwo : State :=
  let s := holding (some 7) none (some 3) (cyclic .degraded .agreement)
  { s with md := { s.md with fenced := s.md.fenced.set .B true } }
def agreeingOne : State := holding (some 7) none none (cyclic .run .agreement)
def earlyClock : State := { agreeing with ring := { agreeing.ring with clkUnq := true } }
def noWords : State := holding none none none (cyclic .run .agreement)
def countsA : Lane := (put 0x02F07050 0x0102FF03 (put 0x02F07090 0x05060708 State.reset)).lanes.a
def limit3 : State := each (fun x => x.poke 0x02F07091 [5]) (cyclic .run .evaluation)
def limit2 : State :=
  let s := each (fun x => x.poke 0x02F07103 [6]) (cyclic .degraded .compared)
  { s with md := { s.md with fenced := s.md.fenced.set .C true } }
/-- Connection 3 configured for reception of kind 1 from node 5, with the first word of its staging entry. -/
def conn3 (st : Word) (s : State) : State :=
  (·.updLane .A (fun x => x.slUpd fun k => { k with enable := true })) <| put 0x00B70004 4 (put 0x00B700A0 0x00020007 (put 0x00B700A4 0x00010005 (put 0x00B700A8 0x142
    (put 0x00B700AC 0x00100064 (put 0x02F80300 st s)))))
def lateConn : State := put 0x02F0740C 77 (put 0x02F8030C 4 (conn3 1 (cyclic .run .evaluation)))
def oldConn : State := put 0x02F80384 9 (put 0x02F8030C 1000000 (conn3 2 (cyclic .run .evaluation)))
def twinConn : State := (put 0x02F80398 0xFFFFFFFF lateConn).updLane .A (fun x => x.slUpd (fun k => { k with twinDue := [1, 3] }))
/-- A message of lane B for lane A in cycle 10, with its CHECK right. -/
def msgBA (t : Byte) (body : List Byte) : LinkMsg :=
  let m : LinkMsg := { typ := t, route := 1, length := BitVec.ofNat 16 body.length, cycle := 10, body := body, check := 0 }
  { m with check := msgCheck m }
def inputBA : LinkMsg := msgBA 1 [1, 2, 3, 4, 5, 6, 7, 8, 1]
def sigBA : LinkMsg := msgBA 2 [1, 2, 3, 4, 5, 6, 7, 8, 9, 10, 11, 12]
def viewBA : LinkMsg := msgBA 3 [0x21, 0x40]
def auditBA : LinkMsg := msgBA 4 (List.replicate 512 3)
def auditing : State := each (fun x => { x with vote := { x.vote with auditing := true } }) (cyclic .run .voted)
def auditLast : State := each (fun x => { x with vote := { x.vote with auditing := true, digests := { a := some (List.replicate 64 5), b := none, c := some (List.replicate 64 5) } } }) (cyclic .run .voted)
def controlBA : LinkMsg := msgBA 6 [1]
def sliceB : BistDone := { lane := .B, slice := 3, misr := 5, checkpoints := 8, restoreOk := true, time := 9, inc := 0 }
def judging : State := { cyclic .run .voted with bist := { BistSt.init with done := some sliceB } }
def badBA : LinkMsg := { controlBA with check := 0 }

def sigsHeld : State := each (fun x => { x with cyc := { x.cyc with done := true }, vote := { x.vote with sigs := { a := some 5, b := some 5, c := some 6 } } }) (cyclic .run .evaluation)
def s05_1 := each (fun x => { x with tb := { x.tb with phase := .waiting } }) sigsHeld
def sigMissing : State := each (fun x => { x with vote := { x.vote with sigs := { a := some 5, b := none, c := none } } }) sigsHeld
def rowsHeld (a b c : Row) (s : State) : State := each (fun x => { x with vote := { x.vote with rows := { a := some a, b := some b, c := some c } } }) s
def allEqual : Row := { next := .equal, prev := .equal }
def viewsEqual : State := rowsHeld allEqual allEqual allEqual (cyclic .run .compared)
def viewsOdd : State := rowsHeld { next := .different, prev := .equal } { next := .equal, prev := .different } { next := .equal, prev := .different } (cyclic .run .compared)
def viewsOdd2 : State := rowsHeld { next := .different, prev := .missing } { next := .equal, prev := .different } { next := .missing, prev := .equal } (cyclic .run .compared)
def fenceC (s : State) : State := { s with md := { s.md with fenced := s.md.fenced.set .C true } }
def mustStop : State := each (fun x => { x with cyc := { x.cyc with ownStop := true } }) viewsEqual
/-- The lanes drive the decisions given. -/
def driving (a b c : Option Decision) (s : State) : State := { s with lanes := { a := { s.lanes.a with vote := { s.lanes.a.vote with lines := a } }, b := { s.lanes.b with vote := { s.lanes.b.vote with lines := b } }, c := { s.lanes.c with vote := { s.lanes.c.vote with lines := c } } } }
def drivesCont : State := driving (some .cont) (some .cont) (some .stop) (cyclic .run .viewed)
def drivesFence : State := driving (some (.fence .B)) (some .cont) (some (.fence .B)) (cyclic .run .viewed)
def drivesNone : State := driving (some (.fence .B)) (some .cont) (some (.fence .A)) (cyclic .run .viewed)
def pdu1 : Pdu := { conn := 1, bytes := [1, 2] }
/-- The lanes have handed over one copy each. -/
def handing (a b : List Pdu) (s : State) : State := { s with lanes := { s.lanes with a := { s.lanes.a with cyc := { s.lanes.a.cyc with handed := some a } }, b := { s.lanes.b with cyc := { s.lanes.b.cyc with handed := some b } } } }
def votedCont (m : Mode) : State := driving (some .cont) (some .cont) none (cyclic m .voted)
def comparing (a b : List Pdu) : State := let s := handing a b (votedCont .run); { s with md := { s.md with gateRing := .cont, gateGm := .cont, voted := true } }
def comparesLate (a b : List Pdu) : State := { cyclic .run .agreement with md := { (cyclic .run .agreement).md with late := some (a, b, true) } }
def auditOwn : State := each (fun x => { x with vote := { x.vote with auditing := true, auditStep := 63, digests := { a := none, b := some (List.replicate 64 5), c := some (List.replicate 64 5) } } }) (cyclic .run .voted)
def gapRuns : State := { auditing with bist := { BistSt.init with lane := some (.A, 3), shared := some 2 }, resync := { Resync.init with frozen := true } }
def endsCont : State := { comparing [pdu1] [pdu1] with md := { (comparing [pdu1] [pdu1]).md with compared := some [pdu1], firstRun := true } }
def endsFence : State := each (fun x => { x with cyc := { x.cyc with enables := some 5 }, vote := { x.vote with fenceCount := { a := 0, b := 7, c := 255 } } }) { endsCont with md := { endsCont.md with gateGm := .fence .C, gateRing := .fence .C } }

/-- Lane B is fenced and being resynchronised in the phase given. -/
def resyncing (p : RsPhase) (st : CycleStep) : State :=
  let s := cyclic .resync st
  { s with md := { s.md with fenced := s.md.fenced.set .B true }, resync := { s.resync with lane := .B, phase := p, todo := 0x30, attempts := { a := 0, b := 1, c := 0 } } }
/-- The donor C holds bytes of page 4, and dirty pages. -/
def copying4 : State := (resyncing .copyM .evaluation).updLane .C (fun x => { x.poke 0x4010 [1, 2] with store := { (x.poke 0x4010 [1, 2]).store with dirty := 0x50 }, cyc := { x.cyc with done := true } })
/-- A COPY message that the donor C sends to lane B in cycle 10, with the bytes given. -/
def pageMsg (body : List Byte) : LinkMsg :=
  let m : LinkMsg := { typ := 5, route := 6, length := 4096, cycle := 10, body := body, check := 0 }
  { m with check := msgCheck m }
def pageCB : LinkMsg := pageMsg (List.replicate 4096 3)
def shortCB : LinkMsg := { typ := 5, route := 6, length := 4096, cycle := 10, body := [], check := 0 }
def copied (p : RsPhase) : State := { copying4 with resync := { copying4.resync with phase := p, todo := 0 } }
def toFreeze (p : RsPhase) : State := { copied p with resync := { (copied p).resync with bulkDone := true } }
def frozen (p : RsPhase) (st : CycleStep) : State := { copied p with resync := { (copied p).resync with frozen := true }, md := { (copied p).md with step := st } }
def lateResync : State := { copying4 with resync := { copying4.resync with start := 0 }, lanes := copying4.lanes.map (fun x => { x with tb := { x.tb with t0 := 60000000 } }) }
def rejoins : State := let s := resyncing .rejoin .voted; { s with md := { s.md with voted := true, gateGm := .rejoin .B, gateRing := .rejoin .B, compared := some [pdu1] } }
def onProbation : State := { cyclic .run .evaluation with md := { (cyclic .run .evaluation).md with probation := some 64 } }

/-- The stage with something changed, in RUN between the end of agreement and the vote. -/
def stageOf (f : Stage → Stage) : State := let s := cyclic .run .evaluation; { s with stage := f s.stage }
def readA : Readback := { Readback.zero with current := Readback.zero.current.set 3 1200, volt := Readback.zero.volt.set 7 300 }
def counting : State := stageOf (fun t => { t with on := 8, overRun := t.overRun.set 3 5, backRun := t.backRun.set 7 8 })
def openDue : State := stageOf (fun t => { t with openRun := t.openRun.set 5 20 })
def overDue : State := stageOf (fun t => { t with overRun := t.overRun.set 5 100, on := 0x20 })
def enabled (s : State) : State := each (fun x => { x with vio := { x.vio with en := BitVec.allOnes 48 } }) s
def vfDue : State := enabled (stageOf (fun t => { t with vfBad := t.vfBad.set 1 10, on := BitVec.allOnes 48 }))
def vfBack : State := stageOf (fun t => { t with vfGood := t.vfGood.set 1 100, vfHeld := 7 })
def backDue : State := enabled (stageOf (fun t => { t with backRun := t.backRun.set 40 10, on := 7 }))
def switchDue : State := stageOf (fun t => { t with swTwice := { t.swTwice with b := 4 } })
def oddDue : State := stageOf (fun t => { t with oddRun := { t.oddRun with b := t.oddRun.b.set 50 10 }, pairRun := t.pairRun.set 0 10 })
def oddCause : State := stageOf (fun t => { t with oddCuts := { t.oddCuts with b := 5 }, pairCuts := 5 })
def slotDue : State := let s := stageOf (fun t => { t with on := BitVec.allOnes 48 }); { s with tb := { s.tb with nt := 10510000 } , md := { s.md with step := .idle } }
def slotNear : State := { slotDue with lanes := slotDue.lanes.map (fun x => { x with tb := { x.tb with t0 := 12280000 } }) }
def pulsing : State := stageOf (fun t => { t with pulse := some (17, 10100000), on := 1 })
/-- A lane's readings of an off-pulse. -/
def reads1 (vs : List (BitVec 12)) (closed : Bool) : List PulseReading := vs.map (fun v => { volt := v, closed0 := closed, closed1 := false })
def pulseAt (v : BitVec 12) (closed : Bool) : PulseSample := { a := { volt := v, closed0 := closed, closed1 := false }, b := { volt := v, closed0 := false, closed1 := false }, c := { volt := v, closed0 := false, closed1 := false } }
def falling : List PulseReading := reads1 [300, 199] false
def remains (closed : Bool) : List PulseReading := reads1 (List.replicate 35 200) closed
def tested : State := each (fun x => { x with vio := { x.vio with cfg := 0xFF19, tpMap := #v[0x33333333, 0xFFFFFFFF, 0, 0, 0, 0, 0, 0, 0x3F], pfail := 0x101 } }) (stageOf id)
def pulsed3 : State := { tested with stage := { tested.stage with tpPulse := some (3, 10000000) } }
/-- Two lanes assert the restart request in SAFE_STOP. -/
def asking (changed : Bool) : State := let s := each (fun x => { x with cyc := { x.cyc with events := [.restart false] } }) (cyclic .safeStop .evaluation); { s with sealSt := { s.sealSt with sw1 := 0x400, changed := changed } }

def runs3 : State := cyclic .run .evaluation
def syAsked : State := runs3.updLane .B (fun x => { x with reqSy := some 7 })
def stopAsked : State := runs3.updLane .B (fun x => { x with reqStop := some (10050000, 7) })
def pendsSy : State := { (put 0x2000000 5 runs3) with guard := { runs3.guard with pendingReset := some (.sy, [.laneRequest, .clkLoss]) } }
def pendsPo : State := { runs3 with guard := { runs3.guard with pendingReset := some (.po, [.otpDed]) }, sealSt := { runs3.sealSt with changed := true, sw1 := 0x400 } }
def pinLow : State := { runs3 with guard := { runs3.guard with mrst := true, restartCount := 8, powerGood := true, priming := .blocked } }
def pinWaits : State := { pinLow with guard := { pinLow.guard with priming := .delay } }
def failing3 : State := cyclic .powerFail .idle
def blocked : State := { runs3 with guard := { runs3.guard with priming := .blocked, supplyLow := true } }
def often : State := { blocked with guard := { blocked.guard with restartCount := 8 } }
/-- GUARD's power domains as given. -/
def domains (d : BitVec 12) (s : State) : State := { s with guard := { s.guard with domainOk := d } }
def held9 : State := let s := domains 0xFFF State.reset; { s with guard := { s.guard with domainHeld := true } }
def railsUp : State := domains 0xFFF runs3
def railsPin : State := { railsUp with guard := { railsUp.guard with mrst := true } }
def clocked : State := { railsUp with tb := { railsUp.tb with qualified := true } }
def debugPriming : State := { State.reset with sealSt := { Seal.init with sw1 := 0x4000 }, svc := { Svc.init with sessions := #v[none, some { mask := 8, control := true, last := 0, certificate := [], proof := [] }, none, none] } }
def delayed : State := { State.reset with guard := { Guard.init with priming := .delay } }
def primed : State := domains 0xFFF State.reset
/-- A reading of the switch banks. -/
def reads (v1 v2 : Half) : SwitchReading := { on1 := v1, off1 := ~~~v1, on2 := v2, off2 := ~~~v2 }
def testing : State := let s := cyclic .startupTest .idle; { s with lanes := s.lanes.map (fun x => { x with core := { x.core with run := .running } }) }
def passes : StartupTests := { bistPass := true, storePass := true, runtimeTrap := false, layoutAgrees := true }
def noLanes (ready : Bool) : State := let s := cyclic .startupTest .idle; { s with md := { s.md with fenced := PerLane.all true }, sealSt := { s.sealSt with sw1 := 5 }, guard := { s.guard with holdup := ready }, tb := { s.tb with qualified := true }, ring := { s.ring with qualified := true } }

def sealed (st : Seal → Seal) : State := let s := cyclic .run .evaluation; { s with sealSt := st { s.sealSt with sw1 := 0x2405, sw2 := 7, live1 := 0x2405, live2 := 7 } }
def doubtful : State := sealed (fun k => { k with reread := true, glitch := 5 })
/-- The head of a runtime's envelope: 16 bytes of body, security version 3. -/
def runtimeHead : List Byte := natLe 4 0x0009000D ++ [1, 0, 0, 0] ++ natLe 4 16 ++ natLe 4 0x00600000 ++ [3] ++ List.replicate 15 0
def burning (o : Vector DWord 64) : State := let s := inMode .maintenance (sealed (fun k => { k with otp := o })); { s with svc := s.svc.put s.svc.slotA runtimeHead |>.put s.svc.slotB runtimeHead }
def unburned : Vector DWord 64 := Vector.replicate 64 0
def gen0 : Vector DWord 64 := unburned.set 8 0xA5 |>.set 40 1 |>.set 45 5
/-- A word that is burned whole. -/
def whole (w : DWord) : BurnWord := { word := w, reach := 0xFFFFFFFFFFFFFFFF }
def check1 : DWord := (genCheck 1 0xA5 2 0).setWidth 64
def measuring (b : Option (Nat × BitVec 512)) : State := (cyclic .run .evaluation).updLane .A (fun x => { x with meas := { x.meas with busy := b, count := 4 } })

/-- A ring of three slots: slot 0 of node 5, slot 1 of node 7 (this one), slot 2 of node 9; nodes 5 and 9 are masters.
Node 7 has joined and is in network cycle 10. -/
def onRing (m : Mode) (f : RingSt → RingSt) : State :=
  let s := cyclic m .evaluation
  { s with
    sealSt := { s.sealSt with sw1 := 7 }
    tb := { s.tb with nt := 10001000 }
    ring := f { s.ring with
      qualified := true, schedOk := true, acquired := true, armed := true, tx := true, joined := true, cycleNo := 10, wholeCycle := true
      header := s.ring.header.set 1 0xABCD |>.set 2 0x00030001 |>.set 3 2 |>.set 4 0x00090005
      entries := [(0, 0x00640005), (1, 1000), (2, 0x00640007), (3, 3000), (4, 0x00640009), (5, 5000)] } }
/-- A frame with a right ring CRC. -/
def frame (flags source slot nc delay : Nat) (body : List Byte) : List Byte :=
  let h := natLe 1 1 ++ natLe 1 flags ++ natLe 2 source ++ natLe 2 slot ++ natLe 2 body.length ++ natLe 6 nc ++ natLe 2 0 ++
    wordBytes 0xABCD ++ natLe 4 delay ++ body
  h ++ wordBytes (ringCrc h)
def nullFrom5 : List Byte := frame 1 5 0 10 40 []
def nullFrom9 : List Byte := frame 1 9 0 10 40 []
def broken5 : List Byte := (frame 1 5 0 10 40 [1, 2, 3]).set 25 9
def joined (f : RingSt → RingSt) : State := onRing .run f
def measured1 (r : RingSt) : RingSt := r.updPort .W (fun k => { k with delay := 300, valid := true })
def s10_1 := joined (fun r => { measured1 r with armed := false, e := { r.e with looped := true } })
def s10_2 := onRing .joining (fun r => { r with armed := false, acquired := false })
def s10_3 := joined (fun r => { r with cold := 2 })
def s10_4 := joined (fun r => { r with blocks := [(5, true)] })
def pduOf (c : Nat) : List Byte := natLe 2 1 ++ natLe 10 0 ++ natLe 1 c ++ natLe 3 0 ++ List.replicate (8 + c) 0x55
def full5 : List Byte := frame 4 5 0 10 40 (pduOf 0)
/-- Connection 3 of every lane receives from node 5. -/
def receiving : State :=
  let s := joined id
  each (fun x => x.poke 0x00B70004 (wordBytes 4) |>.poke 0x00B700A0 (wordBytes 0x00020007) |>.poke 0x00B700A4 (wordBytes 0x00010005)
    |>.poke 0x00B700A8 (wordBytes 0x142) |>.poke 0x00B700AC (wordBytes 0x00100064)) s
def pdus5 : List (List Byte) := [pduOf 0]
def own7 : List Byte := frame 1 7 1 10 99 []
def sentKey (r : RingSt) : RingSt := { r with sent := [(1, 10, false, crcWithoutDelay own7)] }
def running5 (r : RingSt) : RingSt := r.updPort .W (fun k => { k with passing := some (5, 100010000, 100090000, 100050000) }) |>.updPort .E (fun k => { k with outFrame := List.replicate 10000 0x55 })
def full32 (r : RingSt) : RingSt := { running5 r with blocks := (List.range 32).map (fun i => (i + 100, false)) }
def silent : State := onRing .degraded id
def holdNode : State := onRing .hold id
def asc (xs : List Int) : List (Int × Nat) := xs.map (fun x => (x, 0))
def twoRead (x y : Int) (r : RingSt) : RingSt := { r with readX := r.readX.set 0 (some x), readY := r.readY.set 1 (some y) }
def s10_5 := joined (fun r => { r with noReadRun := 15, noRead := 0xFFFF, armed := false, armNext := true })
def s10_6 := joined (fun r => { twoRead 40 51 r with listenOnly := true, tx := false, armed := false })
def s10_7 := joined (fun r => { twoRead 40 51 r with listenOnly := true, tx := false, armed := false, listenFrom := 10000001 })
def rated (d : Int) : State := joined (fun r => { r with rateDue := true, deltas := List.replicate 16 (some d) })
def s10_8 := joined (fun r => { r with listenDue := true })
def s10_9 := joined (fun r => { r with listenOnly := true, listenFor := 100 })

def port (p : Port) (f : RingPort → RingPort) (s : State) : State := { s with ring := s.ring.updPort p f }
/-- A probe of node 8 with the first byte given. -/
def probeOf (b0 seq turn restore : Nat) : List Byte :=
  let b := natLe 1 b0 ++ natLe 2 8 ++ natLe 1 seq ++ natLe 2 turn ++ natLe 2 restore ++ [0]
  b ++ natLe 2 (crc16 b).toNat
def linkW (f : RingPort → RingPort) : State := port .W f (joined id)
def s11_1 := port .E (fun k => { k with busyUntil := 900000000 }) (joined id)
def s11_2 := linkW (fun k => { k with waiting := some 7, missed := 3, seq := 7, signal := true })
def s11_3 := linkW (fun k => { k with waiting := some 7, missed := 2, seq := 7, looped := true })
def live (k : RingPort) : RingPort := { k with signal := true, delay := 300, valid := true, waiting := some 7, count := 63, sum := 2000, drift := 15 }
def request9 : List Byte := probeOf 0x71 9 0 0
def reply7 : List Byte := probeOf 0x12 7 400 0
def s11_4 := linkW (fun k => { k with count := 64, sum := 128 * 300 + 64, looped := true })
def s11_5 := port .E (fun k => { k with count := 64, sum := 128 * 300 + 63, valid := false }) (onRing .joining id)
def s11_6 := linkW (fun k => { k with due := 2 })
def s11_7 := port .E (fun k => { k with due := 0x40 }) (joined id)
def s11_8 := port .E (fun k => { k with due := 0x18 }) (joined (fun r => { r with acquired := false }))
def s11_9 := linkW (fun k => { k with signal := false, looped := true })
def s11_10 := linkW (fun k => { k with signal := true, looped := true, stableFrom := some 7, fresh := true, nReady := true, nAcq := true, nAddr := 8 })
def agreed (k : RingPort) : RingPort := { k with restore := some 32, echoed := true, looped := true, fault := true, ready := true, delay := 300 }
def s11_11 := linkW (fun k => { agreed k with echoed := false })
def colding (c : BitVec 2) : State :=
  let s := onRing .joining (fun r => { r with
    acquired := false, cold := c, joined := false, tx := false, armed := false
    header := (r.header.set 5 7).set 3 3
    w := { r.w with valid := true, fresh := true }
    e := { r.e with valid := true, fresh := true } })
  { s with sealSt := { s.sealSt with sw1 := 0x1007 } }
def impostor : State := onRing .joining (fun r => { r with cold := 2, ownSeen := true })
def s11_12 := joined (fun r => { r with cold := 2 })
def committing (b c : Bool) : State :=
  let s := cyclic .startupTest .idle
  let f (on : Bool) (x : Lane) : Lane := { x with ring := { x.ring with header := x.ring.header.set 1 5, entries := [(3, 9)], committed := on } }
  { s with lanes := { a := f false s.lanes.a, b := f b s.lanes.b, c := f c s.lanes.c } }

/-- A package of a kind with its entries, SEQUENCE 9; its signature bytes are 0. -/
def package (kind : Nat) (es : List (Nat × Nat × Nat)) : List Byte :=
  natLe 4 0x00090006 ++ natLe 2 0 ++ natLe 1 kind ++ natLe 1 0 ++ natLe 4 es.length ++ natLe 4 9 ++ natLe 112 0 ++
    es.flatMap (fun e => natLe 4 e.1 ++ natLe 4 e.2.1 ++ natLe 4 e.2.2) ++ natLe (1024 - 128 - 12 * es.length) 0
/-- The three lanes hold an accepted package for cycle 10, with their stores as given. -/
def pended (m : Mode) (st : CycleStep) (kind : Nat) (es : List (Nat × Nat × Nat)) (f : Lane → Lane := id) : State :=
  let p : PendingChange := { bytes := package kind es, intake := 3, slices := 15, verdict := some (0, 0), posted := true, apply := 10 }
  let s := each (fun x => f { x with change := { x.change with pend := some p } }) (cyclic m st)
  { s with chg := { s.chg with busy := true }, sealSt := { s.sealSt with sw1 := 0x6007 } }
def pendingOf (s : State) : PendingChange := s.pendingPackage.getD { bytes := [], intake := 0, slices := 0, verdict := none, posted := false, apply := 0 }
def param2 : State := pended .run .agreement 1 [(3, 0, 77), (16383, 0, 78)]
def paramMaint : State := pended .maintenance .agreement 1 [(0, 0, 0x10077)]
def activate1 : State := pended .stop .agreement 3 []
def heldForces (x : Lane) : Lane :=
  { x.poke 0x00B30018 (wordBytes 5) with change := { x.change with forces := [{ target := 3, value := 6, previous := 4 }, { target := 0x10005, value := 1, previous := 0 }] } }
def force3 : State := pended .maintenance .agreement 4 [(3, 0, 9), (4, 0, 10), (0x10006, 0, 1)] heldForces
def unforce3 : State := pended .maintenance .agreement 5 [(3, 0, 9), (4, 0, 10), (0x10005, 0, 1)] heldForces
def actRun : State := pended .run .agreement 3 []
def stopRun : State := let s := pended .run .voted 2 [] (fun x => { x with cyc := { x.cyc with enables := some 0x30 } }); { s with md := { s.md with fenced := { a := true, b := false, c := false }, voted := true, vital := true, gateGm := .cont } }
def swapping : State := pended .stop .agreement 3 [] (fun x => { x with change := { x.change with swapWait := some 10000000 } })
def switched (m : Mode) (sw : Half) : State := { cyclic m .evaluation with sealSt := { (cyclic m .evaluation).sealSt with sw1 := sw } }
def outC (s : State) : State :=
  let e : FenceEntry := { minute := 5, valid := true }
  { s with
    md := { s.md with fenced := s.md.fenced.set .C true, lockedOut := s.md.lockedOut.set .C true }
    guard := { s.guard with lockedOut := PerLane.all true, hist0 := PerLane.all e, hist1 := PerLane.all e } }
def swapReady : State := { swapping with md := { swapping.md with step := .evaluation } }
def released : State := (outC (switched .maintenance 0x2000)).updLane .A (fun x => { x with vote := { x.vote with release := some .C } })

def inHold (r : Run) (f : Lane → Lane := id) : State :=
  each (fun x => f { x.poke 0 (wordBytes 0x11) with core := { x.core with run := r, tpc := 0x88, tstatus := 4 } }) (cyclic .hold .idle)
def coded (x : Lane) : Lane := x.poke 4 (wordBytes 0x77) |>.poke 0x10 (wordBytes 0x200) |>.poke 0x100 (wordBytes 0x1234)
def broken (x : Lane) : Lane := { x with blk := { x.blk with dbgReason := 3, breakpoints := [(0x100, 0x1234), (0x104, 5)] } }
def heldA : State := inHold .debug coded
def heldBrk : State := inHold .debug broken
def runs : State := inHold .running coded
def heldBad : State := inHold .debug (fun x => { broken x with blk := { (broken x).blk with breakpoints := [(0x88, 0), (0x104, 5)] } })
def atBrk : State := (inMode .hold (app.updLane .A (fun x => { x with blk := { x.blk with breakpoints := [(0x100, 5)] } })))
def mail (ch : Channel) (f : Chan → Chan) (s : State) : State := s.updLane .A (fun x => x.updChan ch f)
def eight : List Word := [1, 2, 3, 4, 5, 6, 7, 8]
def full (c : Chan) : Chan := { c with inq := eight, out := eight, emptyLane := true, emptySvc := true }
def one (c : Chan) : Chan := { c with inq := [6], out := [7], emptySvc := true }
def busyBuffer : State := { app with chg := { app.chg with busy := true } }
def locks : State := app.updLane .A (fun x => { x with sema := { x.sema with owner := (x.sema.owner.set 3 2).set 4 1 } })

/-- A session with a permission mask and, maybe, control. -/
def sess (m : Word) (c : Bool) : Session := { mask := m, control := c, last := 7, certificate := [], proof := [] }
/-- A module with a session of the mask and control given in place 1, and what else changes. -/
def session1 (mask : Word) (ctl : Bool) (f : Svc → Svc := id) : State :=
  let s := cyclic .run .voted
  let v := f { s.svc with sessions := s.svc.sessions.set 1 (some (sess mask ctl)) }
  { s with guard := { s.guard with svcHeld := false, optime := 90 }, svc := v }
def viewer : State := session1 1 false
def operator : State := session1 0x3F true
def hello : Handshake := { port := 50419, version := .tls13, cipher := .aes256GcmSha384, exchange := .x25519, scheme := .ed25519, resumed := false, preShared := false, earlyData := false, transcript := [1, 2] }
def askBytes : List Byte := natLe 18 0 ++ natLe 2 3
def busyQuotes : State := session1 1 false (fun v => { v with quotes := List.replicate 10 80 })
def other : State := session1 2 false (fun v => { v with sessions := v.sessions.set 3 (some (sess 2 true)) })
def endorsing : List Byte := natLe 96 77
def staged : State := { operator with chg := { operator.chg with busy := true } }
def holding1 : State := let s := cyclic .hold .idle; { operator with md := s.md, sealSt := { s.sealSt with sw1 := 0x4000 } }
def sent (f : LaneId → List Word) (g : Svc → Svc := id) : State :=
  let s := cyclic .stop .voted
  let put (l : LaneId) (x : Lane) : Lane := { x with mbSec := { x.mbSec with out := f l } }
  { s with lanes := { a := put .A s.lanes.a, b := put .B s.lanes.b, c := put .C s.lanes.c }
           guard := { s.guard with svcHeld := false }, svc := g s.svc }
def both (ws : List Word) : LaneId → List Word
  | .B => [0x99000000]
  | _ => ws ++ [7]
def verdicts : State := sent (both [0x53000001, 9])
def applying : State := sent (both [0x80000001, 9]) (fun v => { v with packages := [(some 1, package 1 [(3, 4, 5)])] })
def package9 : List Byte := package 1 [(3, 4, 5)]
def unstaged : State := sent (both [0x80000001, 9])
def activating : State := sent (both [0x82001170])
def ending : State := sent (both [0x84000000]) (fun v => v.put 0 (Desig.encode { counter := 4, region := true, trial := true }))
def failing1 : State := sent (both [0x85000000]) (fun v => v.put 0 (Desig.encode { counter := 4, region := true, trial := true }))
def answering : State := sent (both [0x83000101]) (fun v => { v with awaited := some { session := 2, service := 0x40, req := 6, code := 1 } })
def rewriting : State := sent (both []) (fun v => { v.put 0x8000 (Desig.encode { counter := 4, region := false, trial := false }) with rewrite := some { region := true, trial := true, swap := true } })
def alone : State := sent (fun l => if l = .B then [0x53000001, 9] else [])

def unit (f : Cvu → Cvu) : State := app.updLane .A (fun x => { x with cvu := x.cvu.set 2 (f x.cvu[2]) })
/-- CRC-32C as R339 configures it. -/
def crc32 (k : Cvu) : Cvu := { k with ctrl := 0x120, poly := 0x1EDC6F41, init := 0xFFFFFFFF, xor := 0xFFFFFFFF, value := 0xFFFFFFFF }
/-- The safety code of R315, in a mode of its own. -/
def code64 (m : Word) (k : Cvu) : Cvu := { k with ctrl := 0x240 ||| (m <<< 12), poly := 0xAD93D23594C935A9, init := 5, value := 0xDEADBEEF01234567, strip := [1, 2, 3, 4, 5, 6, 7, 8], count := 10 }
def idleUnit : State := unit crc32
def active32 : State := unit (fun k => { crc32 k with state := 1 })
def active64 : State := unit (fun k => { code64 1 k with state := 1, count := 0xFFFFFFFE })
def strip64 : State := unit (fun k => { code64 2 k with state := 1 })
def ready32 : State := unit (fun k => { crc32 k with state := 2, result := 0x123456789ABCDEF0 })
def badUnit : State := unit (fun k => { crc32 k with ctrl := 0x11F })
def odd13 : State := unit (fun k => { k with ctrl := 0x10D, poly := 0x1CF5, value := 0x1ABC, state := 1 })
def s15_1 := unit (fun k => { code64 2 k with state := 1, strip := [1] })
def s15_2 := unit (fun k => { code64 2 k with state := 1, count := 7 })
def s15_3 := unit (fun k => { code64 2 k with state := 1, value := 0x0102030405060708 })
def timed : State :=
  let s := joined id
  { s with
    tb := { s.tb with nt := 0x123456789ABCDEF, ntf := 0x55AA55AA }
    guard := { s.guard with optime := 0x1234567890123456 }
    lanes := { s.lanes with a := { s.lanes.a with tb := { s.lanes.a.tb with cycle := 0x123456789ABC } } } }
def recState (f : Recorder → Recorder) : State :=
  let s := app.updLane .A (fun x => { x with recv := { x.recv with p0 := 1, p1 := 2, p2 := 3, p3 := 4, ctIndex := 5 } })
  { s with recorder := f s.recorder, guard := { s.guard with optime := 123456789 } }
def fresh5 (r : Recorder) : Recorder := { r with buckets := [(5, { fullBucket 16 with refillStart := 123450000 })] }
def someRec : Rec := app.stampRec 5 3 1
def s15_4 := recState (fun r => { r with table := [(5, 0)] })
def s15_5 := recState (fun r => { r with fifo := List.replicate 64 someRec })
def empty5 (r : Recorder) : Recorder := { r with buckets := [(5, { fullBucket 16 with tokens := 0, refillStart := 123450000 })] }
def s15_6 := recState (fun r => { r with fifo := [someRec, { someRec with code := 6 }] })
def s15_7 := recState (fun r => { r with trigger := some 4 })
def s15_8 := recState (fun r => { r with trigger := some 3, deleted := 1048576 - 8319 })
def s15_9 := recState (fun r => { r with flushing := some 4, buffer := [someRec, { someRec with code := 6 }], log := [someRec] })
def s15_10 := recState (fun r => { r with deleted := 300 })
def offering (b : Word) : State :=
  let s := { recState id with md := { (recState id).md with mode := .startupTest } }
  s.updLane .B (fun x => { x with recv := { x.recv with offers := [(5, b)] } })

def bisting (f : BistSt → BistSt) : State :=
  let s := each (fun x => { x with bist := { x.bist with rotate := true } }) (cyclic .run .voted)
  { s with bist := f s.bist, md := { s.md with compared := some [] } }
def s16_1 := bisting (fun b => { b with lane := some (.B, 47) })
def s16_2 := bisting (fun b => { b with shared := some 5 })
def slicing (n : Option Nat) (inc : Nat) : State := bisting (fun b => { b with lane := some (.B, 47), p := 143, laneStop := n, incP := inc })
def zeroExp : DWord := Config.bistExpected false 47 8
def sharing (q : Nat) : State := bisting (fun b => { b with shared := some q, q := q })
def armedA (n : Nat) (m : Mode) : State :=
  let s := switched m 0x2000
  { s with inject := { s.inject with armed := some { ident := 0x3C, lane := some .C, effective := true, cycles := n } } }

theorem witness_IntegerAndImmediateResults_1 :
    ((Takes two LaneId.A (Instr.add LaneId.A 31 1 2)) ∧ (SoundRegs two LaneId.A [1, 2]) ∧ (Calm two)) ∧
    ((Takes two LaneId.A (Instr.mulh LaneId.A 31 1 2)) ∧ (SoundRegs two LaneId.A [1, 2]) ∧ (Calm two)) ∧
    ((Takes two LaneId.A (Instr.mulhu LaneId.A 0 1 2)) ∧ (SoundRegs two LaneId.A [1, 2]) ∧ (Calm two)) ∧
    ((Takes two LaneId.A (Instr.sra LaneId.A 3 1 2)) ∧ (SoundRegs two LaneId.A [1, 2]) ∧ (Calm two)) ∧
    ((Takes two LaneId.A (Instr.clz LaneId.A 3 1)) ∧ (SoundRegs two LaneId.A [1]) ∧ (Calm two)) ∧
    ((Takes two LaneId.A (Instr.ctz LaneId.A 3 1)) ∧ (SoundRegs two LaneId.A [1]) ∧ (Calm two)) ∧
    ((Takes two LaneId.A (Instr.slt LaneId.A 3 1 2)) ∧ (SoundRegs two LaneId.A [1, 2]) ∧ (Calm two)) ∧
    ((Takes two LaneId.A (Instr.bswap LaneId.A 3 1)) ∧ (SoundRegs two LaneId.A [1]) ∧ (Calm two)) := by
  and_intros <;> decide +kernel

theorem witness_IntegerAndImmediateResults_2 :
    ((Takes two LaneId.A (Instr.exts LaneId.A 3 1 31 0)) ∧ (SoundRegs two LaneId.A [1]) ∧ (Calm two)) ∧
    ((Takes two LaneId.A (Instr.ins LaneId.A 2 1 0 31)) ∧ (SoundRegs two LaneId.A [1, 2]) ∧ (Calm two)) ∧
    ((Takes two LaneId.A (Instr.sltiu LaneId.A 2 1 65535)) ∧ (SoundRegs two LaneId.A [1]) ∧ (Calm two)) ∧
    ((Takes two LaneId.A (Instr.lui LaneId.A 2 65535)) ∧ (SoundRegs two LaneId.A []) ∧ (Calm two)) := by
  and_intros <;> decide +kernel

theorem witness_DivisionResults_1 :
    ((Takes two LaneId.A (Instr.div LaneId.A 3 1 2)) ∧ (SoundRegs two LaneId.A [1, 2]) ∧ (Calm two)) ∧
    ((Takes two LaneId.A (Instr.rem LaneId.A 3 1 2)) ∧ (SoundRegs two LaneId.A [1, 2]) ∧ (Calm two)) ∧
    ((Takes two LaneId.A (Instr.remu LaneId.A 3 1 0)) ∧ (SoundRegs two LaneId.A [1, 0]) ∧ (Calm two)) := by
  and_intros <;> decide +kernel

theorem witness_CodedResults_1 :
    ((Takes (reg 3 codedTrue two) LaneId.A (Instr.csel LaneId.A 4 1 2 3)) ∧ (SoundRegs (reg 3 codedTrue two) LaneId.A
      [1, 2, 3]) ∧ (Calm (reg 3 codedTrue two))) ∧
    ((Takes (reg 3 codedTrue two) LaneId.A (Instr.cnot LaneId.A 4 3)) ∧ (SoundRegs (reg 3 codedTrue two) LaneId.A [3])
      ∧ (Calm (reg 3 codedTrue two))) ∧
    ((Takes two LaneId.A (Instr.cchk LaneId.A 4 1)) ∧ (SoundRegs two LaneId.A [1]) ∧ (Calm two)) ∧
    ((Takes (reg 1 codedFalse two) LaneId.A (Instr.cchk LaneId.A 4 1)) ∧ (SoundRegs (reg 1 codedFalse two) LaneId.A
      [1]) ∧ (Calm (reg 1 codedFalse two))) := by
  and_intros <;> decide +kernel

theorem witness_BranchesAndJumps_1 :
    ((Takes two LaneId.A (Instr.blt LaneId.A (1 : Reg) (2 : Reg) (65535 : Half))) ∧ (SoundRegs two LaneId.A [(1 :
      Reg), (2 : Reg)]) ∧ (Calm two) ∧ (decide (BitVec.toInt ((two.lane LaneId.A).core.get (1 : Reg)) < BitVec.toInt
      ((two.lane LaneId.A).core.get (2 : Reg))) = true → (two.lane LaneId.A).fetchable (BitVec.toNat ((two.lane
      LaneId.A).core.pc + (4 : Word) + (4 : Word) * BitVec.signExtend (32 : ℕ) (65535 : Half))) = true)) ∧
    ((Takes two LaneId.A (Instr.bct LaneId.A (1 : Reg) (32767 : Half))) ∧ (SoundRegs two LaneId.A [(1 : Reg)]) ∧ (Calm
      two) ∧ (decide ((two.lane LaneId.A).core.get (1 : Reg) = codedTrue) = true → (two.lane LaneId.A).fetchable
      (BitVec.toNat ((two.lane LaneId.A).core.pc + (4 : Word) + (4 : Word) * BitVec.signExtend (32 : ℕ) (32767 :
      Half))) = true)) ∧
    (((app.lane LaneId.A).fetchable (BitVec.toNat ((app.lane LaneId.A).core.pc + (4 : Word) + (4 : Word) *
      BitVec.signExtend (32 : ℕ) (67108832 : BitVec (26 : ℕ)))) = true) ∧ (Takes app LaneId.A (Instr.j LaneId.A
      (67108832 : BitVec (26 : ℕ))))) ∧
    (((app.lane LaneId.A).fetchable (BitVec.toNat ((app.lane LaneId.A).core.pc + (4 : Word) + (4 : Word) *
      BitVec.signExtend (32 : ℕ) (67108832 : BitVec (26 : ℕ)))) = true) ∧ (Takes app LaneId.A (Instr.jal LaneId.A
      (67108832 : BitVec (26 : ℕ))))) ∧
    ((Takes (reg 1 4092 app) LaneId.A (Instr.jalr LaneId.A 1 1)) ∧ (SoundRegs (reg 1 4092 app) LaneId.A [1]) ∧ (Calm
      (reg 1 4092 app)) ∧ (BitVec.toNat (((reg 1 4092 app).lane LaneId.A).core.get 1) % 4 = 0) ∧ (((reg 1 4092
      app).lane LaneId.A).fetchable (BitVec.toNat (((reg 1 4092 app).lane LaneId.A).core.get 1)) = true)) := by
  and_intros <;> decide +kernel

theorem witness_LoadsFromStore_1 :
    ((Takes loaded LaneId.A (Instr.lb LaneId.A (3 : Reg) (1 : Reg) (3 : Half))) ∧ (SoundRegs loaded LaneId.A [(1 :
      Reg)]) ∧ (Calm loaded) ∧ (BitVec.toNat ((loaded.lane LaneId.A).core.get (1 : Reg) + BitVec.signExtend (32 : ℕ)
      (3 : Half)) % (1 : ℕ) = (0 : ℕ)) ∧ (BitVec.toNat ((loaded.lane LaneId.A).core.get (1 : Reg) + BitVec.signExtend
      (32 : ℕ) (3 : Half)) < (67108864 : ℕ)) ∧ ((loaded.lane LaneId.A).loadRight (loaded.lane LaneId.A).core.priv
      (decide ((1 : ℕ) = (4 : ℕ))) (BitVec.toNat ((loaded.lane LaneId.A).core.get (1 : Reg) + BitVec.signExtend (32 :
      ℕ) (3 : Half))) = Right.ok) ∧ (engineOwned (BitVec.toNat ((loaded.lane LaneId.A).core.get (1 : Reg) +
      BitVec.signExtend (32 : ℕ) (3 : Half))) = true → (loaded.lane LaneId.A).engineBusy = false) ∧ ((loaded.lane
      LaneId.A).parityBad (BitVec.toNat ((loaded.lane LaneId.A).core.get (1 : Reg) + BitVec.signExtend (32 : ℕ) (3 :
      Half))) (1 : ℕ) = false)) ∧
    ((Takes loaded LaneId.A (Instr.lh LaneId.A (3 : Reg) (1 : Reg) (2 : Half))) ∧ (SoundRegs loaded LaneId.A [(1 :
      Reg)]) ∧ (Calm loaded) ∧ (BitVec.toNat ((loaded.lane LaneId.A).core.get (1 : Reg) + BitVec.signExtend (32 : ℕ)
      (2 : Half)) % (2 : ℕ) = (0 : ℕ)) ∧ (BitVec.toNat ((loaded.lane LaneId.A).core.get (1 : Reg) + BitVec.signExtend
      (32 : ℕ) (2 : Half)) < (67108864 : ℕ)) ∧ ((loaded.lane LaneId.A).loadRight (loaded.lane LaneId.A).core.priv
      (decide ((2 : ℕ) = (4 : ℕ))) (BitVec.toNat ((loaded.lane LaneId.A).core.get (1 : Reg) + BitVec.signExtend (32 :
      ℕ) (2 : Half))) = Right.ok) ∧ (engineOwned (BitVec.toNat ((loaded.lane LaneId.A).core.get (1 : Reg) +
      BitVec.signExtend (32 : ℕ) (2 : Half))) = true → (loaded.lane LaneId.A).engineBusy = false) ∧ ((loaded.lane
      LaneId.A).parityBad (BitVec.toNat ((loaded.lane LaneId.A).core.get (1 : Reg) + BitVec.signExtend (32 : ℕ) (2 :
      Half))) (2 : ℕ) = false)) ∧
    ((Takes loaded LaneId.A (Instr.lhu LaneId.A (1 : Reg) (1 : Reg) (0 : Half))) ∧ (SoundRegs loaded LaneId.A [(1 :
      Reg)]) ∧ (Calm loaded) ∧ (BitVec.toNat ((loaded.lane LaneId.A).core.get (1 : Reg) + BitVec.signExtend (32 : ℕ)
      (0 : Half)) % (2 : ℕ) = (0 : ℕ)) ∧ (BitVec.toNat ((loaded.lane LaneId.A).core.get (1 : Reg) + BitVec.signExtend
      (32 : ℕ) (0 : Half)) < (67108864 : ℕ)) ∧ ((loaded.lane LaneId.A).loadRight (loaded.lane LaneId.A).core.priv
      (decide ((2 : ℕ) = (4 : ℕ))) (BitVec.toNat ((loaded.lane LaneId.A).core.get (1 : Reg) + BitVec.signExtend (32 :
      ℕ) (0 : Half))) = Right.ok) ∧ (engineOwned (BitVec.toNat ((loaded.lane LaneId.A).core.get (1 : Reg) +
      BitVec.signExtend (32 : ℕ) (0 : Half))) = true → (loaded.lane LaneId.A).engineBusy = false) ∧ ((loaded.lane
      LaneId.A).parityBad (BitVec.toNat ((loaded.lane LaneId.A).core.get (1 : Reg) + BitVec.signExtend (32 : ℕ) (0 :
      Half))) (2 : ℕ) = false)) ∧
    ((Takes loaded LaneId.A (Instr.lw LaneId.A (3 : Reg) (1 : Reg) (0 : Half))) ∧ (SoundRegs loaded LaneId.A [(1 :
      Reg)]) ∧ (Calm loaded) ∧ (BitVec.toNat ((loaded.lane LaneId.A).core.get (1 : Reg) + BitVec.signExtend (32 : ℕ)
      (0 : Half)) % (4 : ℕ) = (0 : ℕ)) ∧ (BitVec.toNat ((loaded.lane LaneId.A).core.get (1 : Reg) + BitVec.signExtend
      (32 : ℕ) (0 : Half)) < (67108864 : ℕ)) ∧ ((loaded.lane LaneId.A).loadRight (loaded.lane LaneId.A).core.priv
      (decide ((4 : ℕ) = (4 : ℕ))) (BitVec.toNat ((loaded.lane LaneId.A).core.get (1 : Reg) + BitVec.signExtend (32 :
      ℕ) (0 : Half))) = Right.ok) ∧ (engineOwned (BitVec.toNat ((loaded.lane LaneId.A).core.get (1 : Reg) +
      BitVec.signExtend (32 : ℕ) (0 : Half))) = true → (loaded.lane LaneId.A).engineBusy = false) ∧ ((loaded.lane
      LaneId.A).parityBad (BitVec.toNat ((loaded.lane LaneId.A).core.get (1 : Reg) + BitVec.signExtend (32 : ℕ) (0 :
      Half))) (4 : ℕ) = false)) := by
  and_intros <;> decide +kernel

theorem witness_StoresToStore_1 :
    ((Takes loaded LaneId.A (Instr.sw LaneId.A (1 : Reg) (1 : Reg) (0 : Half))) ∧ (SoundRegs loaded LaneId.A [(1 :
      Reg), (1 : Reg)]) ∧ (Calm loaded) ∧ (Memory.wf (loaded.lane LaneId.A).store.cells = true) ∧ (BitVec.toNat
      ((loaded.lane LaneId.A).core.get (1 : Reg) + BitVec.signExtend (32 : ℕ) (0 : Half)) % (4 : ℕ) = (0 : ℕ)) ∧
      (inBlocks (BitVec.toNat ((loaded.lane LaneId.A).core.get (1 : Reg) + BitVec.signExtend (32 : ℕ) (0 : Half))) =
      false) ∧ ((loaded.lane LaneId.A).storeRight (loaded.lane LaneId.A).core.priv (decide ((4 : ℕ) = (4 : ℕ)))
      (loaded.laneMode LaneId.A) (BitVec.toNat ((loaded.lane LaneId.A).core.get (1 : Reg) + BitVec.signExtend (32 : ℕ)
      (0 : Half))) = Right.ok)) := by
  and_intros <;> decide +kernel

theorem witness_SystemInstructions_1 :
    ((Takes calls LaneId.A (Instr.sysc LaneId.A 65535)) ∧ ((calls.lane LaneId.A).core.priv = false) ∧ ((calls.lane
      LaneId.A).core.intrap = false)) ∧
    ((Takes trapped LaneId.A (Instr.tret LaneId.A)) ∧ ((trapped.lane LaneId.A).core.priv = true)) ∧
    ((Takes trapped LaneId.A (Instr.mfcr LaneId.A 4 8)) ∧ ((trapped.lane LaneId.A).core.readCr ↑8 = some 7) ∧
      ((trapped.lane LaneId.A).core.priv = true ∨ ↑8 = 0 ∨ ↑8 = 9)) ∧
    ((Takes calls LaneId.A (Instr.mfcr LaneId.A 4 9)) ∧ ((calls.lane LaneId.A).core.readCr ↑9 = some 0) ∧ ((calls.lane
      LaneId.A).core.priv = true ∨ ↑9 = 0 ∨ ↑9 = 9)) ∧
    ((Takes (reg 1 4294967295 trapped) LaneId.A (Instr.mtcr LaneId.A 23 1)) ∧ (SoundRegs (reg 1 4294967295 trapped)
      LaneId.A [1]) ∧ (Calm (reg 1 4294967295 trapped)) ∧ (((reg 1 4294967295 trapped).lane LaneId.A).core.priv =
      true) ∧ ((((reg 1 4294967295 trapped).lane LaneId.A).core.readCr ↑23).isSome = true)) ∧
    ((Takes (reg 1 4294967295 trapped) LaneId.A (Instr.mtcr LaneId.A 7 1)) ∧ (SoundRegs (reg 1 4294967295 trapped)
      LaneId.A [1]) ∧ (Calm (reg 1 4294967295 trapped)) ∧ (((reg 1 4294967295 trapped).lane LaneId.A).core.priv =
      true) ∧ ((((reg 1 4294967295 trapped).lane LaneId.A).core.readCr ↑7).isSome = true)) ∧
    ((Takes rt LaneId.A (Instr.wait LaneId.A 5)) ∧ ((rt.lane LaneId.A).core.priv = true)) ∧
    ((Takes events LaneId.A (Instr.wait LaneId.A 5)) ∧ ((events.lane LaneId.A).core.priv = true)) := by
  and_intros <;> decide +kernel

theorem witness_SystemInstructions_2 :
    (((waits.lane LaneId.A).core.run = Run.waiting 5) ∧ ((waits.lane LaneId.A).core.priv = true) ∧ ((waits.lane
      LaneId.A).core.events &&& (waits.lane LaneId.A).core.evmask ≠ 0)) ∧
    ((Takes rt LaneId.A (Instr.halt LaneId.A)) ∧ ((rt.lane LaneId.A).core.priv = true)) := by
  and_intros <;> decide +kernel

theorem witness_HandledTraps_1 :
    (((handled.lane LaneId.A).core.priv = false) ∧ ((handled.lane LaneId.A).core.intrap = false) ∧ ((handled.lane
      LaneId.A).core.ah = false) ∧ (5 < 16) ∧ (5 ≠ 4) ∧ (5 ≠ 11) ∧ (BitVec.getLsbD (handled.lane LaneId.A).core.amask
      5 = true) ∧ ((handled.lane LaneId.A).cyc.initCalls = none) ∧ (Calm handled)) := by
  and_intros <;> decide +kernel

theorem witness_ProcessImage_1 :
    ((CleanStore pin65 LaneId.A) ∧ (Runs pin65 LaneId.A (Instr.pin LaneId.A 3 1)) ∧ (SoundRegs pin65 LaneId.A [1]) ∧
      (BitVec.toNat ((pin65.lane LaneId.A).core.get 1) ≤ 65)) ∧
    ((CleanStore pout47 LaneId.A) ∧ (Runs pout47 LaneId.A (Instr.pout LaneId.A 1 2)) ∧ (SoundRegs pout47 LaneId.A [1,
      2]) ∧ (BitVec.toNat ((pout47.lane LaneId.A).core.get 1) ≤ 47) ∧ (Memory.wf (pout47.lane LaneId.A).store.cells =
      true)) ∧
    ((CleanStore (reg 2 291 pout47) LaneId.A) ∧ (Runs (reg 2 291 pout47) LaneId.A (Instr.pout LaneId.A 1 2)) ∧
      (SoundRegs (reg 2 291 pout47) LaneId.A [1, 2]) ∧ (BitVec.toNat (((reg 2 291 pout47).lane LaneId.A).core.get 1) ≤
      47) ∧ (Memory.wf ((reg 2 291 pout47).lane LaneId.A).store.cells = true)) := by
  and_intros <;> decide +kernel

theorem witness_ElementWords_1 :
    ((CleanStore soundElements LaneId.A) ∧ (SoundRegs soundElements LaneId.A [1, 2]) ∧ (BitVec.toNat
      ((soundElements.lane LaneId.A).core.get 1) < (soundElements.lane LaneId.A).engine.cfgElements.toNat) ∧
      (BitVec.toNat ((soundElements.lane LaneId.A).core.get 2) ≤ 7) ∧ (Runs soundElements LaneId.A (Instr.eld LaneId.A
      3 1 2)) ∧ ((soundElements.lane LaneId.A).engineBusy = false) ∧ ((soundElements.lane LaneId.A).recordSound
      (BitVec.toNat ((soundElements.lane LaneId.A).core.get 1)) = true)) ∧
    ((CleanStore soundElements LaneId.A) ∧ (SoundRegs soundElements LaneId.A [1, 2]) ∧ (BitVec.toNat
      ((soundElements.lane LaneId.A).core.get 1) < (soundElements.lane LaneId.A).engine.cfgElements.toNat) ∧
      (BitVec.toNat ((soundElements.lane LaneId.A).core.get 2) ≤ 7) ∧ (Runs soundElements LaneId.A (Instr.est LaneId.A
      3 1 2)) ∧ ((soundElements.lane LaneId.A).engineBusy = false) ∧ ((soundElements.lane LaneId.A).recordSound
      (BitVec.toNat ((soundElements.lane LaneId.A).core.get 1)) = true) ∧ (SoundRegs soundElements LaneId.A [3]) ∧
      ((soundElements.lane LaneId.A).core.packStack = [] ∨ (soundElements.lane LaneId.A).core.pack = some
      ((soundElements.lane LaneId.A).elemPack (BitVec.toNat ((soundElements.lane LaneId.A).core.get 1)))) ∧
      (BitVec.toNat ((soundElements.lane LaneId.A).core.get 2) ≤ 2 → codedValid ((soundElements.lane
      LaneId.A).core.get 3) = true) ∧ (BitVec.toNat ((soundElements.lane LaneId.A).core.get 2) = 3 ∨ BitVec.toNat
      ((soundElements.lane LaneId.A).core.get 2) = 4 ∨ BitVec.toNat ((soundElements.lane LaneId.A).core.get 2) = 6 →
      (soundElements.lane LaneId.A).core.get 3 = (soundElements.lane LaneId.A).rd32 (37748736 + BitVec.toNat
      ((soundElements.lane LaneId.A).core.get 1) * 32 + BitVec.toNat ((soundElements.lane LaneId.A).core.get 2) * 4))
      ∧ (BitVec.toNat ((soundElements.lane LaneId.A).core.get 2) = 5 → (soundElements.lane LaneId.A).core.get 3 &&&
      4294963436 = (soundElements.lane LaneId.A).rd32 (37748736 + BitVec.toNat ((soundElements.lane LaneId.A).core.get
      1) * 32 + BitVec.toNat ((soundElements.lane LaneId.A).core.get 2) * 4) &&& 12) ∧ (BitVec.toNat
      ((soundElements.lane LaneId.A).core.get 2) = 7 → (soundElements.lane LaneId.A).core.get 3 &&& 4294901760 = 0)) ∧
    ((CleanStore busyElements LaneId.A) ∧ (SoundRegs busyElements LaneId.A [1, 2]) ∧ (BitVec.toNat ((busyElements.lane
      LaneId.A).core.get 1) < (busyElements.lane LaneId.A).engine.cfgElements.toNat) ∧ (BitVec.toNat
      ((busyElements.lane LaneId.A).core.get 2) ≤ 7) ∧ (Runs busyElements LaneId.A (Instr.eld LaneId.A 3 1 2)) ∧
      ((busyElements.lane LaneId.A).engineBusy = true)) ∧
    ((CleanStore busyElements LaneId.A) ∧ (SoundRegs busyElements LaneId.A [1, 2]) ∧ (BitVec.toNat ((busyElements.lane
      LaneId.A).core.get 1) < (busyElements.lane LaneId.A).engine.cfgElements.toNat) ∧ (BitVec.toNat
      ((busyElements.lane LaneId.A).core.get 2) ≤ 7) ∧ (Runs busyElements LaneId.A (Instr.est LaneId.A 3 1 2)) ∧
      ((busyElements.lane LaneId.A).engineBusy = true)) := by
  and_intros <;> decide +kernel

theorem witness_Timers_1 :
    ((CleanStore timer255 LaneId.A) ∧ (Runs timer255 LaneId.A (Instr.tstart LaneId.A 3 1 2)) ∧ (SoundRegs timer255
      LaneId.A [1, 2]) ∧ (BitVec.toNat ((timer255.lane LaneId.A).core.get 1) < 256)) ∧
    ((CleanStore timerAny LaneId.A) ∧ (Runs timerAny LaneId.A (Instr.tstart LaneId.A 3 1 2)) ∧ (SoundRegs timerAny
      LaneId.A [1, 2]) ∧ ((timerAny.lane LaneId.A).core.get 1 &&& 4294967040 = 2147483648) ∧ (BitVec.toNat
      ((timerAny.lane LaneId.A).core.get 1) % 256 ≤ 255) ∧ (255 < 256) ∧ ((timerAny.lane LaneId.A).rd32 ((fun t =>
      49283072 + t * 16) 255 + 12) ≠ codedTrue) ∧ (∀ (u : ℕ), BitVec.toNat ((timerAny.lane LaneId.A).core.get 1) % 256
      ≤ u → u < 255 → (timerAny.lane LaneId.A).rd32 ((fun t => 49283072 + t * 16) u + 12) = codedTrue)) ∧
    ((CleanStore timer255 LaneId.A) ∧ (Runs timer255 LaneId.A (Instr.tstop LaneId.A 1)) ∧ (SoundRegs timer255 LaneId.A
      [1]) ∧ (BitVec.toNat ((timer255.lane LaneId.A).core.get 1) < 256)) ∧
    ((CleanStore timer255 LaneId.A) ∧ (Runs timer255 LaneId.A (Instr.tread LaneId.A 3 1)) ∧ (SoundRegs timer255
      LaneId.A [1]) ∧ (BitVec.toNat ((timer255.lane LaneId.A).core.get 1) < 256)) ∧
    ((CleanStore timer255 LaneId.A) ∧ (Runs timer255 LaneId.A (Instr.treadX LaneId.A 3 1)) ∧ (SoundRegs timer255
      LaneId.A [1]) ∧ (BitVec.toNat ((timer255.lane LaneId.A).core.get 1) < 256)) := by
  and_intros <;> decide +kernel

theorem witness_CountersAndEdges_1 :
    ((CleanStore counter1023 LaneId.A) ∧ (Memory.wf (counter1023.lane LaneId.A).store.cells = true) ∧ (Runs
      counter1023 LaneId.A (Instr.cinc LaneId.A 3 1)) ∧ (SoundRegs counter1023 LaneId.A [1]) ∧ (BitVec.toNat
      ((counter1023.lane LaneId.A).core.get 1) < 1024)) ∧
    ((CleanStore (put 49291260 4294967295 counter1023) LaneId.A) ∧ (Memory.wf ((put 49291260 4294967295
      counter1023).lane LaneId.A).store.cells = true) ∧ (Runs (put 49291260 4294967295 counter1023) LaneId.A
      (Instr.cinc LaneId.A 3 1)) ∧ (SoundRegs (put 49291260 4294967295 counter1023) LaneId.A [1]) ∧ (BitVec.toNat
      (((put 49291260 4294967295 counter1023).lane LaneId.A).core.get 1) < 1024)) ∧
    ((CleanStore counter1023 LaneId.A) ∧ (Memory.wf (counter1023.lane LaneId.A).store.cells = true) ∧ (Runs
      counter1023 LaneId.A (Instr.crd LaneId.A 3 1)) ∧ (SoundRegs counter1023 LaneId.A [1]) ∧ (BitVec.toNat
      ((counter1023.lane LaneId.A).core.get 1) < 1024)) ∧
    ((CleanStore edgeKey LaneId.A) ∧ (Memory.wf (edgeKey.lane LaneId.A).store.cells = true) ∧ (SoundRegs edgeKey
      LaneId.A [1, 2]) ∧ (BitVec.toNat ((edgeKey.lane LaneId.A).core.get 1) ≤ 65535) ∧ (1 ≤ BitVec.toNat
      ((edgeKey.lane LaneId.A).rd16 (49348608 + BitVec.toNat ((edgeKey.lane LaneId.A).core.get 1) * 2))) ∧
      (BitVec.toNat ((edgeKey.lane LaneId.A).rd16 (49348608 + BitVec.toNat ((edgeKey.lane LaneId.A).core.get 1) * 2))
      ≤ 4096) ∧ (Runs edgeKey LaneId.A (Instr.edgeup LaneId.A 3 1 2))) ∧
    ((CleanStore edgeKey LaneId.A) ∧ (Memory.wf (edgeKey.lane LaneId.A).store.cells = true) ∧ (SoundRegs edgeKey
      LaneId.A [1, 2]) ∧ (BitVec.toNat ((edgeKey.lane LaneId.A).core.get 1) ≤ 65535) ∧ (1 ≤ BitVec.toNat
      ((edgeKey.lane LaneId.A).rd16 (49348608 + BitVec.toNat ((edgeKey.lane LaneId.A).core.get 1) * 2))) ∧
      (BitVec.toNat ((edgeKey.lane LaneId.A).rd16 (49348608 + BitVec.toNat ((edgeKey.lane LaneId.A).core.get 1) * 2))
      ≤ 4096) ∧ (Runs edgeKey LaneId.A (Instr.edgedn LaneId.A 3 1 2))) ∧
    ((CleanStore fallKey LaneId.A) ∧ (Memory.wf (fallKey.lane LaneId.A).store.cells = true) ∧ (SoundRegs fallKey
      LaneId.A [1, 2]) ∧ (BitVec.toNat ((fallKey.lane LaneId.A).core.get 1) ≤ 65535) ∧ (1 ≤ BitVec.toNat
      ((fallKey.lane LaneId.A).rd16 (49348608 + BitVec.toNat ((fallKey.lane LaneId.A).core.get 1) * 2))) ∧
      (BitVec.toNat ((fallKey.lane LaneId.A).rd16 (49348608 + BitVec.toNat ((fallKey.lane LaneId.A).core.get 1) * 2))
      ≤ 4096) ∧ (Runs fallKey LaneId.A (Instr.edgedn LaneId.A 3 1 2))) ∧
    ((CleanStore (put 49307644 9 fallKey) LaneId.A) ∧ (Memory.wf ((put 49307644 9 fallKey).lane LaneId.A).store.cells
      = true) ∧ (SoundRegs (put 49307644 9 fallKey) LaneId.A [1, 2]) ∧ (BitVec.toNat (((put 49307644 9 fallKey).lane
      LaneId.A).core.get 1) ≤ 65535) ∧ (1 ≤ BitVec.toNat (((put 49307644 9 fallKey).lane LaneId.A).rd16 (49348608 +
      BitVec.toNat (((put 49307644 9 fallKey).lane LaneId.A).core.get 1) * 2))) ∧ (BitVec.toNat (((put 49307644 9
      fallKey).lane LaneId.A).rd16 (49348608 + BitVec.toNat (((put 49307644 9 fallKey).lane LaneId.A).core.get 1) *
      2)) ≤ 4096) ∧ (Runs (put 49307644 9 fallKey) LaneId.A (Instr.edgedn LaneId.A 3 1 2))) := by
  and_intros <;> decide +kernel

theorem witness_SignatureAndBudget_1 :
    ((Runs sigState LaneId.A (Instr.sig LaneId.A 1)) ∧ (SoundRegs sigState LaneId.A [1])) ∧
    ((Runs (inMode Mode.split sigState) LaneId.A (Instr.sig LaneId.A 1)) ∧ (SoundRegs (inMode Mode.split sigState)
      LaneId.A [1])) ∧
    ((Runs budgeted LaneId.A (Instr.budget LaneId.A 4))) ∧
    ((Runs budgeted LaneId.A (Instr.cycend LaneId.A)) ∧ (budgeted.md.mode ≠ Mode.hold) ∧ (budgeted.md.mode ≠
      Mode.split) ∧ (budgeted.md.role ≠ Role.ixl ∨ (budgeted.lane LaneId.A).engine.sweepPut = true) ∧ ((budgeted.lane
      LaneId.A).engine.queue = []) ∧ ((budgeted.lane LaneId.A).engine.digests = []) ∧ ((budgeted.lane
      LaneId.A).cyc.initCalls = none) ∧ ((budgeted.lane LaneId.A).core.cvCycle = 0)) ∧
    ((budgeted.budgetArmed LaneId.A = true) ∧ ((budgeted.lane LaneId.A).core.run = Run.running) ∧ (Calm budgeted) ∧
      (budgeted.md.mode ≠ Mode.hold)) ∧
    ((s02_1.budgetArmed LaneId.A = true) ∧ ((s02_1.lane LaneId.A).core.run = Run.running) ∧ (Calm s02_1) ∧
      (s02_1.md.mode ≠ Mode.hold)) := by
  and_intros <;> decide +kernel

theorem witness_EngineQueue_1 :
    ((routes.md.role ≠ Role.oc) ∧ (Runs routes LaneId.A (Instr.rqput LaneId.A 1)) ∧ (SoundRegs routes LaneId.A [1]) ∧
      (CleanStore routes LaneId.A) ∧ ((routes.lane LaneId.A).engine.enable = true) ∧ (1 ≤ BitVec.toNat ((routes.lane
      LaneId.A).core.get 1) % 32) ∧ (BitVec.toNat ((routes.lane LaneId.A).core.get 1) % 32 ≤ 12) ∧ (requestClean
      ((routes.lane LaneId.A).core.get 1) = true) ∧ ((routes.lane LaneId.A).objectFits ((routes.lane
      LaneId.A).core.get 1) = true) ∧ ((routes.lane LaneId.A).engine.queue.length < 64) ∧ (BitVec.toNat ((routes.lane
      LaneId.A).core.get 1) % 32 = 2 ∨ BitVec.toNat ((routes.lane LaneId.A).core.get 1) % 32 = 3 ∨ BitVec.toNat
      ((routes.lane LaneId.A).core.get 1) % 32 = 5 → BitVec.getLsbD ((routes.lane LaneId.A).rw (reqObject
      ((routes.lane LaneId.A).core.get 1)) 0) 24 = false)) ∧
    ((gotResult.md.role ≠ Role.oc) ∧ (Runs gotResult LaneId.A (Instr.rqget LaneId.A (5 : Reg))) ∧ ((gotResult.lane
      LaneId.A).engine.queue = [{ request := (2 : Word), result := some (34 : Word) : QEntry }]) ∧ (BitVec.toNat (34 :
      Word) / (32 : ℕ) % (8 : ℕ) ≠ (2 : ℕ))) ∧
    ((gotError.md.role ≠ Role.oc) ∧ (Runs gotError LaneId.A (Instr.rqget LaneId.A (5 : Reg))) ∧ ((gotError.lane
      LaneId.A).engine.queue = [{ request := (2 : Word), result := some (66 : Word) : QEntry }]) ∧ (BitVec.toNat (66 :
      Word) / (32 : ℕ) % (8 : ℕ) = (2 : ℕ))) ∧
    (((inMode Mode.run gotError).md.role ≠ Role.oc) ∧ (Runs (inMode Mode.run gotError) LaneId.A (Instr.rqget LaneId.A
      (5 : Reg))) ∧ (((inMode Mode.run gotError).lane LaneId.A).engine.queue =
      [{ request := (2 : Word), result := some (66 : Word) : QEntry }]) ∧ (BitVec.toNat (66 : Word) / (32 : ℕ) % (8 :
      ℕ) = (2 : ℕ))) ∧
    ((waitsResult.md.role ≠ Role.oc) ∧ (Runs waitsResult LaneId.A (Instr.rqget LaneId.A 5)) ∧ ((waitsResult.lane
      LaneId.A).engine.queue = [{ request := 2, result := none }])) ∧
    ((waitsResult.md.role ≠ Role.oc) ∧ (Runs waitsResult LaneId.A (Instr.rwait LaneId.A)) ∧ ((waitsResult.lane
      LaneId.A).engine.enable = true)) ∧
    ((stalledGet.md.role ≠ Role.oc) ∧ ((stalledGet.lane LaneId.A).core.run = Run.stalled (Instr.rqget LaneId.A 5)) ∧
      ((stalledGet.lane LaneId.A).engine.queue = [{ request := 2, result := some 34 }])) ∧
    ((stalledLoad.md.role ≠ Role.oc) ∧ ((stalledLoad.lane LaneId.A).core.run = Run.stalled (Instr.lw LaneId.A 5 0 64))
      ∧ ((stalledLoad.lane LaneId.A).engineBusy = false)) := by
  and_intros <;> decide +kernel

theorem witness_SafeLinkInstructions_1 :
    ((SoundRegs linkTx LaneId.A [1, 2]) ∧ (BitVec.toNat ((linkTx.lane LaneId.A).core.get 1) ≤ 511) ∧ (BitVec.toNat
      ((linkTx.lane LaneId.A).core.get 2) % 4 = 0) ∧ ((linkTx.lane LaneId.A).sl.enable = true) ∧ (Runs linkTx LaneId.A
      (Instr.sltx LaneId.A 1 2)) ∧ (CleanStore linkTx LaneId.A) ∧ ((linkTx.lane LaneId.A).connTx (BitVec.toNat
      ((linkTx.lane LaneId.A).core.get 1)) = true) ∧ ((linkTx.lane LaneId.A).stgFlag (BitVec.toNat ((linkTx.lane
      LaneId.A).core.get 1)) 5 = false) ∧ (BitVec.toNat ((linkTx.lane LaneId.A).rd32 (BitVec.toNat ((linkTx.lane
      LaneId.A).core.get 2))) % 256 ≤ 96) ∧ (BitVec.toNat ((linkTx.lane LaneId.A).rd32 (BitVec.toNat ((linkTx.lane
      LaneId.A).core.get 2))) / 65536 = 0) ∧ ((linkTx.lane LaneId.A).kindPermitted (BitVec.toNat ((linkTx.lane
      LaneId.A).core.get 1)) (BitVec.toNat ((linkTx.lane LaneId.A).rd32 (BitVec.toNat ((linkTx.lane LaneId.A).core.get
      2))) / 256 % 256) = true) ∧ (∀ i < BitVec.toNat ((linkTx.lane LaneId.A).rd32 (BitVec.toNat ((linkTx.lane
      LaneId.A).core.get 2))) % 256 + 4, (linkTx.lane LaneId.A).bufferLoad (BitVec.toNat ((linkTx.lane
      LaneId.A).core.get 2) + i) = Right.ok)) ∧
    ((SoundRegs linkRx LaneId.A [1, 2]) ∧ (BitVec.toNat ((linkRx.lane LaneId.A).core.get 1) ≤ 511) ∧ (BitVec.toNat
      ((linkRx.lane LaneId.A).core.get 2) % 4 = 0) ∧ ((linkRx.lane LaneId.A).sl.enable = true) ∧ (Runs linkRx LaneId.A
      (Instr.slrx LaneId.A 3 1 2)) ∧ ((linkRx.lane LaneId.A).connRx (BitVec.toNat ((linkRx.lane LaneId.A).core.get 1))
      = true) ∧ (∀ i < 25, (linkRx.lane LaneId.A).bufferStore (linkRx.laneMode LaneId.A) ((BitVec.toNat ((linkRx.lane
      LaneId.A).core.get 2) + 4 * i) % 2 ^ 32) = Right.ok) ∧ (linkRx.delivery (linkRx.lane LaneId.A) (BitVec.toNat
      ((linkRx.lane LaneId.A).core.get 1)) = none)) := by
  and_intros <;> decide +kernel

theorem witness_PackCalls_1 :
    ((Runs packs LaneId.A (Instr.rpcall LaneId.A 1 2)) ∧ (SoundRegs packs LaneId.A [1, 2]) ∧ (CleanStore packs
      LaneId.A) ∧ (BitVec.toNat ((packs.lane LaneId.A).core.get 1) < 8) ∧ ((packs.lane LaneId.A).packPresent
      (BitVec.toNat ((packs.lane LaneId.A).core.get 1)) = true) ∧ (BitVec.toNat ((packs.lane LaneId.A).core.get 2) <
      BitVec.toNat ((packs.lane LaneId.A).rd32 (packAddr (BitVec.toNat ((packs.lane LaneId.A).core.get 1)) + 24)) %
      256) ∧ (BitVec.toNat ((packs.lane LaneId.A).rd32 ((BitVec.toNat ((packs.lane LaneId.A).rd32 (packAddr
      (BitVec.toNat ((packs.lane LaneId.A).core.get 1)) + 20)) + BitVec.toNat ((packs.lane LaneId.A).core.get 2) * 4)
      % 2 ^ 32)) % 4 = 0) ∧ ((packs.lane LaneId.A).fetchable (BitVec.toNat ((packs.lane LaneId.A).rd32 ((BitVec.toNat
      ((packs.lane LaneId.A).rd32 (packAddr (BitVec.toNat ((packs.lane LaneId.A).core.get 1)) + 20)) + BitVec.toNat
      ((packs.lane LaneId.A).core.get 2) * 4) % 2 ^ 32))) = true) ∧ ((packs.lane LaneId.A).core.packStack.length < 4)) ∧
    ((Runs called LaneId.A (Instr.rpret LaneId.A)) ∧ ((called.lane LaneId.A).core.packStack = [(512, none)]) ∧ (([] :
      List Word) ≠ [] ∨ (called.lane LaneId.A).cyc.initCalls = none)) ∧
    ((Runs app LaneId.A (Instr.rpret LaneId.A)) ∧ ((app.lane LaneId.A).core.packStack = [])) := by
  and_intros <;> decide +kernel

theorem witness_CheckTraps_1 :
    (((s02_2.lane LaneId.A).core.run = Run.running) ∧ (Calm s02_2) ∧ ((s02_2.lane LaneId.A).fetchable (BitVec.toNat
      (s02_2.lane LaneId.A).core.pc) = false)) ∧
    (((badFetch.lane LaneId.A).core.run = Run.running) ∧ (Calm badFetch) ∧ ((badFetch.lane LaneId.A).fetchable
      (BitVec.toNat (badFetch.lane LaneId.A).core.pc) = true) ∧ (BitVec.toNat (badFetch.lane LaneId.A).core.pc <
      storeTop) ∧ ((badFetch.lane LaneId.A).parityBad (BitVec.toNat (badFetch.lane LaneId.A).core.pc) 4 = true)) ∧
    (((app.lane LaneId.A).core.run = Run.running) ∧ (Calm app) ∧ (Takes app LaneId.A (Instr.mtcr LaneId.A 14 1)) ∧
      ((app.lane LaneId.A).core.readCr ↑14 = none) ∧ (Instr.mtcr LaneId.A 14 1 = Instr.mfcr LaneId.A 1 14 ∨ Instr.mtcr
      LaneId.A 14 1 = Instr.mtcr LaneId.A 14 1)) ∧
    (((app.lane LaneId.A).core.run = Run.running) ∧ (Calm app) ∧ (Takes app LaneId.A (Instr.mfcr LaneId.A 1 31)) ∧
      ((app.lane LaneId.A).core.readCr ↑31 = none) ∧ (Instr.mfcr LaneId.A 1 31 = Instr.mfcr LaneId.A 1 31 ∨ Instr.mfcr
      LaneId.A 1 31 = Instr.mtcr LaneId.A 31 1)) ∧
    (((app.lane LaneId.A).core.run = Run.running) ∧ (Calm app) ∧ (Takes app LaneId.A (Instr.wait LaneId.A 1)) ∧
      ((app.lane LaneId.A).core.priv = false) ∧ (((app.lane LaneId.A).core.readCr ↑0).isSome = true) ∧ (Instr.wait
      LaneId.A 1 = Instr.tret LaneId.A ∨ Instr.wait LaneId.A 1 = Instr.halt LaneId.A ∨ Instr.wait LaneId.A 1 =
      Instr.wait LaneId.A 1 ∨ Instr.wait LaneId.A 1 = Instr.mtcr LaneId.A 0 1)) ∧
    (((app.lane LaneId.A).core.run = Run.running) ∧ (Calm app) ∧ (Takes app LaneId.A (Instr.mtcr LaneId.A 23 1)) ∧
      ((app.lane LaneId.A).core.priv = false) ∧ (((app.lane LaneId.A).core.readCr ↑23).isSome = true) ∧ (Instr.mtcr
      LaneId.A 23 1 = Instr.tret LaneId.A ∨ Instr.mtcr LaneId.A 23 1 = Instr.halt LaneId.A ∨ Instr.mtcr LaneId.A 23 1
      = Instr.wait LaneId.A 1 ∨ Instr.mtcr LaneId.A 23 1 = Instr.mtcr LaneId.A 23 1)) ∧
    (((app.lane LaneId.A).core.run = Run.running) ∧ (Calm app) ∧ (Takes app LaneId.A (Instr.tret LaneId.A)) ∧
      ((app.lane LaneId.A).core.priv = false) ∧ (((app.lane LaneId.A).core.readCr ↑0).isSome = true) ∧ (Instr.tret
      LaneId.A = Instr.tret LaneId.A ∨ Instr.tret LaneId.A = Instr.halt LaneId.A ∨ Instr.tret LaneId.A = Instr.wait
      LaneId.A 0 ∨ Instr.tret LaneId.A = Instr.mtcr LaneId.A 0 0)) ∧
    ((((reg (1 : ℕ) (3 : Word) app).lane LaneId.A).core.run = Run.running) ∧ (Calm (reg (1 : ℕ) (3 : Word) app)) ∧
      (Instr.lh LaneId.A (4 : Reg) (1 : Reg) (0 : Half) = Instr.lh LaneId.A (4 : Reg) (1 : Reg) (0 : Half) ∧ (2 : ℕ) =
      (2 : ℕ) ∨ Instr.lh LaneId.A (4 : Reg) (1 : Reg) (0 : Half) = Instr.lw LaneId.A (4 : Reg) (1 : Reg) (0 : Half) ∧
      (2 : ℕ) = (4 : ℕ) ∨ Instr.lh LaneId.A (4 : Reg) (1 : Reg) (0 : Half) = Instr.sh LaneId.A (4 : Reg) (1 : Reg) (0
      : Half) ∧ (2 : ℕ) = (2 : ℕ) ∨ Instr.lh LaneId.A (4 : Reg) (1 : Reg) (0 : Half) = Instr.sw LaneId.A (4 : Reg) (1
      : Reg) (0 : Half) ∧ (2 : ℕ) = (4 : ℕ)) ∧ (Takes (reg (1 : ℕ) (3 : Word) app) LaneId.A (Instr.lh LaneId.A (4 :
      Reg) (1 : Reg) (0 : Half))) ∧ (BitVec.toNat (((reg (1 : ℕ) (3 : Word) app).lane LaneId.A).core.get (1 : Reg) +
      BitVec.signExtend (32 : ℕ) (0 : Half)) % (2 : ℕ) ≠ (0 : ℕ))) := by
  and_intros <;> decide +kernel

theorem witness_CheckTraps_2 :
    ((((reg (1 : ℕ) (2 : Word) app).lane LaneId.A).core.run = Run.running) ∧ (Calm (reg (1 : ℕ) (2 : Word) app)) ∧
      (Instr.sw LaneId.A (4 : Reg) (1 : Reg) (0 : Half) = Instr.lh LaneId.A (4 : Reg) (1 : Reg) (0 : Half) ∧ (4 : ℕ) =
      (2 : ℕ) ∨ Instr.sw LaneId.A (4 : Reg) (1 : Reg) (0 : Half) = Instr.lw LaneId.A (4 : Reg) (1 : Reg) (0 : Half) ∧
      (4 : ℕ) = (4 : ℕ) ∨ Instr.sw LaneId.A (4 : Reg) (1 : Reg) (0 : Half) = Instr.sh LaneId.A (4 : Reg) (1 : Reg) (0
      : Half) ∧ (4 : ℕ) = (2 : ℕ) ∨ Instr.sw LaneId.A (4 : Reg) (1 : Reg) (0 : Half) = Instr.sw LaneId.A (4 : Reg) (1
      : Reg) (0 : Half) ∧ (4 : ℕ) = (4 : ℕ)) ∧ (Takes (reg (1 : ℕ) (2 : Word) app) LaneId.A (Instr.sw LaneId.A (4 :
      Reg) (1 : Reg) (0 : Half))) ∧ (BitVec.toNat (((reg (1 : ℕ) (2 : Word) app).lane LaneId.A).core.get (1 : Reg) +
      BitVec.signExtend (32 : ℕ) (0 : Half)) % (4 : ℕ) ≠ (0 : ℕ))) ∧
    ((((reg (1 : ℕ) (6291456 : Word) app).lane LaneId.A).core.run = Run.running) ∧ (Calm (reg (1 : ℕ) (6291456 : Word)
      app)) ∧ (Takes (reg (1 : ℕ) (6291456 : Word) app) LaneId.A (Instr.lb LaneId.A (4 : Reg) (1 : Reg) (0 : Half))) ∧
      (((reg (1 : ℕ) (6291456 : Word) app).lane LaneId.A).loadRight ((reg (1 : ℕ) (6291456 : Word) app).lane
      LaneId.A).core.priv false (BitVec.toNat (((reg (1 : ℕ) (6291456 : Word) app).lane LaneId.A).core.get (1 : Reg) +
      BitVec.signExtend (32 : ℕ) (0 : Half))) = Right.privilege) ∧ (Right.privilege ≠ Right.ok)) ∧
    ((((reg (1 : ℕ) (3758096384 : Word) app).lane LaneId.A).core.run = Run.running) ∧ (Calm (reg (1 : ℕ) (3758096384 :
      Word) app)) ∧ (Takes (reg (1 : ℕ) (3758096384 : Word) app) LaneId.A (Instr.sb LaneId.A (4 : Reg) (1 : Reg) (0 :
      Half))) ∧ (((reg (1 : ℕ) (3758096384 : Word) app).lane LaneId.A).storeRight ((reg (1 : ℕ) (3758096384 : Word)
      app).lane LaneId.A).core.priv false ((reg (1 : ℕ) (3758096384 : Word) app).laneMode LaneId.A) (BitVec.toNat
      (((reg (1 : ℕ) (3758096384 : Word) app).lane LaneId.A).core.get (1 : Reg) + BitVec.signExtend (32 : ℕ) (0 :
      Half))) = Right.bounds) ∧ (Right.bounds ≠ Right.ok)) ∧
    (((s02_3.lane LaneId.A).core.run = Run.running) ∧ (Calm s02_3) ∧ (Takes s02_3 LaneId.A (Instr.add LaneId.A 4 1
      31)) ∧ ((s02_3.lane LaneId.A).core.badSource [1, 31] = some 31)) ∧
    ((((reg 1 66 app).lane LaneId.A).core.run = Run.running) ∧ (Calm (reg 1 66 app)) ∧ (Takes (reg 1 66 app) LaneId.A
      (Instr.pin LaneId.A 4 1)) ∧ (SoundRegs (reg 1 66 app) LaneId.A [1]) ∧ (65 < BitVec.toNat (((reg 1 66 app).lane
      LaneId.A).core.get 1))) ∧
    ((((reg 1 48 app).lane LaneId.A).core.run = Run.running) ∧ (Calm (reg 1 48 app)) ∧ (Takes (reg 1 48 app) LaneId.A
      (Instr.pout LaneId.A 1 2)) ∧ (SoundRegs (reg 1 48 app) LaneId.A [1]) ∧ (47 < BitVec.toNat (((reg 1 48 app).lane
      LaneId.A).core.get 1))) ∧
    ((((reg 1 4294967295 app).lane LaneId.A).core.run = Run.running) ∧ (Calm (reg 1 4294967295 app)) ∧ (Takes (reg 1
      4294967295 app) LaneId.A (Instr.tstop LaneId.A 1)) ∧ (SoundRegs (reg 1 4294967295 app) LaneId.A [1]) ∧ (255 <
      BitVec.toNat (((reg 1 4294967295 app).lane LaneId.A).core.get 1))) ∧
    ((((reg 1 1024 app).lane LaneId.A).core.run = Run.running) ∧ (Calm (reg 1 1024 app)) ∧ (Takes (reg 1 1024 app)
      LaneId.A (Instr.crd LaneId.A 3 1)) ∧ (SoundRegs (reg 1 1024 app) LaneId.A [1]) ∧ (1023 < BitVec.toNat (((reg 1
      1024 app).lane LaneId.A).core.get 1))) := by
  and_intros <;> decide +kernel

theorem witness_EngineAnswers_1 :
    ((Calm twoAsked) ∧ (splitPending (twoAsked.lane LaneId.A).engine.queue = some
      ([{ request := (1 : Word), result := some (1 : Word) : QEntry }], (4227858433 : Word),
      [{ request := (2 : Word), result := none : QEntry }])) ∧ (BitVec.toNat (4227858433 : Word) % (32 : ℕ) = (1 :
      ℕ))) ∧
    ((Calm (asks (12 : Word) station)) ∧ (splitPending ((asks (12 : Word) station).lane LaneId.A).engine.queue = some
      ([], (12 : Word), [])) ∧ (BitVec.toNat (12 : Word) % (32 : ℕ) = (12 : ℕ))) ∧
    ((Calm (asks (2 : Word) (inMode Mode.stop station))) ∧ (splitPending ((asks (2 : Word) (inMode Mode.stop
      station)).lane LaneId.A).engine.queue = some ([], (2 : Word), [])) ∧ (BitVec.toNat (2 : Word) % (32 : ℕ) = (2 :
      ℕ))) ∧
    ((Calm (asks (3 : Word) station)) ∧ (splitPending ((asks (3 : Word) station).lane LaneId.A).engine.queue = some
      ([], (3 : Word), [])) ∧ (BitVec.toNat (3 : Word) % (32 : ℕ) = (3 : ℕ))) := by
  and_intros <;> decide +kernel

theorem witness_RouteRequests_1 :
    ((Asks (asks (1 : Word) station) LaneId.A (1 : Word)) ∧ (((asks (1 : Word) station).lane LaneId.A).routeFault
      (BitVec.toNat (1 : Word) / (256 : ℕ) % (2 : ℕ) ^ (14 : ℕ)) = (0 : ℕ)) ∧ (BitVec.toNat (1 : Word) % (32 : ℕ) = (1
      : ℕ))) ∧
    ((Asks (asks (2 : Word) station) LaneId.A (2 : Word)) ∧ (((asks (2 : Word) station).lane LaneId.A).routeFault
      (BitVec.toNat (2 : Word) / (256 : ℕ) % (2 : ℕ) ^ (14 : ℕ)) = (0 : ℕ)) ∧ (BitVec.toNat (2 : Word) % (32 : ℕ) = (2
      : ℕ)) ∧ (settingMode (asks (2 : Word) station).md.mode = true) ∧ (((asks (2 : Word) station).lane
      LaneId.A).notAvailable (BitVec.toNat (2 : Word) / (256 : ℕ) % (2 : ℕ) ^ (14 : ℕ)) (((asks (2 : Word)
      station).lane LaneId.A).routeEval (BitVec.toNat (2 : Word) / (256 : ℕ) % (2 : ℕ) ^ (14 : ℕ))) = (0 : ℕ))) ∧
    ((Asks (asks (2 : Word) (routeState (16 : Word) station)) LaneId.A (2 : Word)) ∧ (((asks (2 : Word) (routeState
      (16 : Word) station)).lane LaneId.A).routeFault (BitVec.toNat (2 : Word) / (256 : ℕ) % (2 : ℕ) ^ (14 : ℕ)) = (0
      : ℕ)) ∧ (BitVec.toNat (2 : Word) % (32 : ℕ) = (2 : ℕ)) ∧ (settingMode (asks (2 : Word) (routeState (16 : Word)
      station)).md.mode = true) ∧ (((asks (2 : Word) (routeState (16 : Word) station)).lane LaneId.A).notAvailable
      (BitVec.toNat (2 : Word) / (256 : ℕ) % (2 : ℕ) ^ (14 : ℕ)) (((asks (2 : Word) (routeState (16 : Word)
      station)).lane LaneId.A).routeEval (BitVec.toNat (2 : Word) / (256 : ℕ) % (2 : ℕ) ^ (14 : ℕ))) ≠ (0 : ℕ))) ∧
    ((Asks (asks (2 : Word) (inMode Mode.stop station)) LaneId.A (2 : Word)) ∧ (((asks (2 : Word) (inMode Mode.stop
      station)).lane LaneId.A).routeFault (BitVec.toNat (2 : Word) / (256 : ℕ) % (2 : ℕ) ^ (14 : ℕ)) = (0 : ℕ)) ∧
      (BitVec.toNat (2 : Word) % (32 : ℕ) = (2 : ℕ)) ∧ (settingMode (asks (2 : Word) (inMode Mode.stop
      station)).md.mode = false)) ∧
    ((Asks (asks (3 : Word) (routeState (3 : Word) station)) LaneId.A (3 : Word)) ∧ (((asks (3 : Word) (routeState (3
      : Word) station)).lane LaneId.A).routeFault (BitVec.toNat (3 : Word) / (256 : ℕ) % (2 : ℕ) ^ (14 : ℕ)) = (0 :
      ℕ)) ∧ (BitVec.toNat (3 : Word) % (32 : ℕ) = (3 : ℕ)) ∧ ((1 : ℕ) ≤ ((asks (3 : Word) (routeState (3 : Word)
      station)).lane LaneId.A).routeState (BitVec.toNat (3 : Word) / (256 : ℕ) % (2 : ℕ) ^ (14 : ℕ))) ∧ (((asks (3 :
      Word) (routeState (3 : Word) station)).lane LaneId.A).routeState (BitVec.toNat (3 : Word) / (256 : ℕ) % (2 : ℕ)
      ^ (14 : ℕ)) ≤ (3 : ℕ)) ∧ (((asks (3 : Word) (routeState (3 : Word) station)).lane LaneId.A).routeInChain
      (BitVec.toNat (3 : Word) / (256 : ℕ) % (2 : ℕ) ^ (14 : ℕ)) = false)) ∧
    ((Asks (asks (4 : Word) (routeState (4 : Word) station)) LaneId.A (4 : Word)) ∧ (((asks (4 : Word) (routeState (4
      : Word) station)).lane LaneId.A).routeFault (BitVec.toNat (4 : Word) / (256 : ℕ) % (2 : ℕ) ^ (14 : ℕ)) = (0 :
      ℕ)) ∧ (BitVec.toNat (4 : Word) % (32 : ℕ) = (4 : ℕ)) ∧ (((asks (4 : Word) (routeState (4 : Word) station)).lane
      LaneId.A).routeState (BitVec.toNat (4 : Word) / (256 : ℕ) % (2 : ℕ) ^ (14 : ℕ)) = (4 : ℕ) ∨ ((asks (4 : Word)
      (routeState (4 : Word) station)).lane LaneId.A).routeState (BitVec.toNat (4 : Word) / (256 : ℕ) % (2 : ℕ) ^ (14
      : ℕ)) = (2 : ℕ) ∧ ((asks (4 : Word) (routeState (4 : Word) station)).lane LaneId.A).routeEntered (BitVec.toNat
      (4 : Word) / (256 : ℕ) % (2 : ℕ) ^ (14 : ℕ)) = true) ∧ (BitVec.toNat (4 : Word) / (2 : ℕ) ^ (22 : ℕ) % (16 : ℕ)
      = ((asks (4 : Word) (routeState (4 : Word) station)).lane LaneId.A).routeNextSeg (BitVec.toNat (4 : Word) / (256
      : ℕ) % (2 : ℕ) ^ (14 : ℕ))) ∧ (BitVec.toNat (4 : Word) / (2 : ℕ) ^ (22 : ℕ) % (16 : ℕ) + (1 : ℕ) < ((asks (4 :
      Word) (routeState (4 : Word) station)).lane LaneId.A).nSeg (BitVec.toNat (4 : Word) / (256 : ℕ) % (2 : ℕ) ^ (14
      : ℕ))) ∧ (((asks (4 : Word) (routeState (4 : Word) station)).lane LaneId.A).notClear (List.filter (fun e =>
      decide (e.seg = BitVec.toNat (4 : Word) / (2 : ℕ) ^ (22 : ℕ) % (16 : ℕ))) (((asks (4 : Word) (routeState (4 :
      Word) station)).lane LaneId.A).refs (BitVec.toNat (4 : Word) / (256 : ℕ) % (2 : ℕ) ^ (14 : ℕ)))) = false)) ∧
    ((Asks (asks (5 : Word) (routeState (4 : Word) station)) LaneId.A (5 : Word)) ∧ (((asks (5 : Word) (routeState (4
      : Word) station)).lane LaneId.A).routeFault (BitVec.toNat (5 : Word) / (256 : ℕ) % (2 : ℕ) ^ (14 : ℕ)) = (0 :
      ℕ)) ∧ (BitVec.toNat (5 : Word) % (32 : ℕ) = (5 : ℕ)) ∧ (((asks (5 : Word) (routeState (4 : Word) station)).lane
      LaneId.A).routeState (BitVec.toNat (5 : Word) / (256 : ℕ) % (2 : ℕ) ^ (14 : ℕ)) = (4 : ℕ)) ∧ (((asks (5 : Word)
      (routeState (4 : Word) station)).lane LaneId.A).routeInChain (BitVec.toNat (5 : Word) / (256 : ℕ) % (2 : ℕ) ^
      (14 : ℕ)) = false) ∧ (((asks (5 : Word) (routeState (4 : Word) station)).lane LaneId.A).notClear (((asks (5 :
      Word) (routeState (4 : Word) station)).lane LaneId.A).remaining (BitVec.toNat (5 : Word) / (256 : ℕ) % (2 : ℕ) ^
      (14 : ℕ))) = false)) ∧
    ((Asks (asks (6 : Word) (routeState (1 : Word) station)) LaneId.A (6 : Word)) ∧ (((asks (6 : Word) (routeState (1
      : Word) station)).lane LaneId.A).routeFault (BitVec.toNat (6 : Word) / (256 : ℕ) % (2 : ℕ) ^ (14 : ℕ)) = (0 :
      ℕ)) ∧ (BitVec.toNat (6 : Word) % (32 : ℕ) = (6 : ℕ))) := by
  and_intros <;> decide +kernel

theorem witness_RouteRequests_2 :
    ((Asks (asks (7 : Word) (routeState (23 : Word) station)) LaneId.A (7 : Word)) ∧ (((asks (7 : Word) (routeState
      (23 : Word) station)).lane LaneId.A).routeFault (BitVec.toNat (7 : Word) / (256 : ℕ) % (2 : ℕ) ^ (14 : ℕ)) = (0
      : ℕ)) ∧ (BitVec.toNat (7 : Word) % (32 : ℕ) = (7 : ℕ))) := by
  and_intros <;> decide +kernel

theorem witness_ChainsMovesSweeps_1 :
    ((Asks (asks (8 : Word) station) LaneId.A (8 : Word)) ∧ (Memory.wf ((asks (8 : Word) station).lane
      LaneId.A).store.cells = true) ∧ (BitVec.toNat (8 : Word) / (256 : ℕ) % (2 : ℕ) ^ (14 : ℕ) < (1024 : ℕ)) ∧
      (((asks (8 : Word) station).lane LaneId.A).chainFault (BitVec.toNat (8 : Word) / (256 : ℕ) % (2 : ℕ) ^ (14 : ℕ))
      = (0 : ℕ)) ∧ (∀ r ∈ ((asks (8 : Word) station).lane LaneId.A).members (BitVec.toNat (8 : Word) / (256 : ℕ) % (2
      : ℕ) ^ (14 : ℕ)), ((asks (8 : Word) station).lane LaneId.A).routeFault r = (0 : ℕ)) ∧ (BitVec.toNat (8 : Word) %
      (32 : ℕ) = (8 : ℕ)) ∧ (settingMode (asks (8 : Word) station).md.mode = true) ∧ (((asks (8 : Word) station).lane
      LaneId.A).chainState (BitVec.toNat (8 : Word) / (256 : ℕ) % (2 : ℕ) ^ (14 : ℕ)) = (0 : ℕ)) ∧ (((asks (8 : Word)
      station).lane LaneId.A).firstUnavailable (((asks (8 : Word) station).lane LaneId.A).members (BitVec.toNat (8 :
      Word) / (256 : ℕ) % (2 : ℕ) ^ (14 : ℕ))) (0 : ℕ) = none)) ∧
    ((Asks (asks (9 : Word) (chainState (3 : Word) (routeState (35 : Word) station))) LaneId.A (9 : Word)) ∧
      (Memory.wf ((asks (9 : Word) (chainState (3 : Word) (routeState (35 : Word) station))).lane
      LaneId.A).store.cells = true) ∧ (BitVec.toNat (9 : Word) / (256 : ℕ) % (2 : ℕ) ^ (14 : ℕ) < (1024 : ℕ)) ∧
      (((asks (9 : Word) (chainState (3 : Word) (routeState (35 : Word) station))).lane LaneId.A).chainFault
      (BitVec.toNat (9 : Word) / (256 : ℕ) % (2 : ℕ) ^ (14 : ℕ)) = (0 : ℕ)) ∧ (∀ r ∈ ((asks (9 : Word) (chainState (3
      : Word) (routeState (35 : Word) station))).lane LaneId.A).members (BitVec.toNat (9 : Word) / (256 : ℕ) % (2 : ℕ)
      ^ (14 : ℕ)), ((asks (9 : Word) (chainState (3 : Word) (routeState (35 : Word) station))).lane
      LaneId.A).routeFault r = (0 : ℕ)) ∧ (BitVec.toNat (9 : Word) % (32 : ℕ) = (9 : ℕ)) ∧ ((1 : ℕ) ≤ ((asks (9 :
      Word) (chainState (3 : Word) (routeState (35 : Word) station))).lane LaneId.A).chainState (BitVec.toNat (9 :
      Word) / (256 : ℕ) % (2 : ℕ) ^ (14 : ℕ))) ∧ (((asks (9 : Word) (chainState (3 : Word) (routeState (35 : Word)
      station))).lane LaneId.A).chainState (BitVec.toNat (9 : Word) / (256 : ℕ) % (2 : ℕ) ^ (14 : ℕ)) ≤ (3 : ℕ))) ∧
    ((Asks (asks (10 : Word) (chainState (4 : Word) (routeState (36 : Word) station))) LaneId.A (10 : Word)) ∧
      (Memory.wf ((asks (10 : Word) (chainState (4 : Word) (routeState (36 : Word) station))).lane
      LaneId.A).store.cells = true) ∧ (BitVec.toNat (10 : Word) / (256 : ℕ) % (2 : ℕ) ^ (14 : ℕ) < (1024 : ℕ)) ∧
      (((asks (10 : Word) (chainState (4 : Word) (routeState (36 : Word) station))).lane LaneId.A).chainFault
      (BitVec.toNat (10 : Word) / (256 : ℕ) % (2 : ℕ) ^ (14 : ℕ)) = (0 : ℕ)) ∧ (∀ r ∈ ((asks (10 : Word) (chainState
      (4 : Word) (routeState (36 : Word) station))).lane LaneId.A).members (BitVec.toNat (10 : Word) / (256 : ℕ) % (2
      : ℕ) ^ (14 : ℕ)), ((asks (10 : Word) (chainState (4 : Word) (routeState (36 : Word) station))).lane
      LaneId.A).routeFault r = (0 : ℕ)) ∧ (BitVec.toNat (10 : Word) % (32 : ℕ) = (10 : ℕ)) ∧ (((asks (10 : Word)
      (chainState (4 : Word) (routeState (36 : Word) station))).lane LaneId.A).chainState (BitVec.toNat (10 : Word) /
      (256 : ℕ) % (2 : ℕ) ^ (14 : ℕ)) = (4 : ℕ)) ∧ (((asks (10 : Word) (chainState (4 : Word) (routeState (36 : Word)
      station))).lane LaneId.A).firstOccupied (((asks (10 : Word) (chainState (4 : Word) (routeState (36 : Word)
      station))).lane LaneId.A).members (BitVec.toNat (10 : Word) / (256 : ℕ) % (2 : ℕ) ^ (14 : ℕ))) (0 : ℕ) = none)) ∧
    ((Asks (asks (8389131 : Word) station) LaneId.A (8389131 : Word)) ∧ (BitVec.toNat (8389131 : Word) % (32 : ℕ) =
      (11 : ℕ)) ∧ (settingMode (asks (8389131 : Word) station).md.mode = true) ∧ (CleanStore (asks (8389131 : Word)
      station) LaneId.A) ∧ (((asks (8389131 : Word) station).lane LaneId.A).recordFits (BitVec.toNat (8389131 : Word)
      / (256 : ℕ) % (2 : ℕ) ^ (14 : ℕ)) = true) ∧ (typeCommanded (((asks (8389131 : Word) station).lane
      LaneId.A).elemType (BitVec.toNat (8389131 : Word) / (256 : ℕ) % (2 : ℕ) ^ (14 : ℕ))) = true) ∧ (BitVec.getLsbD
      (((asks (8389131 : Word) station).lane LaneId.A).rd32 ((8454184 : ℕ) + BitVec.toNat (8389131 : Word) / (256 : ℕ)
      % (2 : ℕ) ^ (14 : ℕ) * (64 : ℕ))) (BitVec.toNat (8389131 : Word) / (2 : ℕ) ^ (22 : ℕ) % (4 : ℕ)) = true) ∧
      (((asks (8389131 : Word) station).lane LaneId.A).es (BitVec.toNat (8389131 : Word) / (256 : ℕ) % (2 : ℕ) ^ (14 :
      ℕ)) (12 : ℕ) = codedTrue) ∧ (((asks (8389131 : Word) station).lane LaneId.A).es (BitVec.toNat (8389131 : Word) /
      (256 : ℕ) % (2 : ℕ) ^ (14 : ℕ)) (16 : ℕ) = codedFalse) ∧ (((asks (8389131 : Word) station).lane LaneId.A).es
      (BitVec.toNat (8389131 : Word) / (256 : ℕ) % (2 : ℕ) ^ (14 : ℕ)) (8 : ℕ) = codedTrue) ∧ (((asks (8389131 : Word)
      station).lane LaneId.A).es (BitVec.toNat (8389131 : Word) / (256 : ℕ) % (2 : ℕ) ^ (14 : ℕ)) (0 : ℕ) =
      codedTrue)) ∧
    ((Asks (asks (12 : Word) station) LaneId.A (12 : Word)) ∧ (BitVec.toNat (12 : Word) % (32 : ℕ) = (12 : ℕ))) ∧
    ((Memory.wf (overdue.lane LaneId.A).store.cells = true) ∧ (BitVec.toNat (0 : BitVec (10 : ℕ)) < (overdue.lane
      LaneId.A).engine.cfgChains.toNat) ∧ ((overdue.lane LaneId.A).chainFault (BitVec.toNat (0 : BitVec (10 : ℕ))) =
      (0 : ℕ)) ∧ ((overdue.lane LaneId.A).limitPassed (BitVec.toNat (0 : BitVec (10 : ℕ))) = true) ∧ (∀ r ∈
      (overdue.lane LaneId.A).members (BitVec.toNat (0 : BitVec (10 : ℕ))), (overdue.lane LaneId.A).routeFault r = (0
      : ℕ))) := by
  and_intros <;> decide +kernel

theorem witness_EngineControl_1 :
    (((initCounts.lane LaneId.A).engine.cfgElements.toNat ≤ 16384) ∧ ((initCounts.lane
      LaneId.A).engine.cfgRoutes.toNat ≤ 8192) ∧ ((initCounts.lane LaneId.A).engine.cfgChains.toNat ≤ 1024)) ∧
    (((station.lane LaneId.A).pendingCount = 0)) ∧
    (((initCounts.lane LaneId.A).engine.enable = false)) ∧
    (((app.lane LaneId.A).core.run = Run.running) ∧ ((app.lane LaneId.A).core.priv = false)) := by
  and_intros <;> decide +kernel

theorem witness_CycleStarts_1 :
    ((Calm sampled) ∧ (sampled.md.mode.votes = true) ∧ (sampled.md.step = CycleStep.idle)) ∧
    ((Calm sampledStop) ∧ (sampledStop.md.mode.votes = true) ∧ (sampledStop.md.step = CycleStep.idle)) ∧
    ((Calm localIdle) ∧ (localIdle.localCycle = true) ∧ (localIdle.md.step = CycleStep.idle) ∧
      (localIdle.guard.pendingReset = none) ∧ (localIdle.guard.sstopAt = some 10050000)) := by
  and_intros <;> decide +kernel

theorem witness_InputsAgree_1 :
    ((earlyClock.md.mode.votes = true) ∧ (earlyClock.md.step = CycleStep.agreement) ∧ (earlyClock.unqualified = true)) ∧
    ((Quiet agreeing) ∧ (agreeing.md.mode.votes = true) ∧ (agreeing.md.step = CycleStep.agreement) ∧
      (agreeing.unqualified = false) ∧ (agreeing.md.holdExit = false)) ∧
    ((Quiet agreeingTwo) ∧ (agreeingTwo.md.mode.votes = true) ∧ (agreeingTwo.md.step = CycleStep.agreement) ∧
      (agreeingTwo.unqualified = false) ∧ (agreeingTwo.md.holdExit = false)) ∧
    ((Quiet agreeingOne) ∧ (agreeingOne.md.mode.votes = true) ∧ (agreeingOne.md.step = CycleStep.agreement) ∧
      (agreeingOne.unqualified = false) ∧ (agreeingOne.md.holdExit = false)) ∧
    ((Quiet noWords) ∧ (noWords.md.mode.votes = true) ∧ (noWords.md.step = CycleStep.agreement) ∧ (noWords.unqualified
      = false) ∧ (noWords.md.holdExit = false)) ∧
    ((Memory.wf countsA.store.cells = true)) ∧
    ((limit3.voting = true) ∧ (limit3.md.step = CycleStep.evaluation ∨ limit3.md.step = CycleStep.compared) ∧
      (limit3.servingLanes.length = 3) ∧ (5 ≤ BitVec.toNat (limit3.lead.rd8 (countBase LaneId.B + ↑65)))) ∧
    ((limit3.voting = true) ∧ (limit3.md.step = CycleStep.evaluation ∨ limit3.md.step = CycleStep.compared) ∧
      (limit3.servingLanes.length = 3) ∧ (BitVec.toNat (limit3.lead.rd8 (countBase LaneId.B + ↑64)) < 5)) := by
  and_intros <;> decide +kernel

theorem witness_InputsAgree_2 :
    ((limit2.voting = true) ∧ (limit2.md.step = CycleStep.evaluation ∨ limit2.md.step = CycleStep.compared) ∧
      (limit2.servingLanes.length = 2) ∧ (5 ≤ BitVec.toNat (limit2.lead.rd8 (49312000 + ↑3)))) := by
  and_intros <;> decide +kernel

theorem witness_ConnectionEvents_1 :
    ((Memory.wf (lateConn.lane LaneId.A).store.cells = true) ∧ (LaneId.A ∈ lateConn.receivers) ∧ (lateConn.checked
      (lateConn.lane LaneId.A) ↑3 = true) ∧ ((lateConn.lane LaneId.A).stgState ↑3 = 1) ∧ ((lateConn.lane
      LaneId.A).stgFlag (↑3) 4 = false) ∧ ((lateConn.lane LaneId.A).connTimeout ↑3 * 1000 < (BitVec.ofNat 32
      (BitVec.toNat (lateConn.lane LaneId.A).tb.t0 / 100) - (lateConn.lane LaneId.A).rd32 (49807360 + ↑3 * 256 +
      8)).toNat)) ∧
    ((Memory.wf (oldConn.lane LaneId.A).store.cells = true) ∧ (LaneId.A ∈ oldConn.receivers) ∧ (oldConn.checked
      (oldConn.lane LaneId.A) ↑3 = true) ∧ ((oldConn.lane LaneId.A).stgState ↑3 = 2) ∧ ((oldConn.lane LaneId.A).rd32
      (49807360 + ↑3 * 256 + 12) = 1000000)) ∧
    ((Memory.wf (twinConn.lane LaneId.A).store.cells = true) ∧ (↑3 ∈ (twinConn.lane LaneId.A).sl.twinDue)) := by
  and_intros <;> decide +kernel

theorem witness_LinkMessages_1 :
    ((Quiet agreeing) ∧ (Arrives agreeing LaneId.A LaneId.B 1 9 inputBA) ∧ (agreeing.md.step = CycleStep.agreement) ∧
      (agreeing.serves LaneId.B = true) ∧ ((agreeing.lane LaneId.B).vio.clkUnq = false)) ∧
    ((Quiet (cyclic Mode.run CycleStep.evaluation)) ∧ ((cyclic Mode.run CycleStep.evaluation).joins LaneId.A = true) ∧
      ((cyclic Mode.run CycleStep.evaluation).voting = true) ∧ (Arrives (cyclic Mode.run CycleStep.evaluation)
      LaneId.A LaneId.B 2 12 sigBA) ∧ ((cyclic Mode.run CycleStep.evaluation).md.step = CycleStep.evaluation) ∧
      ((cyclic Mode.run CycleStep.evaluation).joins LaneId.B = true)) ∧
    ((Quiet (cyclic Mode.run CycleStep.compared)) ∧ ((cyclic Mode.run CycleStep.compared).joins LaneId.A = true) ∧
      ((cyclic Mode.run CycleStep.compared).voting = true) ∧ (Arrives (cyclic Mode.run CycleStep.compared) LaneId.A
      LaneId.B 3 2 viewBA) ∧ ((cyclic Mode.run CycleStep.compared).md.step = CycleStep.compared) ∧ ((cyclic Mode.run
      CycleStep.compared).serves LaneId.B = true)) ∧
    ((Quiet judging) ∧ (judging.joins LaneId.A = true) ∧ (judging.voting = true) ∧ (Arrives judging LaneId.A LaneId.B
      6 controlBA.body.length controlBA) ∧ (judging.bist.done = some sliceB) ∧ (sliceB.lane = LaneId.B) ∧
      (judging.serves LaneId.A = true) ∧ ((judging.lane LaneId.A).bist.feedLane = none)) ∧
    ((Quiet (cyclic Mode.run CycleStep.voted)) ∧ ((cyclic Mode.run CycleStep.voted).joins LaneId.A = true) ∧ ((cyclic
      Mode.run CycleStep.voted).voting = true) ∧ (Arrives (cyclic Mode.run CycleStep.voted) LaneId.A LaneId.B 6
      controlBA.body.length controlBA) ∧ ((cyclic Mode.run CycleStep.voted).bist.done = none)) ∧
    ((Quiet (cyclic Mode.run CycleStep.voted)) ∧ (msgSender badBA = some LaneId.B) ∧ (LaneId.B ≠ LaneId.A) ∧
      (Instr.controlMessage LaneId.A badBA = Instr.inputMessage LaneId.A badBA ∧ 6 = 1 ∧ 1 = 9 ∧ (cyclic Mode.run
      CycleStep.voted).md.step = CycleStep.agreement ∧ ((cyclic Mode.run CycleStep.voted).lane LaneId.B).vio.clkUnq =
      false ∨ (cyclic Mode.run CycleStep.voted).joins LaneId.A = true ∧ (cyclic Mode.run CycleStep.voted).voting =
      true ∧ (Instr.controlMessage LaneId.A badBA = Instr.signatureMessage LaneId.A badBA ∧ 6 = 2 ∧ 1 = 12 ∨
      Instr.controlMessage LaneId.A badBA = Instr.viewMessage LaneId.A badBA ∧ 6 = 3 ∧ 1 = 2 ∨ Instr.controlMessage
      LaneId.A badBA = Instr.auditMessage LaneId.A badBA ∧ 6 = 4 ∧ 1 = 512 ∧ (cyclic Mode.run
      CycleStep.voted).gapDuties = true ∨ Instr.controlMessage LaneId.A badBA = Instr.controlMessage LaneId.A badBA ∧
      6 = 6 ∧ 1 = badBA.body.length)) ∧ (msgGood badBA LaneId.A 6 1 ((cyclic Mode.run CycleStep.voted).lane
      LaneId.A).cycleLo = false)) ∧
    ((Quiet agreeing) ∧ (msgSender badBA = some LaneId.B) ∧ (LaneId.B ≠ LaneId.A) ∧ (Instr.inputMessage LaneId.A badBA
      = Instr.inputMessage LaneId.A badBA ∧ 1 = 1 ∧ 9 = 9 ∧ agreeing.md.step = CycleStep.agreement ∧ (agreeing.lane
      LaneId.B).vio.clkUnq = false ∨ agreeing.joins LaneId.A = true ∧ agreeing.voting = true ∧ (Instr.inputMessage
      LaneId.A badBA = Instr.signatureMessage LaneId.A badBA ∧ 1 = 2 ∧ 9 = 12 ∨ Instr.inputMessage LaneId.A badBA =
      Instr.viewMessage LaneId.A badBA ∧ 1 = 3 ∧ 9 = 2 ∨ Instr.inputMessage LaneId.A badBA = Instr.auditMessage
      LaneId.A badBA ∧ 1 = 4 ∧ 9 = 512 ∧ agreeing.gapDuties = true ∨ Instr.inputMessage LaneId.A badBA =
      Instr.controlMessage LaneId.A badBA ∧ 1 = 6 ∧ 9 = badBA.body.length)) ∧ (msgGood badBA LaneId.A 1 9
      (agreeing.lane LaneId.A).cycleLo = false)) ∧
    ((Quiet auditing) ∧ (msgSender badBA = some LaneId.B) ∧ (LaneId.B ≠ LaneId.A) ∧ (Instr.auditMessage LaneId.A badBA
      = Instr.inputMessage LaneId.A badBA ∧ 4 = 1 ∧ 512 = 9 ∧ auditing.md.step = CycleStep.agreement ∧ (auditing.lane
      LaneId.B).vio.clkUnq = false ∨ auditing.joins LaneId.A = true ∧ auditing.voting = true ∧ (Instr.auditMessage
      LaneId.A badBA = Instr.signatureMessage LaneId.A badBA ∧ 4 = 2 ∧ 512 = 12 ∨ Instr.auditMessage LaneId.A badBA =
      Instr.viewMessage LaneId.A badBA ∧ 4 = 3 ∧ 512 = 2 ∨ Instr.auditMessage LaneId.A badBA = Instr.auditMessage
      LaneId.A badBA ∧ 4 = 4 ∧ 512 = 512 ∧ auditing.gapDuties = true ∨ Instr.auditMessage LaneId.A badBA =
      Instr.controlMessage LaneId.A badBA ∧ 4 = 6 ∧ 512 = badBA.body.length)) ∧ (msgGood badBA LaneId.A 4 512
      (auditing.lane LaneId.A).cycleLo = false)) := by
  and_intros <;> decide +kernel

theorem witness_RoundsClose_1 :
    ((Calm s05_1) ∧ (s05_1.voting = true) ∧ (s05_1.md.step = CycleStep.evaluation) ∧ (∀ (l : LaneId), s05_1.joins l =
      true → (s05_1.lane l).evaluating = false)) ∧
    ((Calm sigMissing) ∧ (sigMissing.voting = true) ∧ (sigMissing.md.step = CycleStep.evaluation) ∧ (∀ (l : LaneId),
      sigMissing.joins l = true → (sigMissing.lane l).evaluating = false)) ∧
    ((Calm viewsEqual) ∧ (viewsEqual.voting = true) ∧ (viewsEqual.md.step = CycleStep.compared) ∧
      (viewsEqual.stage.swLatched = 0) ∧ (viewsEqual.inProbation = false)) ∧
    ((Calm viewsOdd) ∧ (viewsOdd.voting = true) ∧ (viewsOdd.md.step = CycleStep.compared) ∧ (viewsOdd.stage.swLatched
      = 0) ∧ (viewsOdd.inProbation = false)) ∧
    ((Calm viewsOdd2) ∧ (viewsOdd2.voting = true) ∧ (viewsOdd2.md.step = CycleStep.compared) ∧
      (viewsOdd2.stage.swLatched = 0) ∧ (viewsOdd2.inProbation = false)) ∧
    ((Calm (fenceC (rowsHeld allEqual allEqual allEqual (cyclic Mode.degraded CycleStep.compared)))) ∧ ((fenceC
      (rowsHeld allEqual allEqual allEqual (cyclic Mode.degraded CycleStep.compared))).voting = true) ∧ ((fenceC
      (rowsHeld allEqual allEqual allEqual (cyclic Mode.degraded CycleStep.compared))).md.step = CycleStep.compared) ∧
      ((fenceC (rowsHeld allEqual allEqual allEqual (cyclic Mode.degraded CycleStep.compared))).stage.swLatched = 0) ∧
      ((fenceC (rowsHeld allEqual allEqual allEqual (cyclic Mode.degraded CycleStep.compared))).inProbation = false)) ∧
    ((Calm (fenceC (rowsHeld { next := Cmp.different, prev := Cmp.equal } allEqual allEqual (cyclic Mode.degraded
      CycleStep.compared)))) ∧ ((fenceC (rowsHeld { next := Cmp.different, prev := Cmp.equal } allEqual allEqual
      (cyclic Mode.degraded CycleStep.compared))).voting = true) ∧ ((fenceC (rowsHeld
      { next := Cmp.different, prev := Cmp.equal } allEqual allEqual (cyclic Mode.degraded
      CycleStep.compared))).md.step = CycleStep.compared) ∧ ((fenceC (rowsHeld
      { next := Cmp.different, prev := Cmp.equal } allEqual allEqual (cyclic Mode.degraded
      CycleStep.compared))).stage.swLatched = 0) ∧ ((fenceC (rowsHeld { next := Cmp.different, prev := Cmp.equal }
      allEqual allEqual (cyclic Mode.degraded CycleStep.compared))).inProbation = false)) ∧
    ((Calm mustStop) ∧ (mustStop.voting = true) ∧ (mustStop.md.step = CycleStep.compared) ∧ (mustStop.stage.swLatched
      = 0) ∧ (mustStop.inProbation = false)) := by
  and_intros <;> first | decide +kernel | rfl | (intro l; cases l <;> decide +kernel)

theorem witness_VoteDeadline_1 :
    ((Calm drivesCont) ∧ (drivesCont.voting = true) ∧ (drivesCont.md.step = CycleStep.viewed) ∧
      (drivesCont.servingLanes.length = 3) ∧ (drivesCont.inProbation = false) ∧ (2 ≤ (drivesCont.drives
      Decision.cont).length)) ∧
    ((Calm drivesFence) ∧ (drivesFence.voting = true) ∧ (drivesFence.md.step = CycleStep.viewed) ∧
      (drivesFence.servingLanes.length = 3) ∧ (drivesFence.inProbation = false) ∧ (2 ≤ (drivesFence.drives
      (Decision.fence LaneId.B)).length)) ∧
    ((Calm drivesNone) ∧ (drivesNone.voting = true) ∧ (drivesNone.md.step = CycleStep.viewed) ∧
      (drivesNone.servingLanes.length = 3) ∧ (drivesNone.inProbation = false) ∧ ((drivesNone.drives
      Decision.cont).length < 2) ∧ (∀ (x : LaneId), (drivesNone.drives (Decision.fence x)).length < 2)) ∧
    ((Calm (driving none none none (cyclic Mode.maintenance CycleStep.viewed))) ∧ ((driving none none none (cyclic
      Mode.maintenance CycleStep.viewed)).voting = true) ∧ ((driving none none none (cyclic Mode.maintenance
      CycleStep.viewed)).md.step = CycleStep.viewed) ∧ ((driving none none none (cyclic Mode.maintenance
      CycleStep.viewed)).servingLanes.length = 3) ∧ ((driving none none none (cyclic Mode.maintenance
      CycleStep.viewed)).inProbation = false) ∧ (((driving none none none (cyclic Mode.maintenance
      CycleStep.viewed)).drives Decision.cont).length < 2) ∧ (∀ (x : LaneId), ((driving none none none (cyclic
      Mode.maintenance CycleStep.viewed)).drives (Decision.fence x)).length < 2)) ∧
    ((Calm (comparing [pdu1] [pdu1])) ∧ ((comparing [pdu1] [pdu1]).voting = true) ∧ ((comparing [pdu1] [pdu1]).md.step
      = CycleStep.voted) ∧ ((comparing [pdu1] [pdu1]).md.late = none) ∧ ((comparing [pdu1] [pdu1]).md.compared = none)
      ∧ ((comparing [pdu1] [pdu1]).keyLanes = [LaneId.A, LaneId.B]) ∧ (((comparing [pdu1] [pdu1]).lane
      LaneId.A).cyc.handed.getD [] = ((comparing [pdu1] [pdu1]).lane LaneId.B).cyc.handed.getD [])) ∧
    ((Calm (comparing [pdu1] [])) ∧ ((comparing [pdu1] []).voting = true) ∧ ((comparing [pdu1] []).md.step =
      CycleStep.voted) ∧ ((comparing [pdu1] []).md.late = none) ∧ ((comparing [pdu1] []).md.compared = none) ∧
      ((comparing [pdu1] []).keyLanes = [LaneId.A, LaneId.B]) ∧ (((comparing [pdu1] []).lane LaneId.A).cyc.handed.getD
      [] ≠ ((comparing [pdu1] []).lane LaneId.B).cyc.handed.getD [])) ∧
    ((Calm (comparesLate [pdu1] [pdu1])) ∧ ((comparesLate [pdu1] [pdu1]).voting = true) ∧ ((comparesLate [pdu1]
      [pdu1]).md.late = some ([pdu1], [pdu1], true)) ∧ ([pdu1] = [pdu1])) ∧
    ((Calm (comparesLate [pdu1] [])) ∧ ((comparesLate [pdu1] []).voting = true) ∧ ((comparesLate [pdu1] []).md.late =
      some ([pdu1], [], true)) ∧ ([pdu1] ≠ []) ∧ (MayStop (comparesLate [pdu1] []))) := by
  and_intros <;> first | decide +kernel | rfl | (intro l; cases l <;> decide +kernel)

theorem witness_GapAndCut_1 :
    ((Quiet auditing) ∧ (auditing.gapDuties = true) ∧ (LaneId.A ∈ auditing.auditors) ∧ ((auditing.lane
      LaneId.A).vote.auditing = true) ∧ ((auditing.lane LaneId.A).vote.digests.get LaneId.A = none)) ∧
    ((Quiet auditOwn) ∧ (auditOwn.gapDuties = true) ∧ (LaneId.A ∈ auditOwn.auditors) ∧ ((auditOwn.lane
      LaneId.A).vote.auditing = true) ∧ ((auditOwn.lane LaneId.A).vote.digests.get LaneId.A = none)) ∧
    ((Quiet gapRuns) ∧ (gapRuns.voting = true) ∧ (gapRuns.md.step = CycleStep.voted)) ∧
    ((Quiet endsCont) ∧ (endsCont.md.mode = Mode.run) ∧ (endsCont.md.step = CycleStep.voted) ∧ (endsCont.md.holdExit =
      false) ∧ (endsCont.md.voted = true) ∧ (endsCont.md.vital = true) ∧ (endsCont.md.events = []) ∧ (∀ (l : LaneId),
      (endsCont.lane l).cyc.events = []) ∧ (endsCont.stopDue = none) ∧ (endsCont.resync.shadowBad = false) ∧
      (endsCont.resync.failed = false) ∧ (endsCont.guard.pendingReset = none) ∧ (endsCont.md.gateGm = Decision.cont)) ∧
    ((Quiet endsFence) ∧ (endsFence.md.mode = Mode.run) ∧ (endsFence.md.step = CycleStep.voted) ∧
      (endsFence.md.holdExit = false) ∧ (endsFence.md.voted = true) ∧ (endsFence.md.vital = true) ∧
      (endsFence.md.events = []) ∧ (∀ (l : LaneId), (endsFence.lane l).cyc.events = []) ∧ (endsFence.stopDue = none) ∧
      (endsFence.resync.shadowBad = false) ∧ (endsFence.resync.failed = false) ∧ (endsFence.guard.pendingReset = none)
      ∧ (endsFence.md.gateGm = Decision.fence LaneId.C) ∧ (endsFence.serves LaneId.C = true) ∧ (endsFence.guard.level
      Source.resync = Level.co) ∧ (endsFence.guard.priming = Priming.done)) := by
  and_intros <;> first | decide +kernel | rfl | (intro l; cases l <;> decide +kernel)

theorem witness_CopyOfAFencedLane_1 :
    ((Quiet copying4) ∧ (copying4.copying = true) ∧ (copying4.resync.todo.getLsbD ↑4 = true) ∧ (∀ p < ↑4,
      copying4.resync.todo.getLsbD p = false) ∧ (Memory.wf (copying4.lane copying4.resync.lane).store.cells = true) ∧
      (msgSender shortCB = some LaneId.C) ∧ (LaneId.C ≠ copying4.resync.lane) ∧ (msgGood shortCB copying4.resync.lane
      5 4096 (copying4.lane copying4.resync.lane).cycleLo = false)) ∧
    (((copied RsPhase.copyN).md.mode = Mode.resync) ∧ ((copied RsPhase.copyN).resync.phase = RsPhase.copyM ∨ (copied
      RsPhase.copyN).resync.phase = RsPhase.copyN) ∧ ((copied RsPhase.copyN).resync.todo = 0)) ∧
    (((toFreeze RsPhase.copyM).md.mode = Mode.resync) ∧ ((toFreeze RsPhase.copyM).resync.bulkDone = true) ∧
      (((toFreeze RsPhase.copyM).lane (toFreeze RsPhase.copyM).resync.lane.next).cyc.done = true) ∧ ((toFreeze
      RsPhase.copyM).md.step ≠ CycleStep.idle) ∧ (popcount ((toFreeze RsPhase.copyM).lane (toFreeze
      RsPhase.copyM).resync.lane.next).cyc.dirtyEnd ≤ 256) ∧ (BitVec.toNat (toFreeze RsPhase.copyM).tb.nt ≤
      BitVec.toNat (toFreeze RsPhase.copyM).lead.tb.t0 + (toFreeze RsPhase.copyM).lead.tb.ti10 - 10000) ∧ ((toFreeze
      RsPhase.copyM).resync.phase = RsPhase.copyM)) ∧
    (((toFreeze RsPhase.copyN).md.mode = Mode.resync) ∧ ((toFreeze RsPhase.copyN).resync.bulkDone = true) ∧
      (((toFreeze RsPhase.copyN).lane (toFreeze RsPhase.copyN).resync.lane.next).cyc.done = true) ∧ ((toFreeze
      RsPhase.copyN).md.step ≠ CycleStep.idle) ∧ (popcount ((toFreeze RsPhase.copyN).lane (toFreeze
      RsPhase.copyN).resync.lane.next).cyc.dirtyEnd ≤ 256) ∧ (BitVec.toNat (toFreeze RsPhase.copyN).tb.nt ≤
      BitVec.toNat (toFreeze RsPhase.copyN).lead.tb.t0 + (toFreeze RsPhase.copyN).lead.tb.ti10 - 10000) ∧ ((toFreeze
      RsPhase.copyN).resync.phase = RsPhase.copyN)) ∧
    (((frozen RsPhase.freezeM CycleStep.agreement).md.mode = Mode.resync) ∧ ((frozen RsPhase.freezeM
      CycleStep.agreement).resync.frozen = true) ∧ ((frozen RsPhase.freezeM CycleStep.agreement).resync.todo = 0) ∧
      ((frozen RsPhase.freezeM CycleStep.agreement).resync.phase = RsPhase.freezeM)) ∧
    (((frozen RsPhase.freezeN CycleStep.compared).md.mode = Mode.resync) ∧ ((frozen RsPhase.freezeN
      CycleStep.compared).resync.frozen = true) ∧ ((frozen RsPhase.freezeN CycleStep.compared).resync.todo = 0) ∧
      ((frozen RsPhase.freezeN CycleStep.compared).resync.phase = RsPhase.freezeN) ∧ ((frozen RsPhase.freezeN
      CycleStep.compared).md.step = CycleStep.agreement ∨ (frozen RsPhase.freezeN CycleStep.compared).md.step =
      CycleStep.evaluation ∨ (frozen RsPhase.freezeN CycleStep.compared).md.step = CycleStep.compared)) ∧
    (((frozen RsPhase.freezeN CycleStep.voted).md.mode = Mode.resync) ∧ ((frozen RsPhase.freezeN
      CycleStep.voted).resync.frozen = true) ∧ ((frozen RsPhase.freezeN CycleStep.voted).resync.todo = 0) ∧ ((frozen
      RsPhase.freezeN CycleStep.voted).resync.phase = RsPhase.freezeN) ∧ ((frozen RsPhase.freezeN
      CycleStep.voted).md.step = CycleStep.idle ∨ (frozen RsPhase.freezeN CycleStep.voted).md.step = CycleStep.viewed
      ∨ (frozen RsPhase.freezeN CycleStep.voted).md.step = CycleStep.voted)) := by
  and_intros <;> decide +kernel

theorem witness_ResyncEnds_1 :
    ((lateResync.md.mode = Mode.resync) ∧ (lateResync.resync.phase ≠ RsPhase.idle) ∧ (lateResync.resync.failed =
      false) ∧ (BitVec.toNat lateResync.resync.start + 3 * lateResync.lead.tb.ti10 + 50000000 ≤ BitVec.toNat
      lateResync.lead.tb.t0 + lateResync.lead.tb.ti10)) ∧
    ((Quiet rejoins) ∧ (rejoins.md.mode = Mode.resync) ∧ (rejoins.md.step = CycleStep.voted) ∧ (rejoins.md.voted =
      true) ∧ (rejoins.md.gateGm = Decision.rejoin LaneId.B) ∧ (rejoins.md.vital = true) ∧ (rejoins.md.events = []) ∧
      (∀ (l : LaneId), (rejoins.lane l).cyc.events = []) ∧ (rejoins.stopDue = none) ∧ (rejoins.resync.shadowBad =
      false) ∧ (rejoins.resync.failed = false) ∧ (rejoins.resync.frozen = false) ∧ (rejoins.guard.pendingReset = none)
      ∧ (rejoins.serves LaneId.B = false)) ∧
    ((onProbation.md.probation = some 64) ∧ (64 ≤ 64)) := by
  and_intros <;> first | decide +kernel | rfl | (intro l; cases l <;> decide +kernel)

theorem witness_StageEvaluates_1 :
    ((Quiet counting) ∧ (counting.stageRuns = true) ∧ (counting.servingLanes.length = 3)) ∧
    ((Quiet openDue) ∧ (openDue.stageRuns = true) ∧ (20 ≤ openDue.stage.openRun[5]) ∧ (BitVec.getLsbD
      openDue.stage.openNow ↑5 = false)) ∧
    ((Quiet overDue) ∧ (overDue.stageRuns = true) ∧ ((100 : ℕ) ≤
      { us := (0 : ℕ), a := (0 : BitVec (12 : ℕ)), b := (0 : BitVec (12 : ℕ)), c := (0 : BitVec (12 : ℕ)) : TripReading }.us
      ∧ overDue.servingLanes.length = (3 : ℕ) ∧ (1500 : ℕ) < median
      { us := (0 : ℕ), a := (0 : BitVec (12 : ℕ)), b := (0 : BitVec (12 : ℕ)), c := (0 : BitVec (12 : ℕ)) : TripReading }.a.toNat
      { us := (0 : ℕ), a := (0 : BitVec (12 : ℕ)), b := (0 : BitVec (12 : ℕ)), c := (0 : BitVec (12 : ℕ)) : TripReading }.b.toNat
      { us := (0 : ℕ), a := (0 : BitVec (12 : ℕ)), b := (0 : BitVec (12 : ℕ)), c := (0 : BitVec (12 : ℕ)) : TripReading }.c.toNat
      ∨ (100 : ℕ) ≤ overDue.stage.overRun[(5 : Fin (48 : ℕ))]) ∧ (BitVec.getLsbD overDue.stage.trip ↑(5 : Fin (48 :
      ℕ)) = false)) ∧
    ((Quiet (stageOf id)) ∧ ((stageOf id).stageRuns = true) ∧ ((100 : ℕ) ≤
      { us := (100 : ℕ), a := (1501 : BitVec (12 : ℕ)), b := (1600 : BitVec (12 : ℕ)), c := (0 : BitVec (12 : ℕ)) : TripReading }.us
      ∧ (stageOf id).servingLanes.length = (3 : ℕ) ∧ (1500 : ℕ) < median
      { us := (100 : ℕ), a := (1501 : BitVec (12 : ℕ)), b := (1600 : BitVec (12 : ℕ)), c := (0 : BitVec (12 : ℕ)) : TripReading }.a.toNat
      { us := (100 : ℕ), a := (1501 : BitVec (12 : ℕ)), b := (1600 : BitVec (12 : ℕ)), c := (0 : BitVec (12 : ℕ)) : TripReading }.b.toNat
      { us := (100 : ℕ), a := (1501 : BitVec (12 : ℕ)), b := (1600 : BitVec (12 : ℕ)), c := (0 : BitVec (12 : ℕ)) : TripReading }.c.toNat
      ∨ (100 : ℕ) ≤ (stageOf id).stage.overRun[(47 : Fin (48 : ℕ))]) ∧ (BitVec.getLsbD (stageOf id).stage.trip ↑(47 :
      Fin (48 : ℕ)) = false)) ∧
    ((Quiet vfDue) ∧ (vfDue.stageRuns = true) ∧ (10 ≤ vfDue.stage.vfBad[1]) ∧ (vfDue.stage.vfHeld.getLsbD ↑1 = false)) ∧
    ((Quiet vfBack) ∧ (vfBack.stageRuns = true) ∧ (100 ≤ vfBack.stage.vfGood[1]) ∧ (vfBack.stage.vfHeld.getLsbD ↑1 =
      true)) ∧
    ((Quiet backDue) ∧ (backDue.stageRuns = true) ∧ (10 ≤ backDue.stage.backRun[40]) ∧ (BitVec.getLsbD
      backDue.stage.backNow ↑40 = false) ∧ (backDue.md.mode ≠ Mode.safeStop)) := by
  and_intros <;> decide +kernel

theorem witness_StageDiagnoses_1 :
    ((Quiet switchDue) ∧ (switchDue.stageRuns = true) ∧ (BitVec.getLsbD (switchDue.stage.swTwice.get LaneId.B) ↑2 =
      true) ∧ (BitVec.getLsbD (switchDue.stage.swSeen.get LaneId.B) ↑2 = false)) ∧
    ((Quiet oddDue) ∧ (oddDue.stageRuns = true) ∧ (∃ q : Fin 51, 10 ≤ (oddDue.stage.oddRun.get LaneId.B)[q])) ∧
    ((Quiet oddDue) ∧ (oddDue.stageRuns = true) ∧ (∃ q : Fin 51, 10 ≤ oddDue.stage.pairRun[q])) ∧
    ((Quiet oddCause) ∧ (oddCause.stageRuns = true) ∧ (oddCause.voting = true) ∧ (oddCause.md.step =
      CycleStep.evaluation ∨ oddCause.md.step = CycleStep.compared) ∧ (oddCause.servingLanes.length = 3) ∧ (5 ≤
      oddCause.stage.oddCuts.get LaneId.B)) ∧
    ((Quiet (fenceC oddCause)) ∧ ((fenceC oddCause).stageRuns = true) ∧ ((fenceC oddCause).voting = true) ∧ ((fenceC
      oddCause).md.step = CycleStep.evaluation ∨ (fenceC oddCause).md.step = CycleStep.compared) ∧ ((fenceC
      oddCause).servingLanes.length = 2) ∧ (5 ≤ (fenceC oddCause).stage.pairCuts)) ∧
    ((Quiet slotDue) ∧ (slotDue.stageRuns = true) ∧ (slotDue.stage.pulse = none) ∧ (slotDue.stage.postponed = none) ∧
      (slotDue.md.step = CycleStep.idle ∨ slotDue.nextSlot < slotDue.cutInstant) ∧ (slotDue.nextSlot / 2000000 % 50 =
      ↑6) ∧ (BitVec.getLsbD slotDue.stage.on ↑6 = true)) ∧
    ((Quiet slotNear) ∧ (slotNear.stageRuns = true) ∧ (slotNear.stage.pulse = none) ∧ (slotNear.stage.postponed =
      none) ∧ (slotNear.md.step = CycleStep.idle ∨ slotNear.nextSlot < slotNear.cutInstant) ∧ (slotNear.nextSlot /
      2000000 % 50 = ↑6) ∧ (BitVec.getLsbD slotNear.stage.on ↑6 = true)) ∧
    ((Quiet pulsing) ∧ (pulsing.stageRuns = true) ∧ (pulsing.stage.pulse = some (17, 10100000)) ∧ (60 ≤ 70) ∧ (70 ≤
      400) ∧ (70 % 10 = 0) ∧ ((pulseSamples falling falling falling)[(70 - 60) / 10]? = some (pulseAt 199 false)) ∧ (∀
      k < (70 - 60) / 10, ∀ (w : PulseSample), (pulseSamples falling falling falling)[k]? = some w → 200 ≤
      pulsing.pulseVolt w) ∧ (pulsing.pulseVolt (pulseAt 199 false) < 200)) := by
  and_intros <;> decide +kernel

theorem witness_StageDiagnoses_2 :
    ((Quiet pulsing) ∧ (pulsing.stageRuns = true) ∧ (pulsing.stage.pulse = some (17, 10100000)) ∧ (60 ≤ 400) ∧ (400 ≤
      400) ∧ (400 % 10 = 0) ∧ ((pulseSamples (remains false) (remains false) (remains false))[(400 - 60) / 10]? = some
      (pulseAt 200 false)) ∧ (∀ k < (400 - 60) / 10, ∀ (w : PulseSample), (pulseSamples (remains false) (remains
      false) (remains false))[k]? = some w → 200 ≤ pulsing.pulseVolt w) ∧ (200 ≤ pulsing.pulseVolt (pulseAt 200
      false)) ∧ (400 = 400) ∧ (closedLanes (pulseAt 200 false) = []) ∧ (pulsing.md.mode ≠ Mode.safeStop)) ∧
    ((Quiet pulsing) ∧ (pulsing.stageRuns = true) ∧ (pulsing.stage.pulse = some (17, 10100000)) ∧ (60 ≤ 400) ∧ (400 ≤
      400) ∧ (400 % 10 = 0) ∧ ((pulseSamples (remains true) (remains false) (remains false))[(400 - 60) / 10]? = some
      (pulseAt 200 true)) ∧ (∀ k < (400 - 60) / 10, ∀ (w : PulseSample), (pulseSamples (remains true) (remains false)
      (remains false))[k]? = some w → 200 ≤ pulsing.pulseVolt w) ∧ (200 ≤ pulsing.pulseVolt (pulseAt 200 true)) ∧ (400
      = 400) ∧ (closedLanes (pulseAt 200 true) ≠ [])) := by
  and_intros <;> decide +kernel

theorem witness_TestPulsesAndRestart_1 :
    ((Quiet tested) ∧ (tested.stageRuns = true) ∧ (BitVec.getLsbD tested.tpUsed ↑3 = true)) ∧
    ((Quiet pulsed3) ∧ (pulsed3.stageRuns = true) ∧ (pulsed3.stage.tpPulse = some (3, 10000000))) ∧
    ((Quiet tested) ∧ (tested.stageRuns = true)) ∧
    ((Quiet (asking false)) ∧ ((asking false).md.mode = Mode.safeStop) ∧ ((asking false).md.step =
      CycleStep.evaluation) ∧ ((asking false).guard.pendingReset = none) ∧ (2 ≤ (asking false).restartLines.length) ∧
      ((asking false).sealSt.changed = false) ∧ (roleOf (asking false).sealSt.sw1 ≠ Role.none)) ∧
    ((Quiet (asking true)) ∧ ((asking true).md.mode = Mode.safeStop) ∧ ((asking true).md.step = CycleStep.evaluation)
      ∧ ((asking true).guard.pendingReset = none) ∧ (2 ≤ (asking true).restartLines.length) ∧ ((asking
      true).sealSt.changed = true)) := by
  and_intros <;> decide +kernel

theorem witness_Resets_1 :
    ((Quiet runs3) ∧ (91 ≠ 90)) ∧
    ((Quiet syAsked) ∧ (LaneId.B ≠ LaneId.A) ∧ (syAsked.serves LaneId.A = true) ∧ (syAsked.serves LaneId.B = true) ∧
      ((syAsked.lane LaneId.B).reqSy.isSome = true) ∧ (syAsked.md.mode ≠ Mode.powerFail) ∧ (syAsked.guard.priming =
      Priming.done) ∧ (syAsked.guard.pendingReset = none) ∧ (syAsked.guard.level Source.laneRequest = Level.sy)) ∧
    ((Quiet runs3) ∧ (∀ (k : LaneId), k ≠ LaneId.A → (runs3.lane k).reqSy = none)) ∧
    ((Quiet runs3) ∧ (runs3.serves LaneId.A = true) ∧ (runs3.md.mode.votes = true) ∧ (∀ (k : LaneId), k ≠ LaneId.A →
      (runs3.lane k).reqStop = none)) ∧
    ((Quiet stopAsked) ∧ (stopAsked.serves LaneId.A = true) ∧ (stopAsked.md.mode.votes = true) ∧ (LaneId.B ≠ LaneId.A)
      ∧ (stopAsked.serves LaneId.B = true) ∧ ((stopAsked.lane LaneId.B).reqStop = some ((10050000 : DWord), (7 :
      Half))) ∧ (BitVec.toNat stopAsked.tb.nt ≤ BitVec.toNat (10050000 : DWord) + (100000 : ℕ)) ∧ (∀ (j : LaneId), j ≠
      LaneId.A → j ≠ LaneId.B → (stopAsked.lane j).reqStop = none)) ∧
    ((Quiet pendsSy) ∧ (pendsSy.recorder.flushed = true) ∧ (pendsSy.guard.pendingReset = some (Level.sy,
      [Source.laneRequest, Source.clkLoss]))) ∧
    ((Quiet pendsPo) ∧ (pendsPo.recorder.flushed = true) ∧ (pendsPo.guard.pendingReset = some (Level.po,
      [Source.otpDed]))) ∧
    ((Quiet runs3) ∧ (runs3.guard.mrst = false) ∧ (1300 ≤ 1300)) := by
  and_intros <;> first | decide +kernel | rfl | (intro l; cases l <;> decide +kernel)

theorem witness_Resets_2 :
    ((Quiet runs3) ∧ (runs3.guard.mrst = false) ∧ (999 < 1000)) ∧
    ((Quiet pinLow) ∧ (pinLow.guard.mrst = true)) ∧
    ((Quiet pinWaits) ∧ (pinWaits.guard.mrst = true)) ∧
    ((Quiet runs3)) ∧
    ((Quiet failing3) ∧ (failing3.md.mode = Mode.powerFail) ∧ (failing3.guard.powerGood = true) ∧
      (failing3.recorder.flushed = true)) := by
  and_intros <;> decide +kernel

theorem witness_SupplyAndTemperature_1 :
    ((Quiet blocked) ∧ ((700 : ℕ) < BitVec.toNat (701 : BitVec (12 : ℕ))) ∧ ((10000 : ℕ) ≤ (10000 : ℕ))) ∧
    ((Quiet blocked) ∧ ((700 : ℕ) < BitVec.toNat (720 : BitVec (12 : ℕ))) ∧ ((10000 : ℕ) ≤ (10000 : ℕ))) ∧
    ((Quiet often) ∧ ((700 : ℕ) < BitVec.toNat (701 : BitVec (12 : ℕ))) ∧ ((10000 : ℕ) ≤ (10000 : ℕ))) ∧
    ((Quiet runs3) ∧ (BitVec.toNat (719 : BitVec (12 : ℕ)) < (720 : ℕ)) ∧ ((1000 : ℕ) ≤ (1000 : ℕ))) ∧
    ((Quiet runs3) ∧ (BitVec.toNat (679 : BitVec (12 : ℕ)) < (680 : ℕ)) ∧ ((200 : ℕ) ≤ (200 : ℕ)) ∧ (runs3.md.mode ≠
      Mode.powerFail) ∧ (runs3.guard.powerGood = true)) ∧
    ((Quiet runs3) ∧ (runs3.md.mode ≠ Mode.priming) ∧ (runs3.md.mode ≠ Mode.powerFail) ∧ (runs3.md.mode ≠
      Mode.safeStop) ∧ ((1360 : ℕ) < BitVec.toNat (1361 : BitVec (12 : ℕ))) ∧ ((1000 : ℕ) ≤ (1000 : ℕ))) ∧
    ((Quiet runs3) ∧ (runs3.md.mode ≠ Mode.priming) ∧ (runs3.md.mode ≠ Mode.powerFail) ∧ (runs3.md.mode ≠
      Mode.safeStop) ∧ ((400 : ℤ) < BitVec.toInt (401 : BitVec (12 : ℕ)) ∨ BitVec.toInt (401 : BitVec (12 : ℕ)) <
      (-180 : ℤ)) ∧ ((1000 : ℕ) ≤ (1000 : ℕ))) ∧
    ((Quiet runs3) ∧ (runs3.md.mode ≠ Mode.priming) ∧ (runs3.md.mode ≠ Mode.powerFail) ∧ (runs3.md.mode ≠
      Mode.safeStop) ∧ ((400 : ℤ) < (-181 : BitVec (12 : ℕ)).toInt ∨ (-181 : BitVec (12 : ℕ)).toInt < (-180 : ℤ)) ∧
      ((1000 : ℕ) ≤ (1000 : ℕ))) := by
  and_intros <;> decide +kernel

theorem witness_SupplyAndTemperature_2 :
    ((Quiet runs3) ∧ (BitVec.toNat (1360 : BitVec (12 : ℕ)) ≤ (1360 : ℕ) ∨ (1000 : ℕ) < (1000 : ℕ))) ∧
    ((Quiet runs3) ∧ ((40 : ℕ) < (BitVec.toInt (41 : BitVec (12 : ℕ)) - BitVec.toInt (0 : BitVec (12 : ℕ))).natAbs) ∧
      ((10000 : ℕ) ≤ (10000 : ℕ))) ∧
    ((Quiet runs3) ∧ (BitVec.toNat (679 : BitVec (12 : ℕ)) < (680 : ℕ)) ∧ ((680 : ℕ) ≤ BitVec.toNat (680 : BitVec (12
      : ℕ))) ∧ ((200 : ℕ) ≤ (200 : ℕ))) ∧
    ((Quiet runs3) ∧ ((680 : ℕ) < BitVec.toNat (681 : BitVec (12 : ℕ)))) ∧
    ((Quiet runs3)) ∧
    ((Quiet (cyclic Mode.startupTest CycleStep.idle)) ∧ ((cyclic Mode.startupTest CycleStep.idle).md.mode =
      Mode.startupTest) ∧ ((cyclic Mode.startupTest CycleStep.idle).guard.holdup = false)) := by
  and_intros <;> decide +kernel

theorem witness_RailsAndClocks_1 :
    ((Quiet (domains 2368 State.reset)) ∧ (∀ n ∈ domainsBefore (↑7 + 1), (domains 2368 State.reset).guard.domainUp n =
      true) ∧ (∀ (l : LaneId), domainLane (↑7 + 1) = some l → (domains 2368 State.reset).guard.railHeld.get l = false)
      ∧ (↑7 ≠ 10)) ∧
    ((Quiet (domains 4095 State.reset)) ∧ (∀ n ∈ domainsBefore (↑0 + 1), (domains 4095 State.reset).guard.domainUp n =
      true) ∧ (∀ (l : LaneId), domainLane (↑0 + 1) = some l → (domains 4095 State.reset).guard.railHeld.get l = false)
      ∧ (↑0 ≠ 10)) ∧
    ((Quiet (domains 3071 State.reset))) ∧
    ((Quiet (domains 2368 State.reset)) ∧ ((domains 2368 State.reset).md.mode = Mode.priming) ∧ (∀ n ∈ domainsBefore
      (↑7 + 1), (domains 2368 State.reset).guard.domainUp n = true) ∧ ((domains 2368
      State.reset).guard.domainOk.getLsbD ↑7 = false)) ∧
    ((Quiet held9) ∧ (held9.guard.domainHeld = true)) ∧
    ((Quiet railsUp) ∧ (domainLane (↑1 + 1) = some LaneId.B) ∧ (railsUp.md.mode ≠ Mode.powerFail) ∧
      (railsUp.guard.priming = Priming.done) ∧ (railsUp.guard.level Source.laneRail = Level.co) ∧
      (railsUp.guard.pendingReset = none)) ∧
    ((Quiet railsUp) ∧ (domainLane (↑5 + 1) = some LaneId.C) ∧ (railsUp.md.mode ≠ Mode.powerFail) ∧
      (railsUp.guard.priming = Priming.done) ∧ (railsUp.guard.level Source.laneRail = Level.co) ∧
      (railsUp.guard.pendingReset = none)) ∧
    ((Quiet railsUp) ∧ (↑9 = 7 ∨ ↑9 = 8 ∨ ↑9 = 9 ∨ ↑9 = 11) ∧ (railsUp.md.mode ≠ Mode.priming) ∧ (railsUp.md.mode ≠
      Mode.powerFail) ∧ (railsUp.md.mode ≠ Mode.safeStop)) := by
  and_intros <;> first | decide +kernel | rfl | (intro l; cases l <;> decide +kernel)

theorem witness_RailsAndClocks_2 :
    ((Quiet (domains 4094 railsUp)) ∧ (domainLane (↑0 + 1) = some LaneId.A)) ∧
    ((Quiet railsPin) ∧ (railsPin.guard.mrst = true)) ∧
    ((Quiet railsUp) ∧ (railsUp.guard.mrst = false) ∧ (railsUp.md.mode ≠ Mode.powerFail)) ∧
    ((Quiet railsUp) ∧ (railsUp.guard.mrst = false)) ∧
    ((Quiet clocked) ∧ (clocked.tb.runs = true) ∧ (clocked.md.mode ≠ Mode.priming) ∧ (clocked.md.mode ≠
      Mode.powerFail) ∧ (clocked.md.mode ≠ Mode.safeStop) ∧ (clocked.guard.priming = Priming.done) ∧
      (clocked.guard.pendingReset = none) ∧ (clocked.guard.level Source.clkLoss = Level.sy)) ∧
    ((Quiet clocked)) ∧
    ((Quiet (cyclic Mode.startupTest CycleStep.idle)) ∧ ((cyclic Mode.startupTest CycleStep.idle).md.mode =
      Mode.startupTest) ∧ ((cyclic Mode.startupTest CycleStep.idle).clocksReady = false)) ∧
    ((Quiet debugPriming) ∧ (debugPriming.md.mode = Mode.priming) ∧ (debugPriming.guard.mrst = false) ∧
      (debugPriming.debugSession ↑1 = true) ∧ (BitVec.getLsbD debugPriming.sealSt.sw1 14 = true) ∧
      (debugPriming.ring.qualified = false)) := by
  and_intros <;> decide +kernel

theorem witness_RailsAndClocks_3 :
    ((Quiet delayed) ∧ (delayed.guard.priming = Priming.delay)) := by
  and_intros <;> decide +kernel

theorem witness_PrimingAndStartup_1 :
    ((Quiet primed) ∧ (primed.md.mode = Mode.priming) ∧ (primed.guard.priming = Priming.active) ∧
      (primed.guard.domainHeld = false) ∧ (primed.guard.powerGood = true) ∧ (primed.powered = true) ∧ (∀ e ∈ ([(3, 1),
      (5, 0)] : List (Fin 64 × BitVec 72)), popcount e.2 < 2) ∧ (reads 1029 7 = reads 1029 7) ∧ (∀ i < 16,
      BitVec.getLsbD (reads 1029 7).on1 i ≠ BitVec.getLsbD (reads 1029 7).off1 i ∧ BitVec.getLsbD (reads 1029 7).on2 i
      ≠ BitVec.getLsbD (reads 1029 7).off2 i)) ∧
    ((Quiet primed) ∧ (primed.md.mode = Mode.priming) ∧ (primed.guard.priming = Priming.active) ∧
      (primed.guard.domainHeld = false) ∧ (primed.guard.powerGood = true) ∧ (primed.powered = true) ∧ (∀ e ∈ ([] :
      List (Fin 64 × BitVec 72)), popcount e.2 < 2) ∧ (reads 5 7 = reads 5 7) ∧ (∀ i < 16, BitVec.getLsbD (reads 5
      7).on1 i ≠ BitVec.getLsbD (reads 5 7).off1 i ∧ BitVec.getLsbD (reads 5 7).on2 i ≠ BitVec.getLsbD (reads 5
      7).off2 i)) ∧
    ((Quiet primed) ∧ (primed.md.mode = Mode.priming) ∧ (primed.guard.priming = Priming.active) ∧
      (primed.guard.domainHeld = false) ∧ (primed.guard.powerGood = true) ∧ (primed.powered = true) ∧ (∀ e ∈ ([(3, 1)]
      : List (Fin 64 × BitVec 72)), popcount e.2 < 2) ∧ (reads 1029 7 ≠ reads 1029 8)) ∧
    ((Quiet primed) ∧ (primed.md.mode = Mode.priming) ∧ (primed.guard.priming = Priming.active) ∧
      (primed.guard.domainHeld = false) ∧ (primed.guard.powerGood = true) ∧ (primed.powered = true) ∧ (((3 : Fin (64 :
      ℕ)), (3 : BitVec (72 : ℕ))) ∈ [((3 : Fin (64 : ℕ)), (3 : BitVec (72 : ℕ)))]) ∧ ((2 : ℕ) ≤ popcount ((3 : Fin (64
      : ℕ)), (3 : BitVec (72 : ℕ))).2) ∧ (primed.guard.level Source.otpDed = Level.sy)) ∧
    ((Quiet testing) ∧ (testing.md.mode = Mode.startupTest) ∧ (testing.servingLanes.length = (3 : ℕ)) ∧
      (testing.md.lockedOut = PerLane.all false) ∧ (testing.svc.desig.trial = false) ∧
      ({ bistPass := false, storePass := passes.storePass, layoutAgrees := passes.layoutAgrees, runtimeTrap := passes.runtimeTrap : StartupTests }.bistPass
      = false)) ∧
    ((Quiet testing) ∧ (testing.md.mode = Mode.startupTest) ∧ (testing.servingLanes.length = (3 : ℕ)) ∧
      (testing.md.lockedOut = PerLane.all false) ∧ (testing.svc.desig.trial = false) ∧ (passes.bistPass = true) ∧
      ({ bistPass := passes.bistPass, storePass := false, layoutAgrees := passes.layoutAgrees, runtimeTrap := passes.runtimeTrap : StartupTests }.bistPass
      = true) ∧ (passes.bistPass = true) ∧ (∀ (l : LaneId), (testing.lane l).core.run = Run.running) ∧
      ({ bistPass := passes.bistPass, storePass := false, layoutAgrees := passes.layoutAgrees, runtimeTrap := passes.runtimeTrap : StartupTests }.storePass
      = false)) ∧
    ((Quiet (noLanes true)) ∧ ((noLanes true).md.mode = Mode.startupTest) ∧ ((noLanes true).guard.priming =
      Priming.done) ∧ ((noLanes true).lockOutFails = false) ∧ (((noLanes true).recLockedOut.runTests fun _ =>
      passes).2 = none) ∧ ((noLanes true).waitsOver = true)) ∧
    ((Quiet (noLanes false)) ∧ ((noLanes false).md.mode = Mode.startupTest) ∧ ((noLanes false).guard.priming =
      Priming.done) ∧ ((noLanes false).lockOutFails = false) ∧ (((noLanes false).recLockedOut.runTests fun _ =>
      passes).2 = none) ∧ ((noLanes false).waitsOver = false)) := by
  and_intros <;> first | exact @of_decide_eq_true _ (List.decidableBAll _ _) rfl | decide +kernel | (intro l; cases l <;> decide +kernel)

theorem witness_SealAndFuses_1 :
    ((Quiet (sealed id)) ∧ ((sealed id).guard.priming = Priming.done) ∧ ((sealed id).md.mode ≠ Mode.powerFail) ∧ ((fun
      on off => on &&& ~~~off) (reads 9220 7).on1 (reads 9220 7).off1 ≠ (sealed id).sealSt.sw1 ∨ (fun on off => on &&&
      ~~~off) (reads 9220 7).on2 (reads 9220 7).off2 ≠ (sealed id).sealSt.sw2 ∨ ~~~((reads 9220 7).on1 ^^^ (reads 9220
      7).off1) ≠ 0 ∨ ~~~((reads 9220 7).on2 ^^^ (reads 9220 7).off2) ≠ 0)) ∧
    ((Quiet (sealed id)) ∧ ((sealed id).guard.priming = Priming.done) ∧ ((sealed id).md.mode ≠ Mode.powerFail) ∧ ((fun
      on off => on &&& ~~~off)
      { on1 := (reads (9221 : Half) (7 : Half)).on1, off1 := (reads (9221 : Half) (7 : Half)).off1, on2 := (reads (9221 : Half) (7 : Half)).on2, off2 := (7 : Half) : SwitchReading }.on1
      { on1 := (reads (9221 : Half) (7 : Half)).on1, off1 := (reads (9221 : Half) (7 : Half)).off1, on2 := (reads (9221 : Half) (7 : Half)).on2, off2 := (7 : Half) : SwitchReading }.off1
      ≠ (sealed id).sealSt.sw1 ∨ (fun on off => on &&& ~~~off)
      { on1 := (reads (9221 : Half) (7 : Half)).on1, off1 := (reads (9221 : Half) (7 : Half)).off1, on2 := (reads (9221 : Half) (7 : Half)).on2, off2 := (7 : Half) : SwitchReading }.on2
      { on1 := (reads (9221 : Half) (7 : Half)).on1, off1 := (reads (9221 : Half) (7 : Half)).off1, on2 := (reads (9221 : Half) (7 : Half)).on2, off2 := (7 : Half) : SwitchReading }.off2
      ≠ (sealed id).sealSt.sw2 ∨
      ~~~({ on1 := (reads (9221 : Half) (7 : Half)).on1, off1 := (reads (9221 : Half) (7 : Half)).off1, on2 := (reads (9221 : Half) (7 : Half)).on2, off2 := (7 : Half) : SwitchReading }.on1
      ^^^
      { on1 := (reads (9221 : Half) (7 : Half)).on1, off1 := (reads (9221 : Half) (7 : Half)).off1, on2 := (reads (9221 : Half) (7 : Half)).on2, off2 := (7 : Half) : SwitchReading }.off1)
      ≠ (0 : Half) ∨
      ~~~({ on1 := (reads (9221 : Half) (7 : Half)).on1, off1 := (reads (9221 : Half) (7 : Half)).off1, on2 := (reads (9221 : Half) (7 : Half)).on2, off2 := (7 : Half) : SwitchReading }.on2
      ^^^
      { on1 := (reads (9221 : Half) (7 : Half)).on1, off1 := (reads (9221 : Half) (7 : Half)).off1, on2 := (reads (9221 : Half) (7 : Half)).on2, off2 := (7 : Half) : SwitchReading }.off2)
      ≠ (0 : Half))) ∧
    ((Quiet (sealed id)) ∧ ((sealed id).guard.priming = Priming.done) ∧ ((sealed id).md.mode ≠ Mode.powerFail) ∧
      (¬((fun on off => on &&& ~~~off) (reads 9221 7).on1 (reads 9221 7).off1 ≠ (sealed id).sealSt.sw1 ∨ (fun on off
      => on &&& ~~~off) (reads 9221 7).on2 (reads 9221 7).off2 ≠ (sealed id).sealSt.sw2 ∨ ~~~((reads 9221 7).on1 ^^^
      (reads 9221 7).off1) ≠ 0 ∨ ~~~((reads 9221 7).on2 ^^^ (reads 9221 7).off2) ≠ 0))) ∧
    ((Quiet doubtful) ∧ (doubtful.guard.priming = Priming.done) ∧ (doubtful.md.mode ≠ Mode.powerFail) ∧
      (doubtful.sealSt.reread = true) ∧ ((fun on off => on &&& ~~~off) (reads 9220 7).on1 (reads 9220 7).off1 ≠
      doubtful.sealSt.sw1 ∨ (fun on off => on &&& ~~~off) (reads 9220 7).on2 (reads 9220 7).off2 ≠ doubtful.sealSt.sw2
      ∨ ~~~((reads 9220 7).on1 ^^^ (reads 9220 7).off1) ≠ 0 ∨ ~~~((reads 9220 7).on2 ^^^ (reads 9220 7).off2) ≠ 0) ∧
      (doubtful.md.mode ≠ Mode.priming) ∧ (doubtful.md.mode ≠ Mode.safeStop)) ∧
    ((Quiet doubtful) ∧ (doubtful.guard.priming = Priming.done) ∧ (doubtful.md.mode ≠ Mode.powerFail) ∧
      (doubtful.sealSt.reread = true) ∧ (¬((fun on off => on &&& ~~~off) (reads 9221 7).on1 (reads 9221 7).off1 ≠
      doubtful.sealSt.sw1 ∨ (fun on off => on &&& ~~~off) (reads 9221 7).on2 (reads 9221 7).off2 ≠ doubtful.sealSt.sw2
      ∨ ~~~((reads 9221 7).on1 ^^^ (reads 9221 7).off1) ≠ 0 ∨ ~~~((reads 9221 7).on2 ^^^ (reads 9221 7).off2) ≠ 0))) ∧
    ((Quiet (burning gen0)) ∧ ((burning gen0).md.mode = Mode.maintenance) ∧ (BitVec.getLsbD (burning gen0).sealSt.sw1
      13 = true) ∧ (BitVec.getLsbD (burning gen0).sealSt.live1 13 = true) ∧ (1 < 4) ∧ (∀ j < 1, genUnburned (burning
      gen0).sealSt.fuse j = false) ∧ (genUnburned (burning gen0).sealSt.fuse 1 = true) ∧ (BitVec.setWidth 32 (whole
      check1).word = genCheck 1 (whole 165).word (whole 2).word (whole 0).word) ∧ (BitVec.getLsbD (whole check1).word
      63 = false)) ∧
    ((Quiet (burning gen0)) ∧ ((burning gen0).md.mode = Mode.maintenance) ∧ (BitVec.getLsbD (burning gen0).sealSt.sw1
      (13 : ℕ) = true) ∧ (BitVec.getLsbD (burning gen0).sealSt.live1 (13 : ℕ) = true) ∧ ((1 : ℕ) < (4 : ℕ)) ∧ (∀ j <
      (1 : ℕ), genUnburned (burning gen0).sealSt.fuse j = false) ∧ (genUnburned (burning gen0).sealSt.fuse (1 : ℕ) =
      true) ∧ (BitVec.setWidth (32 : ℕ) (whole check1).word = genCheck (1 : ℕ) (whole (165 : DWord)).word
      { word := (2 : DWord), reach := (129 : DWord) : BurnWord }.word (whole (0 : DWord)).word) ∧ (BitVec.getLsbD
      (whole check1).word (63 : ℕ) = false)) ∧
    ((Quiet (burning gen0)) ∧ ((burning gen0).md.mode = Mode.maintenance) ∧ (BitVec.getLsbD (burning gen0).sealSt.sw1
      13 = true) ∧ (BitVec.getLsbD (burning gen0).sealSt.live1 13 = true) ∧ (genUnburned (burning gen0).sealSt.fuse ↑0
      = false)) := by
  and_intros <;> decide +kernel

theorem witness_SealAndFuses_2 :
    ((Quiet (burning gen0)) ∧ ((burning gen0).md.mode = Mode.maintenance) ∧ (BitVec.getLsbD (burning gen0).sealSt.sw1
      13 = true) ∧ (BitVec.getLsbD (burning gen0).sealSt.live1 13 = true) ∧ (BitVec.getLsbD ((burning
      gen0).sealSt.fuse 40) (2 * ↑1) = false)) ∧
    ((Quiet (burning gen0)) ∧ ((burning gen0).md.mode = Mode.maintenance) ∧ (BitVec.getLsbD (burning gen0).sealSt.sw1
      13 = true) ∧ (BitVec.getLsbD (burning gen0).sealSt.live1 13 = true) ∧ (BitVec.getLsbD ((burning
      gen0).sealSt.fuse 40) (2 * ↑0) = true)) ∧
    ((Quiet (burning gen0)) ∧ ((burning gen0).md.mode = Mode.maintenance) ∧ (BitVec.getLsbD (burning gen0).sealSt.sw1
      13 = true) ∧ (BitVec.getLsbD (burning gen0).sealSt.live1 13 = true) ∧ (popcount ((burning gen0).sealSt.fuse 45)
      < 64) ∧ ((burning gen0).svc.runtimeSvn (burning gen0).svc.slotA (popcount ((burning gen0).sealSt.fuse 45) + 1) =
      true) ∧ ((burning gen0).svc.runtimeSvn (burning gen0).svc.slotB (popcount ((burning gen0).sealSt.fuse 45) + 1) =
      true)) ∧
    ((Quiet (sealed id)) ∧ ((sealed id).md.mode ≠ Mode.maintenance ∨ BitVec.getLsbD (sealed id).sealSt.sw1 13 = false
      ∨ BitVec.getLsbD (sealed id).sealSt.live1 13 = false)) := by
  and_intros <;> decide +kernel

theorem witness_Measurements_1 :
    ((((measuring (some (3, 5))).lane LaneId.A).meas.busy ≠ none)) ∧
    ((((measuring none).lane LaneId.A).meas.busy = none) ∧ (BitVec.toNat (58627 : Word) / (256 : ℕ) % (256 : ℕ) = (229
      : ℕ)) ∧ (BitVec.toNat (58627 : Word) % (8 : ℕ) = (3 : ℕ) ∨ (measuring none).laneMode LaneId.A = (2 : ℕ) ∧
      (BitVec.toNat (58627 : Word) % (8 : ℕ) = (1 : ℕ) ∨ BitVec.toNat (58627 : Word) % (8 : ℕ) = (2 : ℕ) ∨
      BitVec.toNat (58627 : Word) % (8 : ℕ) = (4 : ℕ)))) ∧
    ((((cyclic Mode.startupTest CycleStep.idle).lane LaneId.A).meas.busy = none) ∧ (BitVec.toNat (58628 : Word) / (256
      : ℕ) % (256 : ℕ) = (229 : ℕ)) ∧ (BitVec.toNat (58628 : Word) % (8 : ℕ) = (3 : ℕ) ∨ (cyclic Mode.startupTest
      CycleStep.idle).laneMode LaneId.A = (2 : ℕ) ∧ (BitVec.toNat (58628 : Word) % (8 : ℕ) = (1 : ℕ) ∨ BitVec.toNat
      (58628 : Word) % (8 : ℕ) = (2 : ℕ) ∨ BitVec.toNat (58628 : Word) % (8 : ℕ) = (4 : ℕ)))) ∧
    ((((measuring none).lane LaneId.A).meas.busy = none) ∧ (BitVec.toNat (58628 : Word) / (256 : ℕ) % (256 : ℕ) = (229
      : ℕ)) ∧ (BitVec.toNat (58628 : Word) % (8 : ℕ) = (0 : ℕ) ∨ (5 : ℕ) ≤ BitVec.toNat (58628 : Word) % (8 : ℕ) ∨
      (measuring none).laneMode LaneId.A ≠ (2 : ℕ) ∧ BitVec.toNat (58628 : Word) % (8 : ℕ) ≠ (3 : ℕ))) ∧
    ((((measuring none).lane LaneId.A).meas.busy = none) ∧ (BitVec.toNat (58883 : Word) / (256 : ℕ) % (256 : ℕ) ≠ (229
      : ℕ))) ∧
    ((((measuring (some (3, 5))).lane LaneId.A).meas.busy = some (3, 5)) ∧ (3 < 5)) ∧
    (((app.lane LaneId.A).core.run = Run.running) ∧ ((app.lane LaneId.A).core.priv = false)) := by
  and_intros <;> decide +kernel

theorem witness_RepeaterChanges_1 :
    ((Forwards (joined measured1) Port.W nullFrom5 100010340) ∧ (28 ≤ nullFrom5.length)) ∧
    ((Forwards (joined id) Port.E nullFrom5 100010040) ∧ (28 ≤ nullFrom5.length)) ∧
    ((Forwards s10_1 Port.W broken5 100090040) ∧ (28 ≤ broken5.length)) ∧
    ((Forwards s10_2 Port.W nullFrom5 100090040) ∧ (28 ≤ nullFrom5.length)) := by
  and_intros <;> decide +kernel

theorem witness_RingFrames_1 :
    (((joined id).ring.alive = true) ∧ (((joined id).ring.port Port.W).looped = false) ∧ ([1, 2, 3].length < 24)) ∧
    (((joined id).ring.alive = true) ∧ (((joined id).ring.port Port.W).looped = false) ∧ (24 ≤ nullFrom9.length) ∧
      ((parseFrame nullFrom9).source ≠ (joined id).node) ∧ ((joined id).ring.armed = true) ∧ (Calm (joined id)) ∧
      ((joined id).md.mode ≠ Mode.joining) ∧ ((joined id).guardianSays Port.W (parseFrame nullFrom9) 100010040 ≠ 0) ∧
      ((joined id).guardianSays Port.W (parseFrame nullFrom9) 100010040 ≠ 6)) ∧
    (((joined id).ring.alive = true) ∧ (((joined id).ring.port Port.E).looped = false) ∧ (24 ≤ nullFrom5.length) ∧
      ((parseFrame nullFrom5).source ≠ (joined id).node) ∧ ((joined id).ring.armed = true) ∧ (Calm (joined id)) ∧
      ((joined id).md.mode ≠ Mode.joining) ∧ ((joined id).guardianSays Port.E (parseFrame nullFrom5) 100090040 ≠ 0) ∧
      ((joined id).guardianSays Port.E (parseFrame nullFrom5) 100090040 ≠ 6)) ∧
    ((s10_3.ring.alive = true) ∧ ((s10_3.ring.port Port.E).looped = false) ∧ (24 ≤ nullFrom5.length) ∧ ((parseFrame
      nullFrom5).source ≠ s10_3.node) ∧ (s10_3.ring.armed = true) ∧ (Calm s10_3) ∧ (s10_3.md.mode ≠ Mode.joining) ∧
      (s10_3.guardianSays Port.E (parseFrame nullFrom5) 100090040 ≠ 0) ∧ (s10_3.guardianSays Port.E (parseFrame
      nullFrom5) 100090040 ≠ 6)) ∧
    ((s10_4.ring.alive = true) ∧ ((s10_4.ring.port Port.E).looped = false) ∧ (24 ≤ nullFrom5.length) ∧ ((parseFrame
      nullFrom5).source ≠ s10_4.node) ∧ (s10_4.ring.armed = true) ∧ (Calm s10_4) ∧ (s10_4.md.mode ≠ Mode.joining) ∧
      (s10_4.guardianSays Port.E (parseFrame nullFrom5) 100010040 = 6)) ∧
    ((receiving.ring.alive = true) ∧ (Forwards receiving Port.W full5 100010040) ∧ (receiving.md.mode ≠ Mode.joining)
      ∧ (receiving.ring.cold ≠ 2) ∧ ((receiving.advanceTo (100010040 / 10)).deliverable Port.W (parseFrame full5) =
      true) ∧ ((parseFrame full5).pdus = some pdus5) ∧ (((parseFrame full5).source, (parseFrame full5).slot,
      (parseFrame full5).ring) ∉ receiving.ring.delivered) ∧ (receiving.overruns Port.W (parseFrame full5)
      full5.length 100010040 = false) ∧ ((receiving.lane LaneId.B).receivesFrom (parseFrame full5).source = true) ∧
      ((receiving.lane LaneId.B).sl.rx.length + pdus5.length ≤ 2048)) ∧
    (((joined id).ring.alive = true) ∧ (((joined id).ring.port Port.W).looped = false) ∧ (24 ≤ own7.length) ∧
      ((parseFrame own7).source = (joined id).node) ∧ ((joined id).node ≠ 0) ∧ ((parseFrame own7).crcOk = true) ∧
      ((parseFrame own7).version = 1) ∧ ((joined id).ring.joined = true) ∧ (Calm (joined id)) ∧ (((parseFrame
      own7).slot, (parseFrame own7).nc, (parseFrame own7).ring, crcWithoutDelay own7) ∉ (joined id).ring.sent) ∧
      (MayStop (joined id))) ∧
    (((joined sentKey).ring.alive = true) ∧ (((joined sentKey).ring.port Port.W).looped = false) ∧ (24 ≤ own7.length)
      ∧ ((parseFrame own7).source = (joined sentKey).node) ∧ ((joined sentKey).node ≠ 0) ∧ ((parseFrame own7).crcOk =
      true) ∧ ((parseFrame own7).version = 1) ∧ ((joined sentKey).ring.joined = true) ∧ (Calm (joined sentKey)) ∧
      (((parseFrame own7).slot, (parseFrame own7).nc, (parseFrame own7).ring, crcWithoutDelay own7) ∈ (joined
      sentKey).ring.sent)) := by
  and_intros <;> decide +kernel

theorem witness_RingFrames_2 :
    (((joined sentKey).ring.alive = true) ∧ (((joined sentKey).ring.port Port.E).looped = false) ∧ (24 ≤ own7.length)
      ∧ ((parseFrame own7).source = (joined sentKey).node) ∧ ((joined sentKey).node ≠ 0) ∧ ((parseFrame own7).crcOk =
      true) ∧ ((parseFrame own7).version = 1) ∧ ((joined sentKey).ring.joined = true) ∧ (Calm (joined sentKey)) ∧
      (((parseFrame own7).slot, (parseFrame own7).nc, (parseFrame own7).ring, crcWithoutDelay own7) ∈ (joined
      sentKey).ring.sent)) ∧
    (((joined running5).ring.alive = true) ∧ ((joined running5).ring.armed = true) ∧ (((joined running5).ring.port
      Port.W).looped = false) ∧ (((joined running5).ring.port Port.W).passing = some (BitVec.toNat (5 : BitVec (10 :
      ℕ)), (100010000 : ℕ), (100090000 : ℕ), (100050000 : ℕ))) ∧ ((100050000 : ℕ) < (100090000 : ℕ))) ∧
    (((joined full32).ring.alive = true) ∧ ((joined full32).ring.armed = true) ∧ (((joined full32).ring.port
      Port.W).looped = false) ∧ (((joined full32).ring.port Port.W).passing = some (BitVec.toNat (5 : BitVec (10 :
      ℕ)), (100010000 : ℕ), (100090000 : ℕ), (100050000 : ℕ))) ∧ ((100050000 : ℕ) < (100090000 : ℕ))) ∧
    (((joined full32).ring.alive = true) ∧ (((joined full32).ring.port Port.E).looped = false) ∧ (24 ≤
      nullFrom5.length) ∧ ((parseFrame nullFrom5).source ≠ (joined full32).node) ∧ ((joined full32).ring.armed = true)
      ∧ (Calm (joined full32)) ∧ ((joined full32).md.mode ≠ Mode.joining) ∧ ((joined full32).guardianSays Port.E
      (parseFrame nullFrom5) 100090040 ≠ 0) ∧ ((joined full32).guardianSays Port.E (parseFrame nullFrom5) 100090040 ≠
      6)) ∧
    ((holdNode.ring.alive = true) ∧ (Calm holdNode) ∧ (holdNode.sends = true) ∧ (BitVec.toNat (1 : BitVec (12 : ℕ)) <
      holdNode.ring.slots) ∧ (holdNode.ring.owner (BitVec.toNat (1 : BitVec (12 : ℕ))) = holdNode.node) ∧
      (holdNode.node ≠ (0 : ℕ)) ∧ (holdNode.ring.w.looped = false) ∧ (holdNode.ring.e.looped = false) ∧
      (holdNode.md.mode.sendsPdus = false) ∧ (holdNode.md.mode ≠ Mode.split)) := by
  and_intros <;> decide +kernel

theorem witness_InvarMean_1 :
    ((([] : List Int).Perm (List.map (fun x => x.1) ([] : List (Int × Nat)))) ∧ (List.Pairwise (fun x1 x2 : Int => x1
      ≤ x2) [])) ∧
    (([-7].Perm (List.map (fun x => x.1) [(-7, 3)])) ∧ (List.Pairwise (fun x1 x2 => x1 ≤ x2) [-7])) ∧
    (([-7, 8].Perm (List.map (fun x => x.1) [(8, 1), (-7, 3)])) ∧ (List.Pairwise (fun x1 x2 => x1 ≤ x2) [-7, 8])) ∧
    (([-9, 8].Perm (List.map (fun x => x.1) [(8, 1), (-9, 3)])) ∧ (List.Pairwise (fun x1 x2 => x1 ≤ x2) [-9, 8])) ∧
    (([-9, 2, 8].Perm (List.map (fun x => x.1) [(8, 1), (-9, 3), (2, 2)])) ∧ (List.Pairwise (fun x1 x2 => x1 ≤ x2)
      [-9, 2, 8])) ∧
    (([-9, 2, 5, 8, 90].Perm (List.map (fun x => x.1) [(8, 1), (-9, 3), (2, 2), (90, 4), (5, 5)])) ∧ (List.Pairwise
      (fun x1 x2 => x1 ≤ x2) [-9, 2, 5, 8, 90])) ∧
    (([-12, 38, 41, 44, 47, 55, 390].Perm (List.map (fun x => x.1) [(38, 0), (41, 1), (-12, 2), (55, 3), (47, 4),
      (390, 5), (44, 6)])) ∧ (List.Pairwise (fun x1 x2 => x1 ≤ x2) [-12, 38, 41, 44, 47, 55, 390])) ∧
    ((Calm (joined id)) ∧ ((joined id).ring.acquired = true)) := by
  and_intros <;> decide +kernel

theorem witness_InvarMean_2 :
    ((Calm (joined (twoRead 40 51))) ∧ ((joined (twoRead 40 51)).ring.acquired = true)) := by
  and_intros <;> decide +kernel

theorem witness_InvarActs_1 :
    ((Calm (joined id)) ∧ ((joined id).ring.acquired = true) ∧ ((joined id).md.mode ≠ Mode.joining) ∧ ((joined
      id).ring.listenOnly = false) ∧ ((deltaOf (readings ((joined id).advanceTo (((joined id).ring.cycleNo + 1) *
      (joined id).ring.tn10)))).1 = none)) ∧
    ((Calm s10_5) ∧ (s10_5.ring.acquired = true) ∧ (s10_5.md.mode ≠ Mode.joining) ∧ (s10_5.ring.listenOnly = false) ∧
      ((deltaOf (readings (s10_5.advanceTo ((s10_5.ring.cycleNo + 1) * s10_5.ring.tn10)))).1 = none)) ∧
    ((Calm (joined (twoRead 40 51))) ∧ ((joined (twoRead 40 51)).ring.acquired = true) ∧ ((joined (twoRead 40
      51)).md.mode ≠ Mode.joining) ∧ ((joined (twoRead 40 51)).ring.listenOnly = false) ∧ ((deltaOf (readings ((joined
      (twoRead 40 51)).advanceTo (((joined (twoRead 40 51)).ring.cycleNo + 1) * (joined (twoRead 40
      51)).ring.tn10)))).1 = some 46)) ∧
    ((Calm (joined (twoRead (-700) (-801)))) ∧ ((joined (twoRead (-700) (-801))).ring.acquired = true) ∧ ((joined
      (twoRead (-700) (-801))).md.mode ≠ Mode.joining) ∧ ((joined (twoRead (-700) (-801))).ring.listenOnly = false) ∧
      ((deltaOf (readings ((joined (twoRead (-700) (-801))).advanceTo (((joined (twoRead (-700) (-801))).ring.cycleNo
      + 1) * (joined (twoRead (-700) (-801))).ring.tn10)))).1 = some (-751))) ∧
    ((Calm (joined (twoRead (-701) (-798)))) ∧ ((joined (twoRead (-701) (-798))).ring.acquired = true) ∧ ((joined
      (twoRead (-701) (-798))).md.mode ≠ Mode.joining) ∧ ((joined (twoRead (-701) (-798))).ring.listenOnly = false) ∧
      ((deltaOf (readings ((joined (twoRead (-701) (-798))).advanceTo (((joined (twoRead (-701) (-798))).ring.cycleNo
      + 1) * (joined (twoRead (-701) (-798))).ring.tn10)))).1 = some (-750))) ∧
    ((Calm s10_6) ∧ (s10_6.ring.acquired = true) ∧ (s10_6.md.mode ≠ Mode.joining) ∧ (s10_6.ring.listenOnly = true) ∧
      (s10_6.ring.ncDiffers = false) ∧ ((deltaOf (readings (s10_6.advanceTo ((s10_6.ring.cycleNo + 1) *
      s10_6.ring.tn10)))).1 = some 46) ∧ (Int.natAbs 46 ≤ 750)) ∧
    ((Calm s10_7) ∧ (s10_7.ring.acquired = true) ∧ (s10_7.md.mode ≠ Mode.joining) ∧ (s10_7.ring.listenOnly = true) ∧
      (s10_7.ring.ncDiffers = false) ∧ ((deltaOf (readings (s10_7.advanceTo ((s10_7.ring.cycleNo + 1) *
      s10_7.ring.tn10)))).1 = some 46) ∧ (Int.natAbs 46 ≤ 750)) ∧
    (((rated 40).ring.rateDue = true) ∧ ((rated 40).ring.deltas.length = 16) ∧ ((rated 40).ring.deltas = List.map some
      (List.replicate 16 40))) := by
  and_intros <;> decide +kernel

theorem witness_InvarActs_2 :
    (((rated (-70000)).ring.rateDue = true) ∧ ((rated (-70000)).ring.deltas.length = 16) ∧ ((rated
      (-70000)).ring.deltas = List.map some (List.replicate 16 (-70000)))) ∧
    ((s10_8.ring.listenDue = true) ∧ (s10_8.ring.listenOnly = false)) ∧
    ((s10_9.ring.listenOnly = true) ∧ (100 ≤ s10_9.ring.listenFor) ∧ (MayStop s10_9) ∧ (s10_9.servingLanes ≠ [])) := by
  and_intros <;> decide +kernel

theorem witness_RingLinks_1 :
    ((s11_1.probeWaits Port.E = true)) ∧
    (((linkW id).ring.alive = true) ∧ ((linkW id).probeWaits Port.W = false)) ∧
    ((s11_2.ring.alive = true) ∧ (s11_2.probeWaits Port.W = false)) ∧
    ((s11_3.ring.alive = true) ∧ (s11_3.probeWaits Port.W = false)) ∧
    (((linkW live).ring.alive = true) ∧ (((linkW live).ring.port Port.W).signal = true) ∧ (probeOk request9 = true) ∧
      ((linkW live).ring.acquired = true) ∧ (((linkW live).ring.port Port.W).looped = false) ∧ (leAt request9 0 1 % 16
      = 1) ∧ (Quiet (linkW live))) ∧
    (((linkW live).ring.alive = true) ∧ (((linkW live).ring.port Port.W).signal = true) ∧ (probeOk reply7 = true) ∧
      ((linkW live).ring.acquired = true) ∧ (((linkW live).ring.port Port.W).looped = false) ∧ (leAt reply7 (0 : ℕ) (1
      : ℕ) % (16 : ℕ) = (2 : ℕ)) ∧ (((linkW live).ring.port Port.W).waiting = some (7 : Byte)) ∧ (leAt reply7 (3 : ℕ)
      (1 : ℕ) = BitVec.toNat (7 : Byte)) ∧ (leAt reply7 (4 : ℕ) (2 : ℕ) ≤ (1000 : ℕ)) ∧ (((linkW live).ring.port
      Port.W).count < (64 : ℕ))) ∧
    (((linkW live).ring.alive = true) ∧ (((linkW live).ring.port Port.W).signal = true) ∧ (probeOk reply7 = true) ∧
      ((linkW live).ring.acquired = true) ∧ (((linkW live).ring.port Port.W).looped = false) ∧ (leAt reply7 (0 : ℕ) (1
      : ℕ) % (16 : ℕ) = (2 : ℕ)) ∧ (((linkW live).ring.port Port.W).waiting = some (7 : Byte)) ∧ (leAt reply7 (3 : ℕ)
      (1 : ℕ) = BitVec.toNat (7 : Byte)) ∧ (leAt reply7 (4 : ℕ) (2 : ℕ) ≤ (1102 : ℕ)) ∧ (((linkW live).ring.port
      Port.W).count < (64 : ℕ))) ∧
    (((linkW live).ring.alive = true) ∧ (((linkW live).ring.port Port.W).signal = true) ∧ (probeOk reply7 = true) ∧
      ((linkW live).ring.acquired = true) ∧ (((linkW live).ring.port Port.W).looped = false) ∧ (leAt reply7 (0 : ℕ) (1
      : ℕ) % (16 : ℕ) = (2 : ℕ)) ∧ (((linkW live).ring.port Port.W).waiting = some (7 : Byte)) ∧ (leAt reply7 (3 : ℕ)
      (1 : ℕ) = BitVec.toNat (7 : Byte)) ∧ (leAt reply7 (4 : ℕ) (2 : ℕ) ≤ (1098 : ℕ)) ∧ (((linkW live).ring.port
      Port.W).count < (64 : ℕ))) := by
  and_intros <;> decide +kernel

theorem witness_RingLinks_2 :
    ((probeOk [1, 2] = false)) ∧
    ((64 ≤ (s11_4.ring.port Port.W).count) ∧ ((s11_4.ring.port Port.W).fresh = false) ∧ ((s11_4.ring.port
      Port.W).looped = true ∨ s11_4.md.mode = Mode.joining)) ∧
    ((64 ≤ (s11_5.ring.port Port.E).count) ∧ ((s11_5.ring.port Port.E).fresh = false) ∧ ((s11_5.ring.port
      Port.E).looped = true ∨ s11_5.md.mode = Mode.joining)) ∧
    ((s11_6.ring.alive = true) ∧ ((1 : ℕ) ≤ BitVec.toNat (1 : BitVec (3 : ℕ))) ∧ (BitVec.toNat (1 : BitVec (3 : ℕ)) ≤
      (6 : ℕ)) ∧ ((s11_6.ring.port Port.W).due.getLsbD (BitVec.toNat (1 : BitVec (3 : ℕ))) = true) ∧ ((s11_6.ring.port
      Port.W).fault = false) ∧ (s11_6.ring.acquired = true)) ∧
    ((s11_7.ring.alive = true) ∧ ((1 : ℕ) ≤ BitVec.toNat (6 : BitVec (3 : ℕ))) ∧ (BitVec.toNat (6 : BitVec (3 : ℕ)) ≤
      (6 : ℕ)) ∧ ((s11_7.ring.port Port.E).due.getLsbD (BitVec.toNat (6 : BitVec (3 : ℕ))) = true) ∧ ((s11_7.ring.port
      Port.E).fault = false) ∧ (s11_7.ring.acquired = true)) ∧
    ((s11_8.ring.alive = true) ∧ ((1 : ℕ) ≤ BitVec.toNat (4 : BitVec (3 : ℕ))) ∧ (BitVec.toNat (4 : BitVec (3 : ℕ)) ≤
      (6 : ℕ)) ∧ ((s11_8.ring.port Port.E).due.getLsbD (BitVec.toNat (4 : BitVec (3 : ℕ))) = true) ∧ ((s11_8.ring.port
      Port.E).fault = false) ∧ (s11_8.ring.acquired = false) ∧ ((4 : BitVec (3 : ℕ)) = (3 : BitVec (3 : ℕ)) ∨ (4 :
      BitVec (3 : ℕ)) = (4 : BitVec (3 : ℕ)) ∨ (4 : BitVec (3 : ℕ)) = (6 : BitVec (3 : ℕ)))) ∧
    (((s11_9.ring.port Port.W).signal = false) ∧ ((s11_9.ring.port Port.W).looped = true)) ∧
    (((s11_10.ring.port Port.W).stableFrom = some 7) ∧ ((s11_10.ring.port Port.W).looped = true) ∧ ((s11_10.ring.port
      Port.W).signal = true) ∧ ((s11_10.ring.port Port.W).fresh = true) ∧ ((s11_10.ring.port Port.W).ready = false)) := by
  and_intros <;> decide +kernel

theorem witness_RingLinks_3 :
    ((((linkW agreed).ring.port Port.W).restore = some 32) ∧ (((linkW agreed).ring.port Port.W).echoed = true) ∧
      ((linkW agreed).ring.acquired = true) ∧ (((linkW agreed).ring.port (otherPort Port.W)).echoed = false)) ∧
    ((((port Port.E agreed (joined id)).ring.port Port.E).restore = some 32) ∧ (((port Port.E agreed (joined
      id)).ring.port Port.E).echoed = true) ∧ ((port Port.E agreed (joined id)).ring.acquired = true) ∧ (((port Port.E
      agreed (joined id)).ring.port (otherPort Port.E)).echoed = false)) ∧
    (((s11_11.ring.port Port.W).restore = some 32) ∧ ((s11_11.ring.port Port.W).echoed = false) ∧
      (s11_11.ring.acquired = true)) := by
  and_intros <;> decide +kernel

theorem witness_ColdStart_1 :
    (((colding 1).mayAcquire = true) ∧ ((colding 1).ring.alive = true) ∧ (BitVec.getLsbD (colding 1).sealSt.sw1 12 =
      true) ∧ ((colding 1).node ∈ (colding 1).ring.masters) ∧ ((colding 1).ring.coldExhausted = false) ∧ ((colding
      1).ring.cold = 1 ∨ (colding 1).ring.cold = 3) ∧ ((colding 1).ring.w.nAcq = false) ∧ ((colding 1).ring.e.nAcq =
      false)) ∧
    (((colding 3).mayAcquire = true) ∧ ((colding 3).ring.alive = true) ∧ (BitVec.getLsbD (colding 3).sealSt.sw1 12 =
      true) ∧ ((colding 3).node ∈ (colding 3).ring.masters) ∧ ((colding 3).ring.coldExhausted = false) ∧ ((colding
      3).ring.cold = 1 ∨ (colding 3).ring.cold = 3) ∧ ((colding 3).ring.w.nAcq = false) ∧ ((colding 3).ring.e.nAcq =
      false)) ∧
    (((colding 2).ring.cold = 2) ∧ ((colding 2).ring.ownSeen = false)) ∧
    ((impostor.ring.cold = 2) ∧ (impostor.ring.ownSeen = true) ∧ (MayStop impostor)) ∧
    ((s11_12.ring.cold = 2) ∧ (s11_12.ring.ownSeen = false)) ∧
    (((committing true true).laneMode LaneId.A = 2) ∧ (∀ (k : LaneId), (committing true true).serves k = true → k ≠
      LaneId.A → ((committing true true).lane k).ring.committed = true ∧ ((committing true true).lane k).ring.header =
      ((committing true true).lane LaneId.A).ring.header ∧ ((committing true true).lane k).ring.entries = ((committing
      true true).lane LaneId.A).ring.entries)) ∧
    (((committing false true).laneMode LaneId.A = 2) ∧ ((committing false true).serves LaneId.B = true) ∧ (LaneId.B ≠
      LaneId.A) ∧ (((committing false true).lane LaneId.B).ring.committed = false)) ∧
    ((((committing false true).updLane LaneId.C fun x => x.slUpd fun k =>
      { enable := k.enable, cfgOk := true, err := k.err, errInfo := k.errInfo, accept := k.accept, discCode := k.discCode, discOther := k.discOther, discAge := k.discAge, discOld := k.discOld, twinOk := k.twinOk, twinMissing := k.twinMissing, lastDisc := k.lastDisc, stateReg := k.stateReg, newReg := k.newReg, rx := k.rx, rxOver := k.rxOver, cut := k.cut, cutOver := k.cutOver, release := k.release, twinDue := k.twinDue }).laneMode
      LaneId.C = 2) ∧ ((((committing false true).updLane LaneId.C fun x => x.slUpd fun k =>
      { enable := k.enable, cfgOk := true, err := k.err, errInfo := k.errInfo, accept := k.accept, discCode := k.discCode, discOther := k.discOther, discAge := k.discAge, discOld := k.discOld, twinOk := k.twinOk, twinMissing := k.twinMissing, lastDisc := k.lastDisc, stateReg := k.stateReg, newReg := k.newReg, rx := k.rx, rxOver := k.rxOver, cut := k.cut, cutOver := k.cutOver, release := k.release, twinDue := k.twinDue }).lane
      LaneId.C).sl.cfgOk = true)) := by
  and_intros <;> first | decide +kernel | rfl | (intro l; cases l <;> decide +kernel)

theorem witness_ColdStart_2 :
    (((committing false true).laneMode LaneId.A = 2) ∧ (((committing false true).lane LaneId.A).sl.cfgOk = false)) ∧
    (((joined id).laneMode LaneId.A ≠ 2)) ∧
    (((app.lane LaneId.A).core.run = Run.running) ∧ ((app.lane LaneId.A).core.priv = false)) := by
  and_intros <;> decide +kernel

theorem witness_OnlineChange_1 :
    ((param2.inVoteCycle = true) ∧ (param2.pendingPackage = some (pendingOf param2)) ∧ ((pendingOf param2).posted =
      true) ∧ ((pendingOf param2).verdict = some (0, 0)) ∧ (pkgFormat (pendingOf param2).bytes = true) ∧ (∀ (l :
      LaneId), Memory.wf (param2.lane l).store.cells = true) ∧ (param2.md.step = CycleStep.agreement) ∧
      (param2.cycleReached (pendingOf param2).apply = true) ∧ (pkgKind (pendingOf param2).bytes = 1) ∧
      (param2.kindPermitted 1 = true)) ∧
    ((paramMaint.inVoteCycle = true) ∧ (paramMaint.pendingPackage = some (pendingOf paramMaint)) ∧ ((pendingOf
      paramMaint).posted = true) ∧ ((pendingOf paramMaint).verdict = some (0, 0)) ∧ (pkgFormat (pendingOf
      paramMaint).bytes = true) ∧ (∀ (l : LaneId), Memory.wf (paramMaint.lane l).store.cells = true) ∧
      (paramMaint.md.step = CycleStep.agreement) ∧ (paramMaint.cycleReached (pendingOf paramMaint).apply = true) ∧
      (pkgKind (pendingOf paramMaint).bytes = 1) ∧ (paramMaint.kindPermitted 1 = true)) ∧
    ((activate1.inVoteCycle = true) ∧ (activate1.pendingPackage = some (pendingOf activate1)) ∧ ((pendingOf
      activate1).posted = true) ∧ ((pendingOf activate1).verdict = some (0, 0)) ∧ (pkgFormat (pendingOf
      activate1).bytes = true) ∧ (∀ (l : LaneId), Memory.wf (activate1.lane l).store.cells = true) ∧
      (activate1.md.step = CycleStep.agreement) ∧ (activate1.cycleReached (pendingOf activate1).apply = true) ∧
      (pkgKind (pendingOf activate1).bytes = 3) ∧ (activate1.kindPermitted 3 = true)) ∧
    ((force3.inVoteCycle = true) ∧ (force3.pendingPackage = some (pendingOf force3)) ∧ ((pendingOf force3).posted =
      true) ∧ ((pendingOf force3).verdict = some (0, 0)) ∧ (pkgFormat (pendingOf force3).bytes = true) ∧ (∀ (l :
      LaneId), Memory.wf (force3.lane l).store.cells = true) ∧ (force3.md.step = CycleStep.agreement) ∧
      (force3.cycleReached (pendingOf force3).apply = true) ∧ (pkgKind (pendingOf force3).bytes = 4) ∧
      (force3.kindPermitted 4 = true)) ∧
    ((unforce3.inVoteCycle = true) ∧ (unforce3.pendingPackage = some (pendingOf unforce3)) ∧ ((pendingOf
      unforce3).posted = true) ∧ ((pendingOf unforce3).verdict = some (0, 0)) ∧ (pkgFormat (pendingOf unforce3).bytes
      = true) ∧ (∀ (l : LaneId), Memory.wf (unforce3.lane l).store.cells = true) ∧ (unforce3.md.step =
      CycleStep.agreement) ∧ (unforce3.cycleReached (pendingOf unforce3).apply = true) ∧ (pkgKind (pendingOf
      unforce3).bytes = 5) ∧ (unforce3.kindPermitted 5 = true)) ∧
    ((actRun.inVoteCycle = true) ∧ (actRun.pendingPackage = some (pendingOf actRun)) ∧ ((pendingOf actRun).posted =
      true) ∧ ((pendingOf actRun).verdict = some (0, 0)) ∧ (pkgFormat (pendingOf actRun).bytes = true) ∧ (∀ (l :
      LaneId), Memory.wf (actRun.lane l).store.cells = true) ∧ (actRun.md.step = CycleStep.agreement) ∧
      (actRun.cycleReached (pendingOf actRun).apply = true) ∧ (Instr.activate = Instr.parameter ∧ 3 = 1 ∨
      Instr.activate = Instr.activate ∧ 3 = 3 ∨ Instr.activate = Instr.force ∧ 3 = 4 ∨ Instr.activate = Instr.unforce
      ∧ 3 = 5) ∧ (pkgKind (pendingOf actRun).bytes = 3) ∧ (actRun.kindPermitted 3 = false)) ∧
    ((stopRun.inVoteCycle = true) ∧ (stopRun.pendingPackage = some (pendingOf stopRun)) ∧ ((pendingOf stopRun).posted
      = true) ∧ ((pendingOf stopRun).verdict = some (0, 0)) ∧ (pkgFormat (pendingOf stopRun).bytes = true) ∧ (∀ (l :
      LaneId), Memory.wf (stopRun.lane l).store.cells = true) ∧ (stopRun.cycleReached ((pendingOf stopRun).apply - 1)
      = true) ∧ (pkgKind (pendingOf stopRun).bytes = 2) ∧ (stopRun.md.mode = Mode.run) ∧ (stopRun.md.step =
      CycleStep.voted) ∧ (stopRun.md.voted = true) ∧ (stopRun.md.vital = true) ∧ (stopRun.md.gateGm = Decision.cont) ∧
      (stopRun.md.events = []) ∧ (∀ (l : LaneId), (stopRun.lane l).cyc.events = []) ∧ (stopRun.resync.shadowBad =
      false) ∧ (stopRun.resync.failed = false) ∧ (stopRun.guard.pendingReset = none) ∧ (Quiet stopRun)) ∧
    ((swapping.inVoteCycle = true) ∧ (swapping.pendingPackage = some (pendingOf swapping)) ∧ ((pendingOf
      swapping).posted = true) ∧ ((pendingOf swapping).verdict = some (0, 0)) ∧ (pkgFormat (pendingOf swapping).bytes
      = true) ∧ (∀ (l : LaneId), Memory.wf (swapping.lane l).store.cells = true) ∧ (LaneId.A ∈
      swapping.servingLanes.head?) ∧ ((swapping.lane LaneId.A).change.swapWait = some 10000000)) := by
  and_intros <;> first | decide +kernel | rfl | (intro l; cases l <;> decide +kernel)

theorem witness_ModeCommands_1 :
    (((switched Mode.stop 8192).md.mode.votes = true) ∧ ((switched Mode.stop 8192).md.holdExit = false) ∧ ((switched
      Mode.stop 8192).md.step = CycleStep.evaluation) ∧ (∀ (l : LaneId), (switched Mode.stop 8192).serves l = true →
      ((switched Mode.stop 8192).lane l).mbSec.out.length < 8)) ∧
    (((switched Mode.run 8192).md.mode.votes = true) ∧ ((switched Mode.run 8192).md.holdExit = false) ∧ ((switched
      Mode.run 8192).md.step = CycleStep.evaluation) ∧ (∀ (l : LaneId), (switched Mode.run 8192).serves l = true →
      ((switched Mode.run 8192).lane l).mbSec.out.length < 8)) ∧
    (((switched Mode.maintenance 0).md.mode.votes = true) ∧ ((switched Mode.maintenance 0).md.holdExit = false) ∧
      ((switched Mode.maintenance 0).md.step = CycleStep.evaluation) ∧ (∀ (l : LaneId), (switched Mode.maintenance
      0).serves l = true → ((switched Mode.maintenance 0).lane l).mbSec.out.length < 8)) ∧
    (((switched Mode.stop 16384).md.mode.votes = true) ∧ ((switched Mode.stop 16384).md.holdExit = false) ∧ ((switched
      Mode.stop 16384).md.step = CycleStep.evaluation) ∧ (∀ (l : LaneId), (switched Mode.stop 16384).serves l = true →
      ((switched Mode.stop 16384).lane l).mbSec.out.length < 8)) ∧
    (((outC (switched Mode.maintenance (8192 : Half))).md.mode.votes = true) ∧ ((outC (switched Mode.maintenance (8192
      : Half))).md.holdExit = false) ∧ ((outC (switched Mode.maintenance (8192 : Half))).md.step =
      CycleStep.evaluation) ∧ (∀ (l : LaneId), (outC (switched Mode.maintenance (8192 : Half))).serves l = true →
      ((outC (switched Mode.maintenance (8192 : Half))).lane l).mbSec.out.length < (8 : ℕ)) ∧ (BitVec.toNat (2 :
      BitVec (24 : ℕ)) ≤ (2 : ℕ)) ∧ ((outC (switched Mode.maintenance (8192 : Half))).md.mode = Mode.maintenance) ∧
      (BitVec.getLsbD (outC (switched Mode.maintenance (8192 : Half))).sealSt.sw1 (13 : ℕ) = true) ∧ ((outC (switched
      Mode.maintenance (8192 : Half))).servingLanes.length = (2 : ℕ)) ∧ (∀ (k : LaneId), BitVec.toNat (2 : BitVec (24
      : ℕ)) = k.num → (outC (switched Mode.maintenance (8192 : Half))).serves k = false)) ∧
    (((outC (switched Mode.stop (8192 : Half))).md.mode.votes = true) ∧ ((outC (switched Mode.stop (8192 :
      Half))).md.holdExit = false) ∧ ((outC (switched Mode.stop (8192 : Half))).md.step = CycleStep.evaluation) ∧ (∀
      (l : LaneId), (outC (switched Mode.stop (8192 : Half))).serves l = true → ((outC (switched Mode.stop (8192 :
      Half))).lane l).mbSec.out.length < (8 : ℕ)) ∧ (BitVec.toNat (2 : BitVec (24 : ℕ)) ≤ (2 : ℕ)) ∧ ((outC (switched
      Mode.stop (8192 : Half))).md.mode ≠ Mode.maintenance)) ∧
    ((swapReady.md.mode.votes = true) ∧ (swapReady.md.holdExit = false) ∧ (swapReady.md.step = CycleStep.evaluation) ∧
      (∀ (l : LaneId), swapReady.serves l = true → (swapReady.lane l).mbSec.out.length < 8) ∧ (2 ≤
      swapReady.servingLanes.length) ∧ (swapReady.guard.priming = Priming.done) ∧ (swapReady.guard.level
      Source.laneRequest = Level.sy) ∧ (swapReady.guard.pendingReset = none) ∧ (∀ (l : LaneId), (swapReady.lane
      l).reqSy = none) ∧ (∀ (l : LaneId), swapReady.serves l = true → swapReady.swapAwaited (swapReady.lane l) =
      true)) ∧
    ((released.md.mode = Mode.maintenance) ∧ (BitVec.getLsbD released.sealSt.sw1 13 = true) ∧ (LaneId.B ≠ LaneId.C)) := by
  and_intros <;> first | decide +kernel | rfl | (intro l; cases l <;> decide +kernel)

theorem witness_ModeCommands_2 :
    (((outC (switched Mode.maintenance 8192)).md.mode = Mode.maintenance) ∧ (BitVec.getLsbD (outC (switched
      Mode.maintenance 8192)).sealSt.sw1 13 = true) ∧ (LaneId.B ≠ LaneId.C)) ∧
    (((switched Mode.stop (8192 : Half)).md.mode ≠ Mode.maintenance ∨ BitVec.toNat (42242 : Word) / (256 : ℕ) % (256 :
      ℕ) ≠ (165 : ℕ))) ∧
    ((BitVec.toNat (49921 : Word) / (256 : ℕ) % (256 : ℕ) = (195 : ℕ)) ∧ (BitVec.toNat (49921 : Word) % (256 : ℕ) = (1
      : ℕ)) ∧ ((switched Mode.hold (16384 : Half)).md.mode = Mode.hold) ∧ (BitVec.getLsbD (switched Mode.hold (16384 :
      Half)).sealSt.sw1 (14 : ℕ) = true) ∧ (ModeEvent.holdReleased ∉ (switched Mode.hold (16384 : Half)).md.events)) ∧
    ((BitVec.toNat (50177 : Word) / (256 : ℕ) % (256 : ℕ) ≠ (195 : ℕ))) ∧
    (((app.lane LaneId.A).core.run = Run.running) ∧ ((app.lane LaneId.A).core.priv = false)) := by
  and_intros <;> decide +kernel

theorem witness_Debugger_1 :
    ((Takes heldApp LaneId.A (Instr.brk LaneId.A)) ∧ (heldApp.md.mode = Mode.hold) ∧ ((heldApp.lane
      LaneId.A).core.intrap = false) ∧ ((heldApp.lane LaneId.A).core.priv = false) ∧ (Calm heldApp)) ∧
    ((runs.laneMode LaneId.B = 8) ∧ ((runs.lane LaneId.B).core.run = Run.running)) ∧
    ((heldA.laneMode LaneId.A = 8) ∧ ((heldA.lane LaneId.A).core.run = Run.debug) ∧ ((heldA.lane LaneId.A).keptIllegal
      LaneId.A = none)) ∧
    ((heldA.laneMode LaneId.A = 8) ∧ ((heldA.lane LaneId.A).core.run = Run.debug) ∧ ((heldA.lane LaneId.A).keptIllegal
      LaneId.A = none) ∧ (7 ≠ 0)) ∧
    ((heldBrk.laneMode LaneId.A = 8) ∧ ((heldBrk.lane LaneId.A).core.run = Run.debug) ∧ ((heldBrk.lane
      LaneId.A).keptIllegal LaneId.A = none)) ∧
    ((heldBrk.laneMode LaneId.A = 8) ∧ ((heldBrk.lane LaneId.A).core.run = Run.debug) ∧ ((heldBrk.lane
      LaneId.A).keptIllegal LaneId.A = none) ∧ (7 ≠ 0)) ∧
    ((heldBad.laneMode LaneId.A = 8) ∧ ((heldBad.lane LaneId.A).core.run = Run.debug) ∧ ((heldBad.lane
      LaneId.A).keptIllegal LaneId.A = some 0)) ∧
    ((heldBad.laneMode LaneId.A = 8) ∧ ((heldBad.lane LaneId.A).core.run = Run.debug) ∧ ((heldBad.lane
      LaneId.A).keptIllegal LaneId.A = some 0) ∧ (7 ≠ 0)) := by
  and_intros <;> decide +kernel

theorem witness_Debugger_2 :
    ((heldA.laneMode LaneId.A = 8) ∧ ((heldA.lane LaneId.A).core.run = Run.debug) ∧ (heldA.chg.busy = false)) ∧
    ((heldA.laneMode LaneId.A = 8) ∧ ((heldA.lane LaneId.A).core.run = Run.debug)) ∧
    ((heldA.laneMode LaneId.A = (8 : ℕ)) ∧ ((heldA.lane LaneId.A).core.run = Run.debug) ∧ ((heldA.lane
      LaneId.A).core.readCr (BitVec.toNat (2 : Word)) = some (136 : Word))) ∧
    ((heldA.laneMode LaneId.A = (8 : ℕ)) ∧ ((heldA.lane LaneId.A).core.run = Run.debug) ∧ (BitVec.toNat (256 : Word) %
      (4 : ℕ) = (0 : ℕ)) ∧ (BitVec.toNat (256 : Word) < storeTop)) ∧
    ((heldA.laneMode LaneId.A = 8) ∧ ((heldA.lane LaneId.A).codeWord 256 = true) ∧ ((heldA.lane LaneId.A).hasBreak 256
      = false) ∧ ((heldA.lane LaneId.A).blk.breakpoints.length < 32)) ∧
    ((heldBrk.laneMode LaneId.A = 8) ∧ (List.find? (fun b => decide (b.1 = 260)) (heldBrk.lane
      LaneId.A).blk.breakpoints = some (260, 5))) ∧
    ((app.laneMode LaneId.A ≠ 8) ∧ (Instr.step LaneId.A 5 ∈ [Instr.laneDbgHalt LaneId.A, Instr.resume LaneId.A,
      Instr.step LaneId.A 5, Instr.nextCycle LaneId.A])) ∧
    ((app.laneMode LaneId.A ≠ 8) ∧ (Instr.writeMem LaneId.A 5 7 ∈ [Instr.readReg LaneId.A 5, Instr.writeReg LaneId.A 5
      7, Instr.readCr LaneId.A 5, Instr.writeCr LaneId.A 5 7, Instr.readMem LaneId.A 5, Instr.writeMem LaneId.A 5 7,
      Instr.setBrk LaneId.A 5, Instr.clearBrk LaneId.A 5])) := by
  and_intros <;> decide +kernel

theorem witness_Debugger_3 :
    ((app.laneMode LaneId.A ≠ 8) ∧ (Instr.setBrk LaneId.A 5 ∈ [Instr.readReg LaneId.A 5, Instr.writeReg LaneId.A 5 7,
      Instr.readCr LaneId.A 5, Instr.writeCr LaneId.A 5 7, Instr.readMem LaneId.A 5, Instr.writeMem LaneId.A 5 7,
      Instr.setBrk LaneId.A 5, Instr.clearBrk LaneId.A 5])) ∧
    ((Takes atBrk LaneId.A (Instr.brk LaneId.A)) ∧ (atBrk.md.mode = Mode.hold) ∧ ((atBrk.lane LaneId.A).core.intrap =
      false) ∧ ((atBrk.lane LaneId.A).core.priv = false) ∧ (Calm atBrk)) := by
  and_intros <;> decide +kernel

theorem witness_Mailboxes_1 :
    (((((mail Channel.secure full app).lane LaneId.A).chan Channel.secure).inq = [1, 2, 3, 4, 5, 6, 7, 8]) ∧ ([2, 3,
      4, 5, 6, 7, 8] ≠ [] ∨ (((mail Channel.secure full app).lane LaneId.A).chan Channel.secure).hidden ≠ [] ∨ (((mail
      Channel.secure full app).lane LaneId.A).chan Channel.secure).emptySvc = false)) ∧
    (((((mail Channel.secure one app).lane LaneId.A).chan Channel.secure).inq = [6]) ∧ (([] : List Word) = []) ∧
      ((((mail Channel.secure one app).lane LaneId.A).chan Channel.secure).hidden = []) ∧ ((((mail Channel.secure one
      app).lane LaneId.A).chan Channel.secure).emptySvc = true)) ∧
    ((((app.lane LaneId.A).chan Channel.secure).inq = [])) ∧
    (((((mail Channel.secure one app).lane LaneId.A).chan Channel.secure).out = [7]) ∧ (([] : List Word) ≠ [] ∨
      (((mail Channel.secure one app).lane LaneId.A).chan Channel.secure).emptyLane = false)) ∧
    (((((mail Channel.nonSecure full app).lane LaneId.A).chan Channel.nonSecure).out.length = 8) ∧ ((((mail
      Channel.nonSecure full app).lane LaneId.A).chan Channel.nonSecure).inq.length = 8) ∧ ((((mail Channel.nonSecure
      full app).lane LaneId.A).chan Channel.nonSecure).emptyLane = true) ∧ ((((mail Channel.nonSecure full app).lane
      LaneId.A).chan Channel.nonSecure).emptySvc = true)) ∧
    ((∀ (k : LaneId), (outC app).serves k = true → ((outC app).lane k).mbSec.inq.length + ((outC app).lane
      k).mbSec.hidden.length < 8)) ∧
    (((mail Channel.secure full app).serves LaneId.A = true) ∧ (8 ≤ ((mail Channel.secure full app).lane
      LaneId.A).mbSec.inq.length + ((mail Channel.secure full app).lane LaneId.A).mbSec.hidden.length)) ∧
    ((61 ≠ 60)) := by
  and_intros <;> first | decide +kernel | rfl | (intro l; cases l <;> decide +kernel)

theorem witness_Mailboxes_2 :
    ((View.service LaneId.A false = View.runtime LaneId.A ∧ 3 = 1 ∨ View.service LaneId.A false = View.service
      LaneId.A true ∧ 3 = 2 ∨ View.service LaneId.A false = View.service LaneId.A false ∧ 3 = 3) ∧ ((locks.lane
      LaneId.A).sema.owner[5] = 0)) ∧
    ((View.runtime LaneId.A = View.runtime LaneId.A ∧ 1 = 1 ∨ View.runtime LaneId.A = View.service LaneId.A true ∧ 1 =
      2 ∨ View.runtime LaneId.A = View.service LaneId.A false ∧ 1 = 3) ∧ ((locks.lane LaneId.A).sema.owner[3] ≠ 0)) ∧
    ((View.service LaneId.A true = View.runtime LaneId.A ∧ 2 = 1 ∨ View.service LaneId.A true = View.service LaneId.A
      true ∧ 2 = 2 ∨ View.service LaneId.A true = View.service LaneId.A false ∧ 2 = 3)) ∧
    ((View.runtime LaneId.A = View.runtime LaneId.A ∧ 1 = 1 ∨ View.runtime LaneId.A = View.service LaneId.A true ∧ 1 =
      2 ∨ View.runtime LaneId.A = View.service LaneId.A false ∧ 1 = 3)) ∧
    (((app.lane LaneId.A).core.run = Run.running) ∧ ((app.lane LaneId.A).core.priv = false) ∧ (Channel.secure =
      Channel.secure)) := by
  and_intros <;> decide +kernel

theorem witness_MaintenanceSessions_1 :
    ((viewer.svcUp = true) ∧ (hello.port = 50419) ∧ (hello.version = TlsVersion.tls13) ∧ (hello.cipher ≠
      CipherSuite.other) ∧ (hello.exchange = KeyExchange.x25519) ∧ (hello.scheme = SignatureScheme.ed25519) ∧
      (hello.resumed = false) ∧ (hello.preShared = false) ∧ (hello.earlyData = false) ∧ (viewer.clientMask 9 = some 1)
      ∧ (viewer.svc.freeSession = some ↑0)) ∧
    ((viewer.svcUp = true) ∧ (hello.port ≠ 50419 ∨ hello.version ≠ TlsVersion.tls13 ∨ hello.cipher = CipherSuite.other
      ∨ hello.exchange ≠ KeyExchange.x25519 ∨ hello.scheme ≠ SignatureScheme.ed25519 ∨ hello.resumed = true ∨
      hello.preShared = true ∨ hello.earlyData = true ∨ none.bind viewer.clientMask = none ∨ viewer.svc.freeSession =
      none)) ∧
    ((viewer.svcUp = true) ∧
      ({ port := hello.port, version := TlsVersion.other, cipher := hello.cipher, exchange := hello.exchange, scheme := hello.scheme, resumed := hello.resumed, preShared := hello.preShared, earlyData := hello.earlyData, transcript := hello.transcript : Handshake }.port
      ≠ (50419 : BitVec (16 : ℕ)) ∨
      { port := hello.port, version := TlsVersion.other, cipher := hello.cipher, exchange := hello.exchange, scheme := hello.scheme, resumed := hello.resumed, preShared := hello.preShared, earlyData := hello.earlyData, transcript := hello.transcript : Handshake }.version
      ≠ TlsVersion.tls13 ∨
      { port := hello.port, version := TlsVersion.other, cipher := hello.cipher, exchange := hello.exchange, scheme := hello.scheme, resumed := hello.resumed, preShared := hello.preShared, earlyData := hello.earlyData, transcript := hello.transcript : Handshake }.cipher
      = CipherSuite.other ∨
      { port := hello.port, version := TlsVersion.other, cipher := hello.cipher, exchange := hello.exchange, scheme := hello.scheme, resumed := hello.resumed, preShared := hello.preShared, earlyData := hello.earlyData, transcript := hello.transcript : Handshake }.exchange
      ≠ KeyExchange.x25519 ∨
      { port := hello.port, version := TlsVersion.other, cipher := hello.cipher, exchange := hello.exchange, scheme := hello.scheme, resumed := hello.resumed, preShared := hello.preShared, earlyData := hello.earlyData, transcript := hello.transcript : Handshake }.scheme
      ≠ SignatureScheme.ed25519 ∨
      { port := hello.port, version := TlsVersion.other, cipher := hello.cipher, exchange := hello.exchange, scheme := hello.scheme, resumed := hello.resumed, preShared := hello.preShared, earlyData := hello.earlyData, transcript := hello.transcript : Handshake }.resumed
      = true ∨
      { port := hello.port, version := TlsVersion.other, cipher := hello.cipher, exchange := hello.exchange, scheme := hello.scheme, resumed := hello.resumed, preShared := hello.preShared, earlyData := hello.earlyData, transcript := hello.transcript : Handshake }.preShared
      = true ∨
      { port := hello.port, version := TlsVersion.other, cipher := hello.cipher, exchange := hello.exchange, scheme := hello.scheme, resumed := hello.resumed, preShared := hello.preShared, earlyData := hello.earlyData, transcript := hello.transcript : Handshake }.earlyData
      = true ∨ (some (9 : BitVec (256 : ℕ))).bind viewer.clientMask = none ∨ viewer.svc.freeSession = none)) ∧
    ((viewer.svcUp = true) ∧ (viewer.svc.sessions[1] = some (sess 1 false))) ∧
    ((viewer.svcUp = true) ∧ (viewer.svc.sessions[1] = some (sess 1 false)) ∧ (serviceOf (Instr.packageStage 1 5 [1])
      = some (1, 5, 48, [1], true)) ∧ ((∃ b ∈ [1], BitVec.getLsbD (sess 1 false).mask b = false) ∨ true = true ∧ (sess
      1 false).control = false)) ∧
    (((session1 63 false).svcUp = true) ∧ ((session1 63 false).svc.sessions[1] = some (sess 63 false)) ∧ (serviceOf
      (Instr.svcOtpBurn 1 5 Burn.svn) = some (1, 5, 112, [2, 5], true)) ∧ ((∃ b ∈ [2, 5], BitVec.getLsbD (sess 63
      false).mask b = false) ∨ true = true ∧ (sess 63 false).control = false)) ∧
    ((viewer.svcUp = true) ∧ (viewer.svc.sessions[1] = some (sess 1 false)) ∧ (BitVec.getLsbD (sess 1 false).mask 0 =
      true)) ∧
    ((viewer.svcUp = true) ∧ (viewer.svc.sessions[1] = some (sess 1 false)) ∧ (BitVec.getLsbD (sess 1 false).mask 0 =
      true) ∧ (askBytes.length = 20) ∧ (leAt askBytes 16 1 < 8) ∧ (leAt askBytes 17 1 = 0) ∧ (1 ≤ leAt askBytes 18 2)
      ∧ (leAt askBytes 18 2 ≤ 2047)) := by
  and_intros <;> decide +kernel

theorem witness_MaintenanceSessions_2 :
    ((viewer.svcUp = true) ∧ (viewer.svc.sessions[1] = some (sess 1 false)) ∧ (BitVec.getLsbD (sess 1 false).mask 0 =
      true) ∧ (6 ≠ 0) ∧ (viewer.recentQuotes.length < 10) ∧ (viewer.svc.asked = []) ∧ (viewer.quoteTime = true)) ∧
    ((busyQuotes.svcUp = true) ∧ (busyQuotes.svc.sessions[1] = some (sess 1 false)) ∧ (BitVec.getLsbD (sess 1
      false).mask 0 = true) ∧ (8 ≠ 0) ∧ (10 ≤ busyQuotes.recentQuotes.length)) ∧
    (((session1 2 false).svcUp = true) ∧ ((session1 2 false).svc.sessions[1] = some (sess 2 false)) ∧ ((sess 2
      false).mask &&& 62 ≠ 0) ∧ ((session1 2 false).controlled = false ∨ (sess 2 false).control = true)) ∧
    ((other.svcUp = true) ∧ (other.svc.sessions[1] = some (sess 2 false)) ∧ ((sess 2 false).mask &&& 62 ≠ 0) ∧
      (other.controlled = true) ∧ ((sess 2 false).control = false)) ∧
    ((operator.svcUp = true) ∧ (operator.svc.sessions[1] = some (sess 63 true)) ∧ ((sess 63 true).mask &&& 62 ≠ 0) ∧
      ((sess 63 true).control = true)) ∧
    ((operator.svcUp = true) ∧ (operator.svc.sessions[1] = some (sess 63 true)) ∧ ((sess 63 true).control = true) ∧
      (BitVec.getLsbD (sess 63 true).mask 4 = true) ∧ (1 ≤ [2, 0, 0, 0].length) ∧ ([2, 0, 0, 0].length ≤ 65536) ∧
      (Memory.wf operator.svc.flash = true) ∧ (operator.uploadOpen ImageTarget.slotB = true) ∧ (4 + [2, 0, 0,
      0].length ≤ imageSpace ImageType.station) ∧ (4 < 12 ∧ headBroken ImageType.station 4 [2, 0, 0, 0].length
      ((operator.svc.upload ImageTarget.slotB ImageType.station 4 [2, 0, 0, 0]).bytes (operator.svc.target
      ImageTarget.slotB + imageOffset ImageType.station) 192) = true)) ∧
    ((operator.svcUp = true) ∧ (operator.svc.sessions[1] = some (sess 63 true)) ∧ ((sess 63 true).control = true) ∧
      (BitVec.getLsbD (sess 63 true).mask 4 = true) ∧ (1 ≤ [2, 0, 0, 0].length) ∧ ([2, 0, 0, 0].length ≤ 65536) ∧
      (Memory.wf operator.svc.flash = true) ∧ (operator.uploadOpen ImageTarget.slotB = true) ∧ (imageSpace
      ImageType.station < 33554430 + [2, 0, 0, 0].length)) ∧
    ((operator.svcUp = true) ∧ (operator.svc.sessions[1] = some (sess 63 true)) ∧ ((sess 63 true).control = true) ∧
      (BitVec.getLsbD (sess 63 true).mask 4 = true) ∧ (1 ≤ [1, 2, 255, 4].length) ∧ ([1, 2, 255, 4].length ≤ 65536) ∧
      (Memory.wf operator.svc.flash = true) ∧ (operator.uploadOpen ImageTarget.slotB = true) ∧ (12 + [1, 2, 255,
      4].length ≤ imageSpace ImageType.station) ∧ (¬(12 < 12 ∧ headBroken ImageType.station 12 [1, 2, 255, 4].length
      ((operator.svc.upload ImageTarget.slotB ImageType.station 12 [1, 2, 255, 4]).bytes (operator.svc.target
      ImageTarget.slotB + imageOffset ImageType.station) 192) = true))) := by
  and_intros <;> decide +kernel

theorem witness_MaintenanceSessions_3 :
    ((operator.svcUp = true) ∧ (operator.svc.sessions[1] = some (sess 63 true)) ∧ ((sess 63 true).control = true) ∧
      (BitVec.getLsbD (sess 63 true).mask 4 = true) ∧ (1 ≤ [13].length) ∧ ([13].length ≤ 65536) ∧ (Memory.wf
      operator.svc.flash = true) ∧ (operator.uploadOpen ImageTarget.slotB = true) ∧ (0 + [13].length ≤ imageSpace
      ImageType.station) ∧ (¬(0 < 12 ∧ headBroken ImageType.station 0 [13].length ((operator.svc.upload
      ImageTarget.slotB ImageType.station 0 [13]).bytes (operator.svc.target ImageTarget.slotB + imageOffset
      ImageType.station) 192) = true))) ∧
    ((operator.svcUp = true) ∧ (operator.svc.sessions[1] = some (sess 63 true)) ∧ ((sess 63 true).control = true) ∧
      (BitVec.getLsbD (sess 63 true).mask 4 = true) ∧ (1 ≤ [1, 2, 255, 4].length) ∧ ([1, 2, 255, 4].length ≤ 65536) ∧
      (Memory.wf operator.svc.flash = true) ∧ (operator.uploadOpen ImageTarget.s1 = false)) ∧
    ((operator.svcUp = true) ∧ (operator.svc.sessions[1] = some (sess 63 true)) ∧ ((sess 63 true).control = true) ∧
      (BitVec.getLsbD (sess 63 true).mask 4 = true) ∧ (dirFormat false endorsing = true) ∧ (Memory.wf
      operator.svc.flash = true)) ∧
    ((operator.svcUp = true) ∧ (operator.svc.sessions[1] = some (sess 63 true)) ∧ ((sess 63 true).control = true) ∧
      (BitVec.getLsbD (sess 63 true).mask 1 = true) ∧ (1 ≤ endorsing.length) ∧ (endorsing.length ≤ 1024) ∧
      (endorsing.length % 4 = 0) ∧ (forceKind (pkgKind endorsing) = false) ∧ (operator.chg.armed = false) ∧
      (operator.chg.busy = false)) ∧
    ((staged.svcUp = true) ∧ (staged.svc.sessions[1] = some (sess 63 true)) ∧ ((sess 63 true).control = true) ∧
      (BitVec.getLsbD (sess 63 true).mask 1 = true) ∧ (1 ≤ endorsing.length) ∧ (endorsing.length ≤ 1024) ∧
      (endorsing.length % 4 = 0) ∧ (forceKind (pkgKind endorsing) = false) ∧ (staged.chg.busy = true)) ∧
    ((operator.svcUp = true) ∧ (operator.svc.sessions[1] = some (sess 63 true)) ∧ ((sess 63 true).control = true) ∧ (∀
      (l : LaneId), operator.serves l = true → (operator.lane l).mbSec.inq.length + (operator.lane
      l).mbSec.hidden.length < 8) ∧ (BitVec.getLsbD (sess 63 true).mask 2 = true)) ∧
    ((operator.svcUp = true) ∧ (operator.svc.sessions[1] = some (sess 63 true)) ∧ ((sess 63 true).control = true) ∧ (∀
      (l : LaneId), operator.serves l = true → (operator.lane l).mbSec.inq.length + (operator.lane
      l).mbSec.hidden.length < 8) ∧ (BitVec.getLsbD (sess 63 true).mask 3 = true)) ∧
    ((operator.svcUp = true) ∧ (operator.svc.sessions[1] = some (sess 63 true)) ∧ ((sess 63 true).control = true) ∧
      (BitVec.getLsbD (sess 63 true).mask 3 = true)) := by
  and_intros <;> first | decide +kernel | rfl | (intro l; cases l <;> decide +kernel)

theorem witness_MaintenanceSessions_4 :
    ((holding1.svcUp = true) ∧ (holding1.svc.sessions[1] = some (sess 63 true)) ∧ ((sess 63 true).control = true) ∧
      (BitVec.getLsbD (sess 63 true).mask 3 = true)) ∧
    ((operator.svcUp = true) ∧ (operator.svc.sessions[1] = some (sess 63 true)) ∧ ((sess 63 true).control = true) ∧
      (BitVec.getLsbD (sess 63 true).mask 2 = true)) ∧
    ((operator.svcUp = true) ∧ (operator.svc.sessions[1] = some (sess 63 true)) ∧ ((sess 63 true).control = true) ∧
      (BitVec.getLsbD (sess 63 true).mask 2 = true) ∧ (BitVec.getLsbD (sess 63 true).mask 5 = true) ∧ ((traffic
      operator 1 (sess 63 true)).doBurn Burn.svn = none)) := by
  and_intros <;> decide +kernel

theorem witness_LaneReports_1 :
    ((verdicts.svcUp = true) ∧ (Memory.wf verdicts.svc.flash = true) ∧ (TwoReport verdicts LaneId.A LaneId.C
      [(1392508929 : Word), (9 : Word)]) ∧ ([(1392508929 : Word), (9 : Word)] = [(1392508929 : Word), (9 : Word)]) ∧
      (BitVec.toNat (1392508929 : Word) / (2 : ℕ) ^ (24 : ℕ) = (83 : ℕ))) ∧
    ((applying.svcUp = true) ∧ (Memory.wf applying.svc.flash = true) ∧ (TwoReport applying LaneId.A LaneId.C
      [(2147483649 : Word), (9 : Word)]) ∧ ([(2147483649 : Word), (9 : Word)] = [(2147483649 : Word), (9 : Word)]) ∧
      (BitVec.toNat (2147483649 : Word) / (2 : ℕ) ^ (24 : ℕ) = (128 : ℕ)) ∧ (applying.svc.packages = [(some (1 : ℕ),
      package9)]) ∧ (packageKind package9 = (1 : ℕ)) ∧ (packageSequence package9 = (9 : Word)) ∧ (pkgLength package9 ≤
      (1020 : ℕ)) ∧ (pkgLength package9 ≤ package9.length) ∧ ((applying.svc.journal applying.svc.slotA).length < (256
      : ℕ))) ∧
    ((unstaged.svcUp = true) ∧ (Memory.wf unstaged.svc.flash = true) ∧ (TwoReport unstaged LaneId.A LaneId.C
      [(2147483649 : Word), (9 : Word)]) ∧ ([(2147483649 : Word), (9 : Word)] = [(2147483649 : Word), (9 : Word)]) ∧
      (BitVec.toNat (2147483649 : Word) / (2 : ℕ) ^ (24 : ℕ) = (128 : ℕ)) ∧ (List.find? (stagedAs (1 : ℕ) (9 : Word))
      unstaged.svc.packages = none)) ∧
    ((activating.svcUp = true) ∧ (Memory.wf activating.svc.flash = true) ∧ (TwoReport activating LaneId.A LaneId.C
      [(2181042544 : Word)]) ∧ ([(2181042544 : Word)] = [(2181042544 : Word)]) ∧ (activating.svc.rewrite = none) ∧
      (BitVec.toNat (2181042544 : Word) / (2 : ℕ) ^ (24 : ℕ) = (130 : ℕ))) ∧
    ((ending.svcUp = true) ∧ (Memory.wf ending.svc.flash = true) ∧ (TwoReport ending LaneId.A LaneId.C [2214592512]) ∧
      ([2214592512] = [2214592512]) ∧ (ending.svc.rewrite = none) ∧ (2214592512 = 2214592512)) ∧
    ((failing1.svcUp = true) ∧ (Memory.wf failing1.svc.flash = true) ∧ (TwoReport failing1 LaneId.A LaneId.C
      [2231369728]) ∧ ([2231369728] = [2231369728]) ∧ (failing1.svc.rewrite = none) ∧ (2231369728 = 2231369728)) ∧
    ((answering.svcUp = true) ∧ (Memory.wf answering.svc.flash = true) ∧ (TwoReport answering LaneId.A LaneId.C
      [(2197815553 : Word)]) ∧ ([(2197815553 : Word)] = [(2197815553 : Word)]) ∧ (BitVec.toNat (2197815553 : Word) /
      (2 : ℕ) ^ (24 : ℕ) = (131 : ℕ)) ∧ (answering.svc.awaited = some
      { session := (2 : ℕ), service := (64 : Half), req := (6 : Word), code := (1 : ℕ) : Awaited }) ∧ (BitVec.toNat
      (2197815553 : Word) / (256 : ℕ) % (256 : ℕ) =
      { session := (2 : ℕ), service := (64 : Half), req := (6 : Word), code := (1 : ℕ) : Awaited }.code)) ∧
    ((rewriting.svcUp = true) ∧ (Memory.wf rewriting.svc.flash = true) ∧ (rewriting.svc.rewrite = some
      { region := true, trial := true, swap := true }) ∧ (rewriting.svc.desig.counter + 1 < 2 ^ 32)) := by
  and_intros <;> decide +kernel

theorem witness_LaneReports_2 :
    ((alone.svcUp = true) ∧ (Memory.wf alone.svc.flash = true) ∧ ((alone.lane LaneId.B).mbSec.out = [(1392508929 :
      Word), (9 : Word)]) ∧ (BitVec.toNat (1392508929 : Word) / (2 : ℕ) ^ (24 : ℕ) = (83 : ℕ)) ∧ (∀ (k : LaneId), k ≠
      LaneId.B → (alone.lane k).mbSec.out = [])) := by
  and_intros <;> first | decide +kernel | rfl | (intro l; cases l <;> decide +kernel)

theorem witness_CheckValueUnits_1 :
    ((View.app LaneId.A = View.runtime LaneId.A ∨ View.app LaneId.A = View.app LaneId.A) ∧ ((idleUnit.lane
      LaneId.A).cvu[2].state = 0) ∧ (decide (1 ≤ BitVec.toNat (idleUnit.lane LaneId.A).cvu[2].ctrl % 128 ∧
      BitVec.toNat (idleUnit.lane LaneId.A).cvu[2].ctrl % 128 ≤ 64 ∧ BitVec.toNat (idleUnit.lane LaneId.A).cvu[2].ctrl
      / 2 ^ 12 % 4 ≠ 3 ∧ (BitVec.toNat (idleUnit.lane LaneId.A).cvu[2].ctrl / 2 ^ 12 % 4 = 0 ∨ BitVec.toNat
      (idleUnit.lane LaneId.A).cvu[2].ctrl % 128 % 8 = 0) ∧ BitVec.toNat (idleUnit.lane LaneId.A).cvu[2].poly < 2 ^
      (BitVec.toNat (idleUnit.lane LaneId.A).cvu[2].ctrl % 128) ∧ BitVec.toNat (idleUnit.lane LaneId.A).cvu[2].init <
      2 ^ (BitVec.toNat (idleUnit.lane LaneId.A).cvu[2].ctrl % 128) ∧ BitVec.toNat (idleUnit.lane LaneId.A).cvu[2].xor
      < 2 ^ (BitVec.toNat (idleUnit.lane LaneId.A).cvu[2].ctrl % 128)) = true)) ∧
    ((View.app LaneId.A = View.runtime LaneId.A ∨ View.app LaneId.A = View.app LaneId.A) ∧ ((badUnit.lane
      LaneId.A).cvu[2].state = 0) ∧ (decide (1 ≤ BitVec.toNat (badUnit.lane LaneId.A).cvu[2].ctrl % 128 ∧ BitVec.toNat
      (badUnit.lane LaneId.A).cvu[2].ctrl % 128 ≤ 64 ∧ BitVec.toNat (badUnit.lane LaneId.A).cvu[2].ctrl / 2 ^ 12 % 4 ≠
      3 ∧ (BitVec.toNat (badUnit.lane LaneId.A).cvu[2].ctrl / 2 ^ 12 % 4 = 0 ∨ BitVec.toNat (badUnit.lane
      LaneId.A).cvu[2].ctrl % 128 % 8 = 0) ∧ BitVec.toNat (badUnit.lane LaneId.A).cvu[2].poly < 2 ^ (BitVec.toNat
      (badUnit.lane LaneId.A).cvu[2].ctrl % 128) ∧ BitVec.toNat (badUnit.lane LaneId.A).cvu[2].init < 2 ^
      (BitVec.toNat (badUnit.lane LaneId.A).cvu[2].ctrl % 128) ∧ BitVec.toNat (badUnit.lane LaneId.A).cvu[2].xor < 2 ^
      (BitVec.toNat (badUnit.lane LaneId.A).cvu[2].ctrl % 128)) = false)) ∧
    ((View.app LaneId.A = View.runtime LaneId.A ∨ View.app LaneId.A = View.app LaneId.A) ∧ ((badUnit.lane
      LaneId.A).cvu[2].state = 0)) ∧
    ((View.runtime LaneId.A = View.runtime LaneId.A ∨ View.runtime LaneId.A = View.app LaneId.A) ∧ ((active32.lane
      LaneId.A).cvu[2].state ≠ 0)) ∧
    ((View.runtime LaneId.A = View.runtime LaneId.A ∨ View.runtime LaneId.A = View.app LaneId.A)) ∧
    ((View.app LaneId.A = View.runtime LaneId.A ∨ View.app LaneId.A = View.app LaneId.A) ∧ ((active32.lane
      LaneId.A).cvu[2].state = 1 ∨ (active32.lane LaneId.A).cvu[2].state = 2 ∧ BitVec.toNat (active32.lane
      LaneId.A).cvu[2].ctrl / 2 ^ 12 % 4 = 0) ∧ (BitVec.toNat (active32.lane LaneId.A).cvu[2].ctrl / 2 ^ 12 % 4 ≠ 2) ∧
      (1 ≤ BitVec.toNat (active32.lane LaneId.A).cvu[2].ctrl % 128) ∧ (BitVec.toNat (active32.lane
      LaneId.A).cvu[2].ctrl % 128 ≤ 64) ∧ (BitVec.toNat (active32.lane LaneId.A).cvu[2].value < 2 ^ (BitVec.toNat
      (active32.lane LaneId.A).cvu[2].ctrl % 128)) ∧ (BitVec.toNat (active32.lane LaneId.A).cvu[2].poly < 2 ^
      (BitVec.toNat (active32.lane LaneId.A).cvu[2].ctrl % 128))) ∧
    ((View.app LaneId.A = View.runtime LaneId.A ∨ View.app LaneId.A = View.app LaneId.A) ∧ ((ready32.lane
      LaneId.A).cvu[2].state = 1 ∨ (ready32.lane LaneId.A).cvu[2].state = 2 ∧ BitVec.toNat (ready32.lane
      LaneId.A).cvu[2].ctrl / 2 ^ 12 % 4 = 0) ∧ (BitVec.toNat (ready32.lane LaneId.A).cvu[2].ctrl / 2 ^ 12 % 4 ≠ 2) ∧
      (1 ≤ BitVec.toNat (ready32.lane LaneId.A).cvu[2].ctrl % 128) ∧ (BitVec.toNat (ready32.lane LaneId.A).cvu[2].ctrl
      % 128 ≤ 64) ∧ (BitVec.toNat (ready32.lane LaneId.A).cvu[2].value < 2 ^ (BitVec.toNat (ready32.lane
      LaneId.A).cvu[2].ctrl % 128)) ∧ (BitVec.toNat (ready32.lane LaneId.A).cvu[2].poly < 2 ^ (BitVec.toNat
      (ready32.lane LaneId.A).cvu[2].ctrl % 128))) ∧
    ((View.app LaneId.A = View.runtime LaneId.A ∨ View.app LaneId.A = View.app LaneId.A) ∧ ((active64.lane
      LaneId.A).cvu[2].state = 1 ∨ (active64.lane LaneId.A).cvu[2].state = 2 ∧ BitVec.toNat (active64.lane
      LaneId.A).cvu[2].ctrl / 2 ^ 12 % 4 = 0) ∧ (BitVec.toNat (active64.lane LaneId.A).cvu[2].ctrl / 2 ^ 12 % 4 ≠ 2) ∧
      (1 ≤ BitVec.toNat (active64.lane LaneId.A).cvu[2].ctrl % 128) ∧ (BitVec.toNat (active64.lane
      LaneId.A).cvu[2].ctrl % 128 ≤ 64) ∧ (BitVec.toNat (active64.lane LaneId.A).cvu[2].value < 2 ^ (BitVec.toNat
      (active64.lane LaneId.A).cvu[2].ctrl % 128)) ∧ (BitVec.toNat (active64.lane LaneId.A).cvu[2].poly < 2 ^
      (BitVec.toNat (active64.lane LaneId.A).cvu[2].ctrl % 128))) := by
  and_intros <;> decide +kernel

theorem witness_CheckValueUnits_2 :
    ((View.app LaneId.A = View.runtime LaneId.A ∨ View.app LaneId.A = View.app LaneId.A) ∧ ((odd13.lane
      LaneId.A).cvu[2].state = 1 ∨ (odd13.lane LaneId.A).cvu[2].state = 2 ∧ BitVec.toNat (odd13.lane
      LaneId.A).cvu[2].ctrl / 2 ^ 12 % 4 = 0) ∧ (BitVec.toNat (odd13.lane LaneId.A).cvu[2].ctrl / 2 ^ 12 % 4 ≠ 2) ∧ (1
      ≤ BitVec.toNat (odd13.lane LaneId.A).cvu[2].ctrl % 128) ∧ (BitVec.toNat (odd13.lane LaneId.A).cvu[2].ctrl % 128
      ≤ 64) ∧ (BitVec.toNat (odd13.lane LaneId.A).cvu[2].value < 2 ^ (BitVec.toNat (odd13.lane LaneId.A).cvu[2].ctrl %
      128)) ∧ (BitVec.toNat (odd13.lane LaneId.A).cvu[2].poly < 2 ^ (BitVec.toNat (odd13.lane LaneId.A).cvu[2].ctrl %
      128))) ∧
    ((View.app LaneId.A = View.runtime LaneId.A ∨ View.app LaneId.A = View.app LaneId.A) ∧ ((strip64.lane
      LaneId.A).cvu[2].state = 1) ∧ (BitVec.toNat (strip64.lane LaneId.A).cvu[2].ctrl / 2 ^ 12 % 4 = 2) ∧
      ((strip64.lane LaneId.A).cvu[2].strip.length ≤ BitVec.toNat (strip64.lane LaneId.A).cvu[2].ctrl % 128 / 8)) ∧
    ((View.app LaneId.A = View.runtime LaneId.A ∨ View.app LaneId.A = View.app LaneId.A) ∧ ((s15_1.lane
      LaneId.A).cvu[2].state = 1) ∧ (BitVec.toNat (s15_1.lane LaneId.A).cvu[2].ctrl / 2 ^ 12 % 4 = 2) ∧ ((s15_1.lane
      LaneId.A).cvu[2].strip.length ≤ BitVec.toNat (s15_1.lane LaneId.A).cvu[2].ctrl % 128 / 8)) ∧
    ((View.app LaneId.A = View.runtime LaneId.A ∨ View.app LaneId.A = View.app LaneId.A) ∧ ((active32.lane
      LaneId.A).cvu[2].state = 1) ∧ (BitVec.toNat (active32.lane LaneId.A).cvu[2].ctrl / 2 ^ 12 % 4 = 0)) ∧
    ((View.app LaneId.A = View.runtime LaneId.A ∨ View.app LaneId.A = View.app LaneId.A) ∧ ((active64.lane
      LaneId.A).cvu[2].state = 1) ∧ (BitVec.toNat (active64.lane LaneId.A).cvu[2].ctrl / 2 ^ 12 % 4 = 1)) ∧
    ((View.app LaneId.A = View.runtime LaneId.A ∨ View.app LaneId.A = View.app LaneId.A) ∧ ((strip64.lane
      LaneId.A).cvu[2].state = 1) ∧ (BitVec.toNat (strip64.lane LaneId.A).cvu[2].ctrl / 2 ^ 12 % 4 = 2)) ∧
    ((View.app LaneId.A = View.runtime LaneId.A ∨ View.app LaneId.A = View.app LaneId.A) ∧ ((s15_2.lane
      LaneId.A).cvu[2].state = 1) ∧ (BitVec.toNat (s15_2.lane LaneId.A).cvu[2].ctrl / 2 ^ 12 % 4 = 2)) ∧
    ((View.app LaneId.A = View.runtime LaneId.A ∨ View.app LaneId.A = View.app LaneId.A) ∧ ((s15_3.lane
      LaneId.A).cvu[2].state = 1) ∧ (BitVec.toNat (s15_3.lane LaneId.A).cvu[2].ctrl / 2 ^ 12 % 4 = 2)) := by
  and_intros <;> decide +kernel

theorem witness_CheckValueUnits_3 :
    ((View.app LaneId.A = View.runtime LaneId.A ∨ View.app LaneId.A = View.app LaneId.A) ∧ ((active32.lane
      LaneId.A).cvu[2].state = 1) ∧ (1 ≤ BitVec.toNat (active32.lane LaneId.A).cvu[2].ctrl % 128) ∧ (BitVec.toNat
      (active32.lane LaneId.A).cvu[2].ctrl % 128 ≤ 64)) ∧
    ((View.app LaneId.A = View.runtime LaneId.A ∨ View.app LaneId.A = View.app LaneId.A) ∧ ((odd13.lane
      LaneId.A).cvu[2].state = 1) ∧ (1 ≤ BitVec.toNat (odd13.lane LaneId.A).cvu[2].ctrl % 128) ∧ (BitVec.toNat
      (odd13.lane LaneId.A).cvu[2].ctrl % 128 ≤ 64)) ∧
    ((View.app LaneId.A = View.runtime LaneId.A ∨ View.app LaneId.A = View.app LaneId.A) ∧ ((strip64.lane
      LaneId.A).cvu[2].state = 1)) ∧
    ((View.app LaneId.A = View.runtime LaneId.A ∨ View.app LaneId.A = View.app LaneId.A) ∧ ((ready32.lane
      LaneId.A).cvu[2].state = 2)) ∧
    ((View.app LaneId.A = View.runtime LaneId.A ∨ View.app LaneId.A = View.app LaneId.A) ∧ ((ready32.lane
      LaneId.A).cvu[2].parity = false)) ∧
    ((View.app LaneId.A = View.runtime LaneId.A ∨ View.app LaneId.A = View.app LaneId.A) ∧ ((active32.lane
      LaneId.A).cvu[2].parity = false)) ∧
    ((View.app LaneId.A = View.runtime LaneId.A ∨ View.app LaneId.A = View.app LaneId.A)) := by
  and_intros <;> decide +kernel

theorem witness_RegisterViews_1 :
    ((View.runtime LaneId.A = View.runtime LaneId.A ∨ View.runtime LaneId.A = View.app LaneId.A)) ∧
    ((View.app LaneId.A = View.runtime LaneId.A ∨ View.app LaneId.A = View.app LaneId.A)) ∧
    ((View.app LaneId.A = View.runtime LaneId.A ∨ View.app LaneId.A = View.app LaneId.A) ∧ (timed.ring.acquired =
      true)) ∧
    (((cyclic Mode.startupTest CycleStep.idle).laneMode LaneId.A = 2)) ∧
    ((4026544132 ∈ [4026531840, 4026531848, 4026535940, 4026544132, 4026576900, 4160749572, 4026593280, 305419896])) ∧
    ((4026576900 ∈ [4026531840, 4026531848, 4026535940, 4026544132, 4026576900, 4160749572, 4026593280, 305419896])) ∧
    (((app.lane LaneId.A).core.run = Run.running) ∧ ((app.lane LaneId.A).core.priv = false) ∧ ((4026531840 : ℕ) ≤
      BitVec.toNat (4026589192 : Word)) ∧ (BitVec.toNat (4026589192 : Word) < (4026593280 : ℕ)) ∧ (BitVec.toNat
      (4026589192 : Word) % (4 : ℕ) = (0 : ℕ)) ∧ (BitVec.toNat (4026589192 : Word) / (4096 : ℕ) % (16 : ℕ) ≠ (5 : ℕ))) ∧
    (((app.lane LaneId.A).core.run = Run.running) ∧ ((app.lane LaneId.A).core.priv = false)) := by
  and_intros <;> decide +kernel

theorem witness_RecorderActs_1 :
    ((recSubOk (50724869 : Word) = true) ∧ (Quiet (recState fresh5)) ∧ ((recState fresh5).recorder.lostInt =
      Vector.replicate (8 : ℕ) (0 : Half)) ∧ ((recState fresh5).recorder.taken < (64 : ℕ)) ∧ (entryDepth ((recState
      fresh5).recorder.entry (BitVec.toNat (50724869 : Word) % (4096 : ℕ))) = (0 : ℕ) ∨ (6 : ℕ) ≤ BitVec.toNat
      (50724869 : Word) / (65536 : ℕ) % (8 : ℕ) ∧ refillsDue (recState fresh5).guard.optime (entryPeriod ((recState
      fresh5).recorder.entry (BitVec.toNat (50724869 : Word) % (4096 : ℕ)))) ((recState fresh5).recorder.bucket
      (BitVec.toNat (50724869 : Word) % (4096 : ℕ))) = (0 : ℕ))) ∧
    ((recSubOk (16842757 : Word) = true) ∧ (Quiet s15_4) ∧ (s15_4.recorder.lostInt = Vector.replicate (8 : ℕ) (0 :
      Half)) ∧ (s15_4.recorder.taken < (64 : ℕ)) ∧ (entryDepth (s15_4.recorder.entry (BitVec.toNat (16842757 : Word) %
      (4096 : ℕ))) = (0 : ℕ) ∨ (6 : ℕ) ≤ BitVec.toNat (16842757 : Word) / (65536 : ℕ) % (8 : ℕ) ∧ refillsDue
      s15_4.guard.optime (entryPeriod (s15_4.recorder.entry (BitVec.toNat (16842757 : Word) % (4096 : ℕ))))
      (s15_4.recorder.bucket (BitVec.toNat (16842757 : Word) % (4096 : ℕ))) = (0 : ℕ))) ∧
    ((recSubOk (17235973 : Word) = true) ∧ (Quiet s15_5) ∧ ((64 : ℕ) ≤ s15_5.recorder.taken) ∧ ((6 : ℕ) ≤ BitVec.toNat
      (17235973 : Word) / (65536 : ℕ) % (8 : ℕ))) ∧
    ((recSubOk (16973829 : Word) = true) ∧ (BitVec.toNat (16973829 : Word) / (65536 : ℕ) % (8 : ℕ) < (6 : ℕ)) ∧
      (entryDepth ((recState empty5).recorder.entry (BitVec.toNat (16973829 : Word) % (4096 : ℕ))) ≠ (0 : ℕ)) ∧
      (((recState empty5).recorder.bucket (BitVec.toNat (16973829 : Word) % (4096 : ℕ))).tokens = (0 : ℕ)) ∧
      (refillsDue (recState empty5).guard.optime (entryPeriod ((recState empty5).recorder.entry (BitVec.toNat
      (16973829 : Word) % (4096 : ℕ)))) ((recState empty5).recorder.bucket (BitVec.toNat (16973829 : Word) % (4096 :
      ℕ))) = (0 : ℕ))) ∧
    ((recSubOk 16975857 = false)) ∧
    ((s15_6.recorder.fifo = [someRec,
      { code := 6, severity := someRec.severity, source := someRec.source, summary := someRec.summary, pf := someRec.pf, app := someRec.app, agreed := someRec.agreed, optime := someRec.optime, frac := someRec.frac, pcycle := someRec.pcycle, p0 := someRec.p0, p1 := someRec.p1, p2 := someRec.p2, p3 := someRec.p3 }])
      ∧ (s15_6.recorder.buffer.length < 4096)) ∧
    (((recState empty5).recorder.nextRefill (BitVec.toNat (5 : BitVec (12 : ℕ))) = some (223450000 : ℕ)) ∧ ((recState
      empty5).guard.optime ≤ (223450000 : ℕ)) ∧ ((1 : ℕ) ≤ entryPeriod ((recState empty5).recorder.entry (BitVec.toNat
      (5 : BitVec (12 : ℕ))))) ∧ (((recState empty5).recorder.bucket (BitVec.toNat (5 : BitVec (12 : ℕ)))).suppressed
      = (0 : Word))) ∧
    ((BitVec.toNat (40449 : Word) / (256 : ℕ) % (256 : ℕ) = (158 : ℕ)) ∧ (BitVec.getLsbD (40449 : Word) (0 : ℕ) =
      true) ∧ ((recState id).recorder.flushing = none) ∧ ((recState id).recorder.trigger = none)) := by
  and_intros <;> decide +kernel

theorem witness_RecorderActs_2 :
    ((BitVec.toNat (40193 : Word) / (256 : ℕ) % (256 : ℕ) ≠ (158 : ℕ))) ∧
    ((s15_7.recorder.flushing = none) ∧ (s15_7.recorder.trigger = some 4) ∧ (4 = 1 ∨ 4 = 2 ∨ 8320 ≤
      s15_7.recorder.erased) ∧ (s15_7.recorder.logFault = false)) ∧
    ((s15_8.recorder.flushing = none) ∧ (s15_8.recorder.trigger = some 3) ∧ (3 = 3 ∨ 3 = 4) ∧ (s15_8.recorder.erased <
      8320)) ∧
    ((s15_9.recorder.flushing = some 4) ∧ (4 ≠ 1) ∧ (Calm s15_9) ∧ (s15_9.recorder.logFault = false) ∧
      (s15_9.recorder.logFull = false) ∧ (s15_9.recorder.log.length + s15_9.recorder.deleted +
      s15_9.recorder.buffer.length + 8320 ≤ 1040384)) ∧
    ((s15_10.recorder.flushing = none) ∧ (s15_10.recorder.logFault = false) ∧ (1 ≤ s15_10.recorder.deleted)) ∧
    (((offering 264).laneMode LaneId.A = 2) ∧ ((offering 264).md.role ≠ Role.split) ∧ (LaneId.B ≠ LaneId.A) ∧ (alook
      ((offering 264).lane LaneId.A).recv.ctIndex.toNat ((offering 264).lane LaneId.B).recv.offers = some 264) ∧
      (((offering 264).recorder.bucket ((offering 264).lane LaneId.A).recv.ctIndex.toNat).suppressed = 0)) ∧
    (((offering 265).laneMode LaneId.A = 2) ∧ ((offering 265).md.role ≠ Role.split) ∧ (∀ (k : LaneId), k ≠ LaneId.A →
      alook ((offering 265).lane LaneId.A).recv.ctIndex.toNat ((offering 265).lane k).recv.offers ≠ some 264)) ∧
    ((((recState id).lane LaneId.A).core.run = Run.running) ∧ (((recState id).lane LaneId.A).core.priv = false)) := by
  and_intros <;> first | decide +kernel | rfl | (intro l; cases l <;> decide +kernel)

theorem witness_SelfTestAndInjection_1 :
    (((bisting id).gapDuties = true) ∧ ((bisting id).lead.bist.rotate = true) ∧ ((bisting id).md.compared.isSome =
      true) ∧ ((bisting id).bist.shared = none) ∧ ((bisting id).bist.disabled = 0) ∧ ((bisting
      id).lead.bist.feedShared = none) ∧ (BitVec.toNat (bisting id).tb.nt ≤ (bisting id).lead.beforeEnd 200000)) ∧
    ((↑5 ≠ 8) ∧ (s16_1.bist.lane ≠ none)) ∧
    ((↑5 ≠ 8) ∧ (s16_2.bist.shared ≠ none)) ∧
    ((Calm (slicing none 2)) ∧ ((slicing none 2).bist.lane = some (LaneId.B, 47)) ∧ (47 < 48) ∧ ((slicing none
      2).bist.p < 144) ∧ (true = true) ∧ ((slicing none 2).bist.laneStop.getD 8 = 8) ∧ (Config.bistExpected false 47 8
      = Config.bistExpected false 47 8)) ∧
    ((Calm (slicing none 0)) ∧ ((slicing none 0).bist.lane = some (LaneId.B, 47)) ∧ (47 < 48) ∧ ((slicing none
      0).bist.p < 144) ∧ (false = false)) ∧
    ((Calm (slicing (some 0) 1)) ∧ ((slicing (some 0) 1).bist.lane = some (LaneId.B, 47)) ∧ (47 < 48) ∧ ((slicing
      (some 0) 1).bist.p < 144) ∧ (true = true) ∧ ((slicing (some 0) 1).bist.laneStop.getD 8 < 8) ∧ ((slicing (some 0)
      1).bist.laneStop.getD 8 = 0 ∨ 5 = Config.bistExpected false 47 ((slicing (some 0) 1).bist.laneStop.getD 8)) ∧
      ((slicing (some 0) 1).bist.incP < 2)) ∧
    ((Calm (sharing 7)) ∧ ((sharing 7).bist.shared = some 7) ∧ (7 < 8) ∧ ((sharing 7).bist.q < 8) ∧ ((sharing
      7).bist.sharedStop = none) ∧ (true = true) ∧ (Config.bistExpected true 7 8 = Config.bistExpected true 7 8)) ∧
    ((Calm (sharing 3)) ∧ ((sharing 3).bist.shared = some 3) ∧ (3 < 8) ∧ ((sharing 3).bist.q < 8) ∧ ((sharing
      3).bist.sharedStop = none) ∧ (false = false) ∧ (3 < 4) ∧ ((sharing 3).bist.disabled = 0)) := by
  and_intros <;> first | decide +kernel | rfl | (intro l; cases l <;> decide +kernel)

theorem witness_SelfTestAndInjection_2 :
    ((Calm (sharing 4)) ∧ ((sharing 4).bist.shared = some 4) ∧ (4 < 8) ∧ ((sharing 4).bist.q < 8) ∧ ((sharing
      4).bist.sharedStop = none) ∧ (false = false) ∧ (4 ≤ 4) ∧ (MayStop (sharing 4)) ∧ ((sharing 4).servingLanes ≠
      [])) ∧
    (((cyclic Mode.startupTest CycleStep.idle).laneMode LaneId.B = 2)) ∧
    (((cyclic Mode.run CycleStep.idle).laneMode LaneId.B ≠ 2)) ∧
    (((app.lane LaneId.A).core.run = Run.running) ∧ ((app.lane LaneId.A).core.priv = false)) ∧
    ((BitVec.getLsbD (switched Mode.maintenance (8192 : Half)).sealSt.sw1 (13 : ℕ) = true) ∧ ((switched
      Mode.maintenance (8192 : Half)).md.mode = Mode.maintenance) ∧ ((switched Mode.maintenance (8192 :
      Half)).inject.armed = none) ∧ (BitVec.toNat (7013183 : Word) / (2 : ℕ) ^ (16 : ℕ) = (107 : ℕ)) ∧ (BitVec.toNat
      (7013183 : Word) / (64 : ℕ) % (4 : ℕ) = (0 : ℕ)) ∧ (BitVec.toNat (7013183 : Word) / (1024 : ℕ) % (64 : ℕ) = (0 :
      ℕ)) ∧ (injModule (BitVec.toNat (7013183 : Word) % (64 : ℕ)) = true) ∧ (BitVec.toNat (7013183 : Word) / (256 : ℕ)
      % (4 : ℕ) = (3 : ℕ))) ∧
    ((BitVec.getLsbD (switched Mode.maintenance (8192 : Half)).sealSt.sw1 (13 : ℕ) = false ∨ BitVec.toNat (7078719 :
      Word) / (2 : ℕ) ^ (16 : ℕ) ≠ (107 : ℕ) ∨ (switched Mode.maintenance (8192 : Half)).inject.armed ≠ none)) ∧
    (((armedA (5 : ℕ) Mode.stop).inject.armed = some
      { ident := (60 : ℕ), lane := some LaneId.C, effective := true, cycles := (5 : ℕ) : Arming }) ∧ ((armedA (5 : ℕ)
      Mode.stop).inject.lasting = []) ∧
      ({ ident := (60 : ℕ), lane := some LaneId.C, effective := true, cycles := (5 : ℕ) : Arming }.ident < (64 : ℕ))) ∧
    (((armedA (200 : ℕ) Mode.maintenance).inject.armed = some
      { ident := (60 : ℕ), lane := some LaneId.C, effective := true, cycles := (200 : ℕ) : Arming }) ∧ ((armedA (200 :
      ℕ) Mode.maintenance).inject.lasting = []) ∧
      ({ ident := (60 : ℕ), lane := some LaneId.C, effective := true, cycles := (200 : ℕ) : Arming }.ident < (64 : ℕ))
      ∧ ((200 : ℕ) ≤
      { ident := (60 : ℕ), lane := some LaneId.C, effective := true, cycles := (200 : ℕ) : Arming }.cycles ∨
      injPermits { ident := (60 : ℕ), lane := some LaneId.C, effective := true, cycles := (200 : ℕ) : Arming }.ident
      (armedA (200 : ℕ) Mode.maintenance).md.mode = false)) := by
  and_intros <;> decide +kernel

theorem witness_SelfTestAndInjection_3 :
    (((armedA (5 : ℕ) Mode.run).inject.armed = some
      { ident := (60 : ℕ), lane := some LaneId.C, effective := true, cycles := (5 : ℕ) : Arming }) ∧ ((armedA (5 : ℕ)
      Mode.run).inject.lasting = []) ∧
      ({ ident := (60 : ℕ), lane := some LaneId.C, effective := true, cycles := (5 : ℕ) : Arming }.ident < (64 : ℕ)) ∧
      ((200 : ℕ) ≤ { ident := (60 : ℕ), lane := some LaneId.C, effective := true, cycles := (5 : ℕ) : Arming }.cycles
      ∨ injPermits { ident := (60 : ℕ), lane := some LaneId.C, effective := true, cycles := (5 : ℕ) : Arming }.ident
      (armedA (5 : ℕ) Mode.run).md.mode = false)) ∧
    (((armedA (5 : ℕ) Mode.maintenance).inject.armed = some
      { ident := (60 : ℕ), lane := some LaneId.C, effective := true, cycles := (5 : ℕ) : Arming }) ∧ ((armedA (5 : ℕ)
      Mode.maintenance).inject.lasting = []) ∧
      ({ ident := (60 : ℕ), lane := some LaneId.C, effective := true, cycles := (5 : ℕ) : Arming }.ident < (64 : ℕ)) ∧
      ({ ident := (60 : ℕ), lane := some LaneId.C, effective := true, cycles := (5 : ℕ) : Arming }.cycles < (200 : ℕ))
      ∧ (injPermits { ident := (60 : ℕ), lane := some LaneId.C, effective := true, cycles := (5 : ℕ) : Arming }.ident
      (armedA (5 : ℕ) Mode.maintenance).md.mode = true)) := by
  and_intros <;> decide +kernel

/-! Words of the manual's worked examples (chapters 04 and 05), and words put together by hand from R134, R136 and the
group tables. -/

theorem test_decode_lui_lw : decodeIxlo .A 0x38800200 = some (.lui .A 4 0x0200) ∧
    decodeIxlo .A 0x50C40014 = some (.lw .A 6 4 0x0014) := by decide

theorem test_decode_coded : decodeIxlo .A 0x18E64001 = some (.cand .A 7 6 8) ∧
    decodeIxlo .A 0x19274007 = some (.ceq .A 9 7 8) ∧ decodeIxlo .A 0x19A90003 = some (.cnot .A 13 9) := by decide

theorem test_decode_branch : decodeIxlo .A 0x98E00003 = some (.bct .A 7 3) ∧
    decodeIxlo .A 0x9D600001 = some (.bcf .A 11 1) ∧ decodeIxlo .A 0x80220003 = some (.beq .A 1 2 3) ∧
    decodeIxlo .A 0xA3FFFFFF = some (.j .A 0x3FFFFFF) := by decide

theorem test_decode_immediate : decodeIxlo .B 0x20A00005 = some (.addi .B 5 0 5) ∧
    decodeIxlo .B 0x294A0001 = some (.ori .B 10 10 1) ∧ decodeIxlo .B 0x01411010 = some (.slli .B 10 1 2) := by decide

theorem test_decode_integer : decodeIxlo .C 0x00611001 = some (.add .C 3 1 2) ∧
    decodeIxlo .C 0x00611024 = some (.div .C 3 1 2) := by decide

theorem test_decode_field : decodeIxlo .A 0x08E60020 = some (.extu .A 7 6 0 1) ∧
    decodeIxlo .A 0x09060022 = some (.extu .A 8 6 2 1) := by decide

theorem test_decode_system : decodeIxlo .A 0xFC000001 = some (.tret .A) ∧
    decodeIxlo .A 0xFC650002 = some (.mfcr .A 3 5) ∧ decodeIxlo .A 0xF4000012 = some (.sysc .A 0x12) := by decide

theorem test_decode_rail : decodeIxlo .A 0xF8C12810 = some (.eld .A 6 1 5) ∧
    decodeIxlo .A 0xF96A4841 = some (.edgedn .A 11 10 9) ∧ decodeIxlo .A 0xF80F8020 = some (.tstart .A 0 15 16) ∧
    decodeIxlo .A 0xF98F0023 = some (.treadX .A 12 15) ∧ decodeIxlo .A 0xFA212811 = some (.est .A 17 1 5) := by decide

theorem test_decode_none : decodeIxlo .A 0x00000000 = none ∧ decodeIxlo .A 0xFFFFFFFF = none ∧
    decodeIxlo .A 0xF8610801 = none ∧ decodeIxlo .A 0x08E607FF = none := by decide

theorem test_encode_example : encode (.lw .A 6 4 0x0014) = some 0x50C40014 ∧
    encode (.treadX .A 12 15) = some 0xF98F0023 ∧ encode .networkCycleBoundary = none := by decide

theorem test_table_word : decodeTableWord 32 0x50C40014 = none := rfl

/-! One ill-formed term for each check of WellFormed. -/

theorem test_illFormed_fields : Instr.wellFormed (.extu .A 1 2 31 1) = false ∧
    Instr.wellFormed (.exts .A 1 2 16 16) = false ∧ Instr.wellFormed (.ins .A 1 2 1 31) = false ∧
    Instr.wellFormed (.extu .A 1 2 0 31) = true := by decide

/-- A message whose length field says one byte more than its body holds. -/
def longMsg : LinkMsg := { typ := 1, route := 0x10, length := 1, cycle := 0, body := [], check := 0 }

theorem test_illFormed_messages : Instr.wellFormed (.inputMessage .A longMsg) = false ∧
    Instr.wellFormed (.signatureMessage .A longMsg) = false ∧ Instr.wellFormed (.viewMessage .A longMsg) = false ∧
    Instr.wellFormed (.auditMessage .A longMsg) = false ∧ Instr.wellFormed (.controlMessage .A longMsg) = false := by decide

theorem test_illFormed_frames : Instr.wellFormed (.frameArrival .W [] 0) = false ∧
    Instr.wellFormed (.probeArrival .E [] 0) = false := by decide

theorem test_illFormed_step : Instr.wellFormed (.step .A 0) = false := by decide

theorem test_illFormed_package : Instr.wellFormed (.packageStage 0 0 (List.replicate 1025 0)) = false := by decide +kernel

/-! Values of the manual's worked computations (chapters 09 and 11). -/

theorem test_crc32c : crc32c 0 [0x31, 0x32, 0x33, 0x34, 0x35, 0x36, 0x37, 0x38, 0x39] = 0xE3069283 := by decide +kernel

theorem test_invarMean : (deltaOf [(38, 1), (41, 2), (-12, 3), (55, 4), (47, 5), (390, 6), (44, 7)]).1 = some 44 := by decide +kernel

theorem test_invarRate : newRate 1204 640 10000000 = -7386 := by decide

/-! Clauses whose hypotheses a plain evaluation does not decide. -/

theorem witness_CheckTraps_illFormed : (app.lane LaneId.A).core.run = Run.running ∧ Calm app ∧
    (app.lane LaneId.A).fetchable (app.lane LaneId.A).core.pc.toNat = true ∧
    (app.lane LaneId.A).parityBad (app.lane LaneId.A).core.pc.toNat 4 = false ∧
    (Instr.extu LaneId.A 1 2 31 1).wellFormed = false ∧
    ∃ d a p w, Instr.extu LaneId.A 1 2 31 1 = Instr.extu LaneId.A d a p w ∨
      Instr.extu LaneId.A 1 2 31 1 = Instr.exts LaneId.A d a p w ∨ Instr.extu LaneId.A 1 2 31 1 = Instr.ins LaneId.A d a p w :=
  ⟨by decide, by decide, by decide +kernel, by decide +kernel, by decide, 1, 2, 31, 1, Or.inl rfl⟩

theorem msgBA_check (t : Byte) (body : List Byte) : (msgBA t body).check = msgCheck (msgBA t body) := rfl

theorem auditBA_good (cycle : Word) (h : cycle = 10) : msgGood auditBA .A 4 512 cycle = true := by
  have h1 : auditBA.body.length = 512 := List.length_replicate
  have h2 : auditBA.check = msgCheck auditBA := msgBA_check 4 _
  have h3 : auditBA.length = 512 := by
    show BitVec.ofNat 16 (List.replicate 512 (3 : Byte)).length = 512
    rw [List.length_replicate]
    rfl
  have h4 : auditBA.typ.toNat = 4 ∧ auditBA.route.toNat / 4 = 0 ∧ auditBA.cycle = 10 := by decide
  simp only [msgGood, h1, ← h2, h3, h4.1, h4.2.1, h4.2.2, h]
  rfl

theorem witness_LinkMessages_audit : Quiet auditing ∧ auditing.joins .A = true ∧ auditing.voting = true ∧
    Arrives auditing .A .B 4 512 auditBA ∧ auditing.gapDuties = true ∧ LaneId.B ∈ auditing.auditors ∧
    (auditing.lane .A).vote.auditing = true := by
  refine ⟨by decide +kernel, by decide +kernel, by decide +kernel, ⟨by decide, by decide, ?_⟩, by decide +kernel,
    by decide +kernel, by decide⟩
  exact auditBA_good _ (by decide +kernel)

theorem witness_LinkMessages_auditLast : Quiet auditLast ∧ auditLast.joins .A = true ∧ auditLast.voting = true ∧
    Arrives auditLast .A .B 4 512 auditBA ∧ auditLast.gapDuties = true ∧ LaneId.B ∈ auditLast.auditors ∧
    (auditLast.lane .A).vote.auditing = true := by
  refine ⟨by decide +kernel, by decide +kernel, by decide +kernel, ⟨by decide, by decide, ?_⟩, by decide +kernel,
    by decide +kernel, by decide⟩
  exact auditBA_good _ (by decide +kernel)

theorem pageMsg_check (body : List Byte) : (pageMsg body).check = msgCheck (pageMsg body) := rfl

theorem pageCB_good (cycle : Word) (h : cycle = 10) : msgGood pageCB .B 5 4096 cycle = true := by
  have h1 : pageCB.body.length = 4096 := List.length_replicate
  have h2 : pageCB.check = msgCheck pageCB := pageMsg_check _
  have h4 : pageCB.typ.toNat = 5 ∧ pageCB.route.toNat / 4 = 1 ∧ pageCB.length.toNat = 4096 ∧ pageCB.cycle = 10 := by decide
  simp only [msgGood, h1, ← h2, h4.1, h4.2.1, h4.2.2.1, h4.2.2.2, h]
  rfl

theorem witness_CopyOfAFencedLane_page : Quiet copying4 ∧ copying4.copying = true ∧
    copying4.resync.todo.getLsbD 4 = true ∧ (∀ p < 4, copying4.resync.todo.getLsbD p = false) ∧
    Memory.wf (copying4.lane copying4.resync.lane).store.cells = true ∧
    Arrives copying4 copying4.resync.lane copying4.resync.lane.next 5 4096 pageCB := by
  refine ⟨by decide +kernel, by decide +kernel, by decide +kernel, by decide +kernel, by decide +kernel,
    by decide, by decide, ?_⟩
  exact pageCB_good _ (by decide +kernel)

/-! What the statements without a probe of their own need: a state in which the engine's table statement applies, and one
with two outputs on that keeps the stage's gate. -/

theorem witness_EngineWritesItsTables_1 : engineKind (.set .A) = some (.A, 2) ∧ Calm (asks 2 State.reset) ∧
    Memory.wf ((asks 2 State.reset).lane .A).store.cells = true ∧
    (∀ c, c < 1024 → ∀ m, m ∈ ((asks 2 State.reset).lane .A).members c → m < 8192) ∧
    ∃ t, exec (.set .A) (asks 2 State.reset) = .next t := by
  refine ⟨by decide, by decide, by decide +kernel, fun c _ m hm => ?_, _, rfl⟩
  obtain ⟨k, _, rfl⟩ := List.mem_map.mp hm
  have h : ∀ a, ((asks 2 State.reset).lane .A).rd8 a = 0 := fun _ => rfl
  unfold Lane.chainMember Lane.rd16
  rw [h, h]
  decide

/-- Outputs DO00 and DO47 conduct in RUN. -/
def lit : State :=
  let s := inMode .run State.reset
  { s with md := { s.md with role := .ixl }, stage := { s.stage with on := 0x800000000001 } }

theorem witness_OutputsStayGated_1 : OutputsGated lit ∧ lit.stage.on ≠ 0 ∧ ∃ t, step lit = .next t := by
  refine ⟨fun o h => ?_, by decide, _, rfl⟩
  by_cases ho : o < 48
  · have all : ∀ k : Fin 48, lit.stage.on.getLsbD k.val = true →
        lit.groupOn (groupOf k.val) = true ∧ lit.stage.holdOff = false := by decide +kernel
    exact all ⟨o, ho⟩ h
  · rw [BitVec.getLsbD_of_ge _ _ (by omega)] at h
    cases h

theorem witness_OutputsStayGated_2 : OutputsGated State.reset ∧ State.reset.md.mode = .priming :=
  ⟨fun o h => by simp [State.reset, Stage.init] at h, rfl⟩

theorem witness_StepRunsFront_1 : State.reset.pending = [] ∧ State.reset.tb.clkUnq = false ∧
    (inMode .run State.reset).tb.slewTicks = 0 := by decide

theorem witness_ResetValues_1 : (6, 4 * 32) ∉ loadedAtPriming ∧ resetWord .B 6 (4 * 32) = 0xFFFFFFFF ∧
    State.reset.regValue .B 6 (4 * 32) = 0xFFFFFFFF := by decide +kernel

end Sys2Proof.Tests
end

/-! The coded booleans (R143, R144): the model's operations on words compute the results that the manual's table gives,
and every coded instruction that computes a register is `State.computeCoded` of its operation. -/

namespace Sys2Proof.Machine

open Sys2Proof.Safety

theorem codedValid_iff (w : Word) : codedValid w = true ↔ w = codedTrue ∨ w = codedFalse := by
  simp [codedValid]

/-- TRUE and FALSE are bitwise complements (R13), so CNOT inverts every bit of a valid word. -/
theorem not_codedTrue : ~~~ codedTrue = codedFalse := by decide

theorem not_codedFalse : ~~~ codedFalse = codedTrue := by decide

theorem codedFalse_ne_codedTrue : codedFalse ≠ codedTrue := by decide

theorem cnotVal_eq (w : Word) :
    cnotVal w = if w = codedTrue then codedFalse else if w = codedFalse then codedTrue else 0 := by
  unfold cnotVal
  by_cases ht : w = codedTrue
  · simp [ht, codedValid, not_codedTrue]
  by_cases hf : w = codedFalse
  · simp [hf, codedValid, not_codedFalse, codedFalse_ne_codedTrue]
  · simp [ht, hf, codedValid]

theorem cselVal_eq (a b k : Word) :
    cselVal a b k = if k = codedTrue then a else if k = codedFalse then b else 0 := by
  simp [cselVal]

theorem coded_decide (p : Prop) [Decidable p] : coded (decide p) = if p then codedTrue else codedFalse := by
  simp [coded]

theorem coded_bne_zero (w : Word) : coded (w != 0) = if w = 0 then codedFalse else codedTrue := by
  by_cases hw : w = 0 <;> simp [coded, hw]

theorem bit_codedValid (w : Word) :
    bit (codedValid w) = if w = codedTrue ∨ w = codedFalse then 1 else 0 := by
  simp only [bit, codedValid_iff]

/-- A coded instruction that computes a register runs as `State.computeCoded` of an operation that gives, on the core it
was asked about, the result of R144. -/
theorem exec_of_codedResult {c : Core} {i : Instr} {r : Result} (h : codedResult c i = some r) :
    ∃ f : Core → Word, f c = r.value ∧
      ∀ s : State, exec i s = .next (s.computeCoded r.lane i r.dest r.sources f) := by
  unfold codedResult at h
  split at h
  case h_1 l d a b => cases h; exact ⟨fun c => candVal (c.get a) (c.get b), rfl, fun _ => rfl⟩
  case h_2 l d a b => cases h; exact ⟨fun c => corVal (c.get a) (c.get b), rfl, fun _ => rfl⟩
  case h_3 l d a => cases h; exact ⟨fun c => cnotVal (c.get a), cnotVal_eq _, fun _ => rfl⟩
  case h_4 l d a b k =>
    cases h; exact ⟨fun c => cselVal (c.get a) (c.get b) (c.get k), cselVal_eq _ _ _, fun _ => rfl⟩
  case h_5 l d a => cases h; exact ⟨fun c => coded (c.get a != 0), coded_bne_zero _, fun _ => rfl⟩
  case h_6 l d a b => cases h; exact ⟨fun c => coded (c.get a == c.get b), coded_decide _, fun _ => rfl⟩
  case h_7 l d a b => cases h; exact ⟨fun c => coded ((c.get a).ult (c.get b)), coded_decide _, fun _ => rfl⟩
  case h_8 l d a => cases h; exact ⟨fun c => bit (codedValid (c.get a)), bit_codedValid _, fun _ => rfl⟩
  case h_9 => cases h

/-- CCHK taken with a sound source and no injection armed copies a valid word and traps on an INVALID one (R144). -/
theorem exec_cchk {s : State} {l : LaneId} {d a : Reg} (h : Takes s l (.cchk l d a)) (hs : SoundRegs s l [a])
    (hc : Calm s) :
    exec (.cchk l d a) s = .next
      (if codedValid ((s.lane l).core.get a) then withCore s l fun c => retired c d (c.get a)
       else (s.trap l 0x05 none ((s.lane l).core.get a)).counted l) := by
  show Host.Outcome.next (s.begin l (.cchk l d a) false none _) = _
  rw [State.begin_takes h, State.sources_sound hs hc]
  by_cases hv : codedValid ((s.lane l).core.get a) = true
  · simp only [hv, Bool.not_true, State.injected_calm hc, Bool.false_eq_true, if_false, if_true]
    rw [State.finishSet, State.finish_counted]
    exact congrArg _ (withCore_congr (Core.set_retire _ _ _))
  · simp only [hv, Bool.not_false, Bool.false_eq_true, if_false, if_true]

/-- Settles O3: each computing instruction is `State.computeCoded` of its operation, which retires with the table's
result; CCHK is `exec_cchk` with validity spelled out. -/
theorem codedResults : Obligations.CodedResults := by
  unfold Obligations.CodedResults
  refine ⟨fun s i l d rs w hr h hs hc => ?_, fun s l d a h hs hc => ?_⟩
  · obtain ⟨f, hf, hexec⟩ := exec_of_codedResult hr
    rw [hexec, State.computeCoded_takes h hs hc]
    exact congrArg _ (withCore_congr (congrArg (retired _ d) hf))
  · simp only [exec_cchk h hs hc, codedValid_iff]

end Sys2Proof.Machine

/-! Support for the statements of the route engine: fields of words (R5), the bytes of a lane's store after the engine's
writes, and the shared parts of railway instructions where their checks pass. -/

namespace Sys2Proof.Machine

open Sys2Proof.Safety

/-! Fields of words. -/

theorem fieldN_lt (w : Word) (lo n : Nat) : fieldN w lo n < 2 ^ n := Nat.mod_lt _ (Nat.two_pow_pos n)

/-- A field as a quotient and a remainder. -/
theorem fieldN_eq_div_mod (w : Word) (lo n : Nat) : fieldN w lo n = w.toNat / 2 ^ lo % 2 ^ n := by
  rw [fieldN, Nat.shiftRight_eq_div_pow]

theorem getLsbD_place (n lo i : Nat) :
    (place n lo).getLsbD i = (decide (i < 32) && decide (lo ≤ i) && n.testBit (i - lo)) := by
  simp only [place, BitVec.getLsbD_shiftLeft, BitVec.getLsbD_ofNat]
  by_cases h : i < lo
  · simp [h, Nat.not_le.mpr h]
  · have h1 : i < 32 → i - lo < 32 := fun h2 => by omega
    by_cases h2 : i < 32 <;> simp [h, h2, h1, Nat.le_of_not_lt h]

theorem testBit_fieldN (w : Word) (lo n i : Nat) :
    (fieldN w lo n).testBit i = (decide (i < n) && w.getLsbD (lo + i)) := by
  simp only [fieldN, Nat.testBit_mod_two_pow, Nat.testBit_shiftRight, BitVec.getLsbD]

/-- A number of `w` bits placed at `lo` has no bit outside its place. -/
theorem getLsbD_place_outside {n lo w i : Nat} (hn : n < 2 ^ w) (hi : i < lo ∨ lo + w ≤ i) :
    (place n lo).getLsbD i = false := by
  rw [getLsbD_place]
  rcases hi with hi | hi
  · simp [Nat.not_le.mpr hi]
  · rw [Nat.testBit_lt_two_pow (hn.trans_le (Nat.pow_le_pow_right (by decide) (by omega))), Bool.and_false]

/-- A field of a word of which one number alone, placed at its low end, has bits there. -/
theorem fieldN_eq_of_bits {w : Word} {n lo k : Nat} (hn : n < 2 ^ k) (hk : lo + k ≤ 32)
    (h : ∀ i, i < k → w.getLsbD (lo + i) = (place n lo).getLsbD (lo + i)) : fieldN w lo k = n := by
  refine Nat.eq_of_testBit_eq fun i => ?_
  rw [testBit_fieldN]
  by_cases hi : i < k
  · rw [h i hi, getLsbD_place]
    simp [hi, show lo + i < 32 by omega]
  · rw [Nat.testBit_lt_two_pow (hn.trans_le (Nat.pow_le_pow_right (by decide) (Nat.le_of_not_lt hi)))]
    simp [hi]

/-- A field that a mask keeps whole. -/
theorem fieldN_and_keep (v : Word) {m : Word} {lo n : Nat} (h : ∀ i, i < n → m.getLsbD (lo + i) = true) :
    fieldN (v &&& m) lo n = fieldN v lo n := by
  refine Nat.eq_of_testBit_eq fun i => ?_
  rw [testBit_fieldN, testBit_fieldN, BitVec.getLsbD_and]
  by_cases hi : i < n
  · rw [h i hi, Bool.and_true]
  · simp [hi]

/-- A field that a mask clears. -/
theorem fieldN_and_clear (v : Word) {m : Word} {lo n : Nat} (h : ∀ i, i < n → m.getLsbD (lo + i) = false) :
    fieldN (v &&& m) lo n = 0 := by
  refine Nat.eq_of_testBit_eq fun i => ?_
  rw [testBit_fieldN, BitVec.getLsbD_and, Nat.zero_testBit]
  by_cases hi : i < n
  · rw [h i hi, Bool.and_false, Bool.and_false]
  · simp [hi]

/-! The lane's store, its engine and its core. -/

@[simp] theorem Lane.addHash_engine (x : Lane) (a : Nat) : (x.addHash a).engine = x.engine := by
  unfold Lane.addHash; split <;> rfl

@[simp] theorem Lane.wr32_engine (x : Lane) (a : Nat) (w : Word) : (x.wr32 a w).engine = x.engine := by
  simp [Lane.wr32, Lane.poke]

@[simp] theorem Lane.wr8_engine (x : Lane) (a : Nat) (b : Byte) : (x.wr8 a b).engine = x.engine := by
  simp [Lane.wr8, Lane.poke]

@[simp] theorem Lane.wr8_core (x : Lane) (a : Nat) (b : Byte) : (x.wr8 a b).core = x.core := by
  simp [Lane.wr8, Lane.poke]

@[simp] theorem Lane.wr8_store (x : Lane) (a : Nat) (b : Byte) : (x.wr8 a b).store = x.store.put a b := by
  simp [Lane.wr8, Lane.poke, Store.putList]

theorem Lane.rd8_wr8 {x : Lane} (h : Memory.wf x.store.cells = true) (a k : Nat) (b : Byte) :
    (x.wr8 a b).rd8 k = if k = a then b else x.rd8 k := by
  unfold Lane.rd8
  rw [Lane.wr8_store]
  exact Memory.read_write h a k b

/-- A word stored leaves every byte outside it (R133). -/
theorem Lane.wr32_keepsOutside {x : Lane} (h : Memory.wf x.store.cells = true) (a : Nat) (w : Word) :
    KeepsOutside x (x.wr32 a w) a 4 := fun k hk => by
  rw [Lane.rd8_wr32 h, if_neg (by omega)]

/-- A selection that takes every cell of an address leaves its byte. -/
theorem Memory.read_filter {m : List Host.Cell} (h : Memory.wf m = true) {a : Nat} {f : Host.Cell → Bool}
    (ha : ∀ b, f (a, b) = true) : Memory.read (m.filter f) a = Memory.read m a := by
  replace h := (Memory.wf_iff _).mp h
  induction m with
  | nil => rfl
  | cons p r ih =>
    obtain ⟨k, b⟩ := p
    obtain ⟨-, hlt, hr⟩ := Memory.canon_cons.mp h
    by_cases hk : k = a
    · subst hk
      rw [List.filter_cons_of_pos (ha b), Memory.read, Memory.read, if_pos rfl, if_pos rfl]
    · by_cases hka : a < k
      · rw [Memory.read_below (m := (k, b) :: r) fun p hp => (List.mem_cons.mp hp).elim (fun he => he ▸ hka)
          fun hp => Nat.lt_trans hka (hlt p hp)]
        exact Memory.read_below fun p hp => (List.mem_cons.mp (List.mem_of_mem_filter hp)).elim (fun he => he ▸ hka)
          fun hp => Nat.lt_trans hka (hlt p hp)
      · rw [Memory.read, if_neg hk, if_neg hka, ← ih hr]
        by_cases hf : f (k, b) = true
        · rw [List.filter_cons_of_pos hf, Memory.read, if_neg hk, if_neg hka]
        · rw [List.filter_cons_of_neg hf]

/-- A range cleared leaves the bytes outside it. -/
theorem Memory.read_clear_outside {m : List Host.Cell} (h : Memory.wf m = true) {lo hi a : Nat} (ha : a < lo ∨ hi ≤ a) :
    Memory.read (Memory.clear m lo hi) a = Memory.read m a :=
  Memory.read_filter h fun _ => by simpa using ha

theorem Lane.poke_wf {x : Lane} (h : Memory.wf x.store.cells = true) (a : Nat) (bs : List Byte) :
    Memory.wf (x.poke a bs).store.cells = true := Store.putList_wf h a bs

/-- A byte of a lane's store after bytes have been written from an address on. -/
theorem Lane.rd8_poke {x : Lane} (h : Memory.wf x.store.cells = true) (a k : Nat) (bs : List Byte) :
    (x.poke a bs).rd8 k = if a ≤ k ∧ k < a + bs.length then bs.getD (k - a) 0 else x.rd8 k := by
  unfold Lane.rd8 Lane.poke
  rw [Store.putList_cells]
  exact Memory.read_writeList h a k bs

theorem Lane.poke_engine (x : Lane) (a : Nat) (bs : List Byte) : (x.poke a bs).engine = x.engine := rfl

theorem Lane.poke_core (x : Lane) (a : Nat) (bs : List Byte) : (x.poke a bs).core = x.core := rfl

theorem Lane.eng_keeps (x : Lane) (f : Engine → Engine) :
    (x.eng f).engine = f x.engine ∧ (x.eng f).store = x.store ∧ (x.eng f).core = x.core := ⟨rfl, rfl, rfl⟩

/-- Coded-value events are counted beside what a program sees of the core (R145). -/
theorem Core.codedEvents_keeps (c : Core) (n : Nat) : (c.codedEvents n).g = c.g ∧ (c.codedEvents n).pc = c.pc ∧
    (c.codedEvents n).priv = c.priv ∧ (c.codedEvents n).run = c.run := by
  induction n generalizing c with
  | zero => exact ⟨rfl, rfl, rfl, rfl⟩
  | succ n ih => exact ih c.codedEvent

/-! The shared parts of railway instructions. -/

theorem soundRegs_left {s : State} {l : LaneId} {a b : Reg} (h : SoundRegs s l [a, b]) : SoundRegs s l [a] := by
  simp only [SoundRegs, Core.badSource, List.find?_eq_none, List.mem_cons, forall_eq_or_imp] at h ⊢
  exact ⟨h.1, h.2.2⟩

theorem soundRegs_right {s : State} {l : LaneId} {a b : Reg} (h : SoundRegs s l [a, b]) : SoundRegs s l [b] := by
  simp only [SoundRegs, Core.badSource, List.find?_eq_none, List.mem_cons, forall_eq_or_imp] at h ⊢
  exact h.2

/-- A sound source register is read. -/
theorem State.readReg_sound {s : State} {l : LaneId} {r : Reg} (h : SoundRegs s l [r]) (hc : Calm s) (sub : Nat)
    (body : Word → State) : s.readReg l sub r body = body ((s.lane l).core.get r) :=
  State.sources_sound h hc _ _

/-- A store of right parity is read. -/
theorem State.readStore_clean {s : State} {l : LaneId} (h : CleanStore s l) (sub addr n : Nat) (body : State) :
    s.readStore l sub addr n body = body := by
  have hbad : ∀ a k, (s.lane l).parityBad a k = false := fun a k => by
    unfold CleanStore at h
    simp [Lane.parityBad, h]
  have hnone : (List.range ((n + 3) / 4)).find?
      (fun i => (s.lane l).parityBad (addr + 4 * i) (min 4 (n - 4 * i))) = none :=
    List.find?_eq_none.mpr fun i _ => by rw [hbad]; decide
  unfold State.readStore
  rw [hnone]

/-- An index within its limit passes. -/
theorem State.bounds_pass {s : State} {l : LaneId} {good : Bool} (h : good = true) (sub addr : Nat) (body : State) :
    s.bounds l sub good addr body = body := if_pos h

/-- An instruction that changes the core and does not end. -/
theorem State.updCore_counted (s : State) (l : LaneId) (f : Core → Core) :
    (s.updCore l f).counted l = withCore s l f := rfl

theorem State.setLane_updLane (s : State) (l : LaneId) (y : Lane) (f : Lane → Lane) :
    (s.setLane l y).updLane l f = s.setLane l (f y) := by
  rw [State.updLane, State.lane_setLane]
  simp only [State.setLane, PerLane.set_set]

/-- An instruction that leaves a lane as given and ends with a change of the core. -/
theorem State.finish_setLane {s : State} {l : LaneId} {y z : Lane} {f : Core → Core}
    (h : ({ y with core := (f y.core).retire (!y.core.priv) (y.core.pc + 4) } : Lane) = z) :
    ((s.setLane l y).finish l f).counted l = after s l z := by
  unfold State.finish State.updCore
  rw [State.setLane_updLane, h]
  rfl

/-- An instruction that leaves a lane as given and writes no register. -/
theorem State.finish_plain (s : State) (l : LaneId) (y : Lane) :
    ((s.setLane l y).finish l id).counted l = after s l (wrote y 0 0) :=
  State.finish_setLane (congrArg (fun c => ({ y with core := c } : Lane)) (Core.retire_plain y.core))

/-- A core that has written a register passes on to the next instruction. -/
theorem Core.retire_set (c : Core) (d : Reg) (w : Word) :
    (c.set d w).retire (!(c.set d w).priv) ((c.set d w).pc + 4) = retired c d w := by
  rw [Core.set_priv, Core.set_pc, Core.set_retire]

end Sys2Proof.Machine

/-! What the route engine may change (R32, R66, R69): a request, whatever its kind, is a chain of stores into the
engine-owned tables and of notes in the engine's error registers and the core's coded-value counts. `EngineWork` says
what such a chain keeps; one lemma for each operation extends it. -/

namespace Sys2Proof.Machine

open Sys2Proof.Safety

/-- A store in canonical form whose chain descriptors name routes of the route state table (R49, R54). -/
def Lane.TablesSound (x : Lane) : Prop :=
  Memory.wf x.store.cells = true ∧ ∀ c, c < 1024 → ∀ m, m ∈ x.members c → m < 8192

/-- The lane `y` is reached from `x` by work of the route engine: the registers, program counter, level and run state of
the core and the counts of completed requests stand, and, in a store whose tables are sound, no byte outside the
engine-owned tables has changed. -/
structure EngineWork (x y : Lane) : Prop where
  g : y.core.g = x.core.g
  pc : y.core.pc = x.core.pc
  priv : y.core.priv = x.core.priv
  run : y.core.run = x.core.run
  reqCount : y.engine.reqCount = x.engine.reqCount
  refusedCount : y.engine.refusedCount = x.engine.refusedCount
  wf : x.TablesSound → Memory.wf y.store.cells = true
  outside : x.TablesSound → ∀ a, ¬ engineTable a → y.rd8 a = x.rd8 a

/-- Work of the engine that ends with an answer: DONE, REFUSED or ERROR (R65). -/
def AnswerWork (x : Lane) (r : Lane × Answer) : Prop := EngineWork x r.1 ∧ r.2.outcome ≤ 2

/-- Work of the engine that ends with a result word for the request `q` (R65). -/
def ResultWork (x : Lane) (q : Word) (r : Lane × Word) : Prop :=
  EngineWork x r.1 ∧ ∃ outcome classes member reason, outcome ≤ 2 ∧ r.2 = resultWord q outcome classes member reason

theorem EngineWork.refl (x : Lane) : EngineWork x x :=
  ⟨rfl, rfl, rfl, rfl, rfl, rfl, fun hx => hx.1, fun _ _ _ => rfl⟩

namespace EngineWork

variable {x y : Lane}

theorem wr32 (h : EngineWork x y) {a : Nat} (w : Word)
    (ha : x.TablesSound → 0x02400000 ≤ a ∧ a + 4 ≤ 0x02500000) : EngineWork x (y.wr32 a w) := by
  obtain ⟨hg, hpc, hpriv, hrun, hreq, href, hwf, hout⟩ := h
  refine ⟨?_, ?_, ?_, ?_, ?_, ?_, fun hx => ?_, fun hx k hk => ?_⟩
  iterate 6 simpa only [Lane.wr32_core, Lane.wr32_engine]
  · rw [Lane.wr32_store]; exact Store.putList_wf (hwf hx) _ _
  · have := ha hx
    rw [Lane.rd8_wr32 (hwf hx), if_neg (by unfold engineTable at hk; omega), hout hx k hk]

theorem wr8 (h : EngineWork x y) {a : Nat} (b : Byte) (ha : x.TablesSound → engineTable a) :
    EngineWork x (y.wr8 a b) := by
  obtain ⟨hg, hpc, hpriv, hrun, hreq, href, hwf, hout⟩ := h
  refine ⟨?_, ?_, ?_, ?_, ?_, ?_, fun hx => ?_, fun hx k hk => ?_⟩
  iterate 6 simpa only [Lane.wr8_core, Lane.wr8_engine]
  · rw [Lane.wr8_store]; exact Memory.write_wf (hwf hx) _ _
  · rw [Lane.rd8_wr8 (hwf hx), if_neg (by rintro rfl; exact hk (ha hx)), hout hx k hk]

/-- Work that writes the engine's registers but for the counts of requests. -/
theorem eng (h : EngineWork x y) {f : Engine → Engine} (hreq : (f y.engine).reqCount = y.engine.reqCount)
    (href : (f y.engine).refusedCount = y.engine.refusedCount) : EngineWork x (y.eng f) :=
  { h with reqCount := hreq.trans h.reqCount, refusedCount := href.trans h.refusedCount }

theorem engErr (h : EngineWork x y) (bitNo object : Nat) : EngineWork x (y.engErr bitNo object) := h.eng rfl rfl

theorem codedEvents (h : EngineWork x y) (n : Nat) : EngineWork x { y with core := y.core.codedEvents n } := by
  obtain ⟨hg, hpc, hpriv, hrun⟩ := Core.codedEvents_keeps y.core n
  exact { h with g := hg.trans h.g, pc := hpc.trans h.pc, priv := hpriv.trans h.priv, run := hrun.trans h.run }

theorem noteEval (h : EngineWork x y) (object : Nat) (incons : Bool) (n : Nat) :
    EngineWork x (y.noteEval object incons n) := by
  have h1 : EngineWork x (if incons then y.engErr 3 object else y) := by
    split
    · exact h.engErr 3 object
    · exact h
  unfold Lane.noteEval
  dsimp only
  split
  · exact h1
  · exact ((h1.engErr 4 object).eng rfl rfl).codedEvents n

/-- A fold whose every step is work of the engine. -/
theorem foldl {α : Type} {f : Lane → α → Lane} {l : List α} (h : EngineWork x y)
    (step : ∀ z, EngineWork x z → ∀ a ∈ l, EngineWork x (f z a)) : EngineWork x (l.foldl f y) :=
  List.foldlRecOn l f h step

end EngineWork

/-! The addresses that the engine stores to lie in its tables. -/

theorem refOf_elem_lt (n : Nat) : (refOf n).elem < 16384 := Nat.mod_lt _ (by decide)

theorem Lane.elem_lt_of_mem_refs {x : Lane} {r : Nat} {e : Ref} (he : e ∈ x.refs r) : e.elem < 16384 := by
  obtain ⟨i, -, rfl⟩ := List.mem_map.mp he
  exact refOf_elem_lt _

theorem Lane.elem_lt_of_mem_remaining {x : Lane} {r : Nat} {e : Ref} (he : e ∈ x.remaining r) : e.elem < 16384 := by
  unfold Lane.remaining at he
  split at he
  · exact absurd he List.not_mem_nil
  · exact Lane.elem_lt_of_mem_refs (List.mem_of_mem_filter he)

theorem reqObject_lt (q : Word) : reqObject q < 16384 := fieldN_lt q 8 14

theorem Lane.routeChain_lt (x : Lane) (r : Nat) : x.routeChain r < 1024 := fieldN_lt _ 16 10

/-- The engine accepts no chain descriptor of a number that its CHAIN field cannot hold (R54). -/
theorem Lane.lt_of_chainFault {x : Lane} {c : Nat} (h : x.chainFault c = 0) : c < 1024 := by
  unfold Lane.chainFault at h
  split at h
  · exact absurd h (by decide)
  · split at h
    · rename_i hok
      simp only [Lane.chainOk, Bool.and_eq_true, decide_eq_true_eq] at hok
      exact hok.1.1.1.1.1.1.1.2 ▸ fieldN_lt _ 0 10
    · exact absurd h (by decide)

theorem stAddr_in_tables {e off : Nat} (he : e < 16384) (hoff : off ≤ 28) :
    0x02400000 ≤ stAddr e + off ∧ stAddr e + off + 4 ≤ 0x02500000 := by
  unfold stAddr; omega

theorem rsAddr_in_tables {r off : Nat} (hr : r < 16384) (hoff : off ≤ 4) :
    0x02400000 ≤ rsAddr r + off ∧ rsAddr r + off + 4 ≤ 0x02500000 := by
  unfold rsAddr; omega

theorem csAddr_in_tables {c off : Nat} (hc : c < 1024) (hoff : off ≤ 12) :
    0x02400000 ≤ csAddr c + off ∧ csAddr c + off + 4 ≤ 0x02500000 := by
  unfold csAddr; omega

namespace EngineWork

variable {x y : Lane}

/-- The engine leaves the chain descriptors alone, so its members stay those of the lane as it was. -/
theorem members_eq (h : EngineWork x y) (hx : x.TablesSound) {c : Nat} (hc : c < 1024) : y.members c = x.members c := by
  have hrd : ∀ off, off < 64 → y.rd8 (chainAddr c + off) = x.rd8 (chainAddr c + off) := fun off ho =>
    h.outside hx _ (by unfold engineTable chainAddr; omega)
  have hword : y.rd32 (chainAddr c) = x.rd32 (chainAddr c) := by
    unfold Lane.rd32
    rw [hrd 1 (by decide), hrd 2 (by decide), hrd 3 (by decide), show y.rd8 (chainAddr c) = _ from hrd 0 (by decide)]
    rfl
  have hcount : y.chainCount c = x.chainCount c := by unfold Lane.chainCount; rw [hword]
  have hle : x.chainCount c ≤ 16 := by
    have := fieldN_lt (x.rd32 (chainAddr c)) 16 4
    unfold Lane.chainCount
    dsimp only
    split <;> omega
  unfold Lane.members
  rw [hcount]
  refine List.map_congr_left fun i hi => ?_
  have hi := List.mem_range.mp hi
  simp only [Lane.chainMember, Lane.rd16, Nat.add_assoc]
  rw [hrd (8 + 2 * i) (by omega), hrd (8 + (2 * i + 1)) (by omega)]

theorem member_lt (h : EngineWork x y) {c r : Nat} (hc : c < 1024) (hr : r ∈ y.members c) (hx : x.TablesSound) :
    r < 16384 :=
  Nat.lt_trans (hx.2 c hc r (h.members_eq hx hc ▸ hr)) (by decide)

/-! Routes and their references. -/

theorem setVector (h : EngineWork x y) {r : Nat} (b : Bool) (hr : x.TablesSound → r < 16384) :
    EngineWork x (y.setVector r b) :=
  h.wr8 _ fun hx => by have := hr hx; unfold engineTable; omega

theorem setRoute (h : EngineWork x y) {r : Nat} (st : Nat) (hr : x.TablesSound → r < 16384) :
    EngineWork x (y.setRoute r st) :=
  ((h.wr32 _ fun hx => rsAddr_in_tables (off := 0) (hr hx) (by decide)).wr32 _
    fun hx => rsAddr_in_tables (hr hx) (by decide)).setVector _ hr

theorem wrRoute (h : EngineWork x y) {r : Nat} (w : Word) (hr : x.TablesSound → r < 16384) :
    EngineWork x (y.wr32 (rsAddr r) w) :=
  h.wr32 w fun hx => rsAddr_in_tables (off := 0) (hr hx) (by decide)

theorem wrElem (h : EngineWork x y) {e off : Nat} (w : Word) (he : e < 16384) (hoff : off ≤ 28) :
    EngineWork x (y.wr32 (stAddr e + off) w) :=
  h.wr32 w fun _ => stAddr_in_tables he hoff

theorem setEntered (h : EngineWork x y) {r : Nat} (hr : x.TablesSound → r < 16384) : EngineWork x (y.setEntered r) :=
  h.wrRoute _ hr

theorem freeRoute (h : EngineWork x y) {r : Nat} (hr : x.TablesSound → r < 16384) : EngineWork x (y.freeRoute r) :=
  (h.wrRoute _ hr).setRoute 0 hr

theorem takeRef (h : EngineWork x y) (r : Nat) {e : Ref} (he : e.elem < 16384) : EngineWork x (y.takeRef r e) := by
  unfold Lane.takeRef
  dsimp only
  split
  · have h1 := h.wrElem (off := 0x0C) codedFalse he (by decide)
    split
    · exact (h1.wrElem (off := 0x14) _ he (by decide)).wrElem (off := 0x18) _ he (by decide)
    · exact h1.wrElem (off := 0x18) _ he (by decide)
  · exact h.wrElem (off := 0x18) _ he (by decide)

theorem releaseRef (h : EngineWork x y) {e : Ref} (he : e.elem < 16384) : EngineWork x (y.releaseRef e) := by
  unfold Lane.releaseRef
  dsimp only
  split
  · exact ((h.wrElem (off := 0x18) _ he (by decide)).wrElem (off := 0x0C) _ he (by decide)).wrElem (off := 0x10) _ he
      (by decide)
  · exact h.wrElem (off := 0x18) _ he (by decide)

theorem releaseRefs (h : EngineWork x y) {es : List Ref} (hes : ∀ e ∈ es, e.elem < 16384) :
    EngineWork x (es.foldl (fun z e => z.releaseRef e) y) :=
  h.foldl fun _ hz e he => hz.releaseRef (hes e he)

theorem doSet (h : EngineWork x y) {r : Nat} (hr : x.TablesSound → r < 16384) : EngineWork x (y.doSet r) :=
  ((h.foldl fun _ hz _ he => hz.takeRef r (Lane.elem_lt_of_mem_refs he)).wrRoute _ hr).setRoute 1 hr

theorem releaseAll (h : EngineWork x y) {r : Nat} (hr : x.TablesSound → r < 16384) : EngineWork x (y.releaseAll r) :=
  (h.releaseRefs fun _ he => Lane.elem_lt_of_mem_remaining he).freeRoute hr

theorem lockRefs (h : EngineWork x y) (r : Nat) : EngineWork x (y.lockRefs r) :=
  h.foldl fun _ hz _ he => hz.wrElem (off := 0x10) _ (Lane.elem_lt_of_mem_refs he) (by decide)

/-! Chains. -/

theorem wrChain (h : EngineWork x y) {c off : Nat} (w : Word) (hc : c < 1024) (hoff : off ≤ 12) :
    EngineWork x (y.wr32 (csAddr c + off) w) :=
  h.wr32 w fun _ => csAddr_in_tables hc hoff

theorem setChain (h : EngineWork x y) {c : Nat} (st : Nat) (hc : c < 1024) : EngineWork x (y.setChain c st) :=
  (h.wrChain (off := 0) _ hc (by decide)).wrChain (off := 8) _ hc (by decide)

theorem chainEnter (h : EngineWork x y) {c : Nat} (hc : c < 1024) : EngineWork x (y.chainEnter c) :=
  h.wrChain (off := 0) _ hc (by decide)

theorem idleChain (h : EngineWork x y) {c : Nat} (hc : c < 1024) : EngineWork x (y.idleChain c) := by
  have h1 := (h.wrChain (off := 0) (putField (y.rd32 (csAddr c)) 3 1 0) hc (by decide)).setChain 0 hc
  refine h1.foldl fun z hz r hr => ?_
  split
  · exact hz.wrRoute _ (h1.member_lt hc hr)
  · exact hz

theorem chainCheckIdle (h : EngineWork x y) (r : Nat) : EngineWork x (y.chainCheckIdle r) := by
  unfold Lane.chainCheckIdle
  dsimp only
  split
  · split
    · exact h.idleChain (y.routeChain_lt r)
    · exact h
  · exact h

theorem rollback (h : EngineWork x y) {c : Nat} (hc : c < 1024) : EngineWork x (y.rollback c) := by
  refine EngineWork.wrChain (off := 0xC) (EngineWork.idleChain (h.foldl fun z hz r hr => ?_) hc) _ hc (by decide)
  split
  · exact hz
  · exact hz.releaseAll (h.member_lt hc hr)

/-! Requests (R66): each is work of the engine and ends DONE, REFUSED or ERROR. -/

theorem done (h : EngineWork x y) : AnswerWork x (y, .done) := ⟨h, Nat.zero_le 2⟩

theorem refused (h : EngineWork x y) {reason member : Nat} : AnswerWork x (y, .refused reason member) :=
  ⟨h, Nat.le_succ 1⟩

theorem error (h : EngineWork x y) {reason member : Nat} : AnswerWork x (y, .error reason member) := ⟨h, Nat.le_refl 2⟩

theorem routeRequest (h : EngineWork x y) (kind : Nat) {r : Nat} (arg : Nat) (v : Eval) (hr : r < 16384) :
    AnswerWork x (y.routeRequest kind r arg v) := by
  unfold Lane.routeRequest
  dsimp only
  split
  case h_1 =>
    split
    · exact (h.doSet fun _ => hr).done
    · exact h.refused
  case h_2 =>
    split
    · exact h.refused
    split
    · exact h.refused
    · exact (h.setRoute 4 fun _ => hr).done
  case h_3 =>
    have hes : ∀ e ∈ (y.refs r).filter (fun e => decide (e.seg = arg)), e.elem < 16384 := fun e he =>
      Lane.elem_lt_of_mem_refs (List.mem_of_mem_filter he)
    split
    · exact h.refused
    split
    · exact h.refused
    split
    · exact h.refused
    split
    · exact (h.engErr 5 _).error
    split
    · exact (((h.releaseRefs hes).freeRoute fun _ => hr).chainCheckIdle r).done
    · exact ((h.releaseRefs hes).wrRoute _ fun _ => hr).done
  case h_4 =>
    split
    · exact h.refused
    split
    · exact h.refused
    split
    · exact h.refused
    · exact (h.releaseAll fun _ => hr).done
  case h_5 => exact (h.wrRoute _ fun _ => hr).done
  case h_6 => exact (h.wrRoute _ fun _ => hr).done
  case h_7 => exact h.done

theorem chainSet (h : EngineWork x y) (c : Nat) : AnswerWork x (y.chainSet c) := by
  unfold Lane.chainSet
  dsimp only
  split
  · exact (h.engErr _ c).error
  rename_i hf
  have hc : c < 1024 := Lane.lt_of_chainFault (not_not.mp hf)
  split
  · exact h.refused
  split
  · exact (h.engErr _ _).error
  have hnote := h.foldl (l := y.members c)
    (f := fun z r => z.noteEval r (y.routeEval r).inconsistent (y.routeEval r).coded) fun _ hz r _ => hz.noteEval r _ _
  split
  · exact hnote.refused
  · have hset := hnote.foldl (l := y.members c) (f := fun z r =>
        (z.doSet r).wr32 (rsAddr r) (putField (putField ((z.doSet r).rd32 (rsAddr r)) 5 1 1) 16 10 c)) fun _ hz r hr =>
      (hz.doSet (h.member_lt hc hr)).wrRoute _ (h.member_lt hc hr)
    exact (((hset.wrChain (off := 0) _ hc (by decide)).setChain 1 hc).wrChain (off := 4) _ hc (by decide)).done

theorem chainCancel (h : EngineWork x y) (c : Nat) : AnswerWork x (y.chainCancel c) := by
  unfold Lane.chainCancel
  dsimp only
  split
  · exact (h.engErr _ c).error
  rename_i hf
  have hc : c < 1024 := Lane.lt_of_chainFault (not_not.mp hf)
  split
  · exact h.refused
  split
  · exact (h.engErr 5 _).error
  · refine (setChain (h.foldl fun z hz r hr => ?_) 4 hc).done
    split
    · exact hz
    · exact hz.setRoute 4 (h.member_lt hc hr)

theorem chainRelease (h : EngineWork x y) (c : Nat) : AnswerWork x (y.chainRelease c) := by
  unfold Lane.chainRelease
  dsimp only
  split
  · exact (h.engErr _ c).error
  rename_i hf
  have hc : c < 1024 := Lane.lt_of_chainFault (not_not.mp hf)
  split
  · exact h.refused
  split
  · exact (h.engErr _ _).error
  have hnote := h.foldl (l := y.members c) (f := fun z r => z.noteEval r false (y.clearInvalid (y.remaining r)))
    fun _ hz r _ => hz.noteEval r _ _
  split
  · exact hnote.refused
  · exact ((hnote.foldl fun _ hz _ hr => hz.releaseAll (h.member_lt hc (List.mem_of_mem_filter hr))).idleChain hc).done

theorem moveElement (h : EngineWork x y) {e : Nat} (pos : Nat) (he : e < 16384) :
    AnswerWork x (y.moveElement e pos) := by
  have hnote := h.noteEval e (inconsistentLock (y.es e 0x0C) (y.es e 0x10))
    (invalid1 (y.es e 0x0C) + invalid1 (y.es e 0x10) + invalid1 (y.es e 0x08) +
      (if typeOccupancy (y.elemType e) then invalid1 (y.es e 0x00) else 0))
  unfold Lane.moveElement
  dsimp only
  split
  · exact (h.engErr 5 e).error
  split
  · exact (h.engErr 2 e).error
  split
  · exact h.refused
  split
  · exact hnote.refused
  split
  · exact hnote.refused
  split
  · exact hnote.refused
  split
  · exact hnote.refused
  · exact (hnote.wrElem (off := 0x14) _ he (by decide)).done

/-! The sweep (R51, R56, R58, R60). -/

theorem mapBit (h : EngineWork x y) {r c : Nat} (b : Bool) (hr : x.TablesSound → r < 16384) (hc : c < 6) :
    EngineWork x (y.mapBit r c b) :=
  h.wr8 _ fun hx => by have := hr hx; unfold engineTable; omega

theorem mapRoute (h : EngineWork x y) {r : Nat} (v : BitVec 6) (hr : r < 16384) : EngineWork x (y.mapRoute r v) :=
  h.foldl fun _ hz _ hc => hz.mapBit _ (fun _ => hr) (List.mem_range.mp hc)

theorem advance (h : EngineWork x y) {r : Nat} (hr : r < 16384) : EngineWork x (y.advance r) := by
  have hnote := fun full => h.noteEval r false (y.routeCond full r).coded
  unfold Lane.advance
  split
  case h_1 =>
    dsimp only
    split
    · exact ((hnote false).lockRefs r).setRoute 2 fun _ => hr
    · exact hnote false
  case h_2 =>
    split
    · exact h
    dsimp only
    split
    · exact (hnote true).setRoute 3 fun _ => hr
    · exact hnote true
  case h_3 =>
    split
    · exact h
    dsimp only
    split
    · exact ((hnote true).setEntered fun _ => hr).setRoute 2 fun _ => hr
    split
    · exact (hnote true).setRoute 2 fun _ => hr
    · exact hnote true
  case h_4 => exact h

theorem sweepFail {w : Sweep} (h : EngineWork x w.x) (reason object : Nat) : EngineWork x (w.fail reason object).x :=
  h.engErr _ _

theorem sweepPre {w : Sweep} (h : EngineWork x w.x) (c : Nat) : EngineWork x (w.pre c).x := by
  unfold Sweep.pre
  dsimp only
  split
  · exact h.sweepFail _ c
  rename_i hf
  split
  · split
    · exact h.sweepFail _ _
    · exact h.rollback (Lane.lt_of_chainFault (not_not.mp hf))
  · exact h

theorem sweepRoute {w : Sweep} (h : EngineWork x w.x) {r : Nat} (hr : r < 16384) : EngineWork x (w.route r).x := by
  unfold Sweep.route
  dsimp only
  split
  · exact (h.sweepFail _ r).mapRoute 2 hr
  · exact ((h.advance hr).noteEval r _ _).mapRoute _ hr

theorem backToLocked (h : EngineWork x y) {r : Nat} (entered : Bool) (hr : x.TablesSound → r < 16384) :
    EngineWork x (y.backToLocked r entered) := by
  have hent : EngineWork x (if entered then y.setEntered r else y) := by
    split
    · exact h.setEntered hr
    · exact h
  have hlock : ∀ z, EngineWork x z →
      EngineWork x ((if z.routeState r = 3 then z.setRoute r 2 else z).mapBit r 5 false) := fun z hz => by
    refine mapBit ?_ false hr (by decide)
    split
    · exact hz.setRoute 2 hr
    · exact hz
  exact hlock _ hent

/-- The events of the conditions of a chain's members noted (R56). -/
theorem noteConds (h : EngineWork x y) (ks : List (Nat × Cond)) :
    EngineWork x (ks.foldl (fun z k => z.noteEval k.1 false k.2.coded) y) :=
  h.foldl fun _ hz k _ => hz.noteEval k.1 false k.2.coded

theorem provenChain (h : EngineWork x y) {c : Nat} (hc : c < 1024) : EngineWork x (y.provenChain c) := by
  have hmem : ∀ r ∈ y.members c, x.TablesSound → r < 16384 := fun r hr => h.member_lt hc hr
  have hnote := h.noteConds ((y.members c).map fun r => (r, y.routeCond true r))
  unfold Lane.provenChain
  dsimp only
  split
  · exact hnote
  split
  · refine setChain (chainEnter ?_ hc) 2 hc
    split
    · exact hnote
    · rename_i r rs heq
      exact hnote.backToLocked true (hmem r (heq ▸ List.mem_cons_self))
  · refine setChain ?_ 2 hc
    have hback := hnote.foldl (l := (y.members c).map fun r => (r, y.routeCond true r))
      (f := fun z k => z.backToLocked k.1 (!k.2.pathClear)) fun z hz k hk => by
        obtain ⟨r, hr, rfl⟩ := List.mem_map.mp hk
        exact hz.backToLocked _ (hmem r hr)
    split
    · exact hback.chainEnter hc
    · exact hback

theorem lockedChain (h : EngineWork x y) {c : Nat} (hc : c < 1024) : EngineWork x (y.lockedChain c) := by
  have hnote := h.noteConds ((y.members c).map fun r => (r, y.routeCond true r))
  unfold Lane.lockedChain
  dsimp only
  split
  · refine setChain (hnote.foldl fun z hz r hr => ?_) 3 hc
    exact (hz.setRoute 3 (h.member_lt hc hr)).mapBit true (h.member_lt hc hr) (by decide)
  · exact hnote

theorem sweepPost {w : Sweep} (h : EngineWork x w.x) (c : Nat) : EngineWork x (w.post c).x := by
  unfold Sweep.post
  dsimp only
  split
  · split
    · exact h.sweepFail _ c
    · exact h
  rename_i hf
  have hc : c < 1024 := Lane.lt_of_chainFault (not_not.mp hf)
  split
  · exact h
  split
  case h_1 =>
    split
    · exact h.setChain 2 hc
    · exact h
  case h_2 => exact h.lockedChain hc
  case h_3 => exact h.provenChain hc
  case h_4 => exact h

theorem doSweep (h : EngineWork x y) (free : Word) : EngineWork x (y.doSweep free).1 := by
  have hpre : EngineWork x ((List.range y.engine.cfgChains.toNat).foldl Sweep.pre ⟨y, 0, 0⟩).x :=
    List.foldlRecOn _ Sweep.pre (motive := fun w => EngineWork x w.x) h fun w hw c _ => hw.sweepPre c
  have hroute := List.foldlRecOn (List.range y.engine.cfgRoutes.toNat) Sweep.route
    (motive := fun w => EngineWork x w.x) hpre fun w hw r hr =>
      hw.sweepRoute (Nat.lt_trans (List.mem_range.mp hr) y.engine.cfgRoutes.isLt)
  have hpost := List.foldlRecOn (List.range y.engine.cfgChains.toNat) Sweep.post
    (motive := fun w => EngineWork x w.x) hroute fun w hw c _ => hw.sweepPost c
  unfold Lane.doSweep
  dsimp only
  exact hpost.eng rfl rfl

/-- The sweep as a request: DONE, or ERROR with the reason of its first error (R58). -/
theorem sweepRequest (h : EngineWork x y) (free : Word) : AnswerWork x
    ((y.doSweep free).1, if (y.doSweep free).2 = 0 then .done else .error (y.doSweep free).2) := by
  split
  · exact (h.doSweep free).done
  · exact (h.doSweep free).error

theorem refuseMode (h : EngineWork x y) (q : Word) : ResultWork x q (y.refuseMode q) := by
  unfold Lane.refuseMode
  dsimp only
  split
  · exact ⟨h, 1, _, _, _, by decide, rfl⟩
  split
  · exact ⟨h, 1, _, _, _, by decide, rfl⟩
  · exact ⟨h.noteEval _ _ _, 1, _, _, _, by decide, rfl⟩

/-- Every request is work of the engine and ends with a result word of its own (R66). -/
theorem request (h : EngineWork x y) (mode : Mode) (free q : Word) : ResultWork x q (y.request mode free q) := by
  have hanswer : ∀ (r : Lane × Answer) (classes : BitVec 6), AnswerWork x r →
      ResultWork x q (r.1, resultWord q r.2.outcome classes r.2.member r.2.reason) :=
    fun r classes hr => ⟨hr.1, _, _, _, _, hr.2, rfl⟩
  unfold Lane.request
  dsimp only
  split
  · exact h.refuseMode q
  split
  · split
    · exact ⟨h.engErr _ _, 2, _, _, _, by decide, rfl⟩
    · exact hanswer _ _ ((h.noteEval _ _ _).routeRequest _ _ _ (reqObject_lt q))
  · refine hanswer _ _ ?_
    split
    case h_1 => exact h.chainSet _
    case h_2 => exact h.chainCancel _
    case h_3 => exact h.chainRelease _
    case h_4 => exact h.moveElement _ (reqObject_lt q)
    case h_5 => exact h.sweepRequest free

end EngineWork

/-! The fields of a result word (R65). -/

theorem reqKind_lt (q : Word) : reqKind q < 2 ^ 5 := fieldN_lt q 0 5

section

variable (q : Word) {outcome : Nat} (classes : BitVec 6) (member reason : Nat) (h : outcome < 2 ^ 3)

include h

theorem fieldN_resultWord_kind : fieldN (resultWord q outcome classes member reason) 0 5 = reqKind q := by
  refine fieldN_eq_of_bits (reqKind_lt q) (by decide) fun i hi => ?_
  simp only [resultWord, BitVec.getLsbD_or]
  rw [getLsbD_place_outside h (by omega), getLsbD_place_outside classes.isLt (by omega),
    getLsbD_place_outside (n := member % 16) (w := 4) (Nat.mod_lt _ (by decide)) (by omega),
    getLsbD_place_outside (n := reason % 16) (w := 4) (Nat.mod_lt _ (by decide)) (by omega),
    getLsbD_place_outside (fieldN_lt q 26 6) (by omega)]
  simp only [Bool.or_false]

theorem fieldN_resultWord_outcome : fieldN (resultWord q outcome classes member reason) 5 3 = outcome := by
  refine fieldN_eq_of_bits h (by decide) fun i hi => ?_
  simp only [resultWord, BitVec.getLsbD_or]
  rw [getLsbD_place_outside (reqKind_lt q) (by omega), getLsbD_place_outside classes.isLt (by omega),
    getLsbD_place_outside (n := member % 16) (w := 4) (Nat.mod_lt _ (by decide)) (by omega),
    getLsbD_place_outside (n := reason % 16) (w := 4) (Nat.mod_lt _ (by decide)) (by omega),
    getLsbD_place_outside (fieldN_lt q 26 6) (by omega)]
  simp only [Bool.or_false, Bool.false_or]

theorem fieldN_resultWord_tag :
    fieldN (resultWord q outcome classes member reason) 26 6 = fieldN q 26 6 := by
  refine fieldN_eq_of_bits (fieldN_lt q 26 6) (by decide) fun i hi => ?_
  simp only [resultWord, BitVec.getLsbD_or]
  rw [getLsbD_place_outside (reqKind_lt q) (by omega), getLsbD_place_outside h (by omega),
    getLsbD_place_outside classes.isLt (by omega),
    getLsbD_place_outside (n := member % 16) (w := 4) (Nat.mod_lt _ (by decide)) (by omega),
    getLsbD_place_outside (n := reason % 16) (w := 4) (Nat.mod_lt _ (by decide)) (by omega)]
  simp only [Bool.false_or]

end

theorem reqKind_eq_mod (w : Word) : reqKind w = w.toNat % 32 := by
  rw [reqKind, fieldN_eq_div_mod, Nat.pow_zero, Nat.div_one]
  rfl

/-- TAG is the highest field of a word (R65). -/
theorem fieldN_tag (w : Word) : fieldN w 26 6 = w.toNat / 2 ^ 26 := by
  have := w.isLt
  rw [fieldN_eq_div_mod]
  omega

/-! The engine's commands: each completes the oldest pending request where that is of its kind (R66, R69). -/

/-- The command of a kind is `State.engineDo` of that kind. -/
theorem exec_of_engineKind {i : Instr} {l : LaneId} {k : Nat} (h : engineKind i = some (l, k)) (s : State) :
    exec i s = .next (s.engineDo l k) := by
  unfold engineKind at h
  split at h <;> cases h <;> rfl

theorem State.descParity_calm {s : State} (h : Calm s) (l : LaneId) (body : State → State) :
    s.descParity l body = body s := by
  simp [State.descParity, State.injected_calm h]

theorem State.requestHit_calm {s : State} (h : Calm s) (l : LaneId) : s.requestHit l = false := by
  simp [State.requestHit, State.injected_calm h]

/-- With no injection armed a command of the pending request's kind has the engine complete it. -/
theorem State.engineDo_calm {s : State} (hc : Calm s) {l : LaneId} {before later : List QEntry} {q : Word}
    (hq : splitPending (s.lane l).engine.queue = some (before, q, later)) {k : Nat} (hk : reqKind q = k) :
    s.engineDo l k = { s with
      lanes := s.lanes.set l ((s.lane l).engineStep s.md.mode (Config.freeWord s.freeCtr))
      freeCtr := s.freeCtr + 1 } := by
  unfold State.engineDo
  rw [hq]
  dsimp only
  rw [if_neg (not_not.mpr hk), State.descParity_calm hc, State.requestHit_calm hc]
  rfl

/-- A command that finds no pending request of its kind changes nothing (R69, log 6). -/
theorem State.engineDo_idle {s : State} {l : LaneId} {k : Nat}
    (h : ∀ before q later, splitPending (s.lane l).engine.queue = some (before, q, later) → reqKind q ≠ k) :
    s.engineDo l k = s := by
  unfold State.engineDo
  split
  · rename_i before q later hq
    rw [if_pos (h before q later hq)]
  · rfl

/-- What the engine's step leaves: the lane after the request, its result in the queue, the counts (R69, R83). -/
theorem Lane.engineStep_eq {x : Lane} {before later : List QEntry} {q : Word}
    (hq : splitPending x.engine.queue = some (before, q, later)) (mode : Mode) (free : Word) :
    x.engineStep mode free = (x.request mode free q).1.eng fun g => { g with
      queue := before ++ { request := q, result := some (x.request mode free q).2 } :: later
      reqCount := satInc g.reqCount
      refusedCount := if fieldN (x.request mode free q).2 5 3 = 1 then satInc g.refusedCount else g.refusedCount } := by
  unfold Lane.engineStep
  rw [hq]

/-- The command's lane is that of the engine's step. -/
theorem State.lane_engineDo {s : State} (hc : Calm s) {l : LaneId} {before later : List QEntry} {q : Word}
    (hq : splitPending (s.lane l).engine.queue = some (before, q, later)) {k : Nat} (hk : reqKind q = k) :
    (s.engineDo l k).lane l = (s.lane l).engineStep s.md.mode (Config.freeWord s.freeCtr) := by
  rw [State.engineDo_calm hc hq hk]
  exact PerLane.get_set_same _ _ _

/-- Settles O18: the request is work of the engine (`EngineWork.request`), which keeps the core and the counts, and its
result word carries the fields of R65. -/
theorem engineAnswers : Obligations.EngineAnswers := by
  unfold Obligations.EngineAnswers
  intro s i l k before later q hi hc hq hk
  have hkind : reqKind q = k := (reqKind_eq_mod q).trans hk
  have hlane := (State.lane_engineDo hc hq hkind).trans (Lane.engineStep_eq hq _ _)
  obtain ⟨hwork, outcome, classes, member, reason, ho, hw⟩ :=
    (EngineWork.refl (s.lane l)).request s.md.mode (Config.freeWord s.freeCtr) q
  generalize (s.lane l).request s.md.mode (Config.freeWord s.freeCtr) q = r at hlane hwork hw
  have ho8 : outcome < 2 ^ 3 := Nat.lt_of_le_of_lt ho (by decide)
  have hkindR : r.2.toNat % 32 = k := by
    rw [← reqKind_eq_mod, ← hkind, hw]
    exact fieldN_resultWord_kind q classes member reason ho8
  have hfield : fieldN r.2 5 3 = outcome := hw ▸ fieldN_resultWord_outcome q classes member reason ho8
  have houtR : r.2.toNat / 32 % 8 = outcome := (fieldN_eq_div_mod _ 5 3).symm.trans hfield
  have htagR : r.2.toNat / 2 ^ 26 = q.toNat / 2 ^ 26 := by
    rw [← fieldN_tag, ← fieldN_tag, hw]
    exact fieldN_resultWord_tag q classes member reason ho8
  refine ⟨s.engineDo l k, r.2, exec_of_engineKind hi s, ?_, hkindR, htagR, houtR ▸ ho, ?_, ?_, ?_, ?_, ?_, ?_, ?_, ?_⟩
  · rw [hlane]; rfl
  · rw [hlane, ← hwork.reqCount]; rfl
  · rw [hlane, ← hwork.refusedCount, houtR, ← hfield]; rfl
  · rw [hlane]; exact hwork.g
  · rw [hlane]; exact hwork.pc
  · rw [hlane]; exact hwork.priv
  · rw [hlane]; exact hwork.run
  · intro j hj
    rw [State.engineDo_calm hc hq hkind]
    exact PerLane.get_set_other _ _ hj
  · rw [State.engineDo_calm hc hq hkind]

/-- Settles O19: the request is work of the engine (`EngineWork.request`), whose stores lie in the engine's tables; a
command that finds no request of its kind changes nothing. -/
theorem engineWritesItsTables : Obligations.EngineWritesItsTables := by
  unfold Obligations.EngineWritesItsTables
  intro s t i l k hi hc hwf hmem ht
  have hx : (s.lane l).TablesSound := ⟨hwf, hmem⟩
  obtain rfl : s.engineDo l k = t := Host.Outcome.next.inj ((exec_of_engineKind hi s).symm.trans ht)
  by_cases hq : ∃ before q later, splitPending (s.lane l).engine.queue = some (before, q, later) ∧ reqKind q = k
  · obtain ⟨before, q, later, hq, hk⟩ := hq
    obtain ⟨hwork, -⟩ := (EngineWork.refl (s.lane l)).request s.md.mode (Config.freeWord s.freeCtr) q
    rw [State.lane_engineDo hc hq hk, Lane.engineStep_eq hq]
    exact ⟨hwork.wf hx, hwork.outside hx⟩
  · rw [State.engineDo_idle fun before q later hsplit hk => hq ⟨before, q, later, hsplit, hk⟩]
    exact ⟨hwf, fun _ _ => rfl⟩

end Sys2Proof.Machine

/-! The instructions that work on the engine's queue (R161, R175, R176). -/

namespace Sys2Proof.Machine

open Sys2Proof.Safety

/-- The engine with a request put at the tail of its queue (R65, R57). -/
def Engine.put (g : Engine) (q : Word) : Engine :=
  { g with queue := g.queue ++ [{ request := q, result := none }], sweepPut := g.sweepPut || reqKind q = 0x0C }

theorem kindValid_of {q : Word} (h1 : 1 ≤ q.toNat % 32) (h12 : q.toNat % 32 ≤ 12) : kindValid (reqKind q) = true := by
  rw [reqKind_eq_mod]
  simp [kindValid, h1, h12]

/-- A request of a kind that a CHAIN_ONLY route does not take is SET, CANCEL or RELEASE (R68). -/
theorem chainOnlyKind_iff (q : Word) :
    chainOnlyKind (reqKind q) = true ↔ q.toNat % 32 = 2 ∨ q.toNat % 32 = 3 ∨ q.toNat % 32 = 5 := by
  rw [reqKind_eq_mod]
  simp [chainOnlyKind]

/-- The engine passes a request (R175): it is enabled, the request is of a kind of R66 with its reserved bits 0 and an
object that exists, the queue has room, and a CHAIN_ONLY route is not asked for what only its chain may do. -/
structure Lane.Passes (x : Lane) (q : Word) : Prop where
  enabled : x.engine.enable = true
  kind : kindValid (reqKind q) = true
  clean : requestClean q = true
  object : x.objectFits q = true
  room : x.engine.queue.length < 64
  notChainOnly : chainOnlyKind (reqKind q) = true → (x.rw (reqObject q) 0).getLsbD 24 = false

/-- RQPUT of a request that the engine passes puts it at the tail of the queue (R175). -/
theorem exec_rqput {s : State} {l : LaneId} {a : Reg} (hrole : s.md.role ≠ .oc) (hr : Runs s l (.rqput l a))
    (hs : SoundRegs s l [a]) (hclean : CleanStore s l) {q : Word} (hq : (s.lane l).core.get a = q)
    (hpass : (s.lane l).Passes q) :
    exec (.rqput l a) s =
      .next (after s l (wrote { s.lane l with engine := (s.lane l).engine.put q } 0 0)) := by
  obtain ⟨ht, hc⟩ := hr
  obtain ⟨hen, hkind, hreq, hobj, hlen, hchain⟩ := hpass
  refine congrArg Host.Outcome.next ((State.begin_takes ht _ _).trans ?_)
  rw [← State.finish_plain, State.readReg_sound hs hc, hq]
  refine congrArg (State.counted · l) ?_
  dsimp only
  rw [if_neg hrole, if_neg (by simp [hen, hkind, hreq, hobj]), if_neg (Nat.not_le.mpr hlen)]
  by_cases hk : chainOnlyKind (reqKind q) = true
  · rw [if_pos hk, State.readStore_clean hclean, if_neg (by rw [bitN, hchain hk]; decide)]
    rfl
  · rw [if_neg hk]
    rfl

/-- RQGET with a result at the head of the queue: the result leaves the queue, is fed and written; an ERROR traps then
(R176). -/
theorem exec_rqget {s : State} {l : LaneId} {d : Reg} (hrole : s.md.role ≠ .oc) (hr : Runs s l (.rqget l d))
    {q w : Word} {rest : List QEntry} (hqueue : (s.lane l).engine.queue = { request := q, result := some w } :: rest)
    {y : Lane} (hy : y = ({ s.lane l with engine := { (s.lane l).engine with queue := rest } }).feed s.md.mode w) :
    exec (.rqget l d) s = .next (if w.toNat / 32 % 8 = 2 then
      ((s.setLane l { y with core := y.core.set d w }).trap l 0x08 (some 0x061) w).counted l
      else after s l (wrote y d w)) := by
  obtain ⟨ht, -⟩ := hr
  have hfeed : ((s.updLane l (fun x => x.eng (fun g => { g with queue := rest }))).feed l w).updCore l
      (fun c => c.set d w) = s.setLane l { y with core := y.core.set d w } := by
    rw [hy]
    unfold State.feed State.updCore
    rw [State.updLane_updLane, State.updLane_updLane]
    rfl
  refine congrArg Host.Outcome.next ((State.begin_takes ht _ _).trans ?_)
  dsimp only
  rw [if_neg hrole, hqueue]
  dsimp only
  rw [hfeed, apply_ite (State.counted · l)]
  refine if_congr (by rw [fieldN_eq_div_mod]; rfl) rfl (State.finish_setLane ?_)
  exact congrArg (fun c => ({ y with core := c } : Lane)) (Core.retire_set y.core d w)

/-- RQGET of a pending request stalls (R176). -/
theorem exec_rqget_pending {s : State} {l : LaneId} {d : Reg} (hrole : s.md.role ≠ .oc) (hr : Runs s l (.rqget l d))
    {q : Word} {rest : List QEntry} (hqueue : (s.lane l).engine.queue = { request := q, result := none } :: rest) :
    exec (.rqget l d) s = .next (withCore s l fun c => { c with run := .stalled (.rqget l d) }) := by
  obtain ⟨ht, -⟩ := hr
  refine congrArg Host.Outcome.next ((State.begin_takes ht _ _).trans ?_)
  dsimp only
  rw [if_neg hrole, hqueue]
  exact State.updCore_counted s l _

/-- RWAIT retires once no request is pending, and stalls before (R176). -/
theorem exec_rwait {s : State} {l : LaneId} (hrole : s.md.role ≠ .oc) (hr : Runs s l (.rwait l))
    (hen : (s.lane l).engine.enable = true) :
    exec (.rwait l) s = .next (withCore s l fun c =>
      if (s.lane l).pendingCount = 0 then retired c 0 0 else { c with run := .stalled (.rwait l) }) := by
  obtain ⟨ht, -⟩ := hr
  refine congrArg Host.Outcome.next ((State.begin_takes ht _ _).trans ?_)
  rw [if_neg hrole, if_neg (by simp [hen])]
  by_cases hp : (s.lane l).pendingCount = 0
  · rw [if_neg (by omega), State.finish_counted]
    refine withCore_congr ?_
    rw [if_pos hp]
    exact Core.retire_plain _
  · rw [if_pos (by omega), State.updCore_counted]
    refine withCore_congr ?_
    rw [if_neg hp]

/-- Once what it waits for has come, a stalled instruction is carried out (R33, R161). -/
theorem exec_engineStallEnd {s : State} {l : LaneId} {i : Instr} (hrun : (s.lane l).core.run = .stalled i)
    (hover : (s.lane l).stallOver i = true) : exec (.engineStallEnd l) s = .next (s.rerun l i) := by
  refine congrArg Host.Outcome.next (?_ : _ = s.rerun l i)
  rw [hrun]
  exact if_pos hover

/-- Settles O14: one lemma for each instruction and case (`exec_rqput`, `exec_rqget`, `exec_rqget_pending`,
`exec_rwait`); the end of a stall runs the instruction again with the core running (`exec_engineStallEnd`). -/
theorem engineQueue : Obligations.EngineQueue := by
  unfold Obligations.EngineQueue
  intro s l hrole
  refine ⟨fun a hr hs hclean hen h1 h12 hreq hobj hlen hchain => ?_,
    fun d q w rest hr hqueue => ⟨fun hw => ?_, fun hw => ?_⟩,
    fun d q rest hr hqueue => exec_rqget_pending hrole hr hqueue, fun hr hen => exec_rwait hrole hr hen,
    fun d q w rest hrun hqueue => ?_, fun d a imm hrun hbusy => ?_⟩
  · rw [exec_rqput hrole hr hs hclean rfl ⟨hen, kindValid_of h1 h12, hreq, hobj, hlen, fun hk =>
      hchain ((chainOnlyKind_iff _).mp hk)⟩]
    unfold Engine.put
    rw [reqKind_eq_mod]
    rfl
  · exact (exec_rqget hrole hr hqueue rfl).trans (congrArg _ (if_neg hw))
  · exact (exec_rqget hrole hr hqueue rfl).trans (congrArg _ (if_pos hw))
  · have hover : (s.lane l).stallOver (.rqget l d) = true := by simp [Lane.stallOver, hqueue]
    exact ⟨_, exec_engineStallEnd hrun hover, rfl⟩
  · have hover : (s.lane l).stallOver (.lw l d a imm) = true := by simp [Lane.stallOver, hbusy]
    exact ⟨_, exec_engineStallEnd hrun hover, rfl⟩

end Sys2Proof.Machine

/-! The element table (R165). -/

namespace Sys2Proof.Machine

open Sys2Proof.Safety

/-- The word of an element that exists lies where R165 has it. -/
theorem elWord_eq {g : Engine} {e w : Nat} (he : e < g.cfgElements.toNat) (hw : w ≤ 7) :
    elWord e w = 0x02400000 + e * 32 + w * 4 := by
  have := g.cfgElements.isLt
  unfold elWord
  omega

/-- ELD or EST with sound sources and a store of right parity, of an element and a word that exist (R156, R165). -/
structure ElementAccess (s : State) (l : LaneId) (a b : Reg) (e w : Nat) : Prop where
  sources : SoundRegs s l [a, b]
  clean : CleanStore s l
  elem_eq : ((s.lane l).core.get a).toNat = e
  word_eq : ((s.lane l).core.get b).toNat = w
  elem_lt : e < (s.lane l).engine.cfgElements.toNat
  word_le : w ≤ 7

section

variable {s : State} {l : LaneId} {d a b : Reg} {e w : Nat} (h : ElementAccess s l a b e w)

include h

/-- Past the checks of the operands there is the stall, then the verification of the record (R33, R165). -/
theorem State.element_eq (hc : Calm s) (i : Instr) (sub : Nat) (body : State → Nat → Nat → State) :
    s.element l i sub a b body =
      if (s.lane l).engineBusy then s.updCore l (fun c => { c with run := .stalled i })
      else if (s.lane l).recordSound e then body s e w
      else s.trap l 0x0E (some sub) (BitVec.ofNat 32 (recAddr e)) := by
  obtain ⟨hs, hclean, rfl, rfl, he, hw⟩ := h
  unfold State.element
  rw [State.readReg_sound (soundRegs_left hs) hc, State.bounds_pass (decide_eq_true he),
    State.readReg_sound (soundRegs_right hs) hc, State.bounds_pass (decide_eq_true hw), State.readStore_clean hclean]

theorem State.element_stall (hc : Calm s) (hbusy : (s.lane l).engineBusy = true) (i : Instr) (sub : Nat)
    (body : State → Nat → Nat → State) :
    s.element l i sub a b body = s.updCore l (fun c => { c with run := .stalled i }) := by
  rw [State.element_eq h hc, if_pos hbusy]

theorem State.element_pass (hc : Calm s) (hfree : (s.lane l).engineBusy = false)
    (hrec : (s.lane l).recordSound e = true) (i : Instr) (sub : Nat) (body : State → Nat → Nat → State) :
    s.element l i sub a b body = body s e w := by
  rw [State.element_eq h hc, if_neg (by rw [hfree]; decide), if_pos hrec]

end

/-- EST accepts in word 5 a value that keeps the engine's bits 3:2 and has every reserved bit 0 (R165). -/
theorem estAllowed_word5 {old v : Word} (h : v &&& 0xFFFFF0EC = old &&& 0xC) : estAllowed 5 old v = true := by
  have hpos : fieldN v 2 2 = fieldN old 2 2 := by
    rw [← fieldN_and_keep v (m := 0xFFFFF0EC) (by decide), h, fieldN_and_keep old (by decide)]
  have hlow : fieldN v 5 3 = 0 := by
    rw [← fieldN_and_keep v (m := 0xFFFFF0EC) (by decide), h, fieldN_and_clear old (by decide)]
  have hhigh : fieldN v 12 20 = 0 := by
    rw [← fieldN_and_keep v (m := 0xFFFFF0EC) (by decide), h, fieldN_and_clear old (by decide)]
  simp [estAllowed, hpos, hlow, hhigh]

/-- EST accepts in word 7 a value whose upper half is 0 (R165). -/
theorem estAllowed_word7 {old v : Word} (h : v &&& 0xFFFF0000 = 0) : estAllowed 7 old v = true := by
  have hhigh : fieldN v 16 16 = 0 := by
    rw [← fieldN_and_keep v (m := 0xFFFF0000) (by decide), h]
    rfl
  simp [estAllowed, hhigh]

/-- The values that EST accepts (R165). -/
theorem estAllowed_of {w : Nat} {old v : Word} (hw : w ≤ 7) (hsame : w = 3 ∨ w = 4 ∨ w = 6 → v = old)
    (h5 : w = 5 → v &&& 0xFFFFF0EC = old &&& 0xC) (h7 : w = 7 → v &&& 0xFFFF0000 = 0) : estAllowed w old v = true := by
  by_cases hown : w = 3 ∨ w = 4 ∨ w = 6
  · rw [hsame hown]
    simp [estAllowed, or_assoc, hown]
  · by_cases hw5 : w = 5
    · subst hw5; exact estAllowed_word5 (h5 rfl)
    · by_cases hw7 : w = 7
      · subst hw7; exact estAllowed_word7 (h7 rfl)
      · simp [estAllowed, or_assoc, hown, hw5, hw7]

section

variable {s : State} {l : LaneId} {d a b : Reg} {e w : Nat} (h : ElementAccess s l a b e w)

include h

/-- ELD stalls while the engine is busy (R161). -/
theorem exec_eld_stall (hr : Runs s l (.eld l d a b)) (hbusy : (s.lane l).engineBusy = true) :
    exec (.eld l d a b) s = .next (withCore s l fun c => { c with run := .stalled (.eld l d a b) }) := by
  refine congrArg Host.Outcome.next ((State.begin_takes hr.1 _ _).trans ?_)
  rw [State.element_stall h hr.2 hbusy, State.updCore_counted]

/-- ELD gives its destination the word of the state entry (R165). -/
theorem exec_eld (hr : Runs s l (.eld l d a b)) (hfree : (s.lane l).engineBusy = false)
    (hrec : (s.lane l).recordSound e = true) :
    exec (.eld l d a b) s = .next (withCore s l fun c => retired c d ((s.lane l).rd32 (elWord e w))) := by
  refine congrArg Host.Outcome.next ((State.begin_takes hr.1 _ _).trans ?_)
  rw [State.element_pass h hr.2 hfree hrec, State.readStore_clean h.clean, State.finishSet, State.finish_counted]
  exact withCore_congr (Core.set_retire _ _ _)

/-- EST stalls while the engine is busy (R161). -/
theorem exec_est_stall (hr : Runs s l (.est l d a b)) (hbusy : (s.lane l).engineBusy = true) :
    exec (.est l d a b) s = .next (withCore s l fun c => { c with run := .stalled (.est l d a b) }) := by
  refine congrArg Host.Outcome.next ((State.begin_takes hr.1 _ _).trans ?_)
  rw [State.element_stall h hr.2 hbusy, State.updCore_counted]

/-- EST by a pack that owns the element, or outside any pack, stores a value that R165 accepts. -/
theorem exec_est (hr : Runs s l (.est l d a b)) (hfree : (s.lane l).engineBusy = false)
    (hrec : (s.lane l).recordSound e = true) (hd : SoundRegs s l [d])
    (hpack : (s.lane l).core.packStack = [] ∨ (s.lane l).core.pack = some ((s.lane l).elemPack e)) {v : Word}
    (hv : (s.lane l).core.get d = v) (hcoded : w ≤ 2 → codedValid v = true)
    (hallowed : estAllowed w ((s.lane l).rd32 (elWord e w)) v = true) :
    exec (.est l d a b) s = .next (after s l (wrote ((s.lane l).wr32 (elWord e w) v) 0 0)) := by
  have howner : ¬ (decide ((s.lane l).core.packStack ≠ []) &&
      decide ((s.lane l).core.pack ≠ some ((s.lane l).elemPack e))) = true := by
    rcases hpack with hp | hp <;> simp [hp]
  have hvalid : ¬ (decide (w ≤ 2) && !codedValid v) = true := by
    by_cases h2 : w ≤ 2
    · simp [hcoded h2]
    · simp [h2]
  refine congrArg Host.Outcome.next ((State.begin_takes hr.1 _ _).trans ?_)
  rw [State.element_pass h hr.2 hfree hrec]
  dsimp only
  rw [if_neg howner, State.readReg_sound hd hr.2, hv, if_neg hvalid, State.readStore_clean h.clean, if_pos hallowed]
  exact State.finish_plain s l _

end

/-- Settles O10: `exec_eld` and `exec_est` at the address of R165, the values that EST accepts being `estAllowed_of`. -/
theorem elementWords : Obligations.ElementWords := by
  unfold Obligations.ElementWords
  intro s l d a b hclean
  dsimp only
  intro hs he hw
  have h : ElementAccess s l a b _ _ := ⟨hs, hclean, rfl, rfl, he, hw⟩
  rw [← elWord_eq he hw]
  refine ⟨fun hr => ⟨exec_eld_stall h hr, exec_eld h hr⟩, fun hr => ⟨exec_est_stall h hr, ?_⟩⟩
  intro hfree hrec hd hpack hcoded hsame h5 h7
  exact ⟨exec_est h hr hfree hrec hd hpack rfl hcoded (estAllowed_of hw hsame h5 h7),
    fun hwf => Lane.wr32_keepsOutside hwf _ _⟩

end Sys2Proof.Machine

/-! The initialisation of the engine-owned tables (R78) and the control register of the engine (R77). -/

namespace Sys2Proof.Machine

open Sys2Proof.Safety

/-- The tables' range cleared (R78). -/
def Lane.clearTables (x : Lane) : Lane := { x with store := x.store.clearRange 0x02400000 0x02500000 }

/-- The first `n` entries of the element state table written (R78). -/
def Lane.initElements (x : Lane) (n : Nat) : Lane :=
  (List.range n).foldl (fun x e => x.poke (stAddr e) (initEntry.flatMap wordBytes)) x

/-- The first `n` entries of the route state table written: a route that its descriptor blocks is BLOCKED (R78). -/
def Lane.initRoutes (x : Lane) (n : Nat) : Lane :=
  (List.range n).foldl (fun x r => if bitN (x.rw r 0x00) 26 then x.poke (rsAddr r) (wordBytes 0x10) else x) x

theorem Lane.engineInit_eq (x : Lane) : x.engineInit = (x.clearTables.initElements 16384).initRoutes 8192 := rfl

theorem Lane.initElements_keeps (x : Lane) (n : Nat) :
    (x.initElements n).engine = x.engine ∧ (x.initElements n).core = x.core := by
  unfold Lane.initElements
  exact ⟨foldl_keep Lane.engine _ (fun _ _ => Lane.poke_engine _ _ _) _ _,
    foldl_keep Lane.core _ (fun _ _ => Lane.poke_core _ _ _) _ _⟩

theorem Lane.initRoutes_keeps (x : Lane) (n : Nat) :
    (x.initRoutes n).engine = x.engine ∧ (x.initRoutes n).core = x.core :=
  ⟨foldl_keep Lane.engine _ (fun _ _ => by split <;> rfl) _ _, foldl_keep Lane.core _ (fun _ _ => by split <;> rfl) _ _⟩

/-- The initialisation writes the store alone. -/
theorem Lane.engineInit_keeps (x : Lane) : x.engineInit.engine = x.engine ∧ x.engineInit.core = x.core := by
  obtain ⟨hroutes, hroutesCore⟩ := (x.clearTables.initElements 16384).initRoutes_keeps 8192
  obtain ⟨helems, helemsCore⟩ := x.clearTables.initElements_keeps 16384
  exact ⟨hroutes.trans helems, hroutesCore.trans helemsCore⟩

theorem length_initEntry : (initEntry.flatMap wordBytes).length = 32 := rfl

/-- The element state table after its first `n` entries: each holds the bytes of R78, and nothing else has changed. -/
theorem Lane.rd8_initElements {x : Lane} (h : Memory.wf x.store.cells = true) (n : Nat) :
    Memory.wf (x.initElements n).store.cells = true ∧ ∀ a, (x.initElements n).rd8 a =
      if 0x02400000 ≤ a ∧ a < stAddr n then (initEntry.flatMap wordBytes).getD ((a - 0x02400000) % 32) 0
      else x.rd8 a := by
  induction n with
  | zero => exact ⟨h, fun a => (if_neg (by unfold stAddr; omega)).symm⟩
  | succ n ih =>
    have hsucc : x.initElements (n + 1) = (x.initElements n).poke (stAddr n) (initEntry.flatMap wordBytes) := by
      unfold Lane.initElements
      rw [List.range_succ, List.foldl_append, List.foldl_cons, List.foldl_nil]
    obtain ⟨hwf, hread⟩ := ih
    rw [hsucc]
    refine ⟨Lane.poke_wf hwf _ _, fun a => ?_⟩
    rw [Lane.rd8_poke hwf, hread, length_initEntry]
    unfold stAddr
    by_cases hin : 0x02400000 + n * 32 ≤ a ∧ a < 0x02400000 + n * 32 + 32
    · rw [if_pos hin, if_pos (by omega), show (a - 0x02400000) % 32 = a - (0x02400000 + n * 32) by omega]
    · rw [if_neg hin]
      exact if_congr (by omega) rfl rfl

/-- The route state table's entries are written within the table. -/
theorem Lane.rd8_initRoutes {x : Lane} (h : Memory.wf x.store.cells = true) (n : Nat) {a : Nat}
    (ha : a < 0x02490000 ∨ rsAddr n ≤ a) : (x.initRoutes n).rd8 a = x.rd8 a := by
  have key : Memory.wf (x.initRoutes n).store.cells = true ∧ (x.initRoutes n).rd8 a = x.rd8 a :=
    List.foldlRecOn (List.range n) _ (motive := fun y : Lane => Memory.wf y.store.cells = true ∧ y.rd8 a = x.rd8 a)
      ⟨h, rfl⟩ fun y ⟨hwf, hread⟩ r hr => by
        have hr := List.mem_range.mp hr
        split
        · refine ⟨Lane.poke_wf hwf _ _, ?_⟩
          rw [Lane.rd8_poke hwf, if_neg, hread]
          show ¬ (rsAddr r ≤ a ∧ a < rsAddr r + 4)
          unfold rsAddr at ha ⊢
          omega
        · exact ⟨hwf, hread⟩
  exact key.2

/-- A byte of the store that the initialisation leaves: in the element state table that of R78, outside the engine-owned
tables as it was. -/
theorem Lane.rd8_engineInit {x y : Lane} (h : Memory.wf x.store.cells = true) (hy : y.store = x.engineInit.store) :
    (∀ e i, e < 16384 → i < 32 → y.rd8 (stAddr e + i) = (initEntry.flatMap wordBytes).getD i 0) ∧
    ∀ a, ¬ engineTable a → y.rd8 a = x.rd8 a := by
  have hclear : Memory.wf x.clearTables.store.cells = true := Store.clearRange_wf h _ _
  obtain ⟨hwf, helems⟩ := Lane.rd8_initElements hclear 16384
  have hrd : ∀ a, y.rd8 a = ((x.clearTables.initElements 16384).initRoutes 8192).rd8 a := fun a => by
    rw [Lane.rd8, Lane.rd8, hy, Lane.engineInit_eq]
  constructor
  · intro e i he hi
    rw [hrd, Lane.rd8_initRoutes hwf _ (by unfold stAddr; omega), helems, if_pos (by unfold stAddr; omega)]
    unfold stAddr
    rw [show (0x02400000 + e * 32 + i - 0x02400000) % 32 = i by omega]
  · intro a ha
    unfold engineTable at ha
    rw [hrd, Lane.rd8_initRoutes hwf _ (by unfold rsAddr; omega), helems, if_neg (by unfold stAddr; omega)]
    exact Memory.read_clear_outside h (by omega)

/-- A word of an element's state after the initialisation is spelled by the bytes of R78. -/
theorem Lane.es_engineInit {x y : Lane} (h : Memory.wf x.store.cells = true) (hy : y.store = x.engineInit.store)
    {e off : Nat} (he : e < 16384) (hoff : off + 3 < 32) : y.es e off =
      wordOfBytes ((initEntry.flatMap wordBytes).getD off 0) ((initEntry.flatMap wordBytes).getD (off + 1) 0)
        ((initEntry.flatMap wordBytes).getD (off + 2) 0) ((initEntry.flatMap wordBytes).getD (off + 3) 0) := by
  have hread := fun i hi => (Lane.rd8_engineInit h hy).1 e i he hi
  unfold Lane.es Lane.rd32
  rw [hread off (by omega), Nat.add_assoc, hread (off + 1) (by omega), Nat.add_assoc, hread (off + 2) (by omega),
    Nat.add_assoc, hread (off + 3) hoff]

/-- The words that the initialisation gives an element (R78). -/
theorem Lane.es_engineInit_words {x y : Lane} (h : Memory.wf x.store.cells = true)
    (hy : y.store = x.engineInit.store) {e : Nat} (he : e < 16384) :
    y.es e 0x00 = codedFalse ∧ y.es e 0x04 = codedFalse ∧ y.es e 0x08 = codedFalse ∧ y.es e 0x0C = codedTrue ∧
    y.es e 0x10 = codedFalse ∧ y.es e 0x14 = 0 ∧ y.es e 0x18 = 0 ∧ y.es e 0x1C = 0xFFFF := by
  refine ⟨?_, ?_, ?_, ?_, ?_, ?_, ?_, ?_⟩ <;> rw [Lane.es_engineInit h hy he (by decide)] <;> decide

/-- Settles O22: the writes of the runtime are changes of the engine's registers, one for each bit of ROUTE_CTRL; the
initialisation is `Lane.es_engineInit_words` and `Lane.rd8_engineInit`. -/
theorem engineControl : Obligations.EngineControl := by
  unfold Obligations.EngineControl
  intro s l
  refine ⟨fun helem hroute hchain => ?_, fun hpend => ?_, fun hoff => ⟨?_, ?_⟩, fun hbusy hwf => ?_,
    fun on hrun hpriv => ?_, fun _ _ => rfl⟩
  · have hfit : (s.lane l).engine.countsFit = true := by simp [Engine.countsFit, helem, hroute, hchain]
    exact congrArg Host.Outcome.next (if_pos hfit)
  · exact congrArg Host.Outcome.next (if_neg (by omega))
  · exact congrArg (fun y => Host.Outcome.next (s.setLane l y)) (if_neg (by simp [hoff]))
  · exact congrArg (fun y => Host.Outcome.next (s.setLane l y)) (if_neg (by simp [hoff]))
  · obtain ⟨hinit, hinitCore⟩ := (s.lane l).engineInit_keeps
    obtain ⟨hengine, hstore, hcore⟩ := (s.lane l).engineInit.eng_keeps fun g => { g with initBusy := false }
    refine ⟨_, congrArg Host.Outcome.next (if_pos hbusy), ?_⟩
    rw [State.lane_updLane]
    exact ⟨hengine.trans (by rw [hinit]), fun e he => Lane.es_engineInit_words hwf hstore he,
      (Lane.rd8_engineInit hwf hstore).2, hcore.trans hinitCore⟩
  · show Host.Outcome.next (s.denyWrite (.app l) 0xF0002004) = _
    unfold State.denyWrite
    simp [hrun, hpriv]

end Sys2Proof.Machine

/-! No step lets an output conduct against its gates (R120, R252, R253). Each operation of the model either leaves
alone what decides conduction (`State.gates`), or keeps it shut: it takes every output off, forms the conduction anew,
or enters a mode with closed group switches. -/

namespace Sys2Proof.Machine

open Sys2Proof.Safety

/-- What decides whether an output may conduct (R120, R252, R253): the outputs that conduct, the hold-off, the groups
that a fault has opened, and the mode and the role, which open every group switch or none. -/
structure Gates where
  on : OutBits
  holdOff : Bool
  groupFault : BitVec 3
  mode : Mode
  role : Role

/-- The gates of a state. -/
def State.gates (s : State) : Gates :=
  { on := s.stage.on, holdOff := s.stage.holdOff, groupFault := s.stage.groupFault, mode := s.md.mode
    role := s.md.role }

/-- No output conducts through an open group switch or under the hold-off. -/
def Gates.Shut (g : Gates) : Prop :=
  ∀ o, g.on.getLsbD o = true →
    (g.mode.groupsClosed && g.role ≠ .split && !g.groupFault.getLsbD (groupOf o)) = true ∧ g.holdOff = false

theorem outputsGated_iff (s : State) : OutputsGated s ↔ s.gates.Shut := Iff.rfl

@[simp] theorem State.gates_mk (lanes : PerLane Lane) (md : ModuleSt) (tb : Timebase) (recorder : Recorder)
    (guard : Guard)
    (resync : Resync) (stage : Stage) (chg : ChgBuf) (sealSt : Seal) (svc : Svc) (ring : RingSt) (bist : BistSt)
    (inject : InjectSt) (freeCtr : Nat) (readData : Word) (pending : List Instr) :
    State.gates ⟨lanes, md, tb, recorder, guard, resync, stage, chg, sealSt, svc, ring, bist, inject, freeCtr, readData,
      pending⟩ = ⟨stage.on, stage.holdOff, stage.groupFault, md.mode, md.role⟩ := (rfl)

@[simp] theorem State.gates_eta (s : State) :
    (⟨s.stage.on, s.stage.holdOff, s.stage.groupFault, s.md.mode, s.md.role⟩ : Gates) = s.gates := (rfl)

@[simp] theorem gates_ite (c : Prop) [Decidable c] (s t : State) :
    (if c then s else t).gates = if c then s.gates else t.gates := apply_ite _ _ _ _

@[simp] theorem gates_foldl {α : Type} (f : State → α → State) (h : ∀ s a, (f s a).gates = s.gates) (xs : List α)
    (s : State) : (xs.foldl f s).gates = s.gates := foldl_keep State.gates f h xs s

@[simp] theorem State.setLane_gates (s : State) (l : LaneId) (x : Lane) : (s.setLane l x).gates = s.gates := (rfl)

@[simp] theorem State.updLane_gates (s : State) (l : LaneId) (f : Lane → Lane) : (s.updLane l f).gates = s.gates :=
  (rfl)

@[simp] theorem State.mapLanes_gates (s : State) (f : Lane → Lane) : (s.mapLanes f).gates = s.gates := (rfl)

@[simp] theorem State.updCore_gates (s : State) (l : LaneId) (f : Core → Core) : (s.updCore l f).gates = s.gates :=
  (rfl)

/-! The operations that leave the gates as they are. -/

section

variable (s : State)

@[simp] theorem State.putSummary_gates (c : Nat) (b : Bucket) : (s.putSummary c b).1.gates = s.gates := by
  unfold State.putSummary; split <;> (try split) <;> simp

@[simp] theorem State.refill_gates (c : Nat) : (s.refill c).gates = s.gates := by
  unfold State.refill; dsimp only; repeat' split
  all_goals simp

@[simp] theorem State.intake_gates (x : Rec) : (s.intake x).1.gates = s.gates := by
  unfold State.intake; dsimp only; repeat' split
  all_goals simp

@[simp] theorem State.submit_gates (x : Rec) : (s.submit x).1.gates = s.gates := by
  unfold State.submit; dsimp only; repeat' split
  all_goals simp

@[simp] theorem State.recAs_gates (src : Nat) (agreed : Bool) (name : RecName) (ps : List Word) :
    (s.recAs src agreed name ps).gates = s.gates := by
  simp [State.recAs]

@[simp] theorem State.recG_gates (name : RecName) (ps : List Word) : (s.recG name ps).gates = s.gates := by
  simp [State.recG]

@[simp] theorem State.recL_gates (l : LaneId) (name : RecName) (ps : List Word) :
    (s.recL l name ps).gates = s.gates := by
  simp [State.recL]

@[simp] theorem State.recRing_gates (name : RecName) (ps : List Word) : (s.recRing name ps).gates = s.gates := by
  simp [State.recRing]

@[simp] theorem State.recStage_gates (name : RecName) (ps : List Word) : (s.recStage name ps).gates = s.gates := by
  simp [State.recStage]

@[simp] theorem State.recSvc_gates (name : RecName) (ps : List Word) : (s.recSvc name ps).gates = s.gates := by
  simp [State.recSvc]

@[simp] theorem State.recM_gates (name : RecName) (ps : List Word) : (s.recM name ps).gates = s.gates := by
  unfold State.recM; split <;> simp

@[simp] theorem State.flushTrigger_gates (reason : BitVec 3) : (s.flushTrigger reason).gates = s.gates := by
  unfold State.flushTrigger; split <;> simp

@[simp] theorem State.bufferTriggers_gates (x : Rec) : (s.bufferTriggers x).gates = s.gates := by
  simp [State.bufferTriggers]

@[simp] theorem State.drainOne_gates : s.drainOne.gates = s.gates := by unfold State.drainOne; split <;> simp

@[simp] theorem State.noteFull_gates : s.noteFull.gates = s.gates := by simp [State.noteFull]

@[simp] theorem State.logWrite_gates (x : Rec) : (s.logWrite x).gates = s.gates := by
  unfold State.logWrite; dsimp only; repeat' split
  all_goals simp

@[simp] theorem State.failPlaces_gates (n : Nat) : (s.failPlaces n).gates = s.gates := by simp [State.failPlaces]

@[simp] theorem State.endArming_gates (fired : Bool) : (s.endArming fired).gates = s.gates := by
  unfold State.endArming; split <;> simp

@[simp] theorem State.fire_gates : s.fire.gates = s.gates := by simp [State.fire]

@[simp] theorem State.lapseByMode_gates : s.lapseByMode.gates = s.gates := by
  unfold State.lapseByMode; repeat' split
  all_goals simp

@[simp] theorem State.startLasting_gates (id : Nat) (l : Option LaneId) (n : Nat) :
    (s.startLasting id l n).gates = s.gates := (rfl)

@[simp] theorem State.passLasting_gates (id : Nat) (l : Option LaneId) : (s.passLasting id l).gates = s.gates := (rfl)

@[simp] theorem State.fireLasting_gates (id : Nat) (l : Option LaneId) (n : Nat) :
    (s.fireLasting id l n).gates = s.gates := by
  simp [State.fireLasting]

@[simp] theorem State.arm_gates (w : Word) : (s.arm w).gates = s.gates := by simp [State.arm]

@[simp] theorem State.disarm_gates (w : Word) : (s.disarm w).gates = s.gates := by simp [State.disarm]

@[simp] theorem State.writeInject_gates (secure : Bool) (off : Nat) (w : Word) :
    (s.writeInject secure off w).gates = s.gates := by
  unfold State.writeInject; split <;> (try split) <;> simp

@[simp] theorem State.discardPulse_gates : s.discardPulse.gates = s.gates := by
  unfold State.discardPulse; repeat' split
  all_goals simp

@[simp] theorem State.evaluate_gates (force : OutBits) : (s.evaluate force).gates = s.gates := (rfl)

@[simp] theorem State.noteFault_gates (o : Nat) (code : BitVec 4) : (s.noteFault o code).gates = s.gates := (rfl)

@[simp] theorem State.stageLatch_gates : s.stageLatch.gates = s.gates := (rfl)

@[simp] theorem State.judgeSlice_gates (k : LaneId) : (s.judgeSlice k).gates = s.gates := by
  unfold State.judgeSlice; split <;> simp

@[simp] theorem State.bistAbort_gates : s.bistAbort.gates = s.gates := by
  unfold State.bistAbort; dsimp only; repeat' split
  all_goals simp

@[simp] theorem State.updRing_gates (f : RingSt → RingSt) : (s.updRing f).gates = s.gates := (rfl)

@[simp] theorem State.updPort_gates (p : Port) (f : RingPort → RingPort) : (s.updPort p f).gates = s.gates := (rfl)

@[simp] theorem State.sendOut_gates (slot : Nat) (out : Port) (body : List Byte) :
    (s.sendOut slot out body).gates = s.gates := by
  simp [State.sendOut]

@[simp] theorem State.endSlot_gates (p : Port) : (s.endSlot p).gates = s.gates := by
  unfold State.endSlot; repeat' split
  all_goals simp

@[simp] theorem State.discardChange_gates : s.discardChange.gates = s.gates := by
  unfold State.discardChange; repeat' split
  all_goals simp

@[simp] theorem State.holdVote_gates : s.holdVote.gates = s.gates := (rfl)

@[simp] theorem State.endResync_gates : s.endResync.gates = s.gates := by simp [State.endResync]

@[simp] theorem State.dropEvents_gates (m : Mode) (es : List ModeEvent) : (s.dropEvents m es).gates = s.gates := by
  induction es generalizing s with
  | nil => rfl
  | cons e es ih => unfold State.dropEvents; simp [ih]

@[simp] theorem State.noteCleared_gates (l : LaneId) : (s.noteCleared l).gates = s.gates := by simp [State.noteCleared]

@[simp] theorem State.coReset_gates (l : LaneId) (src : Source) : (s.coReset l src).gates = s.gates := by
  simp [State.coReset]

@[simp] theorem State.haltCore_gates (l : LaneId) : (s.haltCore l).gates = s.gates := (rfl)

@[simp] theorem State.passTime_gates (n : Nat) : (s.passTime n).gates = s.gates := (rfl)

@[simp] theorem State.advanceTo_gates (t : Nat) : (s.advanceTo t).gates = s.gates := (rfl)

@[simp] theorem State.feed_gates (l : LaneId) (w : Word) : (s.feed l w).gates = s.gates := (rfl)

@[simp] theorem State.recJoint_gates (l : LaneId) (name : RecName) (ps : List Word) :
    (s.recJoint l name ps).gates = s.gates := by
  unfold State.recJoint; split <;> (try split) <;> simp

@[simp] theorem State.spoilRequest_gates (l : LaneId) : (s.spoilRequest l).gates = s.gates := by
  simp [State.spoilRequest]

@[simp] theorem State.engineDrain_gates (l : LaneId) : (s.engineDrain l).gates = s.gates := by simp [State.engineDrain]

@[simp] theorem State.closeEngine_gates (l : LaneId) : (s.closeEngine l).gates = s.gates := by simp [State.closeEngine]

@[simp] theorem State.injectHash_gates (l : LaneId) : (s.injectHash l).gates = s.gates := by simp [State.injectHash]

@[simp] theorem State.injectSignature_gates (l : LaneId) : (s.injectSignature l).gates = s.gates := by
  simp [State.injectSignature]

@[simp] theorem State.recCoded_gates (l : LaneId) (n : Word) : (s.recCoded l n).gates = s.gates := by
  simp [State.recCoded]

@[simp] theorem State.closeSignature_gates (l : LaneId) : (s.closeSignature l).gates = s.gates := by
  simp [State.closeSignature]

@[simp] theorem State.endCore_gates (l : LaneId) (reason : BitVec 3) : (s.endCore l reason).gates = s.gates := (rfl)

@[simp] theorem State.holdPost_gates (l : LaneId) : (s.holdPost l).gates = s.gates := by
  unfold State.holdPost; split <;> (try split) <;> simp

@[simp] theorem State.initTrapped_gates (l : LaneId) : (s.initTrapped l).gates = s.gates := by
  unfold State.initTrapped; split <;> simp

@[simp] theorem State.budgetTrap_gates (l : LaneId) (tpc : Word) : (s.budgetTrap l tpc).gates = s.gates := by
  simp [State.budgetTrap]

@[simp] theorem State.doubleTrap_gates (l : LaneId) : (s.doubleTrap l).gates = s.gates := by simp [State.doubleTrap]

@[simp] theorem State.refuseRun_gates (l : LaneId) (p : Nat) : (s.refuseRun l p).gates = s.gates := by
  simp [State.refuseRun]

@[simp] theorem State.counted_gates (l : LaneId) : (s.counted l).gates = s.gates := by simp [State.counted]

@[simp] theorem State.finish_gates (l : LaneId) (f : Core → Core) : (s.finish l f).gates = s.gates := (rfl)

@[simp] theorem State.finishSet_gates (l : LaneId) (d : Reg) (w : Word) : (s.finishSet l d w).gates = s.gates := (rfl)

@[simp] theorem State.jumpTo_gates (l : LaneId) (f : Core → Core) (pc : Word) : (s.jumpTo l f pc).gates = s.gates :=
  (rfl)

@[simp] theorem State.dropInit_gates (l : LaneId) : (s.dropInit l).gates = s.gates := by
  unfold State.dropInit; split <;> simp

@[simp] theorem State.initReturned_gates (l : LaneId) (p : Nat) (rest : List Nat) :
    (s.initReturned l p rest).gates = s.gates := by
  unfold State.initReturned; split <;> (try split) <;> simp

@[simp] theorem State.engineEnable_gates (l : LaneId) (on : Bool) : (s.engineEnable l on).gates = s.gates := by
  simp [State.engineEnable]

@[simp] theorem State.writeRouteCtrl_gates (l : LaneId) (w : Word) : (s.writeRouteCtrl l w).gates = s.gates := by
  simp [State.writeRouteCtrl]

@[simp] theorem State.writeRoute_gates (l : LaneId) (off : Nat) (w : Word) :
    (s.writeRoute l off w).gates = s.gates := by
  unfold State.writeRoute; split <;> simp

@[simp] theorem State.clearRoute_gates (l : LaneId) (off : Nat) : (s.clearRoute l off).gates = s.gates := (rfl)

@[simp] theorem State.cvuWrite_gates (v : View) (u : Nat) (f : Cvu → Cvu) : (s.cvuWrite v u f).gates = s.gates := by
  unfold State.cvuWrite; split <;> rfl

@[simp] theorem State.recCommit_gates (l : LaneId) (w : Word) : (s.recCommit l w).gates = s.gates := by
  simp [State.recCommit]

@[simp] theorem State.applyEntry_gates (c : Nat) (w : Word) : (s.applyEntry c w).gates = s.gates := by
  simp [State.applyEntry]

@[simp] theorem State.recOffer_gates (l : LaneId) (w : Word) : (s.recOffer l w).gates = s.gates := by
  simp [State.recOffer]

@[simp] theorem State.recCommand_gates (w : Word) : (s.recCommand w).gates = s.gates := by simp [State.recCommand]

@[simp] theorem State.writeRec_gates (l : LaneId) (off : Nat) (w : Word) : (s.writeRec l off w).gates = s.gates := by
  unfold State.writeRec; split <;> simp

@[simp] theorem State.flushAll_gates (n : Nat) : (s.flushAll n).1.gates = s.gates := by
  induction n generalizing s with
  | zero => rfl
  | succ n ih => unfold State.flushAll; split <;> simp [apply_ite Prod.fst, ih]

@[simp] theorem State.flushRun_gates (b : Bool) (n : Nat) : (s.flushRun b n).1.gates = s.gates := by
  induction n generalizing s with
  | zero => simp [State.flushRun]
  | succ n ih => unfold State.flushRun; simp [apply_ite Prod.fst, ih]

@[simp] theorem State.flushEnd_gates (failed : Nat) : (s.flushEnd failed).gates = s.gates := by
  unfold State.flushEnd; dsimp only; repeat' split
  all_goals simp

@[simp] theorem State.onChan_gates (l : LaneId) (ch : Channel) (f : Chan → Chan) : (s.onChan l ch f).gates = s.gates :=
  (rfl)

@[simp] theorem State.broadcast_gates (l : LaneId) (w : Word) : (s.broadcast l w).gates = s.gates := by
  simp [State.broadcast]

@[simp] theorem State.broadcastDb_gates (w : Word) : (s.broadcastDb w).gates = s.gates := by simp [State.broadcastDb]

@[simp] theorem State.svcCommand_gates (w : Word) : (s.svcCommand w).gates = s.gates := by simp [State.svcCommand]

@[simp] theorem State.staged_gates (sid : Option Nat) (c : ChgBuf) : (s.staged sid c).gates = s.gates := (rfl)

@[simp] theorem State.semaRead_gates (v : View) (n : Nat) : (s.semaRead v n).gates = s.gates := (rfl)

@[simp] theorem State.semaWrite_gates (v : View) (n : Nat) (w : Word) : (s.semaWrite v n w).gates = s.gates := (rfl)

@[simp] theorem State.sealGlitch_gates : s.sealGlitch.gates = s.gates := by simp [State.sealGlitch]

@[simp] theorem State.burned_gates (kind arg : Nat) (k : Seal) : (s.burned kind arg k).gates = s.gates := by
  simp [State.burned]

@[simp] theorem State.doBurnGeneration_gates (w0 w1 w2 w3 : DWord) (torn : Option (BitVec 256)) :
    ∀ t, State.doBurnGeneration s w0 w1 w2 w3 torn = some t → t.gates = s.gates := by
  unfold State.doBurnGeneration; dsimp only; repeat' split
  all_goals simp

@[simp] theorem State.doBurnRetire_gates (g : Nat) : ∀ t, State.doBurnRetire s g = some t → t.gates = s.gates := by
  simp [State.doBurnRetire]

@[simp] theorem State.doBurnKeySlot_gates (slot : Nat) (hash : BitVec 512) (torn : Option (BitVec 512 × Bool)) :
    ∀ t, State.doBurnKeySlot s slot hash torn = some t → t.gates = s.gates := by
  unfold State.doBurnKeySlot; repeat' split
  all_goals simp

@[simp] theorem State.doBurnRevoked_gates (slot : Nat) :
    ∀ t, State.doBurnRevoked s slot = some t → t.gates = s.gates := by
  simp [State.doBurnRevoked]

@[simp] theorem State.clearSeal_gates (off : Nat) : (s.clearSeal off).gates = s.gates := by simp [State.clearSeal]

@[simp] theorem State.writeMeas_gates (l : LaneId) (off : Nat) (w : Word) : (s.writeMeas l off w).gates = s.gates :=
  (rfl)

@[simp] theorem State.settleMeas_gates (l : LaneId) (off : Nat) : (s.settleMeas l off).gates = s.gates := by
  simp [State.settleMeas]

@[simp] theorem State.doBurnSvn_gates : ∀ t, State.doBurnSvn s = some t → t.gates = s.gates := by
  unfold State.doBurnSvn; dsimp only; repeat' split
  all_goals simp

@[simp] theorem State.recordForces_gates (b : List Byte) (rc : State → List Word → State)
    (h0 : ∀ u v, (rc u v).gates = u.gates) : (s.recordForces b rc).gates = s.gates := by
  unfold State.recordForces; simp [h0]

@[simp] theorem State.releaseBuffer_gates : s.releaseBuffer.gates = s.gates := (rfl)

@[simp] theorem State.dropPending_gates : s.dropPending.gates = s.gates := (rfl)

@[simp] theorem State.applyNow_gates (p : PendingChange) : (s.applyNow p).gates = s.gates := by simp [State.applyNow]

@[simp] theorem State.applyDue_gates (kinds : List Nat) : (s.applyDue kinds).gates = s.gates := by
  unfold State.applyDue; split <;> simp

@[simp] theorem State.latchChange_gates : s.latchChange.gates = s.gates := by simp [State.latchChange]

@[simp] theorem State.changeSlice_gates (l : LaneId) : (s.changeSlice l).gates = s.gates := by
  unfold State.changeSlice; split <;> simp

@[simp] theorem State.postVerdict_gates : s.postVerdict.gates = s.gates := by
  unfold State.postVerdict; repeat' split
  all_goals simp

@[simp] theorem State.holdTake_gates (l : LaneId) : (s.holdTake l).gates = s.gates := by simp [State.holdTake]

@[simp] theorem State.forward_gates (p : Port) (f : Frame) (bytes : List Byte) (ns : Nat) :
    (s.forward p f bytes ns).gates = s.gates := (rfl)

@[simp] theorem State.coldCollision_gates : s.coldCollision.gates = s.gates := by simp [State.coldCollision]

@[simp] theorem State.ringCut_gates (p : Port) (source reason : Nat) : (s.ringCut p source reason).gates = s.gates := by
  simp [State.ringCut]

@[simp] theorem State.guardian_gates (p : Port) (f : Frame) (ns : Nat) : (s.guardian p f ns).1.gates = s.gates := by
  unfold State.guardian; dsimp only; repeat' split
  all_goals simp

@[simp] theorem State.watch_gates (p : Port) (f : Frame) (len ns : Nat) : (s.watch p f len ns).gates = s.gates := by
  simp [State.watch]

@[simp] theorem State.truncate_gates (p : Port) (start limit : Nat) : (s.truncate p start limit).gates = s.gates :=
  (rfl)

@[simp] theorem State.reading_gates (p : Port) (f : Frame) (i ns : Nat) (fwd : Bool) :
    (s.reading p f i ns fwd).gates = s.gates := by
  simp [State.reading]

@[simp] theorem State.acquire_gates (nt : Nat) (armedNow : Bool) : (s.acquire nt armedNow).gates = s.gates := (rfl)

@[simp] theorem State.deliver_gates (p : Port) (f : Frame) (stamp : Nat) : (s.deliver p f stamp).gates = s.gates := by
  unfold State.deliver; split <;> (try split) <;> simp

@[simp] theorem State.ringClash_gates (running : Option (BitVec 10)) : (s.ringClash running).gates = s.gates := by
  unfold State.ringClash; split <;> simp

@[simp] theorem State.slotBody_gates (slot : Nat) : (s.slotBody slot).2.gates = s.gates := by
  unfold State.slotBody; dsimp only; repeat' split
  all_goals simp

@[simp] theorem State.ownSlot_gates (slot : Nat) (runX runY : Option (BitVec 10)) :
    (s.ownSlot slot runX runY).gates = s.gates := by
  simp [State.ownSlot]

@[simp] theorem State.formDelta_gates : (s.formDelta).1.gates = s.gates := by simp [State.formDelta]

@[simp] theorem State.slewBy_gates (d : Int) : (s.slewBy d).gates = s.gates := (rfl)

@[simp] theorem State.applyDelta_gates (delta : Option Int) : (s.applyDelta delta).gates = s.gates := by
  unfold State.applyDelta; split <;> simp

@[simp] theorem State.join_gates : s.join.gates = s.gates := by simp [State.join]

@[simp] theorem State.silenceCheck_gates : s.silenceCheck.gates = s.gates := by simp [State.silenceCheck]

@[simp] theorem State.updateRate_gates : s.updateRate.gates = s.gates := by simp [State.updateRate]

@[simp] theorem State.propose_gates (p : Port) : (s.propose p).gates = s.gates := by
  unfold State.propose; dsimp only; repeat' split
  all_goals simp

@[simp] theorem State.probeReply_gates (p : Port) (seq : Byte) : (s.probeReply p seq).gates = s.gates := by
  unfold State.probeReply; dsimp only; split <;> simp

@[simp] theorem State.afterReadRing_gates (l : LaneId) (off : Nat) : (s.afterReadRing l off).gates = s.gates := by
  unfold State.afterReadRing; split <;> rfl

@[simp] theorem State.powerEvents_gates : s.powerEvents.gates = s.gates := by simp [State.powerEvents]

@[simp] theorem State.supplyLow_gates : s.supplyLow.gates = s.gates := by simp [State.supplyLow]

@[simp] theorem State.feedLoss_gates (f : Feed) : (s.feedLoss f).gates = s.gates := by simp [State.feedLoss]

@[simp] theorem State.svcReset_gates : s.svcReset.gates = s.gates := (rfl)

@[simp] theorem State.svcHold_gates : s.svcHold.gates = s.gates := by simp [State.svcHold]

@[simp] theorem State.trialReport_gates : s.trialReport.gates = s.gates := by simp [State.trialReport]

@[simp] theorem State.unlockLane_gates (k : LaneId) : (s.unlockLane k).gates = s.gates := by simp [State.unlockLane]

@[simp] theorem State.voteRelease_gates (l : LaneId) (w : Word) : (s.voteRelease l w).gates = s.gates := by
  unfold State.voteRelease; split <;> simp

@[simp] theorem State.respond_gates (sid : Nat) (service : Half) (req : Word) (code : Nat) (r : Reply) :
    (s.respond sid service req code r).gates = s.gates := (rfl)

@[simp] theorem State.answerQuotes_gates : s.answerQuotes.gates = s.gates := by simp [State.answerQuotes]

@[simp] theorem State.askQuote_gates (sid : Nat) (req : Word) (nonce : BitVec 256) :
    (s.askQuote sid req nonce).gates = s.gates := by
  simp [State.askQuote]

@[simp] theorem State.recorderStart_gates : s.recorderStart.gates = s.gates := by simp [State.recorderStart]

@[simp] theorem State.loadOtp_gates : s.loadOtp.gates = s.gates := by simp [State.loadOtp]

@[simp] theorem State.countCorrected_gates (otp : List (Fin 64 × BitVec 72)) : (s.countCorrected otp).gates = s.gates :=
  (rfl)

@[simp] theorem State.testBoot_gates (l : LaneId) : (s.testBoot l).1.gates = s.gates := by simp [State.testBoot]

@[simp] theorem State.testJournal_gates (l : LaneId) : (s.testJournal l).1.gates = s.gates := by
  unfold State.testJournal; split <;> rfl

@[simp] theorem State.bistPassed_gates : s.bistPassed.gates = s.gates := by simp [State.bistPassed]

@[simp] theorem State.laneStep_gates (f : State → LaneId → State × Option Failure)
    (h : ∀ s l, (f s l).1.gates = s.gates) (ls : List LaneId) (s : State) : (s.laneStep f ls).1.gates = s.gates := by
  induction ls generalizing s with
  | nil => rfl
  | cons l ls ih => exact (ih _).trans (h s l)

@[simp] theorem State.runTests_gates (t : TestReport) : (s.runTests t).1.gates = s.gates := by
  unfold State.runTests; split
  · rfl
  · dsimp only; split
    · simp
    · have hboot := State.laneStep_gates State.testBoot (fun _ _ => by simp) s.bistPassed.servingLanes s.bistPassed
      split <;> rename_i hstep <;> rw [hstep] at hboot
      · simpa using hboot
      · split
        · simpa using hboot
        · exact (State.laneStep_gates _ (fun _ _ => by simp) _ _).trans (by simpa using hboot)

@[simp] theorem State.recLockedOut_gates : s.recLockedOut.gates = s.gates := by simp [State.recLockedOut]

@[simp] theorem State.noteTable_gates : s.noteTable.gates = s.gates := by simp [State.noteTable]

@[simp] theorem State.applyCodes_gates (l : LaneId) : (s.applyCodes l).gates = s.gates := by simp [State.applyCodes]

@[simp] theorem State.linkArrive_gates (dst : LaneId) (m : LinkMsg) (typ len : Nat) (act : State → LaneId → State)
    (h0 : ∀ u v, (act u v).gates = u.gates) : (s.linkArrive dst m typ len act).gates = s.gates := by
  unfold State.linkArrive; simp [h0]

@[simp] theorem State.takeSignature_gates (dst : LaneId) (m : LinkMsg) (k : LaneId) :
    (s.takeSignature dst m k).gates = s.gates := by
  simp [State.takeSignature]

@[simp] theorem State.closeLane_gates (l : LaneId) : (s.closeLane l).gates = s.gates := by simp [State.closeLane]

@[simp] theorem State.takeView_gates (dst : LaneId) (m : LinkMsg) (k : LaneId) :
    (s.takeView dst m k).gates = s.gates := by
  simp [State.takeView]

@[simp] theorem State.driveLane_gates (l : LaneId) : (s.driveLane l).gates = s.gates := by simp [State.driveLane]

@[simp] theorem State.switchCauses_gates : s.switchCauses.gates = s.gates := (rfl)

@[simp] theorem State.dropOwn_gates (d : Decision) : (s.dropOwn d).gates = s.gates := by simp [State.dropOwn]

@[simp] theorem State.singleRequests_gates : s.singleRequests.gates = s.gates := by simp [State.singleRequests]

@[simp] theorem State.recordVote_gates (x : Lane) : (s.recordVote x).gates = s.gates := by simp [State.recordVote]

@[simp] theorem State.startAudit_gates : s.startAudit.gates = s.gates := by simp [State.startAudit]

@[simp] theorem State.startSlice_gates : s.startSlice.gates = s.gates := by simp [State.startSlice]

@[simp] theorem State.countProbation_gates (d : LaneId) : (s.countProbation d).gates = s.gates := by
  simp [State.countProbation]

@[simp] theorem State.takePage_gates (d : LaneId) (p : Nat) (v : PageVerdict) : (s.takePage d p v).gates = s.gates := by
  unfold State.takePage; split <;> simp

@[simp] theorem State.compareAudit_gates (d : LaneId) : (s.compareAudit d).gates = s.gates := by
  simp [State.compareAudit]

@[simp] theorem State.abandonGap_gates : s.abandonGap.gates = s.gates := by simp [State.abandonGap]

@[simp] theorem State.closeGap_gates : s.closeGap.gates = s.gates := by simp [State.closeGap]

@[simp] theorem State.spoilMisr_gates (id : Nat) (l : Option LaneId) (misr : DWord) :
    (s.spoilMisr id l misr).1.gates = s.gates := by
  unfold State.spoilMisr; split <;> simp

@[simp] theorem State.releaseLane_gates (l : LaneId) (slice : Nat) (misr : DWord) (restoreOk : Bool) (time : Word) :
    (s.releaseLane l slice misr restoreOk time).gates = s.gates := by
  simp [State.releaseLane]

@[simp] theorem State.updResync_gates (f : Resync → Resync) : (s.updResync f).gates = s.gates := (rfl)

@[simp] theorem State.markPage_gates (p : Nat) (dirty : Bool) : (s.markPage p dirty).gates = s.gates := (rfl)

@[simp] theorem State.pageArrived_gates (p : Nat) (body : List Byte) : (s.pageArrived p body).gates = s.gates := (rfl)

@[simp] theorem State.copyPage_gates (p : Nat) (m : LinkMsg) : (s.copyPage p m).gates = s.gates := by
  simp [State.copyPage]

@[simp] theorem State.copyM3_gates : s.copyM3.gates = s.gates := (rfl)

@[simp] theorem State.newLayout_gates (mirrored : Bool) : (s.newLayout mirrored).gates = s.gates := (rfl)

@[simp] theorem State.startCopy_gates (mirrored : Bool) : (s.startCopy mirrored).gates = s.gates := (rfl)

@[simp] theorem State.startResync_gates (x : LaneId) : (s.startResync x).gates = s.gates := (rfl)

@[simp] theorem State.failResync_gates (d : Nat) : (s.failResync d).gates = s.gates := by simp [State.failResync]

@[simp] theorem State.startShadow_gates : s.startShadow.gates = s.gates := (rfl)

@[simp] theorem State.endShadow_gates : s.endShadow.gates = s.gates := (rfl)

@[simp] theorem State.clearCounts_gates (l : LaneId) : (s.clearCounts l).gates = s.gates := (rfl)

@[simp] theorem State.rejoin_gates (x : LaneId) : (s.rejoin x).gates = s.gates := by simp [State.rejoin]

@[simp] theorem State.countFence_gates (x : LaneId) : (s.countFence x).gates = s.gates := (rfl)

@[simp] theorem State.trialOver_gates : s.trialOver.gates = s.gates := by simp [State.trialOver]

@[simp] theorem State.stopPackage_gates (es : List ModeEvent) : (s.stopPackage es).gates = s.gates := by
  unfold State.stopPackage; split <;> simp

@[simp] theorem State.nextPhase_gates : s.nextPhase.gates = s.gates := by
  unfold State.nextPhase; split <;> (try split) <;> simp

@[simp] theorem State.releasePdus_gates (vital : Bool) (late : Option (List Pdu × List Pdu)) :
    (s.releasePdus vital late).gates = s.gates := (rfl)

@[simp] theorem State.showServing_gates : s.showServing.gates = s.gates := (rfl)

@[simp] theorem State.clearCycle_gates : s.clearCycle.gates = s.gates := (rfl)

@[simp] theorem State.disagreeing_gates (l k : LaneId) (bad : RawWord) : (s.disagreeing l k bad).gates = s.gates := by
  simp [State.disagreeing]

@[simp] theorem State.agree_gates (l : LaneId) (w : RawWord) : (s.agree l w).gates = s.gates := by simp [State.agree]

@[simp] theorem State.formWord_gates (l : LaneId) : (s.formWord l).gates = s.gates := by simp [State.formWord]

@[simp] theorem State.countArming_gates : s.countArming.gates = s.gates := (rfl)

@[simp] theorem State.startViews_gates (t : Nat) (loc : Bool) (p : Lane → Bool) :
    (s.startViews t loc p).gates = s.gates := (rfl)

@[simp] theorem State.viewsOnly_gates : s.viewsOnly.gates = s.gates := (rfl)

@[simp] theorem State.holdWatch_gates (t : Nat) : (s.holdWatch t).gates = s.gates := by simp [State.holdWatch]

@[simp] theorem State.holdBoundary_gates : s.holdBoundary.gates = s.gates := by simp [State.holdBoundary]

@[simp] theorem State.openingFeeds_gates (l : LaneId) : (s.openingFeeds l).gates = s.gates := (rfl)

@[simp] theorem State.recordLinks_gates (l : LaneId) (es : List SlEvent) : (s.recordLinks l es).gates = s.gates := by
  unfold State.recordLinks
  refine gates_foldl _ (fun s e => ?_) _ _
  split <;> simp

@[simp] theorem State.spoilCuts_gates (ls : List LaneId) : (s.spoilCuts ls).gates = s.gates := by
  unfold State.spoilCuts; dsimp only; repeat' split
  all_goals simp

@[simp] theorem State.receive_gates (l : LaneId) : (s.receive l).gates = s.gates := by simp [State.receive]

@[simp] theorem State.restartEvents_gates (l : LaneId) : (s.restartEvents l).1.gates = s.gates := by
  unfold State.restartEvents; split <;> simp

@[simp] theorem State.startApp_gates (l : LaneId) (request : Option Bool) : (s.startApp l request).gates = s.gates :=
  (rfl)

@[simp] theorem State.stopPdu_gates (l : LaneId) : (s.stopPdu l).gates = s.gates := by simp [State.stopPdu]

@[simp] theorem State.actRestart_gates (l : LaneId) (r : Option Bool) : (s.actRestart l r).1.gates = s.gates := by
  unfold State.actRestart; repeat' split
  all_goals simp

@[simp] theorem State.agreementSplit_gates (l : LaneId) : (s.agreementSplit l).gates = s.gates := by
  simp [State.agreementSplit]

@[simp] theorem State.addCause_gates (l : LaneId) : (s.addCause l).gates = s.gates := by simp [State.addCause]

@[simp] theorem State.addUnattributable_gates : s.addUnattributable.gates = s.gates := by simp [State.addUnattributable]

@[simp] theorem State.startEvalInjections_gates : s.startEvalInjections.gates = s.gates := by
  simp [State.startEvalInjections]

@[simp] theorem State.passEvalInjections_gates : s.passEvalInjections.gates = s.gates := by
  simp [State.passEvalInjections]

@[simp] theorem State.discardIn_gates (g : Nat) : (s.discardIn g).gates = s.gates := by
  unfold State.discardIn; repeat' split
  all_goals simp

@[simp] theorem State.switchFault_gates (l : LaneId) (o : Fin 48) : (s.switchFault l o).gates = s.gates := by
  simp [State.switchFault]

@[simp] theorem State.pulseLane_gates (l : LaneId) (src : Nat) (w : RawWord) :
    (s.pulseLane l src w).gates = s.gates := by
  simp [State.pulseLane]

@[simp] theorem State.tpCondition_gates (src : Nat) (on off : Bool) : (s.tpCondition src on off).gates = s.gates := by
  simp [State.tpCondition]

@[simp] theorem State.tpPulseEnd_gates (source : Fin 8) (volt : BitVec 12) :
    (s.tpPulseEnd source volt).gates = s.gates := by
  unfold State.tpPulseEnd; split <;> simp

@[simp] theorem State.tpOutside_gates (source : Fin 8) (volt : BitVec 12) (us : Nat) :
    (s.tpOutside source volt us).gates = s.gates := by
  simp [State.tpOutside]

@[simp] theorem State.debug_gates (l : LaneId) (may : Lane → Bool) (act : Lane → Lane) :
    (s.debug l may act).gates = s.gates := (rfl)

@[simp] theorem State.dbgPort_gates (l : LaneId) (addr : Word) (data : Option Word) :
    (s.dbgPort l addr data).gates = s.gates := by
  simp [State.dbgPort]

@[simp] theorem State.dbgRead_gates (l : LaneId) (addr : Word) (f : Lane → Option Word) :
    (s.dbgRead l addr f).gates = s.gates := by
  simp [State.dbgRead]

@[simp] theorem State.dbgHalt_gates (l : LaneId) : (s.dbgHalt l).gates = s.gates := (rfl)

@[simp] theorem State.dbgNextCycle_gates (l : LaneId) : (s.dbgNextCycle l).gates = s.gates := by
  simp [State.dbgNextCycle]

@[simp] theorem State.dbgReadReg_gates (l : LaneId) (addr : Word) : (s.dbgReadReg l addr).gates = s.gates := by
  simp [State.dbgReadReg]

@[simp] theorem State.dbgWriteReg_gates (l : LaneId) (addr data : Word) :
    (s.dbgWriteReg l addr data).gates = s.gates := by
  simp [State.dbgWriteReg]

@[simp] theorem State.dbgReadCr_gates (l : LaneId) (addr : Word) : (s.dbgReadCr l addr).gates = s.gates := by
  simp [State.dbgReadCr]

@[simp] theorem State.dbgWriteCr_gates (l : LaneId) (addr data : Word) :
    (s.dbgWriteCr l addr data).gates = s.gates := by
  simp [State.dbgWriteCr]

@[simp] theorem State.dbgReadMem_gates (l : LaneId) (addr : Word) : (s.dbgReadMem l addr).gates = s.gates := by
  simp [State.dbgReadMem]

@[simp] theorem State.dbgWriteMem_gates (l : LaneId) (addr data : Word) :
    (s.dbgWriteMem l addr data).gates = s.gates := by
  simp [State.dbgWriteMem]

@[simp] theorem State.dbgSetBrk_gates (l : LaneId) (addr : Word) : (s.dbgSetBrk l addr).gates = s.gates := by
  simp [State.dbgSetBrk]

@[simp] theorem State.dbgClearBrk_gates (l : LaneId) (addr : Word) : (s.dbgClearBrk l addr).gates = s.gates := by
  simp [State.dbgClearBrk]

@[simp] theorem State.latchNt_gates (l : LaneId) : (s.latchNt l).gates = s.gates := (rfl)

@[simp] theorem State.latchCycle_gates (l : LaneId) : (s.latchCycle l).gates = s.gates := (rfl)

@[simp] theorem State.latchOptime_gates : s.latchOptime.gates = s.gates := (rfl)

@[simp] theorem State.latchRead_gates (l : LaneId) (n off : Nat) : (s.latchRead l n off).gates = s.gates := by
  unfold State.latchRead; split <;> rfl

@[simp] theorem State.clearRead_gates (l : LaneId) (n off : Nat) : (s.clearRead l n off).gates = s.gates := by
  unfold State.clearRead; split <;> simp

@[simp] theorem State.slControl_gates (l : LaneId) (on : Bool) : (s.slControl l on).gates = s.gates := by
  simp [State.slControl]

@[simp] theorem State.cycleConfig_gates (l : LaneId) (w : Word) : (s.cycleConfig l w).gates = s.gates := by
  simp [State.cycleConfig]

@[simp] theorem State.writeVio_gates (l : LaneId) (off : Nat) (w : Word) : (s.writeVio l off w).gates = s.gates := by
  simp [State.writeVio]

@[simp] theorem State.laneCtrl_gates (l : LaneId) (mirrored : Bool) : (s.laneCtrl l mirrored).gates = s.gates := by
  simp [State.laneCtrl]

@[simp] theorem State.retireStore_gates (l : LaneId) (c : Core) : (s.retireStore l c).gates = s.gates := by
  simp [State.retireStore]

@[simp] theorem State.setSession_gates (i : Nat) (k : Option Session) : (s.setSession i k).gates = s.gates := (rfl)

@[simp] theorem State.connect_gates (h : Handshake) (anchor : Option (BitVec 256)) :
    (s.connect h anchor).gates = s.gates := by
  unfold State.connect; split <;> (try split) <;> simp

@[simp] theorem State.closeSession_gates (i : Nat) : (s.closeSession i).gates = s.gates := (rfl)

@[simp] theorem State.serve_gates (sid : Fin 4) (service : Half) (req : Word) (n : Needs) (format : Bool)
    (act : State → State) (h0 : ∀ u, (act u).gates = u.gates) :
    (s.serve sid service req n format act).gates = s.gates := by
  unfold State.serve; repeat' split
  all_goals simp [h0]

@[simp] theorem State.command_gates (sid : Nat) (service : Half) (req : Word) (w : Word) :
    (s.command sid service req w).gates = s.gates := by
  simp [State.command]

@[simp] theorem State.svcTake_gates (l : LaneId) (n : Nat) : (s.svcTake l n).gates = s.gates := by
  induction n generalizing s with
  | zero => rfl
  | succ n ih => unfold State.svcTake; simp [ih]

@[simp] theorem State.report_gates (n : Nat) (kind : Word → Bool) (act : State → List Word → State)
    (h0 : ∀ u v, (act u v).gates = u.gates) : (s.report n kind act).gates = s.gates := by
  unfold State.report; dsimp only; repeat' split
  all_goals simp [h0]

@[simp] theorem State.takeVerdict_gates (w seq : Word) : (s.takeVerdict w seq).gates = s.gates := (rfl)

@[simp] theorem State.journalApplied_gates (seq : Word) : (s.journalApplied seq).gates = s.gates := by
  unfold State.journalApplied; split <;> simp

@[simp] theorem State.finishRewrite_gates : s.finishRewrite.gates = s.gates := by
  unfold State.finishRewrite; repeat' split
  all_goals simp

@[simp] theorem State.startRewrite_gates (r : Rewrite) : (s.startRewrite r).gates = s.gates := (rfl)

@[simp] theorem State.takeAnswer_gates (w : Word) : (s.takeAnswer w).gates = s.gates := by
  unfold State.takeAnswer; dsimp only; split <;> simp

end

/-! The gates that no output passes. -/

/-- With no output on, none conducts against a gate. -/
theorem Gates.shut_of_off {g : Gates} (h : g.on = 0) : g.Shut := fun o ho => by simp [h] at ho

/-- A mode with closed group switches lets through what another let through. -/
theorem Gates.Shut.closed {g : Gates} (h : g.Shut) {m : Mode} (hm : m.groupsClosed = true) :
    ({ g with mode := m } : Gates).Shut := fun o ho => by
  have := h o ho
  simp_all

/-- In SPLIT the role alone keeps every group switch open. -/
theorem Gates.Shut.ofRole {g : Gates} (h : g.Shut) (hr : g.role = .split) (m : Mode) :
    ({ g with mode := m } : Gates).Shut := fun o ho => by
  have := h o ho
  simp [hr] at this

@[simp] theorem shut_ite (c : Prop) [Decidable c] (g k : Gates) :
    (if c then g else k).Shut ↔ (c → g.Shut) ∧ (¬ c → k.Shut) := by split <;> simp [*]

@[simp] theorem shut_foldl {α : Type} {f : State → α → State} (h : ∀ s a, s.gates.Shut → (f s a).gates.Shut)
    {xs : List α}
    {s : State} (hs : s.gates.Shut) : (xs.foldl f s).gates.Shut := by
  induction xs generalizing s with
  | nil => exact hs
  | cons x xs ih => exact ih (h s x hs)

theorem getLsbD_outputsOf {g : Nat → Bool} {o : Nat} (h : (outputsOf g).getLsbD o = true) : g (groupOf o) = true := by
  have ho : o < 48 := by
    by_contra hc
    rw [BitVec.getLsbD_of_ge _ _ (by omega)] at h
    cases h
  have hg : groupOf o = if o < 16 then 0 else if o < 32 then 1 else 2 := by unfold groupOf; split_ifs <;> omega
  rw [hg]
  simp only [outputsOf, BitVec.getLsbD_append] at h
  split_ifs with h1 h2 <;> simp_all <;> split_ifs at h <;> simp_all <;> omega

/-- The outputs formed anew conduct through closed group switches, without hold-off (R252, R253). -/
@[simp] theorem State.conduct_shut (s : State) : s.conduct.gates.Shut := fun o ho => by
  have ho : s.conducting.getLsbD o = true := ho
  unfold State.conducting at ho
  split at ho
  · simp at ho
  · next hoff =>
    simp only [BitVec.getLsbD_and, Bool.and_eq_true] at ho
    have hg := getLsbD_outputsOf ho.1.1.2
    simp only [Bool.and_eq_true] at hg
    exact ⟨hg.1, by simpa [State.conduct, State.gates] using hoff⟩

theorem State.gates_on (s : State) : s.gates.on = s.stage.on := rfl

/-- A mode with closed group switches entered, whatever else becomes of the module's cycle. -/
theorem State.withMode_shut {s : State} (h : s.gates.Shut) {m : ModuleSt} (hm : m.mode.groupsClosed = true)
    (hr : m.role = s.md.role) : ({ s with md := m } : State).gates.Shut := by
  have := h.closed hm
  rwa [State.gates_mk, hr]

theorem State.setMode_shut {s : State} (h : s.gates.Shut) {m : Mode} (hm : m.groupsClosed = true) :
    (s.setMode m).gates.Shut := Gates.Shut.closed h hm

section

variable {s : State} (h : s.gates.Shut)

include h

omit h in
@[simp] theorem State.stageOff_on : s.stageOff.gates.on = 0 := (rfl)

omit h in
@[simp] theorem State.stageOff_shut : s.stageOff.gates.Shut := Gates.shut_of_off rfl

omit h in
@[simp] theorem State.restrictive_on : s.restrictive.gates.on = 0 := by
  simp [State.restrictive, ← State.gates_on]

omit h in
@[simp] theorem State.restrictive_shut : s.restrictive.gates.Shut := Gates.shut_of_off s.restrictive_on

omit h in
@[simp] theorem State.enterSafeStop_shut {o : Origin} {reason : Half} : (s.enterSafeStop o reason).gates.Shut :=
  Gates.shut_of_off (by
  simp [State.enterSafeStop, ← State.gates_on])

@[simp] theorem State.safeStop_shut {o : Origin} {reason : Half} : (s.safeStop o reason).gates.Shut := by
  unfold State.safeStop; split <;> simp [h]

omit h in
@[simp] theorem State.clearShared_shut : s.clearShared.gates.Shut := Gates.shut_of_off rfl

omit h in
@[simp] theorem State.doSy_shut {causes : List Source} : (s.doSy causes).gates.Shut := by simp [State.doSy]

omit h in
@[simp] theorem State.doPo_shut {causes : List Source} : (s.doPo causes).gates.Shut := by simp [State.doPo]

omit h in
@[simp] theorem State.restartPriming_shut {src : Source} : (s.restartPriming src).gates.Shut := by
  simp [State.restartPriming]

@[simp] theorem State.requestReset_shut {src : Source} {level : Level} : (s.requestReset src level).gates.Shut := by
  unfold State.requestReset; split
  · simp [h]
  · exact Gates.shut_of_off (by simp [← State.gates_on])

@[simp] theorem State.raise_shut {src : Source} {l : Option LaneId} : (s.raise src l).gates.Shut := by
  unfold State.raise; dsimp only; repeat' split
  all_goals simp [h]

@[simp] theorem State.descParity_shut {l : LaneId} {body : State → State} (hb : (body s).gates.Shut) :
    (s.descParity l body).gates.Shut := by
  simp [State.descParity, h, hb]

@[simp] theorem State.endCycle_shut {l : LaneId} : (s.endCycle l).gates.Shut := by simp [State.endCycle, h]

@[simp] theorem State.laneFault_shut {l : LaneId} : (s.laneFault l).gates.Shut := by simp [State.laneFault, h]

@[simp] theorem State.unhandled_shut {l : LaneId} : (s.unhandled l).gates.Shut := by simp [State.unhandled, h]

@[simp] theorem State.appTrapped_shut {l : LaneId} {num : Nat} {ah : Bool} : (s.appTrapped l num ah).gates.Shut := by
  unfold State.appTrapped; split <;> simp [h]

@[simp] theorem State.trap_shut {l : LaneId} {num : Nat} {x : Option Nat} {tval : Word} :
    (s.trap l num x tval).gates.Shut := by
  simp [State.trap, h]

@[simp] theorem State.illegal_shut {l : LaneId} {w : Word} : (s.illegal l w).gates.Shut := by simp [State.illegal, h]

@[simp] theorem State.begin_shut {l : LaneId} {i : Instr} {rt : Bool} {x : Option Nat} {body : State → State}
    (hb : (body s).gates.Shut) : (s.begin l i rt x body).gates.Shut := by
  unfold State.begin; dsimp only; split <;> simp [h, hb]

@[simp] theorem State.sources_shut {l : LaneId} {rs : List Reg} {x : Option Nat} {body : State → State}
    (hb : (body s).gates.Shut) : (s.sources l rs x body).gates.Shut := by
  unfold State.sources; repeat' split
  all_goals simp [h, hb]

@[simp] theorem State.compute_shut {l : LaneId} {i : Instr} {d : Reg} {rs : List Reg} {f : Core → Word} :
    (s.compute l i d rs f).gates.Shut := by
  simp [State.compute, h]

@[simp] theorem State.stray_shut {l : LaneId} : (s.stray l).gates.Shut := by unfold State.stray; split <;> simp [h]

@[simp] theorem State.tick_shut : s.tick.gates.Shut :=
  shut_foldl (fun _ l h => State.stray_shut (l := l) h) (by simp [h])

@[simp] theorem State.divide_shut {l : LaneId} {i : Instr} {d a b : Reg} {f : Word → Word → Word} :
    (s.divide l i d a b f).gates.Shut := by
  refine State.begin_shut h (State.sources_shut h ?_)
  dsimp only; split <;> simp [h]

@[simp] theorem State.branch_shut {l : LaneId} {i : Instr} {rs : List Reg} {off : Half} {taken : Core → Bool}
    {f : Core → Core} : (s.branch l i rs off taken f).gates.Shut := by
  simp [State.branch, h]

@[simp] theorem State.codedBranch_shut {l : LaneId} {i : Instr} {r : Reg} {off : Half} {want : Bool} :
    (s.codedBranch l i r off want).gates.Shut := by
  simp [State.codedBranch, h]

@[simp] theorem State.jump_shut {l : LaneId} {i : Instr} {off : BitVec 26} {f : Core → Core} :
    (s.jump l i off f).gates.Shut := by
  simp [State.jump, h]

@[simp] theorem State.computeCoded_shut {l : LaneId} {i : Instr} {d : Reg} {rs : List Reg} {f : Core → Word} :
    (s.computeCoded l i d rs f).gates.Shut := by
  simp [State.computeCoded, h]

@[simp] theorem State.readReg_shut {l : LaneId} {sub : Nat} {r : Reg} {body : Word → State}
    (hb : ∀ u, (body u).gates.Shut) : (s.readReg l sub r body).gates.Shut := by
  simp [State.readReg, h, hb]

@[simp] theorem State.readStore_shut {l : LaneId} {sub addr n : Nat} {body : State} (hb : body.gates.Shut) :
    (s.readStore l sub addr n body).gates.Shut := by
  unfold State.readStore; split <;> simp [h, hb]

@[simp] theorem State.bounds_shut {l : LaneId} {sub : Nat} {good : Bool} {addr : Nat} {body : State}
    (hb : body.gates.Shut) : (s.bounds l sub good addr body).gates.Shut := by
  simp [State.bounds, h, hb]

@[simp] theorem State.element_shut {l : LaneId} {i : Instr} {sub : Nat} {a b : Reg} {body : State → Nat → Nat → State}
    (hb : ∀ e w, (body s e w).gates.Shut) : (s.element l i sub a b body).gates.Shut := by
  refine State.readReg_shut h fun e => State.bounds_shut h
    (State.readReg_shut h fun w => State.bounds_shut h ?_)
  split
  · simp [h]
  · refine State.readStore_shut h ?_
    split <;> simp [h, hb]

@[simp] theorem State.eld_shut {l : LaneId} {d a b : Reg} : (s.eld l d a b).gates.Shut := by
  refine State.begin_shut h (State.element_shut h fun e w => State.readStore_shut h
    ?_)
  simp [h]

@[simp] theorem State.est_shut {l : LaneId} {d a b : Reg} : (s.est l d a b).gates.Shut := by
  refine State.begin_shut h (State.element_shut h fun e w => ?_)
  dsimp only; split
  · simp [h]
  · refine State.readReg_shut h fun v => ?_
    split
    · simp [h]
    · refine State.readStore_shut h ?_
      split <;> simp [h]

@[simp] theorem State.readTimer_shut {l : LaneId} {i : Instr} {sub : Nat} {d a : Reg} {idle : Word}
    {f : Lane → Nat → Word} : (s.readTimer l i sub d a idle f).gates.Shut := by
  refine State.begin_shut h (State.readReg_shut h fun t => State.bounds_shut h
    (State.readStore_shut h ?_))
  dsimp only; split <;> simp [h]

@[simp] theorem State.readBound_shut {l : LaneId} {sub w : Nat} {body : State} (hb : body.gates.Shut) :
    (s.readBound l sub w body).gates.Shut := by
  simp [State.readBound, h, hb]

@[simp] theorem State.edge_shut {l : LaneId} {i : Instr} {sub : Nat} {up : Bool} {d a b : Reg} :
    (s.edge l i sub up d a b).gates.Shut := by
  refine State.begin_shut h (State.readReg_shut h fun k => State.bounds_shut h
    (State.readStore_shut h (State.readBound_shut h ?_)))
  split
  · simp [h]
  · exact State.readReg_shut h fun v => State.readStore_shut (by simp [h]) (by simp [h])

@[simp] theorem State.engineTrap_shut {l : LaneId} {sub bitNo object : Nat} {tval : Word} :
    (s.engineTrap l sub bitNo object tval).gates.Shut := by
  simp [State.engineTrap, h]

@[simp] theorem State.rqget_shut {l : LaneId} {d : Reg} : (s.rqget l d).gates.Shut := by
  refine State.begin_shut h ?_
  dsimp only; repeat' split
  all_goals simp [h]

@[simp] theorem State.rwait_shut {l : LaneId} : (s.rwait l).gates.Shut := by simp [State.rwait, h]

@[simp] theorem State.denied_shut {l : LaneId} {sub : Nat} {d : Option (Nat × Right)} {body : State}
    (hb : body.gates.Shut) : (s.denied l sub d body).gates.Shut := by
  unfold State.denied; split <;> simp [h, hb]

@[simp] theorem State.linkTrap_shut {l : LaneId} {sub : Nat} {a : Word} {reason : Nat} :
    (s.linkTrap l sub a reason).gates.Shut := by
  simp [State.linkTrap, h]

@[simp] theorem State.readDir_shut {l : LaneId} {p off : Nat} {body : State} (hb : body.gates.Shut) :
    (s.readDir l p off body).gates.Shut := by
  simp [State.readDir, h, hb]

@[simp] theorem State.engineDo_shut {l : LaneId} {kind : Nat} : (s.engineDo l kind).gates.Shut := by
  unfold State.engineDo; split <;> simp [h]

@[simp] theorem State.denyWrite_shut {v : View} {addr : Nat} : (s.denyWrite v addr).gates.Shut := by
  unfold State.denyWrite; split <;> (try split) <;> simp [h]

@[simp] theorem State.chanWrite_shut {v : View} {ch : Channel} {off : Nat} {w : Word} :
    (s.chanWrite v ch off w).gates.Shut := by
  unfold State.chanWrite; split <;> simp [h]

@[simp] theorem State.chanRead_shut {v : View} {ch : Channel} {off : Nat} : (s.chanRead v ch off).gates.Shut := by
  unfold State.chanRead; split <;> simp [h]

@[simp] theorem State.secureOnly_shut {v : View} {f : LaneId → State} (hb : ∀ u, (f u).gates.Shut) :
    (s.secureOnly v f).gates.Shut := by
  unfold State.secureOnly; split <;> simp [h, hb]

@[simp] theorem State.mboxWrite_shut {v : View} {off : Nat} {w : Word} : (s.mboxWrite v off w).gates.Shut := by
  unfold State.mboxWrite; repeat' split
  all_goals simp [h]

@[simp] theorem State.mboxRead_shut {v : View} {off : Nat} : (s.mboxRead v off).gates.Shut := by
  simp [State.mboxRead, h]

@[simp] theorem State.semaBlockWrite_shut {v : View} {off : Nat} {w : Word} :
    (s.semaBlockWrite v off w).gates.Shut := by
  unfold State.semaBlockWrite; split <;> simp [h]

@[simp] theorem State.semaBlockRead_shut {v : View} {off : Nat} : (s.semaBlockRead v off).gates.Shut := by
  unfold State.semaBlockRead; repeat' split
  all_goals simp [h]

@[simp] theorem State.sealChange_shut : s.sealChange.gates.Shut := by simp [State.sealChange, h]

@[simp] theorem State.lanesStop_shut {name : RecName} {ps : List Word} : (s.lanesStop name ps).gates.Shut := by
  simp [State.lanesStop, h]

@[simp] theorem State.observeTn_shut {f : Frame} {ns : Nat} : (s.observeTn f ns).gates.Shut := by
  unfold State.observeTn; dsimp only; split <;> simp [h]

@[simp] theorem State.syncFrame_shut {p : Port} {f : Frame} {i ns : Nat} {fwd : Bool} :
    (s.syncFrame p f i ns fwd).gates.Shut := by
  simp [State.syncFrame, h]

@[simp] theorem State.observe_shut {p : Port} {f : Frame} {ns : Nat} {fwd : Bool} :
    (s.observe p f ns fwd).gates.Shut := by
  unfold State.observe; split
  · exact h
  extract_lets s1 s2 foreign due s3 s4
  have h4 : s4.gates.Shut := by simpa [s4, s3, s2, s1] using h
  clear_value s4; split
  · simp [h4]
  · split <;> simp [h4]

@[simp] theorem State.impostor_shut : s.impostor.gates.Shut := by simp [State.impostor, h]

@[simp] theorem State.ownFrame_shut {p : Port} {f : Frame} {bytes : List Byte} {ns : Nat} :
    (s.ownFrame p f bytes ns).gates.Shut := by
  simp [State.ownFrame, h]

@[simp] theorem State.frameIn_shut {p : Port} {bytes : List Byte} {ns : Nat} : (s.frameIn p bytes ns).gates.Shut := by
  simp [State.frameIn, h]

@[simp] theorem State.listenBoundary_shut {delta : Option Int} : (s.listenBoundary delta).gates.Shut := by
  unfold State.listenBoundary; split <;> (try split) <;> simp [h]

@[simp] theorem State.judgeCycle_shut {delta : Option Int} : (s.judgeCycle delta).gates.Shut := by
  unfold State.judgeCycle; repeat' split
  all_goals simp [h]

@[simp] theorem State.ringBoundary_shut : s.ringBoundary.gates.Shut := by simp [State.ringBoundary, h]

@[simp] theorem State.enterJoining_shut : s.enterJoining.gates.Shut := by
  have hj := State.withMode_shut h (m := { s.md with mode := .joining }) rfl rfl
  simpa [State.enterJoining] using hj

@[simp] theorem State.adoptSchedule_shut : s.adoptSchedule.gates.Shut := by
  unfold State.adoptSchedule; dsimp only; repeat' split
  all_goals simp [h]

@[simp] theorem State.commitSchedule_shut {l : LaneId} : (s.commitSchedule l).gates.Shut := by
  simp [State.commitSchedule, h]

@[simp] theorem State.writeRing_shut {l : LaneId} {off : Nat} {w : Word} : (s.writeRing l off w).gates.Shut := by
  simp [State.writeRing, h]

@[simp] theorem State.requestSy_shut {l : LaneId} {reason : Half} : (s.requestSy l reason).gates.Shut := by
  simp [State.requestSy, h]

@[simp] theorem State.requestStop_shut {l : LaneId} {reason : Half} : (s.requestStop l reason).gates.Shut := by
  unfold State.requestStop; dsimp only; repeat' split
  all_goals simp [h]

@[simp] theorem State.resetReq_shut {l : LaneId} {req : Nat} {key : Byte} {reason : Half} :
    (s.resetReq l req key reason).gates.Shut := by
  simp [State.resetReq, h]

omit h in
@[simp] theorem State.brownOut_shut : s.brownOut.gates.Shut := by simp [State.brownOut]

omit h in
@[simp] theorem State.enterPowerFail_shut : s.enterPowerFail.gates.Shut := Gates.shut_of_off (by
  simp [State.enterPowerFail, ← State.gates_on])

@[simp] theorem State.laneRail_shut {l : LaneId} : (s.laneRail l).gates.Shut := by simp [State.laneRail, h]

@[simp] theorem State.railFault_shut {pd : Nat} : (s.railFault pd).gates.Shut := by
  unfold State.railFault; split <;> simp [h]

@[simp] theorem State.waitFailed_shut {name : RecName} : (s.waitFailed name).gates.Shut := by simp [State.waitFailed, h]

@[simp] theorem State.clockLost_shut : s.clockLost.gates.Shut := by simp [State.clockLost, h]

@[simp] theorem State.clkLoss_shut {c : ClockBlock} : (s.clkLoss c).gates.Shut := by
  unfold State.clkLoss; split <;> simp [h]

@[simp] theorem State.secureAct_shut {l : LaneId} {w : Word} : (s.secureAct l w).gates.Shut := by
  unfold State.secureAct; split <;> simp [h]

@[simp] theorem State.secureWord_shut {l : LaneId} {w : Word} : (s.secureWord l w).gates.Shut := by
  unfold State.secureWord; dsimp only; split <;> simp [h]

@[simp] theorem State.secureRead_shut {l : LaneId} : (s.secureRead l).gates.Shut :=
  shut_foldl (fun _ w h => State.secureWord_shut h) (by simp [h])

@[simp] theorem State.secureAll_shut {w : Word} : (s.secureAll w).gates.Shut := by
  unfold State.secureAll; split
  · exact shut_foldl (fun _ l h => State.secureWord_shut h) h
  · exact h

omit h in
@[simp] theorem State.enterStartupTest_shut : s.enterStartupTest.gates.Shut := Gates.shut_of_off (by
  simp [State.enterStartupTest])

omit h in
@[simp] theorem State.releaseLanes_shut : s.releaseLanes.gates.Shut := by
  unfold State.releaseLanes; dsimp only
  split
  · exact State.enterSafeStop_shut
  · exact State.enterStartupTest_shut

@[simp] theorem State.primingSeal_shut {first second : SwitchReading} : (s.primingSeal first second).gates.Shut := by
  unfold State.primingSeal; split
  · simp [h]
  · exact State.releaseLanes_shut

@[simp] theorem State.primingComplete_shut {first second : SwitchReading} {otp : List (Fin 64 × BitVec 72)} :
    (s.primingComplete first second otp).gates.Shut := by
  simp [State.primingComplete, h]

@[simp] theorem State.startupFailed_shut {e : Failure} : (s.startupFailed e).gates.Shut := by
  simp [State.startupFailed, h]

@[simp] theorem State.startupPassed_shut : s.startupPassed.gates.Shut := by
  unfold State.startupPassed; extract_lets ls s1 s2 s3 coded s4
  have h1 : s1.gates.Shut := shut_foldl (fun _ l h => State.secureRead_shut (l := l) h) h
  have h4 : s4.gates.Shut := State.adoptSchedule_shut (by simpa [s3, s2] using h1)
  split
  · exact State.enterJoining_shut h4
  · exact h4

@[simp] theorem State.startupDone_shut {t : TestReport} : (s.startupDone t).gates.Shut := by
  unfold State.startupDone; dsimp only; split <;> simp [h]

@[simp] theorem State.sampleGates_shut : s.sampleGates.gates.Shut := by simp [State.sampleGates, h]

@[simp] theorem State.voteDeadline_shut : s.voteDeadline.gates.Shut := by simp [State.voteDeadline, h]

@[simp] theorem State.twoKeyDiffers_shut : s.twoKeyDiffers.gates.Shut := by simp [State.twoKeyDiffers, h]

@[simp] theorem State.compareLate_shut {a b : List Pdu} {keep : Bool} : (s.compareLate a b keep).gates.Shut := by
  simp [State.compareLate, h]

@[simp] theorem State.twoKey_shut : s.twoKey.gates.Shut := by unfold State.twoKey; split <;> simp [h]

@[simp] theorem State.disableGuardian_shut {q : Nat} : (s.disableGuardian q).gates.Shut := by
  simp [State.disableGuardian, h]

@[simp] theorem State.sharedResult_shut {q : Nat} {w : Word} {r : BistResult} : (s.sharedResult q w r).gates.Shut := by
  unfold State.sharedResult; split <;> simp [h]

@[simp] theorem State.releaseShared_shut {q : Nat} {misr : DWord} {restoreOk : Bool} :
    (s.releaseShared q misr restoreOk).gates.Shut := by
  simp [State.releaseShared, h]

@[simp] theorem State.bistCtrl_shut {v : View} {w : Word} : (s.bistCtrl v w).gates.Shut := by
  unfold State.bistCtrl; split <;> simp [h]

@[simp] theorem State.fenceReset_shut {x : LaneId} : (s.fenceReset x).gates.Shut := by simp [State.fenceReset, h]

@[simp] theorem State.setLatch_shut {x : LaneId} : (s.setLatch x).gates.Shut := by simp [State.setLatch, h]

@[simp] theorem State.applyLatch_shut : s.applyLatch.gates.Shut := by
  unfold State.applyLatch; split <;> (try split) <;> simp [h]

@[simp] theorem State.endAttempt_shut : s.endAttempt.gates.Shut := by simp [State.endAttempt, h]

@[simp] theorem State.enterHold_shut : s.enterHold.gates.Shut := State.withMode_shut (by
  simp [h]) rfl rfl

@[simp] theorem State.enterRun_shut : s.enterRun.gates.Shut := State.withMode_shut (by
  simp [h]) rfl rfl

@[simp] theorem State.exitJoining_shut : s.exitJoining.gates.Shut := by
  have hm : (s.setMode s.joinedMode).gates.Shut := by
    by_cases hr : s.md.role = .split
    · exact h.ofRole hr _
    · refine State.setMode_shut h ?_
      unfold State.joinedMode
      rw [if_neg hr]; split <;> rfl
  simp [State.exitJoining, hm]

@[simp] theorem State.changeMode_shut {e : ModeEvent} : (s.changeMode e).gates.Shut := by
  unfold State.changeMode; split
  · exact State.setMode_shut h rfl
  · exact State.enterHold_shut h
  · exact State.setMode_shut (by simp [h]) rfl
  · exact State.setMode_shut h rfl
  · exact State.enterStartupTest_shut
  · simp [h]
  · exact State.setMode_shut h rfl
  · exact State.setMode_shut h rfl
  · split
    · exact State.setMode_shut (by simp [h]) rfl
    · exact h
  · exact State.exitJoining_shut h
  · exact h

@[simp] theorem State.decideMode_shut {es : List ModeEvent} : (s.decideMode es).gates.Shut := by
  unfold State.decideMode; split <;> simp [h]

omit h in
@[simp] theorem State.applyOutputs_shut {vital : Bool} : (s.applyOutputs vital).gates.Shut := by
  simp [State.applyOutputs]

@[simp] theorem State.cut_shut : s.cut.gates.Shut := by simp [State.cut, h]

omit h in
@[simp] theorem State.cutHoldExit_shut : s.cutHoldExit.gates.Shut := by simp [State.cutHoldExit]

omit h in
@[simp] theorem State.cutJoining_shut : s.cutJoining.gates.Shut := by simp [State.cutJoining]

@[simp] theorem State.cutSplit_shut : s.cutSplit.gates.Shut := by unfold State.cutSplit; split <;> simp [h]

@[simp] theorem State.agreementFails_shut {l : LaneId} : (s.agreementFails l).gates.Shut := by
  simp [State.agreementFails, h]

@[simp] theorem State.agreeLane_shut {l : LaneId} : (s.agreeLane l).gates.Shut := by
  unfold State.agreeLane; split <;> simp [h]

@[simp] theorem State.fireAtStart_shut : s.fireAtStart.gates.Shut := by
  unfold State.fireAtStart; repeat' split
  all_goals simp [h]

@[simp] theorem State.armCycle_shut : s.armCycle.gates.Shut := by simp [State.armCycle, h]

@[simp] theorem State.startAt_shut {t : Nat} {loc : Bool} : (s.startAt t loc).gates.Shut := by simp [State.startAt, h]

@[simp] theorem State.startSplit_shut : s.startSplit.gates.Shut := by simp [State.startSplit, h]

@[simp] theorem State.leaveHold_shut : s.leaveHold.gates.Shut := by
  unfold State.leaveHold; extract_lets t s1 s2 md s3
  have h2 : s2.gates.Shut := by simpa [s2, s1] using h
  clear_value s2
  have h3 : s3.gates.Shut := State.withMode_shut h2 rfl rfl
  simp [h3]

@[simp] theorem State.startLocal_shut : s.startLocal.gates.Shut := by simp [State.startLocal, h]

@[simp] theorem State.prepare_shut {l : LaneId} : (s.prepare l).gates.Shut := by simp [State.prepare, h]

@[simp] theorem State.agreementVote_shut : s.agreementVote.gates.Shut := by
  unfold State.agreementVote; extract_lets ls s1 s2 s3 md s4 s5
  have h2 : s2.gates.Shut := shut_foldl (fun _ l h => State.agreeLane_shut (l := l) h) (by simp [s1, h])
  have h4 : s4.gates.Shut := by simpa [s4, md, s3] using h2
  split
  · exact h4
  · exact shut_foldl (fun _ l h => State.prepare_shut (l := l) h) (by simpa [s5] using h4)

@[simp] theorem State.agreementIdle_shut : s.agreementIdle.gates.Shut := by
  have hagreed := shut_foldl (fun _ l h => State.agreeLane_shut (l := l) h) (xs := s.joining) h
  unfold State.agreementIdle; simp [hagreed]

@[simp] theorem State.agreementSafe_shut : s.agreementSafe.gates.Shut := by
  have hagreed := shut_foldl (fun _ l h => State.agreeLane_shut (l := l) h) (xs := s.cycleLanes) h
  unfold State.agreementSafe; simp [hagreed]

@[simp] theorem State.checkClocks_shut {act : State → State} (hb : ∀ u, u.gates.Shut → (act u).gates.Shut) :
    (s.checkClocks act).gates.Shut := by
  simp [State.checkClocks, h, hb]

@[simp] theorem State.tripOutput_shut {o : Nat} : (s.tripOutput o).gates.Shut := by simp [State.tripOutput, h]

omit h in
@[simp] theorem State.groupStop_shut {o : Nat} {code : BitVec 4} {name : RecName} :
    (s.groupStop o code name).gates.Shut := by
  simp [State.groupStop]

omit h in
@[simp] theorem State.startPulse_shut {o : Fin 48} : (s.startPulse o).gates.Shut := by simp [State.startPulse]

@[simp] theorem State.slotPulse_shut {o : Fin 48} : (s.slotPulse o).gates.Shut := by
  unfold State.slotPulse; split <;> simp [h]

@[simp] theorem State.latePulse_shut {o : Fin 48} {t : DWord} : (s.latePulse o t).gates.Shut := by
  simp [State.latePulse, h]

omit h in
@[simp] theorem State.closePulse_shut {o : Fin 48} : (s.closePulse o).gates.Shut := by simp [State.closePulse]

@[simp] theorem State.pulseResult_shut {o : Fin 48} {v : PulseSample} (high : Bool) :
    (s.pulseResult o high v).gates.Shut := by
  unfold State.pulseResult; split <;> (try split) <;> simp [h]

@[simp] theorem State.runOn_shut {l : LaneId} {may : Lane → Bool} {steps : Option Nat} :
    (s.runOn l may steps).gates.Shut := by
  unfold State.runOn; dsimp only; split <;> simp [h]

@[simp] theorem State.dbgResume_shut {l : LaneId} : (s.dbgResume l).gates.Shut := by simp [State.dbgResume, h]

@[simp] theorem State.dbgStep_shut {l : LaneId} {n : Half} : (s.dbgStep l n).gates.Shut := by simp [State.dbgStep, h]

@[simp] theorem State.dbgCommand_shut {l : LaneId} {w : Word} : (s.dbgCommand l w).gates.Shut := by
  unfold State.dbgCommand; split <;> simp [h]

@[simp] theorem State.readRegister_shut {v : View} {n off : Nat} : (s.readRegister v n off).gates.Shut := by
  unfold State.readRegister; repeat' split
  all_goals simp [h]

@[simp] theorem State.resetReqWord_shut {l : LaneId} {w : Word} : (s.resetReqWord l w).gates.Shut := by
  simp [State.resetReqWord, h]

@[simp] theorem State.runtimeWrite_shut {l : LaneId} {n off : Nat} {w : Word} :
    (s.runtimeWrite l n off w).gates.Shut := by
  unfold State.runtimeWrite; split <;> simp [h]

@[simp] theorem State.serviceWrite_shut {l : LaneId} {secure : Bool} {n off : Nat} {w : Word} :
    (s.serviceWrite l secure n off w).gates.Shut := by
  unfold State.serviceWrite; split <;> simp [h]

@[simp] theorem State.writeRegister_shut {v : View} {n off addr : Nat} {w : Word} :
    (s.writeRegister v n off addr w).gates.Shut := by
  unfold State.writeRegister; split <;> simp [h]

@[simp] theorem State.loadBlock_shut {l : LaneId} {d : Reg} {ea : Word} : (s.loadBlock l d ea).gates.Shut := by
  unfold State.loadBlock; dsimp only; split <;> simp [h]

@[simp] theorem State.loadFrom_shut {l : LaneId} {i : Instr} {d : Reg} {n : Nat} {ea : Word} {f : Nat → Word} :
    (s.loadFrom l i d n ea f).gates.Shut := by
  simp [State.loadFrom, h]

@[simp] theorem State.load_shut {l : LaneId} {i : Instr} {d a : Reg} {imm : Half} {n : Nat} {f : Nat → Word} :
    (s.load l i d a imm n f).gates.Shut := by
  refine State.begin_shut h ?_
  dsimp only; repeat' split
  · simp [h]
  · exact State.sources_shut h (State.loadFrom_shut h)
  · simp [h]

@[simp] theorem State.lb_shut {l : LaneId} {d a : Reg} {imm : Half} : (s.lb l d a imm).gates.Shut := by
  simp [State.lb, h]

@[simp] theorem State.lbu_shut {l : LaneId} {d a : Reg} {imm : Half} : (s.lbu l d a imm).gates.Shut := by
  simp [State.lbu, h]

@[simp] theorem State.lh_shut {l : LaneId} {d a : Reg} {imm : Half} : (s.lh l d a imm).gates.Shut := by
  simp [State.lh, h]

@[simp] theorem State.lhu_shut {l : LaneId} {d a : Reg} {imm : Half} : (s.lhu l d a imm).gates.Shut := by
  simp [State.lhu, h]

@[simp] theorem State.lw_shut {l : LaneId} {d a : Reg} {imm : Half} : (s.lw l d a imm).gates.Shut := by
  simp [State.lw, h]

@[simp] theorem State.storeBlock_shut {l : LaneId} {ea w : Word} : (s.storeBlock l ea w).gates.Shut := by
  unfold State.storeBlock; dsimp only; split <;> simp [h]

@[simp] theorem State.storeTo_shut {l : LaneId} {d : Reg} {n : Nat} {ea : Word} : (s.storeTo l d n ea).gates.Shut := by
  simp [State.storeTo, h]

@[simp] theorem State.store_shut {l : LaneId} {i : Instr} {d a : Reg} {imm : Half} {n : Nat} :
    (s.store l i d a imm n).gates.Shut := by
  refine State.begin_shut h ?_
  dsimp only; repeat' split
  · simp [h]
  · simp [h]
  · exact State.sources_shut h (State.storeTo_shut h)
  · simp [h]

@[simp] theorem State.rerun_shut {l : LaneId} {i : Instr} : (s.rerun l i).gates.Shut := by
  unfold State.rerun; split <;> simp [h]

@[simp] theorem State.limitReached_shut {l : LaneId} : (s.limitReached l).gates.Shut := by
  unfold State.limitReached; dsimp only; split <;> simp [h]

@[simp] theorem State.laneDebug_shut {sid : Nat} {req : Word} {l : LaneId} {cmd addr data : Word} :
    (s.laneDebug sid req l cmd addr data).gates.Shut := by
  simp [State.laneDebug, h]

/-! Commands with cases of their own. -/

theorem execCchk_shut (l : LaneId) (d a : Reg) : ∃ t, execCchk l d a s = .next t ∧ t.gates.Shut :=
  ⟨_, rfl, State.begin_shut h (by simp [h])⟩

theorem execMfcr_shut (l : LaneId) (d : Reg) (cr : Fin 32) : ∃ t, execMfcr l d cr s = .next t ∧ t.gates.Shut := by
  refine ⟨_, rfl, State.begin_shut h ?_⟩; dsimp only; repeat' split
  all_goals simp [h]

theorem execWaitEnd_shut (l : LaneId) : ∃ t, execWaitEnd l s = .next t ∧ t.gates.Shut := by
  refine ⟨_, rfl, ?_⟩; split <;> simp [h]

theorem execPin_shut (l : LaneId) (d a : Reg) : ∃ t, execPin l d a s = .next t ∧ t.gates.Shut :=
  ⟨_, rfl, State.begin_shut h (State.readReg_shut h fun i => State.bounds_shut h
    (State.readStore_shut h (by simp [h])))⟩

theorem execPout_shut (l : LaneId) (a b : Reg) : ∃ t, execPout l a b s = .next t ∧ t.gates.Shut :=
  ⟨_, rfl, State.begin_shut h (State.readReg_shut h fun i => State.bounds_shut h
    (State.readReg_shut h fun v => State.readStore_shut h (by simp [h])))⟩

theorem execEngineStallEnd_shut (l : LaneId) : ∃ t, execEngineStallEnd l s = .next t ∧ t.gates.Shut := by
  refine ⟨_, rfl, ?_⟩; split <;> simp [h]

/-- TSTART of a timer, from the reading of its preset on. -/
theorem State.start_shut {l : LaneId} {d b : Reg} {t : Nat} :
    (s.readReg l 0x020 b fun p => s.readStore l 0x020 headerTimeAddr 8
      ((s.updLane l (fun x => x.startTimer t p)).finishSet l d (BitVec.ofNat 32 t))).gates.Shut :=
  State.readReg_shut h fun p => State.readStore_shut h (by simp [h])

theorem execTstart_shut (l : LaneId) (d a b : Reg) : ∃ t, execTstart l d a b s = .next t ∧ t.gates.Shut := by
  refine ⟨_, rfl, State.begin_shut h (State.readReg_shut h fun i => ?_)⟩
  dsimp only; repeat' split
  · exact State.start_shut h
  · simp [h]
  · exact State.readStore_shut h (State.start_shut (by simp [h]))
  · simp [h]

theorem execTstop_shut (l : LaneId) (a : Reg) : ∃ t, execTstop l a s = .next t ∧ t.gates.Shut :=
  ⟨_, rfl, State.begin_shut h (State.readReg_shut h fun i => State.bounds_shut h (by simp [h]))⟩

theorem execCinc_shut (l : LaneId) (d a : Reg) : ∃ t, execCinc l d a s = .next t ∧ t.gates.Shut :=
  ⟨_, rfl, State.begin_shut h (State.readReg_shut h fun i => State.bounds_shut h
    (State.readStore_shut h (by simp [h])))⟩

theorem execCrd_shut (l : LaneId) (d a : Reg) : ∃ t, execCrd l d a s = .next t ∧ t.gates.Shut :=
  ⟨_, rfl, State.begin_shut h (State.readReg_shut h fun i => State.bounds_shut h
    (State.readStore_shut h (by simp [h])))⟩

theorem execRqput_shut (l : LaneId) (a : Reg) : ∃ t, execRqput l a s = .next t ∧ t.gates.Shut := by
  refine ⟨_, rfl, State.begin_shut h (State.readReg_shut h fun q => ?_)⟩
  dsimp only; split
  · simp [h]
  · split
    · simp [h]
    · split
      · refine State.readStore_shut h ?_
        split <;> simp [h]
      · simp [h]

theorem execSltx_shut (l : LaneId) (a b : Reg) : ∃ t, execSltx l a b s = .next t ∧ t.gates.Shut := by
  refine ⟨_, rfl, State.begin_shut h (State.readReg_shut h fun c => State.bounds_shut h
    (State.readReg_shut h fun p => ?_))⟩
  dsimp only; split
  · simp [h]
  · refine State.denied_shut h (State.readStore_shut h ?_)
    iterate 5 (split; · simp [h])
    exact State.denied_shut h (State.readStore_shut h (by simp [h]))

theorem execSlrx_shut (l : LaneId) (d a b : Reg) : ∃ t, execSlrx l d a b s = .next t ∧ t.gates.Shut := by
  refine ⟨_, rfl, State.begin_shut h (State.readReg_shut h fun c => State.bounds_shut h
    (State.readReg_shut h fun p => ?_))⟩
  dsimp only; split
  · simp [h]
  · refine State.denied_shut h ?_
    split
    · simp [h]
    · split <;> simp [h]

theorem execRpcall_shut (l : LaneId) (a b : Reg) : ∃ t, execRpcall l a b s = .next t ∧ t.gates.Shut := by
  refine ⟨_, rfl, State.begin_shut h (State.readReg_shut h fun p => State.readDir_shut h
    (State.bounds_shut h (State.readReg_shut h fun f => State.readDir_shut h
    (State.readDir_shut h (State.bounds_shut h (State.readStore_shut h ?_))))))⟩
  dsimp only; repeat' split
  all_goals simp [h]

theorem execRpret_shut (l : LaneId) : ∃ t, execRpret l s = .next t ∧ t.gates.Shut := by
  refine ⟨_, rfl, State.begin_shut h ?_⟩; dsimp only; repeat' split
  all_goals simp [h]

theorem execRouteEnable_shut (v : View) (enable : Bool) : ∃ t, execRouteEnable v enable s = .next t ∧ t.gates.Shut := by
  refine ⟨_, rfl, ?_⟩; split <;> simp [h]

theorem execRouteInit_shut (v : View) : ∃ t, execRouteInit v s = .next t ∧ t.gates.Shut := by
  refine ⟨_, rfl, ?_⟩; split <;> simp [h]

theorem execQclear_shut (v : View) : ∃ t, execQclear v s = .next t ∧ t.gates.Shut := by
  refine ⟨_, rfl, ?_⟩; split <;> simp [h]

theorem execCycleStart_shut : ∃ t, execCycleStart s = .next t ∧ t.gates.Shut := by
  refine ⟨_, rfl, ?_⟩; split <;> simp [h]

theorem execInputAgreementEnd_shut : ∃ t, execInputAgreementEnd s = .next t ∧ t.gates.Shut := by
  refine ⟨_, rfl, ?_⟩; split
  · split
    · exact h
    · exact State.checkClocks_shut (by simp [h]) fun u hu => by simp [hu]
  · split
    · exact h
    · dsimp only; split
      · simp [h]
      · refine State.checkClocks_shut (by simp [h]) fun u hu => ?_
        split <;> simp [hu]

theorem execTwoKeyCompare_shut : ∃ t, execTwoKeyCompare s = .next t ∧ t.gates.Shut := by
  refine ⟨_, rfl, ?_⟩; split <;> simp [h]

theorem execOutputCut_shut : ∃ t, execOutputCut s = .next t ∧ t.gates.Shut := by
  refine ⟨_, rfl, ?_⟩; split <;> simp [h]

theorem execControlMessage_shut (dst : LaneId) (m : LinkMsg) :
    ∃ t, execControlMessage dst m s = .next t ∧ t.gates.Shut := by
  refine ⟨_, rfl, ?_⟩; split
  · exact h
  · rw [State.linkArrive_gates]
    · exact h
    · intro u k; split
      · rfl
      · split <;> simp

theorem execSenseOdd_shut (l : Option LaneId) : ∃ t, execSenseOdd l s = .next t ∧ t.gates.Shut := by
  refine ⟨_, rfl, ?_⟩; repeat' split
  all_goals simp [h]

theorem execSenseOddCause_shut (l : Option LaneId) : ∃ t, execSenseOddCause l s = .next t ∧ t.gates.Shut := by
  refine ⟨_, rfl, ?_⟩; repeat' split
  all_goals simp [h]

theorem execOffPulse_shut : ∃ t, execOffPulse s = .next t ∧ t.gates.Shut := by
  refine ⟨_, rfl, ?_⟩; dsimp only; repeat' split
  all_goals simp [h]

theorem execOffPulseEnd_shut (a b c : List PulseReading) : ∃ t, execOffPulseEnd a b c s = .next t ∧ t.gates.Shut := by
  refine ⟨_, rfl, ?_⟩; dsimp only; repeat' split
  all_goals simp [h]

theorem execRestartRequest_shut : ∃ t, execRestartRequest s = .next t ∧ t.gates.Shut := by
  refine ⟨_, rfl, ?_⟩; repeat' split
  all_goals simp [h]

theorem execSyReset_shut : ∃ t, execSyReset s = .next t ∧ t.gates.Shut := by
  refine ⟨_, rfl, ?_⟩; split <;> simp [h]

theorem execPoReset_shut : ∃ t, execPoReset s = .next t ∧ t.gates.Shut := by
  refine ⟨_, rfl, ?_⟩; split <;> simp [h]

theorem execClockQualified_shut (c : ClockBlock) : ∃ t, execClockQualified c s = .next t ∧ t.gates.Shut := by
  refine ⟨_, rfl, ?_⟩; repeat' split
  all_goals simp [h]

theorem execEarlyClockRelease_shut (c : ClockBlock) (session : Fin 4) :
    ∃ t, execEarlyClockRelease c session s = .next t ∧ t.gates.Shut := by
  refine ⟨_, rfl, ?_⟩; repeat' split
  all_goals simp [h]

/-- A burn that is carried out or refused. -/
theorem getD_shut {o : Option State} (ho : ∀ t, o = some t → t.gates = s.gates) :
    (o.getD s).gates.Shut := by
  cases o with
  | none => exact h
  | some t => simpa [ho t rfl] using h

omit h in
theorem State.doBurn_gates (s : State) (b : Burn) : ∀ t, s.doBurn b = some t → t.gates = s.gates := by
  cases b <;> unfold State.doBurn
  · exact State.doBurnGeneration_gates _ _ _ _ _ _
  · exact State.doBurnRetire_gates _ _
  · exact State.doBurnKeySlot_gates _ _ _ _
  · exact State.doBurnRevoked_gates _ _
  · exact State.doBurnSvn_gates _

theorem execBurnGeneration_shut (w0 w1 w2 w3 : BurnWord) :
    ∃ t, execBurnGeneration w0 w1 w2 w3 s = .next t ∧ t.gates.Shut := ⟨_, rfl, getD_shut h
    (State.doBurnGeneration_gates _ _ _ _ _ _)⟩

theorem execBurnRetire_shut (g : Fin 4) : ∃ t, execBurnRetire g s = .next t ∧ t.gates.Shut :=
  ⟨_, rfl, getD_shut h (State.doBurnRetire_gates _ _)⟩

theorem execBurnKeySlot_shut (slot : Fin 2) (hash : HashBurn) :
    ∃ t, execBurnKeySlot slot hash s = .next t ∧ t.gates.Shut := ⟨_, rfl, getD_shut h (State.doBurnKeySlot_gates _ _
    _ _)⟩

theorem execBurnRevoked_shut (slot : Fin 2) : ∃ t, execBurnRevoked slot s = .next t ∧ t.gates.Shut :=
  ⟨_, rfl, getD_shut h (State.doBurnRevoked_gates _ _)⟩

theorem execBurnSvn_shut : ∃ t, execBurnSvn s = .next t ∧ t.gates.Shut :=
  ⟨_, rfl, getD_shut h (State.doBurnSvn_gates _)⟩

theorem execMeasCtrl_shut (v : View) (w : Word) : ∃ t, execMeasCtrl v w s = .next t ∧ t.gates.Shut := by
  refine ⟨_, rfl, ?_⟩; split <;> simp [h]

theorem execGuardianOverrun_shut (p : Port) (source : BitVec 10) :
    ∃ t, execGuardianOverrun p source s = .next t ∧ t.gates.Shut := by
  refine ⟨_, rfl, ?_⟩; split <;> simp [h]

theorem execLinkStable_shut (p : Port) : ∃ t, execLinkStable p s = .next t ∧ t.gates.Shut := by
  refine ⟨_, rfl, ?_⟩; split <;> simp [h]

theorem execRestoreCycle_shut : ∃ t, execRestoreCycle s = .next t ∧ t.gates.Shut := by
  refine ⟨_, rfl, ?_⟩; split <;> simp [h]

theorem execRestoreLapse_shut (p : Port) : ∃ t, execRestoreLapse p s = .next t ∧ t.gates.Shut := by
  refine ⟨_, rfl, ?_⟩; split <;> simp [h]

theorem execCommit_shut (v : View) : ∃ t, execCommit v s = .next t ∧ t.gates.Shut := by
  refine ⟨_, rfl, ?_⟩; split <;> simp [h]

theorem execSlCtrlEnable_shut (v : View) (enable : Bool) :
    ∃ t, execSlCtrlEnable v enable s = .next t ∧ t.gates.Shut := by
  refine ⟨_, rfl, ?_⟩; split <;> simp [h]

theorem execImageSwapTimeout_shut : ∃ t, execImageSwapTimeout s = .next t ∧ t.gates.Shut := by
  refine ⟨_, rfl, ?_⟩; repeat' split
  all_goals simp [h]

theorem execSessionTimeout_shut (sid : Fin 4) : ∃ t, execSessionTimeout sid s = .next t ∧ t.gates.Shut := by
  refine ⟨_, rfl, ?_⟩; split <;> simp [h]

theorem execControl_shut (sid : Fin 4) (req : Word) (request : Bool) :
    ∃ t, execControl sid req request s = .next t ∧ t.gates.Shut := by
  refine ⟨_, rfl, ?_⟩
  rw [State.serve_gates]
  · exact h
  · intro u; split
    · rfl
    · split <;> simp

theorem State.debugService_shut (sid : Nat) (req : Word) (r : DebugRequest) :
    (s.debugService sid req r).gates.Shut := by
  cases r <;> simp [State.debugService, h]

theorem execSvcDebugHalt_shut (sid : Fin 4) (call : DebugCall) :
    ∃ t, execSvcDebugHalt sid call s = .next t ∧ t.gates.Shut := by
  refine ⟨_, rfl, ?_⟩
  unfold State.serve; repeat' split
  all_goals simp [h, State.debugService_shut]

theorem execSvcOtpBurn_shut (sid : Fin 4) (req : Word) (b : Burn) :
    ∃ t, execSvcOtpBurn sid req b s = .next t ∧ t.gates.Shut := by
  refine ⟨_, rfl, ?_⟩
  rw [State.serve_gates]
  · exact h
  · intro u; split
    · next hb => simp [State.doBurn_gates _ _ _ hb]
    · simp

theorem execCvuResult_shut (v : View) (u : Fin 4) (out high : Bool) :
    ∃ t, execCvuResult v u out high s = .next t ∧ t.gates.Shut := by
  unfold execCvuResult; dsimp only; split
  · exact ⟨_, rfl, by simp [h]⟩
  · exact ⟨_, rfl, by simp [h]⟩

theorem execResetOptimeLo_shut (v : View) : ∃ t, execResetOptimeLo v s = .next t ∧ t.gates.Shut := by
  refine ⟨_, rfl, ?_⟩; split <;> simp [h]

theorem execRecSub_shut (v : View) (w : Word) : ∃ t, execRecSub v w s = .next t ∧ t.gates.Shut := by
  refine ⟨_, rfl, ?_⟩; split <;> simp [h]

theorem execBucketRefill_shut (code : BitVec 12) : ∃ t, execBucketRefill code s = .next t ∧ t.gates.Shut := by
  refine ⟨_, rfl, ?_⟩; split <;> simp [h]

theorem execFlush_shut (v : View) (w : Word) : ∃ t, execFlush v w s = .next t ∧ t.gates.Shut := by
  refine ⟨_, rfl, ?_⟩; split <;> simp [h]

theorem execFlushStart_shut : ∃ t, execFlushStart s = .next t ∧ t.gates.Shut := by
  refine ⟨_, rfl, ?_⟩; split <;> simp [h]

theorem execRecCtData_shut (v : View) (w : Word) : ∃ t, execRecCtData v w s = .next t ∧ t.gates.Shut := by
  refine ⟨_, rfl, ?_⟩; split <;> simp [h]

theorem execSliceRelease_shut (shared : Bool) (misr : DWord) (restoreOk : Bool) (time : Word) :
    ∃ t, execSliceRelease shared misr restoreOk time s = .next t ∧ t.gates.Shut := by
  refine ⟨_, rfl, ?_⟩; split <;> simp [h]

theorem execInjArm_shut (v : View) (w : Word) : ∃ t, execInjArm v w s = .next t ∧ t.gates.Shut := by
  refine ⟨_, rfl, ?_⟩; split <;> simp [h]

theorem execInjDisarm_shut (v : View) (w : Word) : ∃ t, execInjDisarm v w s = .next t ∧ t.gates.Shut := by
  refine ⟨_, rfl, ?_⟩; split <;> simp [h]

theorem execInjectLapsed_shut : ∃ t, execInjectLapsed s = .next t ∧ t.gates.Shut := by
  refine ⟨_, rfl, ?_⟩; split <;> simp [h]

theorem execRegisterWrite_shut (v : View) (addr w : Word) :
    ∃ t, execRegisterWrite v addr w s = .next t ∧ t.gates.Shut := by
  refine ⟨_, rfl, ?_⟩; split <;> simp [h]

theorem execRailRecovered_shut (pd : Fin 12) : ∃ t, execRailRecovered pd s = .next t ∧ t.gates.Shut := by
  refine ⟨_, rfl, ?_⟩; split <;> simp [h]

/-- Every command keeps the gates shut: one lemma for each command with cases of its own; every other command is one
shared operation, whose lemma closes it. -/
theorem exec_shut (c : Instr) : ∃ t, exec c s = .next t ∧ t.gates.Shut := by
  cases c
  case cchk => exact execCchk_shut h _ _ _
  case mfcr => exact execMfcr_shut h _ _ _
  case waitEnd => exact execWaitEnd_shut h _
  case pin => exact execPin_shut h _ _ _
  case pout => exact execPout_shut h _ _ _
  case engineStallEnd => exact execEngineStallEnd_shut h _
  case tstart => exact execTstart_shut h _ _ _ _
  case tstop => exact execTstop_shut h _ _
  case cinc => exact execCinc_shut h _ _ _
  case crd => exact execCrd_shut h _ _ _
  case rqput => exact execRqput_shut h _ _
  case sltx => exact execSltx_shut h _ _ _
  case slrx => exact execSlrx_shut h _ _ _ _
  case rpcall => exact execRpcall_shut h _ _ _
  case rpret => exact execRpret_shut h _
  case routeEnable => exact execRouteEnable_shut h _ _
  case routeInit => exact execRouteInit_shut h _
  case qclear => exact execQclear_shut h _
  case cycleStart => exact execCycleStart_shut h
  case inputAgreementEnd => exact execInputAgreementEnd_shut h
  case twoKeyCompare => exact execTwoKeyCompare_shut h
  case outputCut => exact execOutputCut_shut h
  case controlMessage => exact execControlMessage_shut h _ _
  case senseOdd => exact execSenseOdd_shut h _
  case senseOddCause => exact execSenseOddCause_shut h _
  case offPulse => exact execOffPulse_shut h
  case offPulseEnd => exact execOffPulseEnd_shut h _ _ _
  case restartRequest => exact execRestartRequest_shut h
  case syReset => exact execSyReset_shut h
  case poReset => exact execPoReset_shut h
  case clockQualified => exact execClockQualified_shut h _
  case earlyClockRelease => exact execEarlyClockRelease_shut h _ _
  case burnGeneration => exact execBurnGeneration_shut h _ _ _ _
  case burnRetire => exact execBurnRetire_shut h _
  case burnKeySlot => exact execBurnKeySlot_shut h _ _
  case burnRevoked => exact execBurnRevoked_shut h _
  case burnSvn => exact execBurnSvn_shut h
  case measCtrl => exact execMeasCtrl_shut h _ _
  case guardianOverrun => exact execGuardianOverrun_shut h _ _
  case linkStable => exact execLinkStable_shut h _
  case restoreCycle => exact execRestoreCycle_shut h
  case restoreLapse => exact execRestoreLapse_shut h _
  case commit => exact execCommit_shut h _
  case slCtrlEnable => exact execSlCtrlEnable_shut h _ _
  case imageSwapTimeout => exact execImageSwapTimeout_shut h
  case sessionTimeout => exact execSessionTimeout_shut h _
  case control => exact execControl_shut h _ _ _
  case svcDebugHalt => exact execSvcDebugHalt_shut h _ _
  case svcOtpBurn => exact execSvcOtpBurn_shut h _ _ _
  case cvuResult => exact execCvuResult_shut h _ _ _ _
  case resetOptimeLo => exact execResetOptimeLo_shut h _
  case recSub => exact execRecSub_shut h _ _
  case bucketRefill => exact execBucketRefill_shut h _
  case flush => exact execFlush_shut h _ _
  case flushStart => exact execFlushStart_shut h
  case recCtData => exact execRecCtData_shut h _ _
  case sliceRelease => exact execSliceRelease_shut h _ _ _ _
  case injArm => exact execInjArm_shut h _ _
  case injDisarm => exact execInjDisarm_shut h _ _
  case injectLapsed => exact execInjectLapsed_shut h
  case registerWrite => exact execRegisterWrite_shut h _ _ _
  case railRecovered => exact execRailRecovered_shut h _
  all_goals exact ⟨_, rfl, by simp [h]⟩

theorem step_shut {t : State} (ht : step s = .next t) : t.gates.Shut := by
  unfold step at ht
  split at ht
  · cases ht
    exact State.tick_shut h
  · next c rest _ =>
    obtain ⟨u, hu, hshut⟩ := exec_shut (s := { s with pending := rest }) h c
    rw [hu] at ht
    cases ht
    exact hshut

end

/-- In the modes with open group switches nothing conducts (R252). -/
theorem Gates.Shut.off {g : Gates} (h : g.Shut) (hm : g.mode.groupsClosed = false) : g.on = 0 := by
  refine BitVec.eq_of_getLsbD_eq fun o _ => ?_
  rw [BitVec.ofNat_eq_ofNat, BitVec.getLsbD_zero, Bool.eq_false_iff]
  intro ho
  have := (h o ho).1
  simp [hm] at this

/-- Settles O59: `step_shut`, one lemma for each operation of the model that either leaves the gates as they are or
takes every output off, forms the conduction anew or enters a mode with closed group switches. -/
theorem outputsStayGated : Obligations.OutputsStayGated := by
  unfold Obligations.OutputsStayGated
  refine ⟨fun _ _ h => step_shut h, fun s h hm => Gates.Shut.off (g := s.gates) h ?_⟩
  have : s.md.mode.groupsClosed = false := by
    simp only [List.mem_cons, List.not_mem_nil, or_false] at hm
    rcases hm with hm | hm | hm | hm | hm <;> rw [hm] <;> rfl
  exact this

end Sys2Proof.Machine

/-! The step of the machine (R106, R372): the command at the front of the queue, or one tick of 10 ns. -/

namespace Sys2Proof.Machine

open Sys2Proof.Safety

/-- A pair of 64 and 32 bits cut from a number and joined again is the number. -/
theorem append_parts (p : BitVec 96) : ((p >>> 32).setWidth 64 : BitVec 64) ++ (p.setWidth 32 : BitVec 32) = p := by
  refine BitVec.eq_of_getLsbD_eq fun i hi => ?_
  simp only [BitVec.getLsbD_append, BitVec.getLsbD_setWidth, BitVec.getLsbD_ushiftRight]
  by_cases h : i < 32
  · simp [h]
  · simp [h, show i - 32 < 64 by omega, show 32 + (i - 32) = i by omega]

/-- Without a correction under way nothing is added to a tick (R106). -/
theorem Timebase.slewSum_idle {t : Timebase} (h : t.slewTicks = 0) (ticks n : Nat) : t.slewSum ticks n = 0 := by
  simp [Timebase.slewSum, h]

/-- What a tick without a correction adds to the pair of NT and NTF (R106). -/
theorem Timebase.gain_one {t : Timebase} (h : t.slewTicks = 0) (ticks : Nat) :
    t.gain ticks 1 = 2 ^ 32 + t.rate.toInt := by
  rw [Timebase.gain, Timebase.slewSum_idle h]
  simp

/-- The pair of NT and NTF as a bit vector has the value of `Timebase.pair`. -/
theorem Timebase.append_eq_pair (t : Timebase) : t.nt ++ t.ntf = BitVec.ofInt 96 t.pair := by
  refine BitVec.eq_of_toNat_eq ?_
  have := t.nt.isLt
  have := t.ntf.isLt
  rw [BitVec.ofInt_natCast, BitVec.toNat_append, Nat.shiftLeft_eq, Nat.mul_comm,
    ← Nat.two_pow_add_eq_or_of_lt t.ntf.isLt, BitVec.toNat_ofNat, Nat.mod_eq_of_lt] <;> unfold Timebase.pair <;> omega

/-- Ticks add their gain to the pair of NT and NTF (R106). -/
theorem Timebase.run_append (t : Timebase) (ticks n : Nat) :
    (t.run ticks n).nt ++ (t.run ticks n).ntf = t.nt ++ t.ntf + BitVec.ofInt 96 (t.gain ticks n) := by
  rw [Timebase.append_eq_pair t, ← BitVec.ofInt_add]
  unfold Timebase.run Timebase.slewed
  exact append_parts _

theorem Timebase.ofInt_gain_one {t : Timebase} (h : t.slewTicks = 0) (ticks : Nat) :
    BitVec.ofInt 96 (t.gain ticks 1) = 0x100000000 + t.rate.signExtend 96 := by
  rw [Timebase.gain_one h, BitVec.ofInt_add, BitVec.signExtend]
  rfl

/-- A lane at a word that spells an instruction takes no trap of its own. -/
theorem State.stray_of_none {s : State} {l : LaneId} (h : (s.lane l).strayWord l = none) : s.stray l = s := by
  simp [State.stray, h]

theorem State.stray_of_some {s : State} {l : LaneId} {w : Word} (h : (s.lane l).strayWord l = some w) :
    s.stray l = (s.illegal l w).counted l := by
  simp [State.stray, h]

/-- Settles O57: on an empty queue the state that the time alone changes is `State.passTime` of one tick
(`Timebase.run_append`); the cores at a stray word trap from there. -/
theorem stepRunsFront : Obligations.StepRunsFront := by
  unfold Obligations.StepRunsFront
  refine ⟨fun _ _ _ => rfl, fun s hs => ?_⟩
  have hstep : step s = .next ((((s.passTime 1).stray .A).stray .B).stray .C) := by simp only [step, hs]; rfl
  refine ⟨s.passTime 1, hstep, rfl, fun hruns => if_neg (by simp [hruns]), fun hruns hslew => ?_, fun hnone => ?_,
    fun l w hw => State.stray_of_some hw⟩
  · rw [show (s.passTime 1).tb = s.tb.run s.ring.ticks 1 from if_pos hruns]
    rw [Timebase.run_append, Timebase.ofInt_gain_one hslew]
    exact (BitVec.add_assoc _ _ _).symm
  · have hstray (l : LaneId) : (s.passTime 1).stray l = s.passTime 1 := State.stray_of_none (hnone l)
    rw [hstep, hstray, hstray, hstray]

end Sys2Proof.Machine

/-! Timers, counters and edge words (R113, R117, R166 to R171). -/

namespace Sys2Proof.Machine

open Sys2Proof.Safety

theorem invalid1_eq (w : Word) : invalid1 w = invalidCount w := by
  simp only [invalid1, invalidCount, codedValid_iff]

theorem noted_zero (y : Lane) : noted y 0 = y := rfl

theorem Core.codedEvents_badReg (c : Core) (n : Nat) : (c.codedEvents n).badReg = c.badReg := by
  induction n generalizing c with
  | zero => rfl
  | succ n ih => exact ih c.codedEvent

/-- Coded-value events leave the general registers of a core as they are (R145). -/
theorem Core.codedEvents_get (c : Core) (n : Nat) (r : Reg) : (c.codedEvents n).get r = c.get r := by
  unfold Core.get
  rw [(c.codedEvents_keeps n).1]

/-- An instruction that leaves a lane as given and writes a register. -/
theorem State.finishSet_setLane (s : State) (l : LaneId) (y : Lane) (d : Reg) (w : Word) :
    ((s.setLane l y).finishSet l d w).counted l = after s l (wrote y d w) :=
  State.finish_setLane (congrArg (fun c => ({ y with core := c } : Lane)) (Core.set_retire y.core d w))

/-- An instruction that writes a register and changes nothing else. -/
theorem State.finishSet_after (s : State) (l : LaneId) (d : Reg) (w : Word) :
    (s.finishSet l d w).counted l = after s l (wrote (s.lane l) d w) := by
  have h := State.finishSet_setLane s l (s.lane l) d w
  rwa [State.setLane, State.lane, PerLane.set_get] at h

/-! Timers. -/

theorem timerAddr_eq {t : Nat} (h : t < 256) : timerAddr t = 0x02F00000 + t * 16 := by unfold timerAddr; omega

/-- The STATE word of a timer is the last of its four words (R166). -/
theorem Lane.timerWord_eq (x : Lane) {t : Nat} (h : t < 256) : x.timerWord t = x.rd32 (0x02F00000 + t * 16 + 12) := by
  rw [Lane.timerWord, timerAddr_eq h]

/-- A timer started holds T(n), the preset and TRUE (R167). -/
theorem Lane.startTimer_eq (y : Lane) {t : Nat} (h : t < 256) (p : Word) : y.startTimer t p =
    (((y.wr32 (0x02F00000 + t * 16) (y.rd32 0x02000008)).wr32 (0x02F00000 + t * 16 + 4) (y.rd32 0x0200000C)).wr32
      (0x02F00000 + t * 16 + 8) p).wr32 (0x02F00000 + t * 16 + 12) codedTrue := by
  unfold Lane.startTimer
  rw [timerAddr_eq h]
  rfl

/-- Four words stored one after another leave every byte outside them. -/
theorem Lane.wr32_four_keepsOutside {x : Lane} (h : Memory.wf x.store.cells = true) (a : Nat) (p q r w : Word) :
    KeepsOutside x ((((x.wr32 a p).wr32 (a + 4) q).wr32 (a + 8) r).wr32 (a + 12) w) a 16 := by
  have wf {y : Lane} (hy : Memory.wf y.store.cells = true) (b : Nat) (v : Word) :
      Memory.wf (y.wr32 b v).store.cells = true := by
    rw [Lane.wr32_store]
    exact Store.putList_wf hy _ _
  intro k hk
  rw [Lane.wr32_keepsOutside (wf (wf (wf h a p) _ q) _ r) _ w k (by omega),
    Lane.wr32_keepsOutside (wf (wf h a p) _ q) _ r k (by omega), Lane.wr32_keepsOutside (wf h a p) _ q k (by omega),
    Lane.wr32_keepsOutside h a p k (by omega)]

/-- A floor of TSTART is no timer number: its top bit is set (R167). -/
theorem not_lt_of_floor {v : Word} (h : v &&& 0xFFFFFF00 = 0x80000000) : ¬ v.toNat < 256 := by
  have htop : v.getLsbD 31 = true := by
    have := congrArg (fun w : Word => w.getLsbD 31) h
    simpa using this
  have := BitVec.le_toNat_of_msb_true (x := v) (by rwa [BitVec.msb_eq_getLsbD_last])
  omega

/-- The time of a timer since its start (R168). -/
theorem Lane.elapsed_eq (x : Lane) {t : Nat} (h : t < 256) : x.elapsed t =
    min (((x.rd32 0x02000008).toNat + 2 ^ 32 * (x.rd32 0x0200000C).toNat + 2 ^ 64 -
      ((x.rd32 (0x02F00000 + t * 16)).toNat + 2 ^ 32 * (x.rd32 (0x02F00000 + t * 16 + 4)).toNat)) % 2 ^ 64)
      (2 ^ 32 - 1) := by
  simp only [Lane.elapsed, Lane.headerTime, timerAddr_eq h, Nat.reducePow, Nat.reduceSub]

/-- The search of TSTART ends at the lowest timer from the floor on that is not RUNNING (R167). -/
theorem Lane.idleTimer_eq {x : Lane} (hclean : x.store.badParity = []) {floor t : Nat} (hf : floor ≤ t) (ht : t < 256)
    (hidle : x.rd32 (0x02F00000 + t * 16 + 12) ≠ codedTrue)
    (hrun : ∀ u, floor ≤ u → u < t → x.rd32 (0x02F00000 + u * 16 + 12) = codedTrue) :
    x.idleTimer floor = some t := by
  have hpar (a n : Nat) : x.parityBad a n = false := by simp [Lane.parityBad, hclean]
  unfold Lane.idleTimer
  rw [List.find?_range_eq_some]
  refine ⟨?_, List.mem_range.mpr ht, fun u hu => ?_⟩
  · simpa [hpar, hf, Lane.timerWord_eq x ht] using hidle
  · by_cases hfu : floor ≤ u
    · simp [hpar, Lane.timerWord_eq x (hu.trans ht), hrun u hfu hu]
    · simp [hfu]

section

variable {s : State} {l : LaneId} {d a b : Reg} (hclean : CleanStore s l)

include hclean

/-- TSTART of a timer of a given number (R167). -/
theorem exec_tstart (hr : Runs s l (.tstart l d a b)) (hs : SoundRegs s l [a, b]) {t : Nat}
    (ha : ((s.lane l).core.get a).toNat = t) (ht : t < 256) :
    exec (.tstart l d a b) s = .next (after s l
      (wrote ((s.lane l).startTimer t ((s.lane l).core.get b)) d (BitVec.ofNat 32 t))) := by
  obtain ⟨htake, hc⟩ := hr
  refine congrArg Host.Outcome.next ((State.begin_takes htake _ _).trans ?_)
  rw [State.readReg_sound (soundRegs_left hs) hc]
  dsimp only
  rw [ha, if_pos ht, State.readReg_sound (soundRegs_right hs) hc, State.readStore_clean hclean]
  exact State.finishSet_setLane _ _ _ _ _

/-- TSTART of a floor, where the search ends at a timer (R167). -/
theorem exec_tstart_floor (hr : Runs s l (.tstart l d a b)) (hs : SoundRegs s l [a, b]) {t : Nat}
    (ha : (s.lane l).core.get a &&& 0xFFFFFF00 = 0x80000000)
    (ht : (s.lane l).idleTimer (((s.lane l).core.get a).toNat % 256) = some t) :
    exec (.tstart l d a b) s = .next (after s l (wrote ((noted (s.lane l)
      (invalid1 ((s.lane l).timerWord t))).startTimer t ((s.lane l).core.get b)) d (BitVec.ofNat 32 t))) := by
  obtain ⟨htake, hc⟩ := hr
  have hbig := not_lt_of_floor ha
  refine congrArg Host.Outcome.next ((State.begin_takes htake _ _).trans ?_)
  rw [State.readReg_sound (soundRegs_left hs) hc]
  dsimp only
  rw [if_neg hbig, if_pos ha, ht]
  dsimp only
  generalize hn : invalid1 ((s.lane l).timerWord t) = n
  have hlane : (s.updCore l fun c => c.codedEvents n).lane l = noted (s.lane l) n := State.lane_updCore _ _ _
  have hsound : SoundRegs (s.updCore l fun c => c.codedEvents n) l [b] := by
    simpa [SoundRegs, Core.badSource, Core.regBad, Core.codedEvents_badReg] using soundRegs_right hs
  have hclean' : CleanStore (s.updCore l fun c => c.codedEvents n) l := by
    rw [CleanStore, hlane]
    exact hclean
  rw [State.readStore_clean hclean, State.readReg_sound hsound (by exact hc), State.readStore_clean hclean', hlane]
  unfold State.updCore
  rw [State.updLane_updLane]
  refine (State.finishSet_setLane _ _ _ _ _).trans ?_
  rw [show (noted (s.lane l) n).core = (s.lane l).core.codedEvents n from rfl, Core.codedEvents_get]
  rfl

omit hclean in
/-- TSTOP (R168). -/
theorem exec_tstop (hr : Runs s l (.tstop l a)) (hs : SoundRegs s l [a]) (ht : ((s.lane l).core.get a).toNat < 256) :
    exec (.tstop l a) s = .next (after s l
      (wrote ((s.lane l).wr32 (0x02F00000 + ((s.lane l).core.get a).toNat * 16 + 12) codedFalse) 0 0)) := by
  obtain ⟨htake, hc⟩ := hr
  refine congrArg Host.Outcome.next ((State.begin_takes htake _ _).trans ?_)
  rw [State.readReg_sound hs hc, State.bounds_pass (by simpa using ht), timerAddr_eq ht]
  exact State.finish_plain s l _

/-- TREAD and TREAD.X: a RUNNING timer gives its value, any other the idle one with the events of its state word
(R158, R168). -/
theorem State.readTimer_eq {i : Instr} (hr : Runs s l i) (hs : SoundRegs s l [a])
    (ht : ((s.lane l).core.get a).toNat < 256) (sub : Nat) (idle : Word) (f : Lane → Nat → Word) {w : Word}
    (hw : (s.lane l).timerWord ((s.lane l).core.get a).toNat = w) :
    s.readTimer l i sub d a idle f = after s l (wrote (noted (s.lane l) (invalidCount w)) d
      (if w = codedTrue then f (s.lane l) ((s.lane l).core.get a).toNat else idle)) := by
  obtain ⟨htake, hc⟩ := hr
  refine (State.begin_takes htake _ _).trans ?_
  rw [State.readReg_sound hs hc, State.bounds_pass (by simpa using ht), State.readStore_clean hclean]
  dsimp only
  rw [hw]
  by_cases htrue : w = codedTrue
  · rw [if_pos htrue, if_pos htrue, State.readStore_clean hclean, State.finishSet_after]
    rw [htrue]
    rfl
  · rw [if_neg htrue, if_neg htrue, invalid1_eq]
    exact State.finishSet_setLane _ _ _ _ _

end

/-- Settles O11: `exec_tstart`, `exec_tstart_floor` with the search of `Lane.idleTimer_eq`, `exec_tstop`, and
`State.readTimer_eq` for both readings. -/
theorem timers : Obligations.Timers := by
  unfold Obligations.Timers
  intro s l hclean x at' started elapsed
  refine ⟨fun d a b hr hs ha => ⟨?_, fun hwf => Lane.wr32_four_keepsOutside hwf _ _ _ _ _⟩,
    fun d a b t hr hs ha hf ht hidle hrun => ?_, fun a hr hs ha => exec_tstop hr hs ha,
    fun d a hr hs ha => ?_, fun d a hr hs ha => ?_⟩
  · rw [exec_tstart hclean hr hs rfl ha, Lane.startTimer_eq _ ha, BitVec.ofNat_toNat, BitVec.setWidth_eq]
  · rw [exec_tstart_floor hclean hr hs ha (Lane.idleTimer_eq hclean hf ht hidle hrun), Lane.startTimer_eq _ ht,
      Lane.timerWord_eq _ ht, invalid1_eq]
    rfl
  · refine congrArg Host.Outcome.next
      ((State.readTimer_eq hclean hr hs ha _ _ _ (Lane.timerWord_eq _ ha)).trans ?_)
    rw [Lane.elapsed_eq _ ha]
  · refine congrArg Host.Outcome.next
      ((State.readTimer_eq hclean hr hs ha _ _ _ (Lane.timerWord_eq _ ha)).trans ?_)
    rw [coded_decide, Lane.elapsed_eq _ ha, timerAddr_eq ha, ← ite_and]

/-! Counters and edge words. -/

theorem counterAddr_eq {n : Nat} (h : n < 1024) : counterAddr n = 0x02F01000 + n * 4 := by unfold counterAddr; omega

theorem keyAddr_eq {k : Nat} (h : k ≤ 65535) : keyAddr k = 0x02F10000 + k * 2 := by unfold keyAddr; omega

/-- A saturating counter as its number (R169). -/
theorem satInc_eq (w : Word) : satInc w = BitVec.ofNat 32 (min (w.toNat + 1) (2 ^ 32 - 1)) := by
  unfold satInc
  split
  · next h => rw [h]; rfl
  · next h =>
    have : w.toNat ≠ 2 ^ 32 - 1 := fun hw => h (BitVec.eq_of_toNat_eq hw)
    have hlt := w.isLt
    rw [Nat.min_eq_left (by omega)]
    apply BitVec.eq_of_toNat_eq
    simp

/-- The result of an edge operation, for a direction whose earlier value is a coded value (R117, R170). -/
theorem edgeResult_fst (up : Bool) (old v : Word) : coded (edgeResult up old v).1 =
    if old = (if up then codedFalse else codedTrue) ∧ (v = codedTrue ↔ up = true) then codedTrue else codedFalse := by
  have hvalid : codedValid codedTrue = true ∧ codedValid codedFalse = true := by decide
  have hne : codedTrue ≠ codedFalse := by decide
  unfold edgeResult
  by_cases hold : codedValid old = true
  · cases up <;> by_cases h : v = codedTrue <;> simp [hold, h, coded]
  · have hother : old ≠ codedTrue ∧ old ≠ codedFalse := by
      constructor <;> rintro rfl <;> simp [hvalid] at hold
    cases up <;> simp [hold, hother, coded]

/-- The coded-value events of an edge operation: the new word's, and the old one's unless it is PRIMED (R145, R170). -/
theorem edgeResult_events (up : Bool) (old v : Word) :
    (edgeResult up old v).2 = invalidCount v + if old = 0 then 0 else invalidCount old := by
  simp only [edgeResult, invalid1_eq]
  split <;> rfl

section

variable {s : State} {l : LaneId} {d a b : Reg} (hclean : CleanStore s l)

include hclean

/-- CINC of a counter that exists (R169). -/
theorem exec_cinc (hr : Runs s l (.cinc l d a)) (hs : SoundRegs s l [a]) (hn : ((s.lane l).core.get a).toNat < 1024) :
    let addr := 0x02F01000 + ((s.lane l).core.get a).toNat * 4
    let v := satInc ((s.lane l).rd32 addr)
    exec (.cinc l d a) s = .next (after s l (wrote ((s.lane l).wr32 addr v) d v)) := by
  obtain ⟨htake, hc⟩ := hr
  refine congrArg Host.Outcome.next ((State.begin_takes htake _ _).trans ?_)
  rw [State.readReg_sound hs hc, State.bounds_pass (by simpa using hn), State.readStore_clean hclean,
    counterAddr_eq hn]
  exact State.finishSet_setLane _ _ _ _ _

/-- CRD of a counter that exists (R169). -/
theorem exec_crd (hr : Runs s l (.crd l d a)) (hs : SoundRegs s l [a]) (hn : ((s.lane l).core.get a).toNat < 1024) :
    exec (.crd l d a) s = .next (after s l
      (wrote (s.lane l) d ((s.lane l).rd32 (0x02F01000 + ((s.lane l).core.get a).toNat * 4)))) := by
  obtain ⟨htake, hc⟩ := hr
  refine congrArg Host.Outcome.next ((State.begin_takes htake _ _).trans ?_)
  rw [State.readReg_sound hs hc, State.bounds_pass (by simpa using hn), State.readStore_clean hclean,
    counterAddr_eq hn]
  exact State.finishSet_after _ _ _ _

/-- EDGEUP and EDGEDN of a key bound to an edge word (R171). -/
theorem State.edge_eq {i : Instr} {up : Bool} (hr : Runs s l i) (hs : SoundRegs s l [a, b])
    (hk : ((s.lane l).core.get a).toNat ≤ 65535) (sub : Nat) {bound : Nat}
    (hb : ((s.lane l).rd16 (0x02F10000 + ((s.lane l).core.get a).toNat * 2)).toNat = bound) (h1 : 1 ≤ bound)
    (h2 : bound ≤ 4096) {old v : Word} (hold : (s.lane l).rd32 (0x02F02000 + (bound - 1) * 4) = old)
    (hv : (s.lane l).core.get b = v) :
    s.edge l i sub up d a b = after s l (wrote (noted ((s.lane l).wr32 (0x02F02000 + (bound - 1) * 4)
      (if v = codedTrue then codedTrue else codedFalse)) (edgeResult up old v).2) d
      (coded (edgeResult up old v).1)) := by
  obtain ⟨htake, hc⟩ := hr
  refine (State.begin_takes htake _ _).trans ?_
  have h0 : bound ≠ 0 := by omega
  rw [State.readReg_sound (soundRegs_left hs) hc, State.bounds_pass (by simpa using hk), State.readStore_clean hclean,
    keyAddr_eq hk, hb]
  simp only [State.readBound, h0, if_false, decide_false, Bool.false_and, Bool.or_false,
    show ¬ 4096 < bound by omega, Bool.false_eq_true]
  rw [State.readReg_sound (soundRegs_right hs) hc, State.readStore_clean hclean, hv]
  have hcoded : coded (v == codedTrue) = if v = codedTrue then codedTrue else codedFalse := coded_decide (v = codedTrue)
  simp only [edgeAddr, hold, State.updLane, hcoded]
  refine State.finish_setLane ?_
  generalize (edgeResult up old v).2 = n
  generalize (s.lane l).wr32 _ _ = y
  obtain ⟨-, hpc, hpriv, -⟩ := y.core.codedEvents_keeps n
  have h := Core.set_retire (y.core.codedEvents n) d (coded (edgeResult up old v).1)
  rw [hpc, hpriv] at h
  exact congrArg (fun c => ({ y with core := c } : Lane)) h

end

/-- Settles O12: `exec_cinc`, `exec_crd`, and `State.edge_eq` for both directions with the result of
`edgeResult_fst`. -/
theorem countersAndEdges : Obligations.CountersAndEdges := by
  unfold Obligations.CountersAndEdges
  intro s l hclean hwf x
  refine ⟨fun d a hr hs ha => ?_, fun d a hr hs ha => ?_, fun d a b hs ha => ?_⟩
  · refine ⟨?_, Lane.wr32_keepsOutside hwf _ _⟩
    rw [← satInc_eq]
    exact exec_cinc hclean hr hs ha
  · exact exec_crd hclean hr hs ha
  · intro bound addr old v events y h1 h2
    refine ⟨fun hr => ⟨?_, Lane.wr32_keepsOutside hwf _ _⟩, fun hr => ?_⟩
    · rw [show (if old = codedFalse ∧ v = codedTrue then codedTrue else codedFalse) = coded (edgeResult true old v).1 by
        simp [edgeResult_fst], show events = _ from (edgeResult_events true old v).symm]
      exact congrArg Host.Outcome.next (State.edge_eq hclean hr hs ha _ rfl h1 h2 rfl rfl)
    · rw [show (if old = codedTrue ∧ v ≠ codedTrue then codedTrue else codedFalse) = coded (edgeResult false old v).1 by
        simp [edgeResult_fst], show events = _ from (edgeResult_events false old v).symm]
      exact congrArg Host.Outcome.next (State.edge_eq hclean hr hs ha _ rfl h1 h2 rfl rfl)

end Sys2Proof.Machine

/-! What the commands of the cycle share: what a record leaves of the state, and the instant that network time reaches
(R106, R430). -/

namespace Sys2Proof.Machine

open Sys2Proof.Safety

/-! Records change the recorder, the free values drawn, and the injections that last. -/

/-- A state without what a record changes. -/
def State.unrecorded (s : State) : State :=
  { s with recorder := State.reset.recorder, freeCtr := 0, inject := { s.inject with lasting := [] } }

theorem State.refill_unrecorded (s : State) (c : Nat) : (s.refill c).unrecorded = s.unrecorded := by
  unfold State.refill State.putSummary
  dsimp only
  repeat' split
  all_goals rfl

theorem State.intake_unrecorded (s : State) (x : Rec) : (s.intake x).1.unrecorded = s.unrecorded := by
  unfold State.intake
  dsimp only
  repeat' split
  all_goals rfl

theorem State.submit_unrecorded (s : State) (x : Rec) : (s.submit x).1.unrecorded = s.unrecorded := by
  have hrefill := s.refill_unrecorded x.code.toNat
  unfold State.submit
  dsimp only
  generalize s.refill x.code.toNat = r at hrefill ⊢
  split
  · exact (r.intake_unrecorded x).trans hrefill
  · split
    · exact (State.intake_unrecorded _ x).trans hrefill
    · exact hrefill

/-- A record leaves all of the state but the recorder, the free values and the injections that last. -/
theorem State.recAs_unrecorded (s : State) (src : Nat) (agreed : Bool) (name : RecName) (ps : List Word) :
    (s.recAs src agreed name ps).unrecorded = s.unrecorded :=
  s.submit_unrecorded _

section

variable (s : State) (src : Nat) (agreed : Bool) (name : RecName) (ps : List Word)

@[simp] theorem State.recAs_lanes : (s.recAs src agreed name ps).lanes = s.lanes :=
  (congrArg State.lanes (s.recAs_unrecorded src agreed name ps) :)

@[simp] theorem State.recAs_lane (l : LaneId) : (s.recAs src agreed name ps).lane l = s.lane l :=
  (congrArg (fun t : State => t.lane l) (s.recAs_unrecorded src agreed name ps) :)

@[simp] theorem State.recAs_md : (s.recAs src agreed name ps).md = s.md :=
  (congrArg State.md (s.recAs_unrecorded src agreed name ps) :)

@[simp] theorem State.recAs_tb : (s.recAs src agreed name ps).tb = s.tb :=
  (congrArg State.tb (s.recAs_unrecorded src agreed name ps) :)

@[simp] theorem State.recAs_guard : (s.recAs src agreed name ps).guard = s.guard :=
  (congrArg State.guard (s.recAs_unrecorded src agreed name ps) :)

@[simp] theorem State.recAs_resync : (s.recAs src agreed name ps).resync = s.resync :=
  (congrArg State.resync (s.recAs_unrecorded src agreed name ps) :)

@[simp] theorem State.recAs_stage : (s.recAs src agreed name ps).stage = s.stage :=
  (congrArg State.stage (s.recAs_unrecorded src agreed name ps) :)

@[simp] theorem State.recAs_chg : (s.recAs src agreed name ps).chg = s.chg :=
  (congrArg State.chg (s.recAs_unrecorded src agreed name ps) :)

@[simp] theorem State.recAs_svc : (s.recAs src agreed name ps).svc = s.svc :=
  (congrArg State.svc (s.recAs_unrecorded src agreed name ps) :)

@[simp] theorem State.recAs_ring : (s.recAs src agreed name ps).ring = s.ring :=
  (congrArg State.ring (s.recAs_unrecorded src agreed name ps) :)

@[simp] theorem State.recAs_armed : (s.recAs src agreed name ps).inject.armed = s.inject.armed :=
  (congrArg (fun t : State => t.inject.armed) (s.recAs_unrecorded src agreed name ps) :)

end

/-! Network time. -/

/-- The number of ticks in which a gain is reached: the gain made is the least multiple that reaches it. -/
theorem ticksFor_bounds {need step : Int} (hneed : 0 < need) (hstep : 0 < step) :
    need ≤ ticksFor need step * step ∧ ticksFor need step * step < need + step := by
  have hmax : max step 1 = step := max_eq_left hstep
  have hnonneg : 0 ≤ (need + step - 1) / step := Int.ediv_nonneg (by omega) hstep.le
  have hdiv := Int.mul_ediv_add_emod (need + step - 1) step
  have hlt := Int.emod_lt_of_pos (need + step - 1) hstep
  have hge := Int.emod_nonneg (need + step - 1) hstep.ne'
  rw [ticksFor, hmax, Int.toNat_of_nonneg hnonneg, mul_comm]
  constructor <;> omega

/-- Without a correction under way every tick gains the same. -/
theorem Timebase.gain_even {t : Timebase} (h : t.slewTicks = 0) (ticks n : Nat) :
    t.gain ticks n = n * (2 ^ 32 + t.rate.toInt) := by
  simp [Timebase.gain, Timebase.slewSum, h]

/-- The ticks to an instant, without a correction under way. -/
theorem Timebase.ticksTo_even {t : Timebase} (h : t.slewTicks = 0) (ticks target : Nat) :
    t.ticksTo ticks target = if (target : Int) * 2 ^ 32 - t.pair ≤ 0 then 0
      else ticksFor (target * 2 ^ 32 - t.pair) (2 ^ 32 + t.rate.toInt) := by
  simp only [Timebase.ticksTo, h, Timebase.gain_even h]
  by_cases hneed : (target : Int) * 2 ^ 32 - t.pair ≤ 0
  · rw [if_pos hneed, if_pos hneed]
  · rw [if_neg hneed, if_neg hneed, if_neg (by omega), if_neg (by simpa using hneed)]
    simp

/-- NT after ticks in which the pair does not pass its greatest value. -/
theorem Timebase.run_nt {t : Timebase} (ticks n : Nat) {p : Nat} (hp : (t.pair : Int) + t.gain ticks n = p)
    (hlt : p < 2 ^ 96) : (t.run ticks n).nt.toNat = p / 2 ^ 32 := by
  have h : (t.run ticks n).nt = ((BitVec.ofInt 96 (t.pair + t.gain ticks n)) >>> 32).setWidth 64 := rfl
  rw [h, hp]
  simp
  omega

/-- Network time moved on reaches its instant (R106). -/
theorem State.reaches_advanceTo (s : State) (target : Nat) : Reaches s (s.advanceTo target) target := by
  intro hslew hsmall
  have hrate : -2 ^ 31 ≤ s.tb.rate.toInt ∧ s.tb.rate.toInt < 2 ^ 31 := ⟨s.tb.rate.le_toInt, s.tb.rate.toInt_lt⟩
  have hntf := s.tb.ntf.isLt
  have hnt := s.tb.nt.isLt
  have hpair : s.tb.pair = s.tb.nt.toNat * 2 ^ 32 + s.tb.ntf.toNat := rfl
  obtain ⟨p, hp, hlow, hhigh⟩ : ∃ p : Nat,
      ((s.tb.pair : Int) + s.tb.gain s.ring.ticks (s.tb.ticksTo s.ring.ticks target) = p) ∧
      max s.tb.pair (target * 2 ^ 32) ≤ p ∧
      (p = s.tb.pair ∨ (p : Int) < target * 2 ^ 32 + 2 ^ 32 + s.tb.rate.toInt) := by
    rw [Timebase.gain_even hslew, Timebase.ticksTo_even hslew]
    split
    · exact ⟨s.tb.pair, by simp, by omega, .inl rfl⟩
    · next hneed =>
      obtain ⟨h1, h2⟩ := ticksFor_bounds (not_le.mp hneed) (show 0 < 2 ^ 32 + s.tb.rate.toInt by omega)
      generalize (ticksFor _ _ : Int) * _ = g at h1 h2 ⊢
      exact ⟨(s.tb.pair + g).toNat, by omega, by omega, .inr (by omega)⟩
  have hrun : (s.advanceTo target).tb.nt.toNat = p / 2 ^ 32 := Timebase.run_nt _ _ hp (by omega)
  rw [hrun]
  omega

end Sys2Proof.Machine

/-! The signature and the end of an application's cycle (R98, R100, R172 to R174, R209, R210). -/

namespace Sys2Proof.Machine

open Sys2Proof.Safety

/-- A word fed to the signature, in the modes in which feeds have an effect (R172, R209). -/
theorem Lane.feed_eq (x : Lane) (m : Mode) (w : Word) : x.feed m w = if m = .split ∨ m = .hold then x
    else { x with vote := { x.vote with s := sigFeed x.vote.s w, feeds := x.vote.feeds + 1 } } := by
  cases m <;> rfl

theorem Lane.feed_loud {m : Mode} (h : m.silent = false) (x : Lane) (w : Word) :
    x.feed m w = { x with vote := { x.vote with s := sigFeed x.vote.s w, feeds := x.vote.feeds + 1 } } := by
  simp [Lane.feed, h]

theorem Mode.silent_eq_false {m : Mode} (hhold : m ≠ .hold) (hsplit : m ≠ .split) : m.silent = false := by
  cases m <;> first | rfl | exact absurd rfl hhold | exact absurd rfl hsplit

theorem Lane.pendingCount_nil {x : Lane} (h : x.engine.queue = []) : x.pendingCount = 0 := by
  simp [Lane.pendingCount, h]

/-! The steps of CYCEND. -/

/-- A lane whose queue and sweep digests are fed, and empty (R100 step 2). -/
def Lane.emptyQueue (x : Lane) : Lane := x.eng fun g => { g with queue := [], digests := [] }

/-- A lane whose output image is latched and whose staged PDUs are handed over, with the time it had left (R100). -/
def Lane.latchResults (left : Word) (x : Lane) : Lane :=
  { x with
    cyc := { x.cyc with enables := some x.outImage, handed := some x.staged }
    tb := { x.tb with cycendMin := if left < x.tb.cycendMin then left else x.tb.cycendMin } }

/-- A lane with the closing feeds of a cycle without a coded-value event (R210), its signature held (R100 step 5). -/
def Lane.closeFeeds (l : LaneId) (x : Lane) : Lane :=
  Lane.holdSignature { x with vote := { x.vote with
    s := sigFeed (sigFeed (sigFeed (sigFeed x.vote.s 0) (x.vote.feeds + 1)) (x.vote.h.setWidth 32))
      ((x.vote.h >>> 32).setWidth 32)
    feeds := x.vote.feeds + 1 + 1 + 1 + 1 } } l

/-- A lane whose core waits for the vote (R100 step 6). -/
def Lane.awaitVote (x : Lane) : Lane :=
  { x with core := { x.core.noPacks with run := .ended }, tb := { x.tb with phase := .waiting } }

/-- A lane whose application has ended its cycle with an empty queue and no coded-value event (R100 steps 2 to 6). -/
def Lane.ended (l : LaneId) (left : Word) (x : Lane) : Lane :=
  ((x.emptyQueue.latchResults left).closeFeeds l).awaitVote

section

variable {s : State} {l : LaneId} (hc : Calm s)

include hc

/-- With no request in the queue the engine has nothing to complete (R69). -/
theorem State.engineDrain_nil (hq : (s.lane l).engine.queue = []) : s.engineDrain l = s := by
  have hupd : s.updLane l (fun x => x.engineAll s.md.mode (fun i => Config.freeWord (s.freeCtr + i)) 0) = s :=
    s.updLane_id l
  simp only [State.engineDrain, State.requestHit_calm hc, Lane.pendingCount_nil hq, Bool.false_eq_true, if_false, hupd]
  rfl

/-- Step 2 of CYCEND with an empty queue and no sweep digest feeds nothing (R100). -/
theorem State.closeEngine_nil (hq : (s.lane l).engine.queue = []) (hd : (s.lane l).engine.digests = []) :
    s.closeEngine l = s.updLane l Lane.emptyQueue := by
  simp only [State.closeEngine, State.engineDrain_nil hc hq, State.updLane, hq, List.filterMap_nil]
  rw [show (s.lane l).feedAll s.md.mode [] = s.lane l from rfl, hd]
  rfl

theorem State.fireLasting_calm (id : Nat) (k : Option LaneId) (n : Nat) : s.fireLasting id k n = s := by
  simp [State.fireLasting, State.injected_calm hc]

theorem State.injectHash_calm : s.injectHash l = s := by simp [State.injectHash, State.injected_calm hc]

theorem State.injectSignature_calm : s.injectSignature l = s := by
  simp [State.injectSignature, State.fireLasting_calm hc, State.injected_calm hc]

/-- Step 5 of CYCEND without a coded-value event: the closing feeds, and the signature held (R100, R210). -/
theorem State.closeSignature_calm (hn : (s.lane l).core.cvCycle = 0) (hm : s.md.mode.silent = false) :
    s.closeSignature l = s.updLane l (Lane.closeFeeds l) := by
  have hsig (f : Lane → Lane) : (s.updLane l f).injectSignature l = s.updLane l f :=
    State.injectSignature_calm (s := s.updLane l f) hc
  simp only [State.closeSignature, hn, State.injectHash_calm hc, hsig, State.recCoded, if_true, State.updLane_updLane,
    Lane.feedAll, List.foldl_cons, List.foldl_nil, Lane.feed_loud hm]
  rfl

end

theorem State.endCore_loud {s : State} (h : s.md.mode ≠ .hold) (l : LaneId) (r : BitVec 3) :
    s.endCore l r = s.updLane l Lane.awaitVote := by
  simp only [State.endCore, if_neg h]
  rfl

/-- CYCEND, steps 2 to 6, of such a lane. -/
theorem State.endCycle_calm {s : State} {l : LaneId} (hc : Calm s) (hhold : s.md.mode ≠ .hold)
    (hsplit : s.md.mode ≠ .split) (hq : (s.lane l).engine.queue = []) (hd : (s.lane l).engine.digests = [])
    (hn : (s.lane l).core.cvCycle = 0) :
    s.endCycle l = s.updLane l (Lane.ended l (s.budgetLeft (s.lane l))) := by
  have hlate : s.cycendLate l = false := by simp [State.cycendLate, Lane.pendingCount_nil hq]
  have hlatch : (s.updLane l Lane.emptyQueue).updLane l (Lane.latchResults (s.budgetLeft (s.lane l))) =
      s.updLane l fun x => x.emptyQueue.latchResults (s.budgetLeft (s.lane l)) := s.updLane_updLane _ _ _
  have hclose := State.closeSignature_calm
    (s := s.updLane l fun x => x.emptyQueue.latchResults (s.budgetLeft (s.lane l)))
    (l := l) hc (by rw [State.lane_updLane]; exact hn) (Mode.silent_eq_false hhold hsplit)
  rw [State.endCycle, State.descParity_calm hc, if_neg (by simp [hlate])]
  dsimp only
  rw [State.closeEngine_nil hc hq hd, if_neg (by exact hhold)]
  refine (congrArg (fun t : State => (t.closeSignature l).endCore l 5) hlatch).trans ?_
  rw [hclose, State.updLane_updLane, State.endCore_loud (by exact hhold), State.updLane_updLane]
  rfl

/-- Outside HOLD the debugger counts no instruction (R204). -/
theorem State.counted_loud {s : State} (h : s.md.mode ≠ .hold) (l : LaneId) : s.counted l = s := if_neg h

/-- An instruction that only passes on to the next. -/
theorem State.finish_id (s : State) (l : LaneId) : s.finish l id = s.updCore l (retired · 0 0) :=
  congrArg (s.updCore l) (funext Core.retire_plain)

/-- CYCEND of a lane with an empty queue and no coded-value event (R100, R173). -/
theorem exec_cycend {s : State} {l : LaneId} (hr : Runs s l (.cycend l)) (hhold : s.md.mode ≠ .hold)
    (hsplit : s.md.mode ≠ .split) (hsweep : s.md.role ≠ .ixl ∨ (s.lane l).engine.sweepPut = true)
    (hq : (s.lane l).engine.queue = []) (hd : (s.lane l).engine.digests = [])
    (hinit : (s.lane l).cyc.initCalls = none) (hn : (s.lane l).core.cvCycle = 0) :
    exec (.cycend l) s = .next (s.updLane l fun x => Lane.ended l (s.budgetLeft (s.lane l)) (wrote x 0 0)) := by
  obtain ⟨htake, hc⟩ := hr
  refine congrArg Host.Outcome.next ((State.begin_takes htake _ _).trans ?_)
  have hnosweep : ¬ (s.md.role = .ixl && s.md.mode ≠ .hold && !(s.lane l).engine.sweepPut) = true := by
    rcases hsweep with h | h <;> simp [h]
  have hdrop : s.dropInit l = s := by simp [State.dropInit, hinit]
  have hlane : (s.updCore l (retired · 0 0)).lane l = wrote (s.lane l) 0 0 := State.lane_updCore _ _ _
  have hend := State.endCycle_calm (s := s.updCore l (retired · 0 0)) (l := l) hc hhold hsplit (by rwa [hlane])
    (by rwa [hlane]) (by rwa [hlane])
  rw [if_neg hnosweep, hdrop, State.finish_id, hend, State.counted_loud (by exact hhold), hlane]
  exact s.updLane_updLane l _ _

/-- BUDGET's reading in its own terms (R174). -/
theorem State.budgetLeft_eq (s : State) (x : Lane) : s.budgetLeft x =
    if x.tb.phase = .evaluation ∧ s.md.mode ≠ .hold then
      BitVec.ofNat 32 (x.tb.t0.toNat + x.tb.ti10 - 350000 - s.tb.nt.toNat) else 0 := by
  unfold State.budgetLeft
  simp only [Bool.and_eq_true, decide_eq_true_eq]
  rfl

/-! The budget limit. -/

theorem State.advanceTo_lane (s : State) (t : Nat) (l : LaneId) : (s.advanceTo t).lane l = s.lane l := rfl

/-- TCAUSE of the asynchronous trap 0x07 (R149, R153). -/
theorem Core.trapEntry_budget (c : Core) (tpc : Word) :
    (c.trapEntry 0x07 true false 0 0 tpc).tcause = 0x207 ||| (if c.priv then 0 else 0x100) := by
  cases h : c.priv <;> simp [Core.trapEntry, h] <;> rfl

section

variable (s : State) (l : LaneId)

/-- A lane whose cycle the budget limit ends at an instruction (R98, R153). -/
def Lane.overrun (tpc : Word) (x : Lane) : Lane :=
  let x := Lane.loseCycle { x with core := x.core.trapEntry 0x07 true false 0 0 tpc }
  Lane.awaitVote { x with tb := { x.tb with overrun := satInc x.tb.overrun } }

theorem Lane.overrun_store (x : Lane) (tpc : Word) : (x.overrun tpc).store = x.store := rfl

@[simp] theorem State.initTrapped_md : (s.initTrapped l).md = s.md := by
  unfold State.initTrapped State.recL; split <;> simp

@[simp] theorem State.initTrapped_tb : (s.initTrapped l).tb = s.tb := by
  unfold State.initTrapped State.recL; split <;> simp

@[simp] theorem State.initTrapped_lanes : (s.initTrapped l).lanes = s.lanes := by
  unfold State.initTrapped State.recL; split <;> simp

/-- Trap 0x07 outside HOLD in the lane that takes it. -/
theorem State.budgetTrap_lane (h : s.md.mode ≠ .hold) (tpc : Word) :
    (s.budgetTrap l tpc).lane l = (s.lane l).overrun tpc := by
  have hmode : (s.initTrapped l).md.mode ≠ .hold := by simpa using h
  have hlane : (s.initTrapped l).lane l = s.lane l := congrArg (PerLane.get · l) (s.initTrapped_lanes l)
  rw [State.budgetTrap, State.recL, State.recAs_lane, State.endCore_loud (by exact hmode), State.lane_updLane,
    State.lane_updLane, hlane]
  rfl

@[simp] theorem State.budgetTrap_tb (h : s.md.mode ≠ .hold) (tpc : Word) : (s.budgetTrap l tpc).tb = s.tb := by
  have hmode : (s.initTrapped l).md.mode ≠ .hold := by simpa using h
  rw [State.budgetTrap, State.recL, State.recAs_tb, State.endCore_loud (by exact hmode), State.updLane_tb,
    State.updLane_tb, State.initTrapped_tb]

end

/-- BUDGET_LIMIT of an application that runs (R98, R153). -/
theorem exec_budgetLimit {s : State} {l : LaneId} (harmed : s.budgetArmed l = true)
    (hrun : (s.lane l).core.run = .running)
    (hc : Calm s) : exec (.budgetLimit l) s =
      .next ((s.advanceTo ((s.lane l).tb.t0.toNat + (s.lane l).tb.ti10 - 350000)).budgetTrap l (s.lane l).core.pc) := by
  have hphase : (s.lane l).evaluating = true := by
    have : (s.lane l).tb.phase = .evaluation := by
      simp only [State.budgetArmed, Bool.and_eq_true, decide_eq_true_eq] at harmed
      exact harmed.1.1.1
    simp [Lane.evaluating, hrun, this]
  have hlimit (t : State) (ht : t.lane l = s.lane l) : t.limitReached l = t.budgetTrap l (s.lane l).core.pc := by
    simp only [State.limitReached, ht, hrun]
  refine congrArg Host.Outcome.next ?_
  rw [if_neg (by simp [harmed, hphase]), if_neg (by simp [State.injected_calm hc])]
  exact hlimit _ rfl

/-- Settles O13: SIG and BUDGET as plain instructions, `exec_cycend` by the steps of R100, and `exec_budgetLimit` with
the instant of `State.reaches_advanceTo`. -/
theorem signatureAndBudget : Obligations.SignatureAndBudget := by
  unfold Obligations.SignatureAndBudget
  intro s l x
  refine ⟨fun a hr hs => ?_, fun d hr => ?_, fun hr hhold hsplit hsweep hq hd hinit hn => ?_,
    fun harmed hrun hc hhold => ?_⟩
  · obtain ⟨htake, hc⟩ := hr
    refine congrArg Host.Outcome.next ((State.begin_takes htake _ _).trans ?_)
    rw [State.readReg_sound hs hc]
    refine (State.finish_plain s l _).trans ?_
    dsimp only
    rw [Lane.feed_eq]
    rfl
  · obtain ⟨htake, hc⟩ := hr
    refine congrArg Host.Outcome.next ((State.begin_takes htake _ _).trans ?_)
    refine (State.finishSet_after s l d _).trans ?_
    rw [State.budgetLeft_eq]
    rfl
  · refine ⟨_, exec_cycend hr hhold hsplit hsweep hq hd hinit hn, ?_⟩
    rw [State.lane_updLane]
    exact ⟨rfl, rfl, rfl, rfl, rfl, rfl, rfl, PerLane.get_set_same _ _ _, rfl,
      fun k hk => State.lane_updLane_other _ _ hk, rfl, rfl⟩
  · have hexec := exec_budgetLimit harmed hrun hc
    change _ = Host.Outcome.next ((s.advanceTo (x.tb.t0.toNat + x.tb.ti10 - 350000)).budgetTrap l _) at hexec
    generalize x.tb.t0.toNat + x.tb.ti10 - 350000 = T at hexec ⊢
    have hmode : (s.advanceTo T).md.mode ≠ .hold := hhold
    refine ⟨_, hexec, ?_⟩
    rw [State.budgetTrap_lane _ _ hmode, State.advanceTo_lane]
    refine ⟨rfl, rfl, rfl, rfl, rfl, Core.trapEntry_budget x.core x.core.pc, rfl, Lane.overrun_store _ _, ?_⟩
    unfold Reaches
    rw [State.budgetTrap_tb _ _ hmode]
    exact s.reaches_advanceTo T

end Sys2Proof.Machine

/-! The debugger in a lane whose memory is not in canonical form (R204). -/

namespace Sys2Proof.Machine

open Sys2Proof.Safety

/-- A lane without an entry in its connection table has no staging entry to clear (R311). -/
theorem Lane.clearStaged_none {x : Lane} (h : x.slEntries = 0) : x.clearStaged = x := by
  have htx (c : Nat) : x.connTx c = false := by simp [Lane.connTx, Lane.connUsed, h]
  have hkeep : ∀ cs : List Nat, cs.foldl (fun x c => if x.connTx c && x.stgFlag c 5 then
      x.wr32 (stgAddr c) (putField (x.rd32 (stgAddr c)) 5 1 0) else x) x = x := by
    intro cs
    induction cs with
    | nil => rfl
    | cons c cs ih => rw [List.foldl_cons, htx, Bool.false_and, if_neg Bool.false_ne_true, ih]
  exact hkeep _

/-- A lane halted in HOLD whose cells are not in rising order: the cell of the output image at 0x02001000 stands before
the one of the entry word at 4, which a read therefore does not find. -/
def hidingLane : Lane :=
  { State.reset.lane .A with
    core := { Core.init with run := .debug }
    store := { Store.init with cells := [(0x02001000, 1), (4, 8)] } }

/-- The module in HOLD with such a lane. -/
def hidingState : State := { State.reset.setLane .A hidingLane with md := { State.reset.md with mode := .hold } }

/-- With the outputs of such a lane cleared, the cell of the entry word is found. -/
theorem Lane.rd32_clearOutputs_of_hiding (x : Lane) (h : x.store.cells = [(0x02001000, 1), (4, 8)]) :
    x.clearStaged.clearOutputs.rd32 4 = 8 := by
  rw [Lane.clearStaged_none]
  · simp [Lane.clearOutputs, Lane.rd32, Lane.rd8, Store.putList_cells, h]
    decide
  · simp [Lane.slEntries, Lane.rd32, Lane.rd8, h]
    decide

/-- NEXT_CYCLE of a halted lane in HOLD, with no package armed, enters at the word that stands at 4 once the outputs are
cleared. -/
theorem State.dbgNextCycle_pc {s : State} {l : LaneId} (hmode : s.laneMode l = 8) (hrun : (s.lane l).core.run = .debug)
    (hbusy : s.chg.busy = false) :
    ((s.dbgNextCycle l).lane l).core.pc = ((s.lane l).dbgAnswer false).debugCycle.rd32 4 := by
  have htake (t : State) (h : t.chg.busy = false) : t.holdTake l = t := by simp [State.holdTake, h]
  rw [State.dbgNextCycle, if_pos (by simp [State.debuggable, hmode, hrun])]
  dsimp only
  rw [htake (s.updLane l _) hbusy, State.lane_updLane, State.lane_updLane]
  rfl

/-- Refutes O49: NEXT_CYCLE clears the output image before it reads the entry word. In a state whose list of cells is
not in canonical form, which the statement does not exclude, the cell that is cleared has hidden the one of the entry
word: the cycle starts at another address than the word at 4 read before. -/
theorem not_debugger : ¬ Obligations.Debugger := by
  unfold Obligations.Debugger
  intro h
  obtain ⟨hhold, -⟩ := h hidingState .A
  obtain ⟨-, hdebug, -⟩ := hhold (by decide)
  obtain ⟨-, hnext, -⟩ := hdebug (by decide)
  obtain ⟨t, ht, -, -, hpc, -⟩ := hnext (by decide)
  have hentry : (t.lane .A).core.pc = 8 := by
    rw [← Host.Outcome.next.inj ht, State.dbgNextCycle_pc (by decide) (by decide) (by decide)]
    exact Lane.rd32_clearOutputs_of_hiding _ rfl
  rw [hentry] at hpc
  exact absurd hpc (by decide)

end Sys2Proof.Machine

/-! What the entry to SAFE_STOP leaves and changes (R27, R349, R351): beside the outputs, the mode, the latches,
GUARD, the time base and the votes that the lanes show. -/

namespace Sys2Proof.Machine

open Sys2Proof.Safety

/-! Records of the module. -/

section

variable (s : State) (name : RecName) (ps : List Word)

theorem State.recM_unrecorded : (s.recM name ps).unrecorded = s.unrecorded := by
  unfold State.recM
  split
  · rfl
  · exact s.recAs_unrecorded _ _ _ _

@[simp] theorem State.recM_lanes : (s.recM name ps).lanes = s.lanes :=
  (congrArg State.lanes (s.recM_unrecorded name ps) :)

@[simp] theorem State.recM_lane (l : LaneId) : (s.recM name ps).lane l = s.lane l :=
  (congrArg (fun t : State => t.lane l) (s.recM_unrecorded name ps) :)

@[simp] theorem State.recM_md : (s.recM name ps).md = s.md := (congrArg State.md (s.recM_unrecorded name ps) :)

@[simp] theorem State.recM_tb : (s.recM name ps).tb = s.tb := (congrArg State.tb (s.recM_unrecorded name ps) :)

@[simp] theorem State.recM_guard : (s.recM name ps).guard = s.guard :=
  (congrArg State.guard (s.recM_unrecorded name ps) :)

end

/-! The ruling of a state. -/

/-- What the lanes and GUARD have ruled: mode and latches, GUARD, the time base, and the module vote that each lane
shows. -/
structure Ruling where
  md : ModuleSt
  guard : Guard
  tb : Timebase
  vote : LaneId → BitVec 4

/-- The ruling of a state. -/
def State.ruling (s : State) : Ruling :=
  { md := s.md, guard := s.guard, tb := s.tb, vote := fun l => (s.lane l).vote.module }

section

variable {t : State} {r : Ruling} (h : t.ruling = r)

include h

theorem State.md_of_ruling : t.md = r.md := congrArg Ruling.md h

theorem State.guard_of_ruling : t.guard = r.guard := congrArg Ruling.guard h

theorem State.vote_of_ruling (l : LaneId) : (t.lane l).vote.module = r.vote l := congrArg (fun r => r.vote l) h

end

theorem State.ruling_of_unrecorded {s t : State} (h : t.unrecorded = s.unrecorded) : t.ruling = s.ruling :=
  (congrArg State.ruling h :)

section

variable (s : State)

@[simp] theorem State.recAs_ruling (src : Nat) (agreed : Bool) (name : RecName) (ps : List Word) :
    (s.recAs src agreed name ps).ruling = s.ruling := State.ruling_of_unrecorded (s.recAs_unrecorded _ _ _ _)

@[simp] theorem State.recG_ruling (name : RecName) (ps : List Word) : (s.recG name ps).ruling = s.ruling :=
  s.recAs_ruling _ _ _ _

@[simp] theorem State.recM_ruling (name : RecName) (ps : List Word) : (s.recM name ps).ruling = s.ruling :=
  State.ruling_of_unrecorded (s.recM_unrecorded _ _)

theorem State.mapLanes_ruling {f : Lane → Lane} (h : ∀ x, (f x).vote.module = x.vote.module) :
    (s.mapLanes f).ruling = s.ruling := by
  simp [State.ruling, h]

theorem State.updLane_ruling {f : Lane → Lane} (h : ∀ x, (f x).vote.module = x.vote.module) (l : LaneId) :
    (s.updLane l f).ruling = s.ruling := by
  have hvote : (fun k => ((s.updLane l f).lane k).vote.module) = fun k => (s.lane k).vote.module := by
    funext k
    rw [State.lane_updLane_if]
    split <;> simp [h]
  simp [State.ruling, hvote]

@[simp] theorem State.dropEvents_ruling (m : Mode) (es : List ModeEvent) : (s.dropEvents m es).ruling = s.ruling := by
  induction es generalizing s with
  | nil => rfl
  | cons e es ih => rw [State.dropEvents, ih, State.recM_ruling]

theorem Lane.removePackage_vote (x : Lane) (v : Nat) : (x.removePackage v).vote = x.vote := by
  unfold Lane.removePackage
  split <;> rfl

@[simp] theorem State.discardChange_ruling : s.discardChange.ruling = s.ruling := by
  have hremove (ls : List LaneId) :
      (ls.foldl (fun s k => s.updLane k (·.removePackage 0x0F)) s).ruling = s.ruling :=
    foldl_keep State.ruling _ (fun s k => s.updLane_ruling (fun x => by rw [Lane.removePackage_vote]) k) ls s
  unfold State.discardChange
  split
  · rfl
  · split
    · rfl
    · rw [State.recM_ruling]
      exact hremove _

@[simp] theorem State.stageOff_ruling : s.stageOff.ruling = s.ruling := by
  unfold State.stageOff State.discardPulse
  split <;> rfl

@[simp] theorem State.endArming_ruling (fired : Bool) : (s.endArming fired).ruling = s.ruling := by
  unfold State.endArming
  split
  · rfl
  · exact State.recG_ruling _ _ _

@[simp] theorem State.sendOut_ruling (slot : Nat) (out : Port) (body : List Byte) :
    (s.sendOut slot out body).ruling = s.ruling := by
  unfold State.sendOut
  dsimp only
  split
  · rfl
  · split
    · exact s.endArming_ruling true
    · rfl

@[simp] theorem State.endSlot_ruling (p : Port) : (s.endSlot p).ruling = s.ruling := by
  unfold State.endSlot
  split
  · rfl
  · exact State.sendOut_ruling _ _ _ _

@[simp] theorem State.endResync_ruling : s.endResync.ruling = s.ruling := by
  unfold State.endResync
  dsimp only
  split
  · rfl
  · exact s.mapLanes_ruling fun _ => rfl

theorem Lane.bistEvent_vote (x : Lane) : x.bistEvent.vote = x.vote := rfl

@[simp] theorem State.bistAbort_ruling : s.bistAbort.ruling = s.ruling := by
  have hslice (l : LaneId) (i n : Nat) (x : Lane) :
      (x.noteSlice l i x.bist.misr x.bist.time .aborted n).vote.module = x.vote.module := rfl
  have hshared (q n : Nat) (x : Lane) : (x.noteShared q .aborted n).vote.module = x.vote.module := rfl
  unfold State.bistAbort
  extract_lets n m t
  have ht : t.ruling = s.ruling := by
    simp only [t]
    split
    · rfl
    · rw [State.recM_ruling]
      exact s.mapLanes_ruling (hslice _ _ _)
  clear_value t
  split
  · exact ht
  · rw [State.recM_ruling]
    exact (t.mapLanes_ruling (hshared _ _)).trans ht

@[simp] theorem State.flushTrigger_ruling (r : BitVec 3) : (s.flushTrigger r).ruling = s.ruling := by
  unfold State.flushTrigger
  split
  · rfl
  · split <;> rfl
  · rfl

@[simp] theorem State.lapseByMode_ruling : s.lapseByMode.ruling = s.ruling := by
  unfold State.lapseByMode
  split
  · split
    · rfl
    · exact State.endArming_ruling _ _
  · rfl

@[simp] theorem State.holdVote_ruling : s.holdVote.ruling = s.ruling := by
  unfold State.holdVote
  exact s.mapLanes_ruling fun _ => rfl

/-- The ruling with nothing released (R349). -/
def Ruling.withhold (r : Ruling) : Ruling :=
  { r with md := { r.md with released := [], compared := none, late := none } }

/-- The ruling of a module in SAFE_STOP for an origin (R27, R351). -/
def Ruling.stop (r : Ruling) (o : Origin) (reason : Half) : Ruling :=
  { r with
    md := { r.md with mode := .safeStop, events := [], holdExit := false, vital := false }
    guard := { r.guard with
      sstopOrigin := BitVec.ofNat 8 o.code, sstopReason := reason, sstopAt := some r.tb.nt } }

/-- A module marked as stopped for an origin (R27, R351). -/
def State.markStopped (o : Origin) (reason : Half) : State :=
  let s := s.mapLanes (fun x => { x with cyc := { x.cyc with events := [], initCalls := none } })
  { s with
    md := { s.md with mode := .safeStop, events := [], holdExit := false, vital := false }
    guard := { s.guard with
      sstopOrigin := BitVec.ofNat 8 o.code, sstopReason := reason, sstopAt := some s.tb.nt } }

theorem State.markStopped_ruling (o : Origin) (reason : Half) :
    (s.markStopped o reason).ruling = s.ruling.stop o reason := by
  have hkeep := s.mapLanes_ruling (f := fun x => { x with cyc := { x.cyc with events := [], initCalls := none } })
    fun _ => rfl
  exact congrArg (fun r : Ruling => r.stop o reason) hkeep

/-- The applications stopped, the outputs off, nothing released (R349). -/
theorem State.restrictive_ruling : s.restrictive.ruling = s.ruling.withhold := by
  have hoff : ((s.stageOff.endSlot .W).endSlot .E).ruling = s.ruling := by simp
  have hstop (x : Lane) : x.stopApp.vote.module = x.vote.module := by
    unfold Lane.stopApp
    split <;> rfl
  unfold State.restrictive
  generalize (s.stageOff.endSlot .W).endSlot .E = t at hoff ⊢
  exact congrArg Ruling.withhold ((t.mapLanes_ruling hstop).trans hoff)

/-- The entry to SAFE_STOP by its steps (R27, R349, R351). -/
theorem State.enterSafeStop_eq (o : Origin) (reason : Half) : s.enterSafeStop o reason =
    (((((s.dropEvents .safeStop s.cutEvents).discardChange.restrictive.endResync.bistAbort.holdVote).markStopped o
      reason).recG .safeStop [place o.code 0, reason.setWidth 32]).flushTrigger 2).lapseByMode := rfl

/-- The ruling of a module that enters SAFE_STOP for an origin (R27, R351). -/
theorem State.enterSafeStop_ruling (o : Origin) (reason : Half) :
    (s.enterSafeStop o reason).ruling = s.ruling.withhold.stop o reason := by
  rw [State.enterSafeStop_eq]
  simp [State.markStopped_ruling, State.restrictive_ruling]

theorem State.enterSafeStop_md (o : Origin) (reason : Half) : (s.enterSafeStop o reason).md =
    { s.md with mode := .safeStop, events := [], holdExit := false, vital := false, released := [], compared := none
                late := none } :=
  State.md_of_ruling (s.enterSafeStop_ruling o reason)

theorem State.enterSafeStop_origin (o : Origin) (reason : Half) :
    (s.enterSafeStop o reason).guard.sstopOrigin = BitVec.ofNat 8 o.code :=
  congrArg Guard.sstopOrigin (State.guard_of_ruling (s.enterSafeStop_ruling o reason))

theorem State.enterSafeStop_vote (o : Origin) (reason : Half) (l : LaneId) :
    ((s.enterSafeStop o reason).lane l).vote.module = (s.lane l).vote.module :=
  State.vote_of_ruling (s.enterSafeStop_ruling o reason) l

/-- In SAFE_STOP no output conducts (R349). -/
theorem State.enterSafeStop_on (o : Origin) (reason : Half) : (s.enterSafeStop o reason).stage.on = 0 := by
  have hshut : (s.enterSafeStop o reason).gates.Shut := State.enterSafeStop_shut
  have hmode : (s.enterSafeStop o reason).md.mode = .safeStop := by rw [State.enterSafeStop_md]
  generalize s.enterSafeStop o reason = t at hshut hmode ⊢
  exact hshut.off (by rw [show t.gates.mode = .safeStop from hmode]; rfl)

/-- An origin of SAFE_STOP arises in a mode in which it stops the module (R25, R351). -/
theorem State.safeStop_of_mayStop {s : State} (h : MayStop s) (o : Origin) (reason : Half) :
    s.safeStop o reason = s.enterSafeStop o reason := by
  obtain ⟨hpriming, hfail, hsafe⟩ := h
  unfold State.safeStop
  split
  · next hm => exact absurd hm hpriming
  · next hm => exact absurd hm hfail
  · next hm => exact absurd hm hsafe
  · rfl

/-- The module stopped for an origin (R25, R351). -/
theorem State.safeStop_stopped {s : State} (h : MayStop s) (o : Origin) (reason : Half) :
    Stopped (s.safeStop o reason) (BitVec.ofNat 8 o.code) := by
  rw [State.safeStop_of_mayStop h]
  exact ⟨by rw [State.enterSafeStop_md], s.enterSafeStop_origin o reason, s.enterSafeStop_on o reason⟩

end

end Sys2Proof.Machine

/-! The boundary of the network cycle, and what Invar does with δ (R294 to R298). -/

namespace Sys2Proof.Machine

open Sys2Proof.Safety

/-- A state whose ring shows the readings of the cycle that ends (R292, R306). -/
def State.formed (s : State) : State :=
  let d := deltaOf (Safety.readings s)
  s.updRing fun r => { r with
    dev := match d.1 with
      | none => 0x80000000
      | some v => BitVec.ofInt 32 v
    kWord := place (Safety.readings s).length 0 ||| place (d.2.foldl (fun n i => n + 2 ^ i) 0) 16
    mdev := Vector.ofFn (fun i => mdevWord (if i.val < s.ring.masters.length then s.masterReading i.val else none))
    readX := Vector.replicate 16 none, readY := Vector.replicate 16 none }

/-- With no injection δ is that of the readings (R293). -/
theorem State.formDelta_calm {s : State} (hc : Calm s) : s.formDelta = (s.formed, (deltaOf (Safety.readings s)).1) := by
  simp only [State.formDelta, State.injected_calm hc, Bool.false_and, Bool.false_eq_true, if_false]
  rfl

/-- The ring as a boundary closes its network cycle (R289, R294 to R298). -/
def RingSt.closeCycle (listening : Bool) (delta : Option Int) (next : Nat) (r : RingSt) : RingSt :=
  let k := r.liftBlocks
  let arm := k.armNext && !(listening && !k.listenOnly) && k.schedOk
  { k with
    w := k.w.endCycle k.acquired, e := k.e.endCycle k.acquired
    deltas := ((if listening then none else delta) :: k.deltas).take 16
    rateDue := decide (next % 16 = 0)
    cycleNo := next
    armed := k.armed || arm
    armNext := k.armNext && !arm
    tx := k.tx || k.txAt = some next
    txAt := if k.txAt = some next then none else k.txAt
    healedSeen := k.healedNow, healedNow := false
    wholeCycle := true, badCycle := false, ncDiffers := false
    sentNow := false, returned := false, delivered := []
    sent := k.sent.filter (fun f => next ≤ f.2.1 + 1) }

/-- What δ has the node do at a boundary, listen-only or not (R294, R296). -/
def State.useDelta (s : State) (delta : Option Int) : State :=
  if s.ring.listenOnly then s.listenBoundary delta else s.applyDelta delta

/-- Outside JOINING no network cycle is judged (R289). -/
theorem State.judgeCycle_of_ne {s : State} (h : s.md.mode ≠ .joining) (delta : Option Int) :
    s.judgeCycle delta = s := by
  simp [State.judgeCycle, h]

/-- What decides whether a node transmits and guards: the part of the ring that δ steers (R294, R296, R297). -/
structure Course where
  armed : Bool
  armNext : Bool
  schedOk : Bool
  listenOnly : Bool
  listenDue : Bool
  tx : Bool
  txAt : Option Nat
  noRead : Half
  noReadRun : Nat

/-- The course of a ring. -/
def RingSt.course (r : RingSt) : Course :=
  { armed := r.armed, armNext := r.armNext, schedOk := r.schedOk, listenOnly := r.listenOnly, listenDue := r.listenDue
    tx := r.tx, txAt := r.txAt, noRead := r.noRead, noReadRun := r.noReadRun }

/-- The course after a network cycle boundary: guardians that wait arm, and a node that rejoined transmits (R296,
R297). -/
def Course.close (listening : Bool) (next : Nat) (k : Course) : Course :=
  let arm := k.armNext && !(listening && !k.listenOnly) && k.schedOk
  { k with
    armed := k.armed || arm, armNext := k.armNext && !arm
    tx := k.tx || k.txAt = some next, txAt := if k.txAt = some next then none else k.txAt }

/-- At a boundary of a node that is not listen-only every guardian that waits with a schedule arms (R297). -/
theorem Course.close_armed (next : Nat) (k : Course) :
    (k.close false next).armed = (k.armed || (k.armNext && k.schedOk)) := by
  simp [Course.close]

/-- At the boundary of its rejoining a node neither arms nor transmits yet (R296). -/
theorem Course.close_rejoin {next : Nat} {k : Course} (hlisten : k.listenOnly = false) (hat : k.txAt ≠ some next) :
    k.close true next = k := by
  cases k
  simp_all [Course.close]

theorem RingSt.closeCycle_course (listening : Bool) (delta : Option Int) (next : Nat) (r : RingSt) :
    (r.closeCycle listening delta next).course = r.course.close listening next ∧
      (r.closeCycle listening delta next).cycleNo = next := ⟨rfl, rfl⟩

/-- The readings put on show leave all but their registers (R292, R306). -/
theorem State.formed_keeps (s : State) : s.formed.lanes = s.lanes ∧ s.formed.md = s.md ∧ s.formed.tb = s.tb ∧
    s.formed.ring.course = s.ring.course := by
  unfold State.formed State.updRing
  exact ⟨rfl, rfl, rfl, rfl⟩

theorem State.formed_cycle (s : State) : s.formed.ring.ncDiffers = s.ring.ncDiffers ∧
    s.formed.ring.listenFrom = s.ring.listenFrom ∧ s.formed.ring.cycleNo = s.ring.cycleNo ∧
    s.formed.ring.tn10 = s.ring.tn10 ∧ s.formed.ring.joined = s.ring.joined := by
  unfold State.formed State.updRing
  exact ⟨rfl, rfl, rfl, rfl, rfl⟩

/-- The check for returning own frames leaves all but its own count and flag (R298). -/
theorem State.silenceCheck_keeps (s : State) : s.silenceCheck.lanes = s.lanes ∧ s.silenceCheck.md = s.md ∧
    s.silenceCheck.tb = s.tb ∧ s.silenceCheck.ring.course = s.ring.course := by
  unfold State.silenceCheck
  dsimp only
  split_ifs
  · exact ⟨rfl, rfl, rfl, rfl⟩
  · exact ⟨rfl, rfl, rfl, rfl⟩
  · exact ⟨rfl, rfl, rfl, rfl⟩
  · rw [State.recRing, State.recAs_lanes, State.recAs_md, State.recAs_tb, State.recAs_ring]
    exact ⟨rfl, rfl, rfl, rfl⟩

/-- What a network cycle boundary leaves of a state but its time: the lanes, the mode and RATE. -/
structure State.Steered (s t : State) : Prop where
  lanes : t.lanes = s.lanes
  md : t.md = s.md
  rate : t.tb.rate = s.tb.rate

/-- A network cycle boundary of an acquired node that has left JOINING (R294, R296 to R298): what δ has the node do at
the instant of the boundary, and the network cycle closed. -/
theorem State.ringBoundary_eq {s s1 : State} {delta : Option Int} (hc : Calm s) (hacq : s.ring.acquired = true)
    (hmode : s.md.mode ≠ .joining) (hs1 : s1 = s.advanceTo ((s.ring.cycleNo + 1) * s.ring.tn10))
    (hdelta : (deltaOf (Safety.readings s1)).1 = delta) (hm : s1.formed.Steered (s1.formed.useDelta delta)) :
    s.Steered s.ringBoundary ∧ s.ringBoundary.tb = (s1.formed.useDelta delta).tb ∧
      s.ringBoundary.ring.course = (s1.formed.useDelta delta).ring.course.close s.ring.listenOnly (s.ring.cycleNo + 1) ∧
      s.ringBoundary.ring.cycleNo = s.ring.cycleNo + 1 := by
  have hcalm : Calm s1 := by rw [hs1]; exact hc
  obtain ⟨hlisten, hlanes1, hmd1, hrate1⟩ : s1.ring.listenOnly = s.ring.listenOnly ∧ s1.lanes = s.lanes ∧
    s1.md = s.md ∧ s1.tb.rate = s.tb.rate := by rw [hs1]; exact ⟨rfl, rfl, rfl, rfl⟩
  obtain ⟨hlanes2, hmd2, htb2, -⟩ := s1.formed_keeps
  have hbound : s.ringBoundary = ((s1.formed.useDelta delta).judgeCycle delta).silenceCheck.updRing
      (RingSt.closeCycle s.ring.listenOnly delta (s.ring.cycleNo + 1)) := by
    rw [← hlisten, State.ringBoundary, if_neg (by simp [hacq])]
    dsimp only
    rw [← hs1, State.formDelta_calm hcalm, hdelta]
    rfl
  obtain ⟨hlanes3, hmd3, hrate3⟩ := hm
  rw [State.judgeCycle_of_ne (by rw [hmd3, hmd2, hmd1]; exact hmode)] at hbound
  generalize s1.formed.useDelta delta = m at hbound hlanes3 hmd3 hrate3 ⊢
  obtain ⟨hlanes, hmd, htb, hcourse⟩ := m.silenceCheck_keeps
  obtain ⟨hclose, hcycle⟩ := RingSt.closeCycle_course s.ring.listenOnly delta (s.ring.cycleNo + 1) m.silenceCheck.ring
  rw [hcourse] at hclose
  rw [hbound]
  refine ⟨⟨?_, ?_, ?_⟩, htb, hclose, hcycle⟩
  · exact hlanes.trans (hlanes3.trans (hlanes2.trans hlanes1))
  · exact hmd.trans (hmd3.trans (hmd2.trans hmd1))
  · exact (congrArg Timebase.rate htb).trans (hrate3.trans ((congrArg Timebase.rate htb2).trans hrate1))

/-- A node that is not listen-only, without δ (R294). -/
theorem State.useDelta_none {s : State} (h : s.ring.listenOnly = false) :
    s.Steered (s.useDelta none) ∧ (s.useDelta none).tb.slew = 0 ∧ (s.useDelta none).ring.course =
      { s.ring.course with
        noRead := satInc s.ring.course.noRead, noReadRun := s.ring.course.noReadRun + 1
        listenDue := s.ring.course.listenDue || 16 ≤ s.ring.course.noReadRun + 1 } := by
  rw [State.useDelta, if_neg (by simp [h])]
  exact ⟨⟨rfl, rfl, rfl⟩, rfl, rfl⟩

/-- A node that is not listen-only, with a δ within 750 ns (R294). -/
theorem State.useDelta_near {s : State} (h : s.ring.listenOnly = false) {d : Int} (hd : d.natAbs ≤ 750) :
    s.Steered (s.useDelta (some d)) ∧ (s.useDelta (some d)).tb.slew = BitVec.ofInt 32 (-d) ∧
      (s.useDelta (some d)).tb.synced = decide (d.natAbs ≤ 500) ∧
      (s.useDelta (some d)).ring.course = { s.ring.course with noReadRun := 0 } := by
  rw [State.useDelta, if_neg (by simp [h]), State.applyDelta, if_pos hd]
  exact ⟨⟨rfl, rfl, rfl⟩, rfl, rfl, rfl⟩

/-- A node that is not listen-only, with a δ beyond 750 ns (R294). -/
theorem State.useDelta_far {s : State} (h : s.ring.listenOnly = false) {d : Int} (hd : 750 < d.natAbs) :
    s.Steered (s.useDelta (some d)) ∧ (s.useDelta (some d)).tb.slew = 0 ∧ (s.useDelta (some d)).tb.synced = false ∧
      (s.useDelta (some d)).ring.course = { s.ring.course with noReadRun := 0, listenDue := true } := by
  rw [State.useDelta, if_neg (by simp [h]), State.applyDelta, if_neg (by omega)]
  exact ⟨⟨rfl, rfl, rfl⟩, rfl, rfl, rfl⟩

/-- A listen-only node with an acceptable δ: after a full network cycle it rejoins (R296). -/
theorem State.useDelta_rejoin {s : State} (h : s.ring.listenOnly = true) (hnc : s.ring.ncDiffers = false) {d : Int}
    (hd : d.natAbs ≤ 750) (hfrom : s.ring.listenFrom ≤ s.ring.cycleNo * s.ring.tn10) :
    s.Steered (s.useDelta (some d)) ∧ (s.useDelta (some d)).tb.slew = BitVec.ofInt 32 (-d) ∧
      (s.useDelta (some d)).tb.synced = decide (d.natAbs ≤ 500) ∧
      (s.useDelta (some d)).ring.course = { s.ring.course with
        listenOnly := false, listenDue := false, armNext := true, noReadRun := 0
        txAt := if s.ring.joined then some (s.ring.cycleNo + 2) else none } := by
  rw [State.useDelta, if_pos h, State.listenBoundary]
  dsimp only
  rw [if_neg (by simp [State.updRing, hnc]),
    if_pos (by simp only [hd, decide_true, Bool.true_and]; exact decide_eq_true hfrom)]
  exact ⟨⟨rfl, rfl, rfl⟩, rfl, rfl, rfl⟩

/-- A listen-only node within its first network cycle of it stays so (R296). -/
theorem State.useDelta_stay {s : State} (h : s.ring.listenOnly = true) (hnc : s.ring.ncDiffers = false) {d : Int}
    (hfrom : s.ring.cycleNo * s.ring.tn10 < s.ring.listenFrom) :
    s.Steered (s.useDelta (some d)) ∧ (s.useDelta (some d)).tb = s.tb ∧
      (s.useDelta (some d)).ring.course = s.ring.course := by
  rw [State.useDelta, if_pos h, State.listenBoundary]
  dsimp only
  rw [if_neg (by simp [State.updRing, hnc]),
    if_neg (by simp only [Bool.and_eq_true, decide_eq_true_eq]; exact fun h => absurd h.2 (not_le.mpr hfrom))]
  exact ⟨⟨rfl, rfl, rfl⟩, rfl, rfl⟩

/-- A state whose RATE is a value clipped (R106), its update made. -/
def State.rated (s : State) (v : Int) : State :=
  let s := s.updRing fun r => { r with rateDue := false }
  { s with tb := { s.tb with rate := BitVec.ofInt 32 (max (-rateLimit) (min rateLimit v)) } }

/-- The rate update of 16 δ (R106, R295). -/
theorem State.updateRate_eq {s : State} (hdue : s.ring.rateDue = true) (hlen : s.ring.deltas.length = 16)
    {ds : List Int}
    (hds : s.ring.deltas = ds.map some) {v : Int}
    (hv : v = s.tb.rate.toInt - roundDiv (2 ^ 31 * ds.sum) (16 * (s.ring.tn10 * 10))) :
    s.updateRate.ring.rateDue = false ∧ s.updateRate.lanes = s.lanes ∧ s.updateRate.md = s.md ∧
      s.updateRate.tb = { s.tb with rate := BitVec.ofInt 32 (max (-rateLimit) (min rateLimit v)) } := by
  have hsum : (ds.map some).foldl (fun n d => n + d.getD 0) (0 : Int) = ds.sum := by
    rw [List.foldl_map, List.sum_eq_foldl]
    rfl
  have hany : (ds.map some).any (·.isNone) = false := by simp
  have hcond : (decide (s.ring.deltas.length < 16) || s.ring.deltas.any (·.isNone)) = false := by
    rw [hds, hany, ← hds, hlen]
    rfl
  have hnew : newRate s.tb.rate.toInt (s.ring.deltas.foldl (fun n d => n + d.getD 0) 0) (s.ring.tn10 * 10) = v := by
    rw [hds, hsum, hv]
    rfl
  have hrated : s.updateRate = if max (-rateLimit) (min rateLimit v) = v then s.rated v
      else ((s.rated v).updRing fun r => { r with clips := satInc r.clips }).recRing .invarRateClip
          [BitVec.ofInt 32 v] := by
    rw [State.updateRate, if_neg (by simp [hdue])]
    dsimp only
    rw [if_neg (by exact Bool.eq_false_iff.mp hcond), ← hnew]
    rfl
  rw [hrated]
  split
  · exact ⟨rfl, rfl, rfl, rfl⟩
  · rw [State.recRing, State.recAs_ring, State.recAs_lanes, State.recAs_md, State.recAs_tb]
    exact ⟨rfl, rfl, rfl, rfl⟩

/-- The clip of RATE (R106). -/
theorem clip_eq (v : Int) : max (-rateLimit) (min rateLimit v) =
    if v < -858993 then -858993 else if 858993 < v then 858993 else v := by
  unfold rateLimit
  omega

/-- Settles O44: `State.ringBoundary_eq` with one lemma for each thing that δ has the node do, the rate update, the
entry to listen-only, and the stop of `State.safeStop_stopped`. -/
theorem invarActs : Obligations.InvarActs := by
  unfold Obligations.InvarActs
  intro s
  refine ⟨fun hc hacq hmode => ?_, fun hdue hlen ds hds => ?_, fun hdue hlisten => ?_,
    fun hlisten hfor hstop hserve => ?_⟩
  · intro s1 r passed
    have hbound (delta : Option Int) := State.ringBoundary_eq (s1 := s1) (delta := delta) hc hacq hmode rfl
    obtain ⟨hring1, hsync1⟩ : s1.ring = s.ring ∧ s1.tb.synced = s.tb.synced := ⟨rfl, rfl⟩
    clear_value s1
    have hk : s1.formed.ring.course = s.ring.course := s1.formed_keeps.2.2.2.trans (congrArg RingSt.course hring1)
    have hlistening : s1.formed.ring.listenOnly = s.ring.listenOnly := congrArg Course.listenOnly hk
    refine ⟨fun hlisten hnone => ?_, fun hlisten d hd => ?_, fun hlisten hnc d hd hnear => ?_⟩
    · obtain ⟨hm, hslew, hcourse⟩ := State.useDelta_none (hlistening.trans hlisten)
      obtain ⟨hsteer, htb, hclose, hcycle⟩ := hbound none hnone hm
      rw [hcourse, hk, hlisten] at hclose
      refine ⟨s.ringBoundary, rfl, ⟨hcycle, hsteer.lanes, hsteer.md, hsteer.rate,
        (congrArg Course.armed hclose).trans (Course.close_armed _ _), ?_⟩, ?_, congrArg Course.noRead hclose,
        congrArg Course.noReadRun hclose, congrArg Course.listenDue hclose⟩
      · exact (congrArg Course.listenOnly hclose).trans hlisten
      · rw [htb, hslew]
    · by_cases hnear : d.natAbs ≤ 750
      · obtain ⟨hm, hslew, hsync, hcourse⟩ := State.useDelta_near (hlistening.trans hlisten) hnear
        obtain ⟨hsteer, htb, hclose, hcycle⟩ := hbound (some d) hd hm
        rw [hcourse, hk, hlisten] at hclose
        refine ⟨s.ringBoundary, rfl, ⟨hcycle, hsteer.lanes, hsteer.md, hsteer.rate,
          (congrArg Course.armed hclose).trans (Course.close_armed _ _), ?_⟩, congrArg Course.noRead hclose,
          congrArg Course.noReadRun hclose, fun _ => ⟨?_, ?_, congrArg Course.listenDue hclose⟩,
          fun h => absurd hnear (not_le.mpr h)⟩
        · exact (congrArg Course.listenOnly hclose).trans hlisten
        · rw [htb, hslew]
        · rw [htb, hsync]
      · obtain ⟨hm, hslew, hsync, hcourse⟩ := State.useDelta_far (hlistening.trans hlisten) (not_le.mp hnear)
        obtain ⟨hsteer, htb, hclose, hcycle⟩ := hbound (some d) hd hm
        rw [hcourse, hk, hlisten] at hclose
        refine ⟨s.ringBoundary, rfl, ⟨hcycle, hsteer.lanes, hsteer.md, hsteer.rate,
          (congrArg Course.armed hclose).trans (Course.close_armed _ _), ?_⟩, congrArg Course.noRead hclose,
          congrArg Course.noReadRun hclose, fun h => absurd h hnear,
          fun _ => ⟨?_, ?_, congrArg Course.listenDue hclose⟩⟩
        · exact (congrArg Course.listenOnly hclose).trans hlisten
        · rw [htb, hslew]
        · rw [htb, hsync]
    · obtain ⟨hnc1, hfrom1, hcycle1, htn1, hjoined1⟩ := s1.formed_cycle
      rw [hring1] at hnc1 hfrom1 hcycle1 htn1 hjoined1
      by_cases hfrom : r.listenFrom ≤ r.cycleNo * r.tn10
      · obtain ⟨hm, hslew, hsync, hcourse⟩ := State.useDelta_rejoin (s := s1.formed) (hlistening.trans hlisten)
          (hnc1.trans hnc) hnear (by rw [hfrom1, hcycle1, htn1]; exact hfrom)
        obtain ⟨hsteer, htb, hclose, -⟩ := hbound (some d) hd hm
        rw [hcourse, hk, hlisten, hcycle1, hjoined1, Course.close_rejoin rfl (by dsimp only; split <;> simp)] at hclose
        refine ⟨s.ringBoundary, rfl, hsteer.lanes, fun _ => ⟨congrArg Course.listenOnly hclose, ?_, ?_,
          congrArg Course.armed hclose, congrArg Course.armNext hclose, congrArg Course.tx hclose,
          congrArg Course.txAt hclose⟩, fun h => absurd hfrom (not_le.mpr h)⟩
        · rw [htb, hslew]
        · rw [htb, hsync]
      · obtain ⟨hm, hkeep, hcourse⟩ := State.useDelta_stay (s := s1.formed) (d := d) (hlistening.trans hlisten)
          (hnc1.trans hnc) (by rw [hfrom1, hcycle1, htn1]; exact not_le.mp hfrom)
        obtain ⟨hsteer, htb, hclose, -⟩ := hbound (some d) hd hm
        rw [hcourse, hk] at hclose
        refine ⟨s.ringBoundary, rfl, hsteer.lanes, fun h => absurd h hfrom,
          fun _ => ⟨(congrArg Course.listenOnly hclose).trans hlisten, ?_⟩⟩
        rw [htb, hkeep, s1.formed_keeps.2.2.1, hsync1]
  · obtain ⟨hdue', hlanes, hmd, htb⟩ := State.updateRate_eq hdue hlen hds rfl
    refine ⟨s.updateRate, rfl, hdue', ?_, ?_, hlanes, hmd⟩
    · rw [htb]
    · rw [htb]
      exact congrArg (BitVec.ofInt 32) (clip_eq _)
  · have hexec : exec .invarListenOnly s = .next (((s.slewBy 0).updRing fun r => { r with
        listenOnly := true, listenDue := false, listenFor := 0, listenFrom := s.tb.nt.toNat, tx := false, txAt := none
        armed := false, armNext := false, listenCount := satInc r.listenCount }).recRing .invarListenOnly
          [s.ring.dev, place (fieldN s.ring.kWord 0 5) 0]) :=
      congrArg Host.Outcome.next (if_pos (by simp [hdue, hlisten]))
    refine ⟨_, hexec, ?_⟩
    simp only [State.recRing, State.recAs_ring, State.recAs_tb, State.recAs_lanes, State.recAs_md]
    exact ⟨rfl, rfl, rfl, rfl, rfl, rfl, rfl⟩
  · refine ⟨_, congrArg Host.Outcome.next (if_pos (by simp [hlisten, hfor])), ?_⟩
    exact State.safeStop_stopped (by simpa [MayStop] using hstop) _ _

end Sys2Proof.Machine

/-! The start of a cycle in every lane that runs it (R88, R100, R264). -/

namespace Sys2Proof.Machine

open Sys2Proof.Safety

/-! Changes of several lanes, one after another. -/

/-- Lanes changed one after another, each by a function that the other lanes do not matter to. -/
theorem State.lane_foldl_updLane {F : State → LaneId → Lane → Lane}
    (hF : ∀ (s : State) (k : LaneId) (g : Lane → Lane), F (s.updLane k g) = F s) {ls : List LaneId} (hnd : ls.Nodup)
    (s : State) (k : LaneId) :
    (ls.foldl (fun s l => s.updLane l (F s l)) s).lane k = if k ∈ ls then F s k (s.lane k) else s.lane k := by
  induction ls generalizing s with
  | nil => simp
  | cons l ls ih =>
    rw [List.nodup_cons] at hnd
    rw [List.foldl_cons, ih hnd.2, hF, State.lane_updLane_if]
    by_cases hkl : k = l
    · subst hkl
      simp [hnd.1]
    · simp [hkl]

theorem LaneId.list_nodup : LaneId.list.Nodup := by decide

theorem LaneId.mem_list (l : LaneId) : l ∈ LaneId.list := by cases l <;> decide

/-! What a store of a lane's words leaves of it. -/

/-- A lane without its store, its hash and the package it holds. -/
def Lane.running (x : Lane) : Lane :=
  { x with store := Store.init, vote := { x.vote with h := 0 }, change := { x.change with pend := none } }

theorem Lane.fields_of_running {y z : Lane} (h : y.running = z.running) : y.core = z.core ∧ y.tb = z.tb ∧
    y.cyc = z.cyc ∧ y.vio = z.vio ∧ y.blk = z.blk ∧ y.vote.s = z.vote.s ∧ y.vote.feeds = z.vote.feeds :=
  ⟨(congrArg Lane.core h :), (congrArg Lane.tb h :), (congrArg Lane.cyc h :), (congrArg Lane.vio h :),
    (congrArg Lane.blk h :), (congrArg (fun z => z.vote.s) h :), (congrArg (fun z => z.vote.feeds) h :)⟩

theorem Lane.wr32_running (x : Lane) (a : Nat) (w : Word) : (x.wr32 a w).running = x.running := by
  unfold Lane.wr32 Lane.addHash
  split <;> rfl

theorem foldl_wr32_running {α : Type} (a : α → Nat) (w : α → Word) (xs : List α) (x : Lane) :
    (xs.foldl (fun x i => x.wr32 (a i) (w i)) x).running = x.running :=
  foldl_keep Lane.running _ (fun x _ => x.wr32_running _ _) xs x

theorem Lane.clearStaged_running (x : Lane) : x.clearStaged.running = x.running := by
  refine foldl_keep Lane.running _ (fun x c => ?_) _ x
  split
  · exact x.wr32_running _ _
  · rfl

theorem Lane.runEntry_running (x : Lane) : x.runEntry.running = x.running := by
  unfold Lane.runEntry
  dsimp only
  rw [foldl_wr32_running, foldl_wr32_running]

theorem State.outputPage_running (s : State) (x : Lane) : (s.outputPage x).running = x.running := by
  unfold State.outputPage
  dsimp only
  rw [Lane.wr32_running, Lane.wr32_running, Lane.wr32_running, foldl_wr32_running, Lane.wr32_running,
    Lane.wr32_running]

/-- What forming the raw word does to a lane does not turn on its store, its hash and its package. -/
theorem Lane.ownWord_running (x : Lane) (l : LaneId) (flip : RawWord) :
    (x.ownWord l flip).running = x.running.ownWord l flip := by
  unfold Lane.ownWord
  dsimp only
  rw [show (x.running.takeRaw flip).vio = (x.takeRaw flip).vio from rfl]
  split <;> rfl

/-! The steps of a start. -/

/-- A lane as it starts the cycle, the flags STAGED of the last one not yet cleared (R100). -/
def Lane.freshCycle (voted : Bool) (x : Lane) : Lane :=
  let v := x.vote
  { x with
    cyc := { Cycle.init with ownStop := x.cyc.ownStop }
    tb := { x.tb with phase := .agreement }
    core := { x.core with cvCycle := 0 }
    engine := { x.engine with sweepPut := false }
    vote := if voted then { v with
        s := sigStart (x.tb.cycle.setWidth 32), feeds := 0, h := 0, still := false, sigs := PerLane.all none
        rows := PerLane.all none, lines := none, digests := PerLane.all none, auditing := false }
      else { v with still := true }
    blk := { x.blk with inputs := PerLane.all none } }

theorem Lane.startCycle_eq (x : Lane) (voted : Bool) : x.startCycle voted = (x.freshCycle voted).clearStaged := rfl

section

variable {s : State} (hc : Calm s)

include hc

theorem State.countArming_calm : Calm s.countArming := by
  unfold Calm at hc ⊢
  simp [State.countArming, hc]

/-- With no injection armed only the count of its durations starts with the cycle (R462). -/
theorem State.armCycle_calm : s.armCycle = s.countArming := by
  have hcalm := State.countArming_calm hc
  have hfire : s.countArming.fireAtStart = s.countArming := by
    have : s.countArming.inject.armed = none := hcalm
    unfold State.fireAtStart
    rw [this]
  unfold State.armCycle
  rw [hfire]
  simp [LaneId.list, State.fireLasting_calm hcalm]

theorem State.formWord_calm (l : LaneId) : s.formWord l = s.updLane l (·.ownWord l 0) := by
  simp [State.formWord, State.injected_calm hc]

end

/-- Lanes changed one after another: the rest of the state stays. -/
theorem State.foldl_updLane_keeps (F : State → LaneId → Lane → Lane) (ls : List LaneId) (s : State) :
    let t := ls.foldl (fun s k => s.updLane k (F s k)) s
    t.md = s.md ∧ t.tb = s.tb ∧ t.inject = s.inject := by
  refine ⟨foldl_keep State.md _ ?_ ls s, foldl_keep State.tb _ ?_ ls s, foldl_keep State.inject _ ?_ ls s⟩ <;>
    exact fun _ _ => rfl

/-- Lanes changed in store, hash and package alone. -/
theorem State.foldl_running {F : State → LaneId → Lane → Lane} (hF : ∀ s k x, (F s k x).running = x.running)
    (ls : List LaneId) (s : State) (l : LaneId) :
    ((ls.foldl (fun s k => s.updLane k (F s k)) s).lane l).running = (s.lane l).running := by
  refine foldl_keep (fun t : State => (t.lane l).running) _ (fun t k => ?_) ls s
  rw [State.lane_updLane_if]
  split
  · exact hF _ _ _
  · rfl

/-- A lane that takes a package armed (R186). -/
def Lane.takePackage (b : List Byte) (x : Lane) : Lane :=
  { x with change := { x.change with
      pend := some { bytes := b, intake := x.cycleLo, slices := 0, verdict := none, posted := false, apply := 0 } } }

/-- A package latched at t0 is all that changes of the lanes (R186). -/
theorem State.latchChange_keeps (s : State) : s.latchChange.md = s.md ∧ s.latchChange.tb = s.tb ∧
    ∀ l, (s.latchChange.lane l).running = (s.lane l).running := by
  have htake (t : State) (b : List Byte) (ls : List LaneId) :
      let u := ls.foldl (fun t k => t.updLane k (Lane.takePackage b)) t
      u.md = t.md ∧ u.tb = t.tb ∧ ∀ l, (u.lane l).running = (t.lane l).running := by
    obtain ⟨hmd, htb, -⟩ := State.foldl_updLane_keeps (fun _ _ => Lane.takePackage b) ls t
    exact ⟨hmd, htb, fun l => State.foldl_running (F := fun _ _ => Lane.takePackage b) (fun _ _ _ => rfl) ls t l⟩
  unfold State.latchChange
  split
  · exact ⟨rfl, rfl, fun _ => rfl⟩
  · split
    · exact ⟨rfl, rfl, fun _ => rfl⟩
    · split
      · exact htake { s with chg := { s.chg with armed := false, busy := true } } _ _
      · exact ⟨rfl, rfl, fun _ => rfl⟩

theorem State.formWords_eq {s : State} (hc : Calm s) :
    LaneId.list.foldl State.formWord s = LaneId.list.foldl (fun s l => s.updLane l (·.ownWord l 0)) s := by
  simp only [LaneId.list, List.foldl_cons, List.foldl_nil]
  rw [State.formWord_calm hc, State.formWord_calm (s := s.updLane _ _) hc,
    State.formWord_calm (s := (s.updLane _ _).updLane _ _) hc]

/-- Every lane forms its raw word. -/
theorem State.formWords_calm {s : State} (hc : Calm s) (l : LaneId) :
    (LaneId.list.foldl State.formWord s).lane l = (s.lane l).ownWord l 0 := by
  rw [State.formWords_eq hc, State.lane_foldl_updLane (F := fun _ l x => x.ownWord l 0) (fun _ _ _ => rfl)
    LaneId.list_nodup, if_pos (LaneId.mem_list l)]

theorem State.formWords_calm_keeps {s : State} (hc : Calm s) :
    (LaneId.list.foldl State.formWord s).md = s.md ∧ (LaneId.list.foldl State.formWord s).tb = s.tb := by
  rw [State.formWords_eq hc]
  exact ⟨rfl, rfl⟩

theorem State.cycleLanes_nodup (s : State) : s.cycleLanes.Nodup := by
  unfold State.cycleLanes State.joining
  split <;> exact LaneId.list_nodup.filter _

/-- The cycle number that a view takes with its cycle start (R87, R264). -/
def Lane.startNumber (x : Lane) (t : Nat) (loc : Bool) : Nat :=
  if loc then
    (if x.tb.started && t < x.tb.t0.toNat + 1500000 && x.tb.t0.toNat + 500000 < t then x.tb.cycle.toNat + 1 else 0)
  else t / x.tb.ti10

/-- A lane as a cycle starts (R88, R100): its view takes the event, it starts afresh where it runs the cycle, and it
forms its raw word. -/
def Lane.started (x : Lane) (l : LaneId) (t : Nat) (loc runs voted : Bool) : Lane :=
  let x := if loc || x.tb.cfgValid then x.startView t (x.startNumber t loc) else x
  let x := if runs then x.freshCycle voted else x
  x.ownWord l 0

/-- The start of a cycle in a lane, but for its store, its hash and a package latched. -/
theorem State.startAt_lane {s : State} (hc : Calm s) (t : Nat) (loc : Bool) (l : LaneId) :
    ∃ runs, ((s.startAt t loc).lane l).running = ((s.lane l).started l t loc runs s.md.mode.votes).running ∧
      (s.md.mode ≠ .safeStop → runs = s.joins l) := by
  unfold State.startAt
  extract_lets s1 s2 s3 s4 s5 s6 md s7
  have h2 : s2.lane l = if loc || (s.lane l).tb.cfgValid then (s.lane l).startView t ((s.lane l).startNumber t loc)
      else s.lane l := s1.lane_mapLanes l _
  obtain ⟨hmd3, -, hinj3⟩ := State.foldl_updLane_keeps (fun s _ x => x.startCycle s.md.mode.votes) s2.cycleLanes s2
  have hcalm3 : Calm s3 := by
    rw [Calm, show s3.inject = s.inject from hinj3]
    exact hc
  have h3 : (s3.lane l).running =
      (if decide (l ∈ s2.cycleLanes) then (s2.lane l).freshCycle s.md.mode.votes else s2.lane l).running := by
    have := State.lane_foldl_updLane (F := fun s _ x => x.startCycle s.md.mode.votes) (fun _ _ _ => rfl)
      (State.cycleLanes_nodup s2) s2 l
    rw [show s3.lane l = _ from this]
    by_cases hl : l ∈ s2.cycleLanes
    · rw [if_pos hl, if_pos (decide_eq_true hl), Lane.startCycle_eq, Lane.clearStaged_running]
      rfl
    · rw [if_neg hl, if_neg (by simp [hl])]
  have h5 : s5.lane l = (s3.lane l).ownWord l 0 := by
    have h4 : s4 = s3.countArming := State.armCycle_calm hcalm3
    rw [show s5 = LaneId.list.foldl State.formWord s4 from rfl, h4]
    exact State.formWords_calm (State.countArming_calm hcalm3) l
  have h6 : (s6.lane l).running = (s5.lane l).running := by
    simp only [s6]
    split
    · rfl
    · refine State.foldl_running (F := fun s _ x => s.outputPage (if s.md.firstRun then x.runEntry else x))
        (fun s k x => ?_) _ _ l
      rw [State.outputPage_running]
      split
      · exact x.runEntry_running
      · rfl
  have h7 : ((if s7.md.holdExit then s7 else s7.latchChange).lane l).running = (s6.lane l).running := by
    split
    · rfl
    · exact s7.latchChange_keeps.2.2 l
  refine ⟨decide (l ∈ s2.cycleLanes), ?_, fun hmode => ?_⟩
  · rw [h7, h6, h5, Lane.ownWord_running, h3, h2, Lane.started, ← Lane.ownWord_running]
  · have hlanes : s2.cycleLanes = s.joining := if_neg hmode
    simp [hlanes, State.joining, LaneId.mem_list]

/-- The start of a cycle in what the lanes share (R88). -/
theorem State.startAt_shared {s : State} (hc : Calm s) (t : Nat) (loc : Bool) :
    (s.startAt t loc).md = { s.md with step := .agreement, vital := s.md.mode.vital } ∧
      (s.startAt t loc).tb = (s.advanceTo t).tb := by
  unfold State.startAt
  extract_lets s1 s2 s3 s4 s5 s6 md s7
  obtain ⟨hmd3, htb3, hinj3⟩ := State.foldl_updLane_keeps (fun s _ x => x.startCycle s.md.mode.votes) s2.cycleLanes s2
  have hcalm3 : Calm s3 := by
    rw [Calm, show s3.inject = s.inject from hinj3]
    exact hc
  have h4 : s4 = s3.countArming := State.armCycle_calm hcalm3
  have h5 : s5.md = s4.md ∧ s5.tb = s4.tb := by
    simp only [s5, h4, State.formWords_calm_keeps (State.countArming_calm hcalm3), and_self]
  have h6 : s6.md = s5.md ∧ s6.tb = s5.tb := by
    simp only [s6]
    split
    · exact ⟨rfl, rfl⟩
    · obtain ⟨hmd, htb, -⟩ := State.foldl_updLane_keeps
        (fun s _ x => s.outputPage (if s.md.firstRun then x.runEntry else x)) s5.joining s5
      exact ⟨hmd, htb⟩
  have hmd6 : s6.md = s.md := by rw [h6.1, h5.1, h4]; exact hmd3
  have htb6 : s6.tb = s1.tb := by rw [h6.2, h5.2, h4]; exact htb3
  have h7 : (if s7.md.holdExit then s7 else s7.latchChange).md = s7.md ∧
      (if s7.md.holdExit then s7 else s7.latchChange).tb = s7.tb := by
    split
    · exact ⟨rfl, rfl⟩
    · exact ⟨s7.latchChange_keeps.1, s7.latchChange_keeps.2.1⟩
  refine ⟨h7.1.trans ?_, h7.2.trans htb6⟩
  rw [show s7.md = { s6.md with step := .agreement, vital := s6.md.mode.vital } from rfl, hmd6]

/-- A sum of powers of 2 has the bits that it is the sum of. -/
theorem testBit_sum_two_pow (f : Nat → Bool) (n i : Nat) :
    ((List.range n).foldl (fun m j => if f j then m + 2 ^ j else m) 0).testBit i = (decide (i < n) && f i) ∧
      (List.range n).foldl (fun m j => if f j then m + 2 ^ j else m) 0 < 2 ^ n := by
  induction n with
  | zero => simp
  | succ n ih =>
    rw [List.range_succ, List.foldl_append, List.foldl_cons, List.foldl_nil]
    obtain ⟨hbit, hlt⟩ := ih
    generalize (List.range n).foldl _ 0 = m at hbit hlt ⊢
    rw [pow_succ]
    by_cases hf : f n = true
    · rw [if_pos hf, Nat.add_comm]
      refine ⟨?_, by omega⟩
      rcases lt_trichotomy i n with hi | rfl | hi
      · rw [Nat.testBit_two_pow_add_gt hi, hbit]
        simp [hi, Nat.lt_succ_of_lt hi]
      · rw [Nat.testBit_two_pow_add_eq, hbit]
        simp [hf]
      · rw [Nat.testBit_lt_two_pow]
        · simp [show ¬ i < n + 1 by omega]
        · calc 2 ^ n + m < 2 ^ (n + 1) := by rw [pow_succ]; omega
            _ ≤ 2 ^ i := Nat.pow_le_pow_right (by decide) hi
    · rw [if_neg hf, hbit]
      refine ⟨?_, by omega⟩
      rcases lt_trichotomy i n with hi | rfl | hi
      · simp [hi, Nat.lt_succ_of_lt hi]
      · simp [hf]
      · simp [show ¬ i < n by omega, show ¬ i < n + 1 by omega]

theorem inputBits_getLsbD (f : Nat → Bool) {i : Nat} (hi : i < 66) : (inputBits f).getLsbD i = f i := by
  obtain ⟨hbit, hlt⟩ := testBit_sum_two_pow f 66 i
  rw [inputBits, BitVec.getLsbD, BitVec.toNat_ofNat, Nat.mod_eq_of_lt hlt, hbit]
  simp [hi]

/-- A bit of the raw word of a lane without an injection: the majority of its samples where it is not substituted
(R93). -/
theorem Lane.takeRaw_bit (x : Lane) {i : Nat} (hi : i < 66) : (x.takeRaw 0).vio.raw.getLsbD i =
    (decide (3 ≤ (x.vio.samples.toList.filter (fun o => (o.getD 0).getLsbD i)).length) && !x.vio.pfail.getLsbD i) := by
  have hraw : (x.takeRaw 0).vio.raw = (sampledWord x.vio.samples &&& ~~~ x.vio.pfail) ^^^ 0 := rfl
  rw [hraw, BitVec.getLsbD_xor, BitVec.getLsbD_and, BitVec.getLsbD_not, sampledWord, inputBits_getLsbD _ hi]
  simp [hi]

theorem Lane.ownWord_vio (x : Lane) (l : LaneId) (flip : RawWord) : (x.ownWord l flip).vio = (x.takeRaw flip).vio := by
  unfold Lane.ownWord
  dsimp only
  split <;> rfl

/-- The words that a lane holds once its own is formed (R95, R246). -/
theorem Lane.ownWord_inputs (x : Lane) (l : LaneId) (flip : RawWord) : (x.ownWord l flip).blk.inputs.get l =
    if x.vio.clkUnq = true ∨ x.vio.qualified = false then x.blk.inputs.get l else some (x.ownWord l flip).vio.raw := by
  rw [Lane.ownWord_vio]
  unfold Lane.ownWord
  dsimp only
  by_cases h : x.vio.clkUnq = true ∨ x.vio.qualified = false
  · rw [if_pos h, if_pos (by simpa [Lane.takeRaw] using h)]
    rfl
  · rw [if_neg h, if_neg (by simpa [Lane.takeRaw] using h)]
    exact PerLane.get_set_same _ _ _

/-- Forming its raw word leaves a lane's core, view, cycle and vote. -/
theorem Lane.ownWord_keeps (x : Lane) (l : LaneId) (flip : RawWord) : (x.ownWord l flip).core = x.core ∧
    (x.ownWord l flip).tb = x.tb ∧ (x.ownWord l flip).cyc = x.cyc ∧ (x.ownWord l flip).vote = x.vote := by
  unfold Lane.ownWord
  dsimp only
  split <;> exact ⟨rfl, rfl, rfl, rfl⟩

/-- The view of a lane takes the event CYCLE (R128). -/
theorem Lane.startView_cycleEvent (x : Lane) (t n : Nat) : (x.startView t n).core.events.getLsbD 4 = true := by
  have h (e : Byte) (m : Bool) : (if m then (e ||| 0x10) ||| 1 else (e ||| 0x10) &&& 0xFE : Byte).getLsbD 4 = true := by
    cases m <;> simp
  exact h x.core.events _

/-- CYCLE_START of a mode with votes, from idle (R88). -/
theorem exec_cycleStart {s : State} (hvotes : s.md.mode.votes = true) (hstep : s.md.step = .idle) :
    exec .cycleStart s = .next (s.startAt (s.nextT0 s.lead) false) := by
  show ok _ = _
  split
  · next hm => simp [hm, Mode.votes] at hvotes
  · next hm => simp [hm, Mode.votes] at hvotes
  · next hm => simp [hm, Mode.votes] at hvotes
  · next hm => simp [hm, Mode.votes] at hvotes
  · next hm => simp [hm, Mode.votes] at hvotes
  · rw [if_pos (by simp [hvotes, hstep])]
    rfl

/-- A view whose cycle is counted by the start itself. -/
theorem Lane.started_configured (x : Lane) (l : LaneId) (t : Nat) (voted : Bool) (h : x.tb.cfgValid = true) :
    x.started l t false true voted = ((x.startView t (t / x.tb.ti10)).freshCycle voted).ownWord l 0 := by
  simp only [Lane.started, h, Bool.or_true, if_true]
  rfl

/-- A view at the start of a local cycle (R264). -/
theorem Lane.started_local (x : Lane) (l : LaneId) (t : Nat) (runs voted : Bool) :
    (x.started l t true runs voted).core.events.getLsbD 4 = true ∧
      (x.started l t true runs voted).tb.t0 = BitVec.ofNat 64 t := by
  unfold Lane.started
  obtain ⟨hcore, htb, -⟩ := Lane.ownWord_keeps
    (if runs then (x.startView t (x.startNumber t true)).freshCycle voted else x.startView t (x.startNumber t true)) l 0
  simp only [Bool.true_or, if_true, hcore, htb]
  split <;> exact ⟨x.startView_cycleEvent _ _, rfl⟩

/-- Settles O23: `State.startAt_lane` for each lane, `State.startAt_shared` for what the lanes share, and the instant of
`State.reaches_advanceTo`. -/
theorem cycleStarts : Obligations.CycleStarts := by
  unfold Obligations.CycleStarts
  intro s
  refine ⟨fun hc hvotes hstep => ?_, fun hc hlocal hstep hpend e he => ?_, fun k a b c => ?_⟩
  · intro T
    obtain ⟨hmd, htb⟩ := State.startAt_shared hc T false
    refine ⟨_, exec_cycleStart hvotes hstep, by rw [hmd], by rw [hmd], by rw [hmd], ?_, fun l hjoin hcfg => ?_⟩
    · unfold Reaches
      rw [htb]
      exact s.reaches_advanceTo T
    · intro x y
      have hne : s.md.mode ≠ .safeStop := fun h => by simp [h, Mode.votes] at hvotes
      obtain ⟨runs, hlane, hruns⟩ := State.startAt_lane hc T false l
      rw [hruns hne, hjoin, hvotes, Lane.started_configured _ _ _ _ hcfg] at hlane
      change y.running = _ at hlane
      generalize hz : (x.startView T (T / x.tb.ti10)).freshCycle true = z at hlane
      obtain ⟨hcore, htb, hcyc, hvio, hblk, hsig, hfeeds⟩ := Lane.fields_of_running hlane
      obtain ⟨hcore', htb', hcyc', hvote'⟩ := z.ownWord_keeps l 0
      have hraw : (z.ownWord l 0).vio = (z.takeRaw 0).vio := z.ownWord_vio l 0
      have hinputs : z.blk.inputs.get l = none := by
        rw [← hz]
        exact PerLane.get_all none l
      rw [hcore, hcore', htb, htb', hcyc, hcyc', hsig, hfeeds, hvote', hblk, Lane.ownWord_inputs, hinputs, hvio, hraw,
        ← hz]
      exact ⟨rfl, rfl, rfl, x.startView_cycleEvent _ _, rfl, rfl, rfl, rfl, rfl, rfl, rfl,
        fun i hi => Lane.takeRaw_bit _ hi, rfl⟩
  · intro T
    have hmode : s.md.mode = .safeStop := by
      simp only [State.localCycle, Bool.and_eq_true, decide_eq_true_eq] at hlocal
      exact hlocal.1
    obtain ⟨hmd, htb⟩ := State.startAt_shared hc T true
    have hnumber : s.localNumber T = (T - (e.toNat + 999999) / 1000000 * 1000000) / 1000000 := by
      rw [State.localNumber, he]
    refine ⟨s.startLocal, congrArg Host.Outcome.next (if_pos (by simp [hlocal, hstep, hpend])), ?_, ?_, fun l => ?_⟩
    · exact (congrArg ModuleSt.step hmd :)
    · exact (congrArg ModuleSt.mode hmd :).trans hmode
    · obtain ⟨runs, hlane, -⟩ := State.startAt_lane hc T true l
      obtain ⟨hcore, htb, -⟩ := Lane.fields_of_running hlane
      obtain ⟨hevent, ht0⟩ := (s.lane l).started_local l T runs s.md.mode.votes
      rw [State.startLocal, State.lane_mapLanes]
      exact ⟨(congrArg TbView.t0 htb).trans ht0, (congrArg (fun c : Core => c.events.getLsbD 4) hcore).trans hevent,
        congrArg (BitVec.ofNat 48) hnumber⟩
  · have hset (v : Vector (Option RawWord) 5) (w : RawWord) : vset v k.val (some w) = v.set k.val (some w) := by
      simp [vset, Vector.setIfInBounds, Array.setIfInBounds]
    show Host.Outcome.next _ = _
    simp only [hset]

end Sys2Proof.Machine

/-! The vote deadline and the two-key comparison (R218, R219, R221). -/

namespace Sys2Proof.Machine

open Sys2Proof.Safety

/-! The decision of the gates (R218). -/

theorem length_filter_add_of_disjoint {α : Type} {p q : α → Bool} (h : ∀ a, p a = true → q a = false) (xs : List α) :
    (xs.filter p).length + (xs.filter q).length ≤ xs.length := by
  induction xs with
  | nil => simp
  | cons x xs ih =>
    cases hp : p x
    · cases hq : q x <;> simp [hp, hq] <;> omega
    · simp [hp, h x hp]
      omega

section

variable {s : State}

/-- No lane drives two decisions, so two of three lanes agree on one decision at most. -/
theorem State.drives_lt_two (h3 : s.servingLanes.length = 3) {d e : Decision} (hd : 2 ≤ (s.drives d).length)
    (hne : d ≠ e) : (s.drives e).length < 2 := by
  have := length_filter_add_of_disjoint (p := fun l => decide ((s.lane l).vote.lines = some d))
    (q := fun l => decide ((s.lane l).vote.lines = some e))
    (fun l hl => by
      rw [decide_eq_true_eq] at hl
      simp [hl, hne]) s.servingLanes
  unfold State.drives at hd ⊢
  omega

/-- The gate of three serving lanes outside probation (R218). -/
theorem State.gate_three (h3 : s.servingLanes.length = 3) (hp : s.inProbation = false) : s.gate =
    ((LaneId.list.find? (fun x => decide (2 ≤ (s.drives (.fence x)).length))).map Decision.fence).getD
      (if 2 ≤ (s.drives .cont).length then .cont else .stop) := by
  obtain ⟨a, b, c, habc⟩ := List.length_eq_three.mp h3
  simp only [State.gate, habc, State.underProbation, hp, Bool.false_and, Bool.false_eq_true, if_false,
    decide_eq_true_eq]
  cases LaneId.list.find? (fun x => decide (2 ≤ (s.drives (.fence x)).length)) <;> rfl

theorem State.gate_cont (h3 : s.servingLanes.length = 3) (hp : s.inProbation = false)
    (h : 2 ≤ (s.drives .cont).length) : s.gate = .cont := by
  have hnone : LaneId.list.find? (fun x => decide (2 ≤ (s.drives (.fence x)).length)) = none := by
    rw [List.find?_eq_none]
    intro x _
    simpa using State.drives_lt_two h3 h (by simp)
  rw [State.gate_three h3 hp, hnone]
  exact if_pos h

theorem State.gate_fence (h3 : s.servingLanes.length = 3) (hp : s.inProbation = false) {x : LaneId}
    (h : 2 ≤ (s.drives (.fence x)).length) : s.gate = .fence x := by
  rw [State.gate_three h3 hp]
  cases hy : LaneId.list.find? (fun x => decide (2 ≤ (s.drives (.fence x)).length)) with
  | some y =>
    have hy2 : 2 ≤ (s.drives (.fence y)).length := by simpa using List.find?_some hy
    by_contra hne
    exact absurd (State.drives_lt_two h3 hy2 hne) (not_lt.mpr h)
  | none =>
    rw [List.find?_eq_none] at hy
    exact absurd h (by simpa using hy x (LaneId.mem_list x))

theorem State.gate_stop (h3 : s.servingLanes.length = 3) (hp : s.inProbation = false)
    (hcont : (s.drives .cont).length < 2) (hfence : ∀ x, (s.drives (.fence x)).length < 2) : s.gate = .stop := by
  have hnone : LaneId.list.find? (fun x => decide (2 ≤ (s.drives (.fence x)).length)) = none := by
    rw [List.find?_eq_none]
    intro x _
    simpa using hfence x
  rw [State.gate_three h3 hp, hnone]
  exact if_neg (not_le.mpr hcont)

end

/-! What the vote reads. -/

/-- What the gates and the result of a vote turn on: the mode and latches, and each lane's core, view and vote. -/
structure Poll where
  md : ModuleSt
  resync : Resync
  core : LaneId → Core
  tb : LaneId → TbView
  vote : LaneId → VoteBlk

/-- The poll of a state. -/
def State.poll (s : State) : Poll :=
  { md := s.md, resync := s.resync, core := fun l => (s.lane l).core, tb := fun l => (s.lane l).tb
    vote := fun l => (s.lane l).vote }

section

variable {s t : State}

theorem State.gate_of_poll (h : t.poll = s.poll) : t.gate = s.gate := by
  have hmd : t.md = s.md := congrArg Poll.md h
  have hresync : t.resync = s.resync := congrArg Poll.resync h
  have hvote (l : LaneId) : (t.lane l).vote = (s.lane l).vote := congrFun (congrArg Poll.vote h) l
  have hserving : t.servingLanes = s.servingLanes := by rw [State.servingLanes, hmd]; rfl
  have hdrives : t.drives = s.drives := by
    funext d
    simp only [State.drives, hserving, hvote]
  have hprobation : t.underProbation = s.underProbation := by
    funext d
    simp only [State.underProbation, State.inProbation, State.partner, hmd, hresync]
    rfl
  rw [State.gate, hserving, hdrives, hprobation]
  rfl

theorem State.mapLanes_poll (s : State) {f : Lane → Lane}
    (h : ∀ x, (f x).core = x.core ∧ (f x).tb = x.tb ∧ (f x).vote = x.vote) : (s.mapLanes f).poll = s.poll := by
  simp [State.poll, h]

theorem State.updLane_poll (s : State) {f : Lane → Lane}
    (h : ∀ x, (f x).core = x.core ∧ (f x).tb = x.tb ∧ (f x).vote = x.vote) (l : LaneId) :
    (s.updLane l f).poll = s.poll := by
  have hlane (k : LaneId) : ((s.updLane l f).lane k).core = (s.lane k).core ∧
      ((s.updLane l f).lane k).tb = (s.lane k).tb ∧ ((s.updLane l f).lane k).vote = (s.lane k).vote := by
    rw [State.lane_updLane_if]
    split
    · exact h _
    · exact ⟨rfl, rfl, rfl⟩
  simp only [State.poll, hlane]
  rfl

theorem State.recAs_poll (s : State) (src : Nat) (agreed : Bool) (name : RecName) (ps : List Word) :
    (s.recAs src agreed name ps).poll = s.poll := (congrArg State.poll (s.recAs_unrecorded src agreed name ps) :)

theorem State.recM_poll (s : State) (name : RecName) (ps : List Word) : (s.recM name ps).poll = s.poll :=
  (congrArg State.poll (s.recM_unrecorded name ps) :)

theorem State.singleRequests_poll (s : State) : s.singleRequests.poll = s.poll := by
  unfold State.singleRequests
  refine (State.mapLanes_poll _ ?_).trans (foldl_keep State.poll _ (fun t l => t.recAs_poll _ _ _ _) _ s)
  exact fun _ => ⟨rfl, rfl, rfl⟩

theorem State.recordVote_poll (s : State) (x : Lane) : (s.recordVote x).poll = s.poll := by
  refine foldl_keep State.poll _ (fun t l => ?_) _ s
  dsimp only
  have hfail :
      (if x.vote.causeOf s.servingLanes l = 5 && x.sliceFailed l then t.recM .bistFail [x.bist.last] else t).poll =
      t.poll := by
    split
    · exact t.recM_poll _ _
    · rfl
  split
  · exact (State.recM_poll _ _ _).trans hfail
  · exact hfail

theorem State.dropOwn_poll (s : State) (d : Decision) : (s.dropOwn d).poll = s.poll := by
  unfold State.dropOwn
  split
  · rfl
  · refine foldl_keep State.poll _ (fun t l => t.updLane_poll ?_ l) _ s
    exact fun _ => ⟨rfl, rfl, rfl⟩

end

/-! The result of a vote. -/

/-- What a vote shows in a lane beside the core, which takes the event VOTE (R219, R243). -/
structure Shown where
  core : Core
  phase : Phase
  module : BitVec 4
  cycle : Word

/-- What a lane shows of the last vote. -/
def Lane.shown (x : Lane) : Shown :=
  { core := x.core, phase := x.tb.phase, module := x.vote.module, cycle := x.vote.cycle }

theorem Lane.noteVote_shown (x : Lane) (joins serving : Bool) (d : Decision) (cause : Nat) :
    (x.noteVote joins serving d cause).shown =
      { core := { x.core with events := x.core.events ||| 0x08 }, phase := if joins then .gap else x.tb.phase
        module := BitVec.ofNat 4 d.code, cycle := x.cycleLo } := rfl

/-- Every lane notes a decision on which both gates agree (R218, R219). -/
def State.noteVotes (d : Decision) (cause : LaneId → Nat) (verdict : Nat) (s : State) : State :=
  { s with
    lanes := { a := s.lanes.a.noteVote (s.joins .A) (s.serves .A) d (cause .A)
               b := s.lanes.b.noteVote (s.joins .B) (s.serves .B) d (cause .B)
               c := s.lanes.c.noteVote (s.joins .C) (s.serves .C) d (cause .C) }
    resync := { s.resync with shadowOk := verdict = 1, shadowBad := verdict = 2 }
    md := { s.md with step := .voted, voted := true, gateGm := d, gateRing := d } }

theorem State.noteVotes_lane (s : State) (d : Decision) (cause : LaneId → Nat) (verdict : Nat) (l : LaneId) :
    (s.noteVotes d cause verdict).lane l = (s.lane l).noteVote (s.joins l) (s.serves l) d (cause l) := by
  cases l <;> rfl

/-- With no injection both gates form one decision, and every lane notes it (R218, R219). -/
theorem State.sampleGates_calm {s : State} (hc : Calm s) : ∃ cause verdict, s.sampleGates =
    ((s.recordVote (s.retainedLead s.gate)).dropOwn s.gate).noteVotes s.gate cause verdict := by
  refine ⟨fun l => (s.recordVote (s.retainedLead s.gate)).cause ((s.recordVote (s.retainedLead s.gate)).lane l) s.gate
    (s.shadowVerdict = 2), s.shadowVerdict, ?_⟩
  unfold State.sampleGates
  rw [State.injected_calm hc]
  simp only [Bool.false_eq_true, if_false, if_true, decide_true]
  rfl

/-- What a vote leaves in the mode block. -/
def ModuleSt.voteEnds (m : ModuleSt) (d : Decision) : ModuleSt :=
  { m with step := .voted, voted := true, gateGm := d, gateRing := d }

/-- What a vote of a decision shows in a lane that takes part or not. -/
def Lane.afterVote (x : Lane) (joins : Bool) (d : Decision) : Shown :=
  { core := { x.core with events := x.core.events ||| 0x08 }, phase := if joins then .gap else x.tb.phase
    module := BitVec.ofNat 4 d.code, cycle := x.cycleLo }

theorem State.joins_of_poll {s t : State} (h : t.poll = s.poll) (l : LaneId) : t.joins l = s.joins l := by
  have hmd : t.md = s.md := congrArg Poll.md h
  have hresync : t.resync = s.resync := congrArg Poll.resync h
  simp only [State.joins, State.serves, State.shadowLane, hmd, hresync]
  rfl

theorem Lane.afterVote_of_poll {s t : State} (h : t.poll = s.poll) (l : LaneId) (joins : Bool) (d : Decision) :
    (t.lane l).afterVote joins d = (s.lane l).afterVote joins d := by
  have hcore : (t.lane l).core = (s.lane l).core := congrFun (congrArg Poll.core h) l
  have htb : (t.lane l).tb = (s.lane l).tb := congrFun (congrArg Poll.tb h) l
  simp only [Lane.afterVote, Lane.cycleLo, hcore, htb]

/-- The mode block and the lanes after the gates have sampled (R218, R219). -/
theorem State.sampleGates_shows {s : State} (hc : Calm s) : s.sampleGates.md = s.md.voteEnds s.gate ∧
    ∀ l, (s.sampleGates.lane l).shown = (s.lane l).afterVote (s.joins l) s.gate := by
  obtain ⟨cause, verdict, heq⟩ := State.sampleGates_calm hc
  have hpoll : ((s.recordVote (s.retainedLead s.gate)).dropOwn s.gate).poll = s.poll :=
    (State.dropOwn_poll _ _).trans (State.recordVote_poll _ _)
  rw [heq]
  generalize (s.recordVote (s.retainedLead s.gate)).dropOwn s.gate = u at hpoll ⊢
  constructor
  · have hmd : u.md = s.md := congrArg Poll.md hpoll
    rw [← hmd]
    rfl
  · intro l
    rw [State.noteVotes_lane, Lane.noteVote_shown, ← Lane.afterVote_of_poll hpoll, ← State.joins_of_poll hpoll]
    rfl

/-! The duties of the gap. -/

/-- What is to be seen of a vote: the mode block, and what each lane shows. -/
def State.noted (s : State) : ModuleSt × (LaneId → Shown) := (s.md, fun l => (s.lane l).shown)

section

variable (s : State)

theorem State.updLane_noted {f : Lane → Lane} (h : ∀ x, (f x).shown = x.shown) (l : LaneId) :
    (s.updLane l f).noted = s.noted := by
  have hlane (k : LaneId) : ((s.updLane l f).lane k).shown = (s.lane k).shown := by
    rw [State.lane_updLane_if]
    split
    · exact h _
    · rfl
  simp only [State.noted, hlane]
  rfl

theorem State.recM_noted (name : RecName) (ps : List Word) : (s.recM name ps).noted = s.noted :=
  (congrArg State.noted (s.recM_unrecorded name ps) :)

theorem State.dropPending_noted : s.dropPending.noted = s.noted := by
  simp [State.dropPending, State.noted, Lane.shown]

theorem Lane.postSecure_shown (x : Lane) (ws : List Word) : (x.postSecure ws).shown = x.shown := rfl

theorem State.postVerdict_noted : s.postVerdict.noted = s.noted := by
  unfold State.postVerdict
  split
  · rfl
  split
  · dsimp only
    generalize hu : (s.servingLanes.foldl _ s) = u
    have hu' : u.noted = s.noted := by
      rw [← hu]
      refine foldl_keep State.noted _ (fun t l => t.updLane_noted ?_ l) _ s
      exact fun _ => rfl
    split
    · exact (u.recM_noted _ _).trans hu'
    · exact (State.dropPending_noted (u.recM _ _)).trans ((u.recM_noted _ _).trans hu')
  · rfl

theorem State.startAudit_noted : s.startAudit.noted = s.noted := by
  unfold State.startAudit
  split
  · rfl
  · refine foldl_keep State.noted _ (fun t l => t.updLane_noted ?_ l) _ s
    exact fun _ => rfl

theorem State.startSlice_noted : s.startSlice.noted = s.noted := by
  unfold State.startSlice
  split
  · rfl
  · dsimp only
    split <;> rfl

/-- Quotes change the service block alone (R393). -/
theorem State.answerQuotes_keeps {α : Type} (f : State → α) (h : ∀ s v, f { s with svc := v } = f s) :
    f s.answerQuotes = f s := by
  unfold State.answerQuotes
  split
  · rfl
  · refine (h _ _).trans (foldl_keep f _ (fun t q => ?_) _ s)
    exact h t _

end

/-! The vote deadline (R218). -/

/-- The state in which the gates sample the lines at the deadline. -/
def State.sampled (s : State) : State := (s.advanceTo (s.lead.beforeEnd 250000)).singleRequests.sampleGates

section

variable {s : State}

theorem State.singleRequests_calm (hc : Calm s) : Calm s.singleRequests :=
  (foldl_keep (fun t => t.inject.armed) _ (fun t _ => t.recAs_armed _ _ _ _) _ s).trans hc

/-- The deadline shows the gate's decision in the mode block and every lane (R218, R219). -/
theorem State.sampled_shows (hc : Calm s) : s.sampled.md = s.md.voteEnds s.gate ∧
    ∀ l, (s.sampled.lane l).shown = (s.lane l).afterVote (s.joins l) s.gate := by
  have hpoll : (s.advanceTo (s.lead.beforeEnd 250000)).singleRequests.poll = s.poll := State.singleRequests_poll _
  have hcalm : Calm (s.advanceTo (s.lead.beforeEnd 250000)).singleRequests := State.singleRequests_calm hc
  unfold State.sampled
  generalize (s.advanceTo (s.lead.beforeEnd 250000)).singleRequests = u at hpoll hcalm ⊢
  obtain ⟨hmd, hlanes⟩ := State.sampleGates_shows hcalm
  rw [State.gate_of_poll hpoll] at hmd hlanes
  constructor
  · rw [hmd, show u.md = s.md from congrArg Poll.md hpoll]
  · intro l
    rw [hlanes, State.joins_of_poll hpoll, Lane.afterVote_of_poll hpoll]

theorem exec_voteDeadline (hv : s.voting = true) (hstep : s.md.step = .viewed) :
    exec .voteDeadline s = .next s.voteDeadline.answerQuotes := by
  show execVoteDeadline s = _
  simp [execVoteDeadline, hv, hstep, ok]

/-- What the decision leads to (R218). -/
theorem State.voteDeadline_eq (s : State) : s.voteDeadline =
    if s.sampled.md.mode = .safeStop then s.sampled
    else if s.sampled.md.gateGm = .stop then s.sampled.safeStop .vote
    else s.sampled.postVerdict.startAudit.startSlice := rfl

theorem State.mayStop_of_voting (hv : s.voting = true) : MayStop s := by
  obtain ⟨hvotes, -⟩ := Bool.and_eq_true_iff.mp hv
  refine ⟨?_, ?_, ?_⟩ <;> · intro hm; rw [hm] at hvotes; exact absurd hvotes (by decide)

theorem State.joins_of_three (h3 : s.servingLanes.length = 3) (l : LaneId) : s.joins l = true := by
  have hall : s.servingLanes = LaneId.list := (List.filter_sublist).eq_of_length h3
  have hmem : l ∈ s.servingLanes := hall ▸ LaneId.mem_list l
  have hserves : s.serves l = true := (List.mem_filter.mp hmem).2
  simp [State.joins, hserves]

/-- A decision other than STOP is noted in every lane, and the mode is kept (R218, R219). -/
theorem State.voteDeadline_decided {d : Decision} (hc : Calm s) (hv : s.voting = true) (hstep : s.md.step = .viewed)
    (h3 : s.servingLanes.length = 3) (hgate : s.gate = d) (hd : d ≠ .stop) :
    ∃ t, exec .voteDeadline s = .next t ∧ t.md = s.md.voteEnds d ∧
      ∀ l, (t.lane l).shown = (s.lane l).afterVote true d := by
  obtain ⟨hmd, hlanes⟩ := State.sampled_shows hc
  have hsafe : s.md.mode ≠ .safeStop := (State.mayStop_of_voting hv).2.2
  have hgoes : s.voteDeadline = s.sampled.postVerdict.startAudit.startSlice :=
    s.voteDeadline_eq.trans ((if_neg (by rw [hmd]; exact hsafe)).trans (if_neg (by rw [hmd]; exact hgate ▸ hd)))
  have hnoted : s.voteDeadline.answerQuotes.noted = s.sampled.noted :=
    calc s.voteDeadline.answerQuotes.noted
      _ = s.voteDeadline.noted := State.answerQuotes_keeps _ State.noted fun _ _ => rfl
      _ = s.sampled.postVerdict.startAudit.startSlice.noted := by rw [hgoes]
      _ = s.sampled.noted :=
        (State.startSlice_noted _).trans ((State.startAudit_noted _).trans (State.postVerdict_noted _))
  refine ⟨_, exec_voteDeadline hv hstep, ?_, fun l => ?_⟩
  · exact (congrArg Prod.fst hnoted).trans (hgate ▸ hmd)
  · refine (congrFun (congrArg Prod.snd hnoted) l).trans ?_
    exact (hlanes l).trans (by rw [State.joins_of_three h3, hgate])

/-- The decision STOP brings SAFE_STOP with origin VOTE (R218, R351). -/
theorem State.voteDeadline_stopped (hc : Calm s) (hv : s.voting = true) (hstep : s.md.step = .viewed)
    (hgate : s.gate = .stop) :
    ∃ t, exec .voteDeadline s = .next t ∧ Stopped t 1 ∧ t.md.released = [] ∧ ∀ l, (t.lane l).vote.module = 8 := by
  obtain ⟨hmd, hlanes⟩ := State.sampled_shows hc
  have hmode : s.sampled.md.mode = s.md.mode := by rw [hmd]; rfl
  have hmay : MayStop s.sampled := by
    rw [MayStop, hmode]
    exact State.mayStop_of_voting hv
  have hstops : s.voteDeadline = s.sampled.enterSafeStop .vote 0 :=
    calc s.voteDeadline
      _ = s.sampled.safeStop .vote :=
        s.voteDeadline_eq.trans ((if_neg hmay.2.2).trans (if_pos (by rw [hmd]; exact hgate)))
      _ = s.sampled.enterSafeStop .vote 0 := State.safeStop_of_mayStop hmay .vote 0
  have hkeeps {α : Type} (f : State → α) (h : ∀ s v, f { s with svc := v } = f s) :
      f s.voteDeadline.answerQuotes = f (s.sampled.enterSafeStop .vote 0) :=
    (State.answerQuotes_keeps _ f h).trans (by rw [hstops])
  refine ⟨_, exec_voteDeadline hv hstep, ⟨?_, ?_, ?_⟩, ?_, fun l => ?_⟩
  · exact (hkeeps (fun t => t.md.mode) fun _ _ => rfl).trans (by rw [State.enterSafeStop_md])
  · exact (hkeeps (fun t => t.guard.sstopOrigin) fun _ _ => rfl).trans (State.enterSafeStop_origin _ _ _)
  · exact (hkeeps (fun t => t.stage.on) fun _ _ => rfl).trans (State.enterSafeStop_on _ _ _)
  · exact (hkeeps (fun t => t.md.released) fun _ _ => rfl).trans (by rw [State.enterSafeStop_md])
  · refine (hkeeps (fun t => (t.lane l).vote.module) fun _ _ => rfl).trans ((State.enterSafeStop_vote _ _ _ l).trans ?_)
    exact (congrArg Shown.module (hlanes l)).trans (by rw [hgate]; rfl)

end

/-! The two-key comparison (R221). -/

section

variable {s : State}

/-- The mode block of a module that a difference of the two copies has stopped (R102, R221). -/
theorem State.withholdCopies {m : ModuleSt} (hmay : MayStop s) (hfault : m.twoKeyFault = true)
    (hmode : m.mode = s.md.mode) :
    ∃ t, ({ s with md := m }.recRing .twoKeyMismatch).safeStop .twoKey = t ∧ Stopped t 4 ∧ t.md.twoKeyFault = true ∧
      t.md.released = [] ∧ t.md.late = none := by
  have hmd : ({ s with md := m }.recRing .twoKeyMismatch).md = m := State.recAs_md ..
  generalize { s with md := m }.recRing .twoKeyMismatch = u at hmd ⊢
  have hu : MayStop u := by
    rw [MayStop, hmd, hmode]
    exact hmay
  refine ⟨_, rfl, State.safeStop_stopped hu .twoKey 0, ?_⟩
  rw [State.safeStop_of_mayStop hu, State.enterSafeStop_md, hmd]
  exact ⟨hfault, rfl, rfl⟩

theorem exec_twoKeyCompare_late {a b : List Pdu} {keep : Bool} (h : s.md.late = some (a, b, keep)) :
    exec .twoKeyCompare s = .next (s.compareLate a b keep) := by
  show execTwoKeyCompare s = _
  rw [execTwoKeyCompare, h]
  rfl

theorem exec_twoKeyCompare_voted (hv : s.voting = true) (hstep : s.md.step = .voted) (hlate : s.md.late = none)
    (hnone : s.md.compared = none) : exec .twoKeyCompare s = .next s.twoKey := by
  show execTwoKeyCompare s = _
  rw [execTwoKeyCompare, hlate]
  simp [hv, hstep, hnone, ok]

theorem State.handedBy_calm (hc : Calm s) (l : LaneId) : s.handedBy l = (s.lane l).cyc.handed.getD [] := by
  simp [State.handedBy, State.injected_calm hc]

theorem State.spoiled_calm (hc : Calm s) : s.spoiled = false := by
  simp [State.spoiled, State.injected_calm hc]

theorem State.twoKey_calm {l k : LaneId} (hc : Calm s) (hkeys : s.keyLanes = [l, k]) : s.twoKey =
    if (s.lane l).cyc.handed.getD [] = (s.lane k).cyc.handed.getD [] then
      { s with md := { s.md with compared := some ((s.lane l).cyc.handed.getD []) } }
    else s.twoKeyDiffers := by
  rw [State.twoKey, hkeys]
  simp only [State.handedBy_calm hc, State.spoiled_calm hc]
  rfl

end

/-- Settles O28: the gates agree in one decision, the lanes note it, and a copy that differs stops the module. -/
theorem voteDeadline : Obligations.VoteDeadline := by
  unfold Obligations.VoteDeadline
  intro s hc hv
  refine ⟨fun hstep h3 hp => ?_, fun a b keep hlate => ⟨fun hab => ?_, fun hab hmay => ?_⟩,
    fun l k hstep hlate hnone hkeys => ⟨fun hab => ?_, fun hab => ?_⟩⟩
  · have shows {d : Decision} (hgate : s.gate = d) (hd : d ≠ .stop) :
        ∃ t, exec .voteDeadline s = .next t ∧ t.md.step = .voted ∧ t.md.voted = true ∧ t.md.gateGm = d ∧
          t.md.gateRing = d ∧ t.md.mode = s.md.mode ∧ t.md.fenced = s.md.fenced ∧
          ∀ l, (t.lane l).vote.module = BitVec.ofNat 4 d.code ∧ (t.lane l).tb.phase = .gap ∧
            (t.lane l).core.events.getLsbD 3 = true ∧ (t.lane l).vote.cycle = (s.lane l).tb.cycle.setWidth 32 ∧
            (t.lane l).core.pc = (s.lane l).core.pc ∧ (t.lane l).core.g = (s.lane l).core.g := by
      obtain ⟨t, ht, hmd, hlanes⟩ := State.voteDeadline_decided hc hv hstep h3 hgate hd
      refine ⟨t, ht, ?_⟩
      rw [hmd]
      refine ⟨rfl, rfl, rfl, rfl, rfl, rfl, fun l => ?_⟩
      obtain ⟨hcore, hphase, hmodule, hcycle⟩ := Shown.mk.inj (hlanes l)
      rw [hcore]
      exact ⟨hmodule, hphase, by simp, hcycle, rfl, rfl⟩
    refine ⟨fun hcont => shows (State.gate_cont h3 hp hcont) (by decide),
      fun x hx => shows (State.gate_fence h3 hp hx) (by simp), fun hcont hfence => ?_⟩
    obtain ⟨t, ht, ⟨hmode, horigin, hon⟩, hreleased, hmodule⟩ :=
      State.voteDeadline_stopped hc hv hstep (State.gate_stop h3 hp hcont hfence)
    exact ⟨t, ht, hmode, horigin, hon, hreleased, hmodule⟩
  · rw [exec_twoKeyCompare_late hlate, State.compareLate, if_pos hab]
  · rw [exec_twoKeyCompare_late hlate, State.compareLate, if_neg hab]
    obtain ⟨t, ht, hstopped⟩ := State.withholdCopies (s := s)
      (m := { s.md with late := none, twoKeyFault := true }) hmay rfl rfl
    exact ⟨t, congrArg _ ht, hstopped⟩
  · rw [exec_twoKeyCompare_voted hv hstep hlate hnone, State.twoKey_calm hc hkeys, if_pos hab]
  · rw [exec_twoKeyCompare_voted hv hstep hlate hnone, State.twoKey_calm hc hkeys, if_neg hab]
    obtain ⟨t, ht, ⟨hmode, horigin, hon⟩, hfault, hreleased, -⟩ := State.withholdCopies (s := s)
      (m := { s.md with compared := some [], twoKeyFault := true }) (State.mayStop_of_voting hv) rfl rfl
    exact ⟨t, congrArg _ ht, hmode, hfault, hreleased, horigin, hon⟩

end Sys2Proof.Machine

/-! Packages of online change and forcing in a lane (R185, R191, R200). -/

namespace Sys2Proof.Machine

open Sys2Proof.Safety

/-! The targets of a package (R185). -/

/-- Two entries of a package name different targets, and different slots where both name slots. -/
def PkgEntry.Apart (e f : PkgEntry) : Prop :=
  e.target ≠ f.target ∧ (e.kind = 0 → f.kind = 0 → e.index ≠ f.index)

theorem PkgEntry.Apart.symm {e f : PkgEntry} (h : e.Apart f) : f.Apart e :=
  ⟨h.1.symm, fun hf he => (h.2 he hf).symm⟩

/-- An entry that names a slot holds its number alone (R185). -/
theorem PkgEntry.target_of_slot {e : PkgEntry} {k : Nat} (h : e.formatOk k = true) (hk : e.kind = 0) :
    e.target.toNat = e.index := by
  have hlt := e.target.isLt
  simp only [PkgEntry.formatOk, PkgEntry.kind, PkgEntry.index, fieldN, Nat.shiftRight_eq_div_pow, Bool.and_eq_true,
    decide_eq_true_eq] at h hk ⊢
  omega

theorem PkgEntry.apart_of_ne {e f : PkgEntry} {k : Nat} (he : e.formatOk k = true) (hf : f.formatOk k = true)
    (hne : e.target.toNat ≠ f.target.toNat) : e.Apart f := by
  refine ⟨fun h => hne (congrArg BitVec.toNat h), fun hek hfk h => hne ?_⟩
  rw [PkgEntry.target_of_slot he hek, PkgEntry.target_of_slot hf hfk, h]

theorem nodup_of_distinct {xs : List Nat} (h : distinct xs = true) : xs.Nodup := by
  induction xs with
  | nil => exact List.nodup_nil
  | cons x xs ih =>
    obtain ⟨hx, hxs⟩ := Bool.and_eq_true_iff.mp h
    exact List.nodup_cons.mpr ⟨by simpa using hx, ih hxs⟩

/-- The entries of a package of sound format are apart (R189). -/
theorem entries_apart {b : List Byte} (h : pkgFormat b = true) : (pkgEntries b).Pairwise PkgEntry.Apart := by
  obtain ⟨h, hdistinct⟩ := Bool.and_eq_true_iff.mp h
  obtain ⟨-, hformat⟩ := Bool.and_eq_true_iff.mp h
  rw [List.all_eq_true] at hformat
  have hne := List.pairwise_map.mp (nodup_of_distinct hdistinct)
  exact hne.imp_of_mem fun he hf => PkgEntry.apart_of_ne (hformat _ he) (hformat _ hf)

/-- The entries of a PARAMETER package name slots (R185). -/
theorem entries_kind {b : List Byte} (h : pkgFormat b = true) (hk : pkgKind b = 1) :
    ∀ e ∈ pkgEntries b, e.kind = 0 := by
  intro e he
  obtain ⟨h, -⟩ := Bool.and_eq_true_iff.mp h
  obtain ⟨-, hformat⟩ := Bool.and_eq_true_iff.mp h
  have := List.all_eq_true.mp hformat e he
  exact (by simpa [PkgEntry.formatOk, hk] using this : (_ ∧ _) ∧ e.kind = 0).2

/-- An entry names a slot or a local input (R185). -/
theorem entries_slot_or_input {b : List Byte} (h : pkgFormat b = true) :
    ∀ e ∈ pkgEntries b, e.kind = 0 ∨ e.kind = 1 := by
  intro e he
  obtain ⟨h, -⟩ := Bool.and_eq_true_iff.mp h
  obtain ⟨-, hformat⟩ := Bool.and_eq_true_iff.mp h
  obtain ⟨-, hkinds⟩ := Bool.and_eq_true_iff.mp (List.all_eq_true.mp hformat e he)
  simp only [Bool.or_eq_true, Bool.and_eq_true, decide_eq_true_eq] at hkinds
  exact hkinds.imp id fun h => h.1.1

/-- A STOP or ACTIVATE package has no entries (R184). -/
theorem entries_nil {b : List Byte} (h : pkgFormat b = true) (hk : pkgKind b = 2 ∨ pkgKind b = 3) :
    pkgEntries b = [] := by
  obtain ⟨h, -⟩ := Bool.and_eq_true_iff.mp h
  obtain ⟨h, -⟩ := Bool.and_eq_true_iff.mp h
  obtain ⟨h, -⟩ := Bool.and_eq_true_iff.mp h
  obtain ⟨-, hcount⟩ := Bool.and_eq_true_iff.mp h
  have hzero : pkgCount b = 0 := by simpa [hk] using hcount
  simp [pkgEntries, hzero]

/-! What an entry changes in a lane. -/

/-- A change of a lane that stores into the slot of an entry alone and leaves the core. -/
def TouchesSlot (step : Lane → Lane) (e : PkgEntry) : Prop :=
  ∀ x : Lane, Memory.wf x.store.cells = true → Memory.wf (step x).store.cells = true ∧ (step x).core = x.core ∧
    ∀ a, (e.kind = 0 → a < slotAddr e.index ∨ slotAddr e.index + 4 ≤ a) → (step x).rd8 a = x.rd8 a

theorem Lane.rd32_congr {x y : Lane} {a : Nat} (h : ∀ k, a ≤ k → k < a + 4 → y.rd8 k = x.rd8 k) :
    y.rd32 a = x.rd32 a := by
  simp only [Lane.rd32]
  rw [h a (by omega) (by omega), h (a + 1) (by omega) (by omega), h (a + 2) (by omega) (by omega),
    h (a + 3) (by omega) (by omega)]

@[simp] theorem Lane.wr32_change (x : Lane) (a : Nat) (w : Word) : (x.wr32 a w).change = x.change := by
  unfold Lane.wr32 Lane.addHash
  split <;> rfl

@[simp] theorem Lane.wr32_meas (x : Lane) (a : Nat) (w : Word) : (x.wr32 a w).meas = x.meas := by
  unfold Lane.wr32 Lane.addHash
  split <;> rfl

/-- A word stored in a lane whose forces have changed. -/
theorem Lane.rd32_wr32_change {x : Lane} (hwf : Memory.wf x.store.cells = true) (c : Change) (a : Nat) (w : Word) :
    (({ x with change := c }).wr32 a w).rd32 a = w :=
  Lane.rd32_wr32 (x := { x with change := c }) hwf a w

/-- A store into the slot of an entry. -/
theorem touches_store {x y : Lane} {e : PkgEntry} (hstore : y.store = x.store) (hcore : y.core = x.core)
    (hkind : e.kind = 0) (w : Word) (hwf : Memory.wf x.store.cells = true) :
    Memory.wf (y.wr32 (slotAddr e.index) w).store.cells = true ∧ (y.wr32 (slotAddr e.index) w).core = x.core ∧
      ∀ a, (e.kind = 0 → a < slotAddr e.index ∨ slotAddr e.index + 4 ≤ a) →
        (y.wr32 (slotAddr e.index) w).rd8 a = x.rd8 a := by
  have hy : Memory.wf y.store.cells = true := by rwa [hstore]
  refine ⟨?_, by rw [Lane.wr32_core, hcore], fun a ha => ?_⟩
  · rw [Lane.wr32_store]
    exact Store.putList_wf hy _ _
  · rw [Lane.wr32_keepsOutside hy _ _ a (ha hkind), Lane.rd8, hstore]
    rfl

/-- A change that leaves store and core. -/
theorem touches_nothing {x y : Lane} {e : PkgEntry} (hstore : y.store = x.store) (hcore : y.core = x.core)
    (hwf : Memory.wf x.store.cells = true) : Memory.wf y.store.cells = true ∧ y.core = x.core ∧
      ∀ a, (e.kind = 0 → a < slotAddr e.index ∨ slotAddr e.index + 4 ≤ a) → y.rd8 a = x.rd8 a :=
  ⟨by rwa [hstore], hcore, fun a _ => by rw [Lane.rd8, hstore]; rfl⟩

theorem touches_parameter {e : PkgEntry} (h : e.kind = 0) : TouchesSlot (fun x => x.wr32 (slotAddr e.index) e.new) e :=
  fun _ hwf => touches_store rfl rfl h _ hwf

theorem touches_force {e : PkgEntry} (h : e.kind = 0 ∨ e.kind = 1) : TouchesSlot (fun x => x.force e) e := by
  intro x hwf
  unfold Lane.force
  dsimp only
  split
  · exact touches_nothing rfl rfl hwf
  · next hne => exact touches_store rfl rfl (h.resolve_right hne) _ hwf

theorem touches_unforce {e : PkgEntry} (h : e.kind = 0 ∨ e.kind = 1) : TouchesSlot (fun x => x.unforce false e) e := by
  intro x hwf
  unfold Lane.unforce
  dsimp only
  split
  · exact touches_nothing rfl rfl hwf
  · split
    · exact touches_nothing rfl rfl hwf
    · next hne => exact touches_store rfl rfl (h.resolve_right hne) _ hwf

/-- The entries of a package, one after another, store into their slots alone. -/
theorem foldl_touches {step : Lane → PkgEntry → Lane} {es : List PkgEntry}
    (h : ∀ e ∈ es, TouchesSlot (fun x => step x e) e) (x : Lane) (hwf : Memory.wf x.store.cells = true) :
    Memory.wf (es.foldl step x).store.cells = true ∧ (es.foldl step x).core = x.core ∧
      ∀ a, (∀ e ∈ es, e.kind = 0 → a < slotAddr e.index ∨ slotAddr e.index + 4 ≤ a) →
        (es.foldl step x).rd8 a = x.rd8 a := by
  induction es generalizing x with
  | nil => exact ⟨hwf, rfl, fun _ _ => rfl⟩
  | cons e es ih =>
    obtain ⟨hwf', hcore, hout⟩ := h e List.mem_cons_self x hwf
    obtain ⟨hwf'', hcore', hout'⟩ := ih (fun f hf => h f (List.mem_cons_of_mem _ hf)) _ hwf'
    refine ⟨hwf'', hcore'.trans hcore, fun a ha => ?_⟩
    rw [List.foldl_cons, hout' a fun f hf => ha f (List.mem_cons_of_mem _ hf), hout a (ha e List.mem_cons_self)]

/-! What a lane holds of the target of an entry. -/

/-- The word of the slot that an entry names, and the forces of its target. -/
def Lane.held (x : Lane) (e : PkgEntry) : Option Word × List Forced :=
  (if e.kind = 0 then some (x.rd32 (slotAddr e.index)) else none, x.change.forces.filter (·.target = e.target))

section

variable {x y : Lane} {e : PkgEntry}

theorem Lane.slot_of_held (h : y.held e = x.held e) (hk : e.kind = 0) :
    y.rd32 (slotAddr e.index) = x.rd32 (slotAddr e.index) := by
  have h1 := congrArg Prod.fst h
  simpa [Lane.held, hk] using h1

theorem Lane.forces_of_held (h : y.held e = x.held e) :
    y.change.forces.filter (·.target = e.target) = x.change.forces.filter (·.target = e.target) :=
  (congrArg Prod.snd h :)

theorem Lane.mem_forces_of_held (h : y.held e = x.held e) {f : Forced} (hf : f.target = e.target) :
    f ∈ y.change.forces ↔ f ∈ x.change.forces := by
  have hmem (z : Lane) : f ∈ z.change.forces.filter (·.target = e.target) ↔ f ∈ z.change.forces := by simp [hf]
  rw [← hmem y, Lane.forces_of_held h, hmem x]

theorem Change.forced_iff (c : Change) (w : Word) : c.forced w = true ↔ ∃ f ∈ c.forces, f.target = w := by
  simp [Change.forced]

theorem Lane.forced_of_held (h : y.held e = x.held e) : y.change.forced e.target = x.change.forced e.target := by
  rw [Bool.eq_iff_iff, Change.forced_iff, Change.forced_iff]
  exact exists_congr fun f => and_congr_left fun hf => Lane.mem_forces_of_held h hf

theorem Lane.find_of_held (h : y.held e = x.held e) : y.change.forces.find? (·.target = e.target) =
    x.change.forces.find? (·.target = e.target) := by
  rw [← List.head?_filter, ← List.head?_filter, Lane.forces_of_held h]

end

/-- A change of a lane that leaves what it holds of the targets apart from one. -/
def LeavesApart (step : Lane → Lane) (f : PkgEntry) : Prop :=
  ∀ (x : Lane) (e : PkgEntry), Memory.wf x.store.cells = true → e.Apart f → (step x).held e = x.held e

/-- The slots of two entries apart do not overlap. -/
theorem slots_apart {e f : PkgEntry} (h : e.Apart f) (he : e.kind = 0) (hf : f.kind = 0) (k : Nat) :
    slotAddr e.index ≤ k → k < slotAddr e.index + 4 → k < slotAddr f.index ∨ slotAddr f.index + 4 ≤ k := by
  have := h.2 he hf
  unfold slotAddr
  omega

/-- A change that stores into one slot, and leaves the forces of the other targets, leaves what those hold. -/
theorem leavesApart_of_touches {step : Lane → Lane} {f : PkgEntry} (ht : TouchesSlot step f)
    (hforces : ∀ (x : Lane) (w : Word), w ≠ f.target →
      (step x).change.forces.filter (·.target = w) = x.change.forces.filter (·.target = w)) : LeavesApart step f := by
  intro x e hwf hapart
  obtain ⟨-, -, hout⟩ := ht x hwf
  have hslot : e.kind = 0 → (step x).rd32 (slotAddr e.index) = x.rd32 (slotAddr e.index) := fun he =>
    Lane.rd32_congr fun k h1 h2 => hout k fun hf => slots_apart hapart he hf k h1 h2
  rw [Lane.held, Lane.held, hforces x _ hapart.1]
  split
  · next he => rw [hslot he]
  · rfl

/-- After the entries of a package, a target holds what its own entry made of what it held before. -/
theorem foldl_held {step : Lane → PkgEntry → Lane} {es : List PkgEntry} (hapart : es.Pairwise PkgEntry.Apart)
    (ht : ∀ e ∈ es, TouchesSlot (fun x => step x e) e) (hl : ∀ e ∈ es, LeavesApart (fun x => step x e) e) (x : Lane)
    (hwf : Memory.wf x.store.cells = true) :
    (∀ e, (∀ f ∈ es, e.Apart f) → (es.foldl step x).held e = x.held e) ∧
      ∀ e ∈ es, ∃ y : Lane, Memory.wf y.store.cells = true ∧ y.held e = x.held e ∧
        (es.foldl step x).held e = (step y e).held e := by
  induction es generalizing x with
  | nil => exact ⟨fun _ _ => rfl, fun e he => absurd he List.not_mem_nil⟩
  | cons f es ih =>
    obtain ⟨hf, hes⟩ := List.pairwise_cons.mp hapart
    obtain ⟨hwf', -, -⟩ := ht f List.mem_cons_self x hwf
    obtain ⟨hkeep, hmade⟩ := ih hes (fun e he => ht e (List.mem_cons_of_mem _ he))
      (fun e he => hl e (List.mem_cons_of_mem _ he)) (step x f) hwf'
    have hleaves (e : PkgEntry) (he : e.Apart f) : (step x f).held e = x.held e := hl f List.mem_cons_self x e hwf he
    refine ⟨fun e he => ?_, fun e he => ?_⟩
    · rw [List.foldl_cons, hkeep e fun g hg => he g (List.mem_cons_of_mem _ hg), hleaves e (he f List.mem_cons_self)]
    · rcases List.mem_cons.mp he with rfl | he
      · exact ⟨x, hwf, rfl, hkeep e hf⟩
      · obtain ⟨y, hy, hheld, hfold⟩ := hmade e he
        exact ⟨y, hy, hheld.trans (hleaves e (hf e he).symm), hfold⟩

/-! The three kinds of entry. -/

theorem leavesApart_parameter {e : PkgEntry} (h : e.kind = 0) :
    LeavesApart (fun x => x.wr32 (slotAddr e.index) e.new) e :=
  leavesApart_of_touches (touches_parameter h) fun x w _ => by rw [Lane.wr32_change]

/-- The forces of a lane after an entry of a FORCE package (R200). -/
theorem Lane.force_forces (x : Lane) (e : PkgEntry) : ∃ v, (x.force e).change.forces =
    (if x.change.forced e.target then
      x.change.forces.map (fun f => if f.target = e.target then { f with value := e.new } else f)
    else x.change.forces ++ [{ target := e.target, value := e.new, previous := v }]) ∧
    (e.kind = 0 → v = x.rd32 (slotAddr e.index)) := by
  unfold Lane.force
  dsimp only
  split
  · next hk => exact ⟨_, rfl, fun h => absurd h (by omega)⟩
  · next hk => exact ⟨_, by rw [Lane.wr32_change], fun _ => rfl⟩

theorem filter_map_other {fs : List Forced} {t w v : Word} (h : w ≠ t) :
    (fs.map (fun f => if f.target = t then { f with value := v } else f)).filter (·.target = w) =
      fs.filter (·.target = w) := by
  induction fs with
  | nil => rfl
  | cons f fs ih =>
    by_cases ht : f.target = t
    · have hne : ¬ f.target = w := fun hw => h (hw.symm.trans ht)
      simp [ht, ih, Ne.symm h]
    · simp [ht, List.filter_cons, ih]

theorem leavesApart_force {e : PkgEntry} (h : e.kind = 0 ∨ e.kind = 1) : LeavesApart (fun x => x.force e) e := by
  refine leavesApart_of_touches (touches_force h) fun x w hw => ?_
  obtain ⟨v, hforces, -⟩ := x.force_forces e
  rw [hforces]
  split
  · exact filter_map_other hw
  · simp [Ne.symm hw]

/-- The force that an entry makes or replaces (R200). -/
theorem Lane.force_made (x : Lane) (e : PkgEntry) : ∃ f ∈ (x.force e).change.forces, f.target = e.target ∧
    f.value = e.new ∧ (x.change.forced e.target = false → e.kind = 0 → f.previous = x.rd32 (slotAddr e.index)) := by
  obtain ⟨v, hforces, hv⟩ := x.force_forces e
  rw [hforces]
  cases hforced : x.change.forced e.target with
  | true =>
    obtain ⟨f, hf, ht⟩ := (Change.forced_iff _ _).mp hforced
    exact ⟨{ f with value := e.new }, List.mem_map.mpr ⟨f, hf, if_pos ht⟩, ht, rfl, by simp⟩
  | false => exact ⟨_, List.mem_append_right _ (List.mem_singleton.mpr rfl), rfl, rfl, fun _ => hv⟩

theorem Lane.force_slot {x : Lane} {e : PkgEntry} (hwf : Memory.wf x.store.cells = true) (hk : e.kind = 0) :
    (x.force e).rd32 (slotAddr e.index) = e.new := by
  unfold Lane.force
  dsimp only
  rw [if_neg (by omega)]
  generalize slotAddr e.index = a
  exact Lane.rd32_wr32_change hwf _ a _

/-- The forces of a lane after an entry of an UNFORCE package (R200). -/
theorem Lane.unforce_forces (x : Lane) (e : PkgEntry) :
    (x.unforce false e).change.forces = x.change.forces.filter (·.target ≠ e.target) := by
  unfold Lane.unforce
  split
  · next hnone =>
    rw [List.find?_eq_none] at hnone
    refine (List.filter_eq_self.mpr fun f hf => ?_).symm
    simpa using hnone f hf
  · dsimp only
    split
    · rfl
    · rw [Lane.wr32_change]

theorem leavesApart_unforce {e : PkgEntry} (h : e.kind = 0 ∨ e.kind = 1) :
    LeavesApart (fun x => x.unforce false e) e := by
  refine leavesApart_of_touches (touches_unforce h) fun x w hw => ?_
  rw [Lane.unforce_forces, List.filter_filter]
  refine List.filter_congr fun f _ => ?_
  by_cases hf : f.target = w
  · simp [hf, hw]
  · simp [hf]

theorem Lane.unforce_slot {x : Lane} {e : PkgEntry} {f : Forced} (hwf : Memory.wf x.store.cells = true)
    (hf : x.change.forces.find? (·.target = e.target) = some f) (hk : e.kind = 0) :
    (x.unforce false e).rd32 (slotAddr e.index) = f.previous := by
  unfold Lane.unforce
  rw [hf]
  dsimp only
  rw [if_neg (by omega)]
  generalize slotAddr e.index = a
  exact Lane.rd32_wr32_change hwf _ a _

end Sys2Proof.Machine

/-! A package applied by the serving lanes (R191, R192). -/

namespace Sys2Proof.Machine

open Sys2Proof.Safety

/-! A package applied by one lane. -/

/-- The bytes that a package leaves in a lane of a sound store: all outside the slots that it names. -/
def LeavesOutside (b : List Byte) (x y : Lane) : Prop :=
  y.core = x.core ∧ ∀ a, (∀ e ∈ pkgEntries b, e.kind = 0 → a < slotAddr e.index ∨ slotAddr e.index + 4 ≤ a) →
    y.rd8 a = x.rd8 a

section

variable {b : List Byte} (hb : pkgFormat b = true) (x : Lane) (hwf : Memory.wf x.store.cells = true)

/-- What an entry of a PARAMETER package stores (R191). -/
def Lane.setSlot (x : Lane) (e : PkgEntry) : Lane := x.wr32 (slotAddr e.index) e.new

theorem foldl_setSlot_rest (es : List PkgEntry) (x : Lane) : (es.foldl Lane.setSlot x).change = x.change ∧
    (es.foldl Lane.setSlot x).meas = x.meas :=
  ⟨foldl_keep Lane.change _ (fun x _ => x.wr32_change _ _) es x,
    foldl_keep Lane.meas _ (fun x _ => x.wr32_meas _ _) es x⟩

/-- What a PARAMETER package changes in a lane beside the core and the store (R191). -/
theorem Lane.applyPackage_parameter (hk : pkgKind b = 1) :
    (x.applyPackage b false).core = ((pkgEntries b).foldl Lane.setSlot x).core ∧
      (x.applyPackage b false).store = ((pkgEntries b).foldl Lane.setSlot x).store ∧
      (x.applyPackage b false).change.lastSeq = pkgWord b 0x0C ∧
      (x.applyPackage b false).change.forces = x.change.forces ∧
      (x.applyPackage b false).meas = x.meas.extendNow 3 (sha512 (b.take (pkgLength b))) := by
  obtain ⟨hchange, hmeas⟩ := foldl_setSlot_rest (pkgEntries b) x
  have heq : x.applyPackage b false =
      { (x.writeParameters b).postSecure [(0x80000000 : Word) ||| place (pkgCount b) 0, pkgWord b 0x0C] with
        change := { (x.writeParameters b).change with
          feeds := [(0x54000000 : Word) ||| place (pkgCount b) 0, pkgWord b 0x0C] } } := by
    unfold Lane.applyPackage
    rw [hk]
    rfl
  rw [heq]
  refine ⟨rfl, rfl, rfl, ?_, ?_⟩
  · exact (congrArg Change.forces hchange :)
  · exact (congrArg (fun m : Measure => m.extendNow 3 (sha512 (b.take (pkgLength b)))) hmeas :)

theorem Lane.applyPackage_stop (hk : pkgKind b = 2) :
    x.applyPackage b false = { x with change := { x.change with lastSeq := pkgWord b 0x0C } } := by
  unfold Lane.applyPackage
  rw [hk]
  rfl

theorem Lane.applyPackage_activate (hk : pkgKind b = 3) : x.applyPackage b false =
    ({ x with change := { x.change with lastSeq := pkgWord b 0x0C, swapWait := some x.tb.t0 } }).postSecure
      [(0x82000000 : Word) ||| (x.cycleLo &&& 0xFFFFFF)] := by
  unfold Lane.applyPackage
  rw [hk]
  rfl

theorem Lane.applyPackage_force (hk : pkgKind b = 4) :
    x.applyPackage b false = (pkgEntries b).foldl Lane.force x := by
  unfold Lane.applyPackage
  rw [hk]
  rfl

theorem Lane.applyPackage_unforce (hk : pkgKind b = 5) :
    x.applyPackage b false = (pkgEntries b).foldl (fun y e => y.unforce false e) x := by
  unfold Lane.applyPackage
  rw [hk]
  rfl

include hb hwf

/-- A PARAMETER package gives each of its slots the new value (R191). -/
theorem Lane.parameter_sets (hk : pkgKind b = 1) : LeavesOutside b x (x.applyPackage b false) ∧
    ∀ e ∈ pkgEntries b, (x.applyPackage b false).rd32 (slotAddr e.index) = e.new := by
  obtain ⟨hcore, hstore, -, -, -⟩ := x.applyPackage_parameter hk
  have hkind := entries_kind hb hk
  have htouch : ∀ e ∈ pkgEntries b, TouchesSlot (fun x => x.setSlot e) e := fun e he => touches_parameter (hkind e he)
  have hleave : ∀ e ∈ pkgEntries b, LeavesApart (fun x => x.setSlot e) e := fun e he =>
    leavesApart_parameter (hkind e he)
  obtain ⟨-, hfoldCore, hout⟩ := foldl_touches htouch x hwf
  obtain ⟨-, hmade⟩ := foldl_held (entries_apart hb) htouch hleave x hwf
  have hrd8 (a : Nat) : (x.applyPackage b false).rd8 a = ((pkgEntries b).foldl Lane.setSlot x).rd8 a := by
    simp only [Lane.rd8, hstore]
  refine ⟨⟨hcore.trans hfoldCore, fun a ha => (hrd8 a).trans (hout a ha)⟩, fun e he => ?_⟩
  obtain ⟨y, hy, -, hfold⟩ := hmade e he
  calc (x.applyPackage b false).rd32 (slotAddr e.index)
    _ = ((pkgEntries b).foldl Lane.setSlot x).rd32 (slotAddr e.index) := Lane.rd32_congr fun k _ _ => hrd8 k
    _ = (y.setSlot e).rd32 (slotAddr e.index) := Lane.slot_of_held hfold (hkind e he)
    _ = e.new := Lane.rd32_wr32 hy _ _

/-- A FORCE package puts the forced values in the slots and in the force table (R200). -/
theorem Lane.force_sets (hk : pkgKind b = 4) : LeavesOutside b x (x.applyPackage b false) ∧
    ∀ e ∈ pkgEntries b, (e.kind = 0 → (x.applyPackage b false).rd32 (slotAddr e.index) = e.new) ∧
      ∃ f ∈ (x.applyPackage b false).change.forces, f.target = e.target ∧ f.value = e.new ∧
        (x.change.forced e.target = false → e.kind = 0 → f.previous = x.rd32 (slotAddr e.index)) := by
  have hkind := entries_slot_or_input hb
  have htouch : ∀ e ∈ pkgEntries b, TouchesSlot (fun x => x.force e) e := fun e he => touches_force (hkind e he)
  have hleave : ∀ e ∈ pkgEntries b, LeavesApart (fun x => x.force e) e := fun e he => leavesApart_force (hkind e he)
  obtain ⟨-, hcore, hout⟩ := foldl_touches htouch x hwf
  obtain ⟨-, hmade⟩ := foldl_held (entries_apart hb) htouch hleave x hwf
  rw [x.applyPackage_force hk]
  refine ⟨⟨hcore, hout⟩, fun e he => ?_⟩
  obtain ⟨y, hy, hheld, hfold⟩ := hmade e he
  refine ⟨fun hzero => (Lane.slot_of_held hfold hzero).trans (Lane.force_slot hy hzero), ?_⟩
  obtain ⟨f, hf, htarget, hvalue, hprevious⟩ := y.force_made e
  refine ⟨f, (Lane.mem_forces_of_held hfold htarget).mpr hf, htarget, hvalue, fun hforced hzero => ?_⟩
  rw [hprevious ((Lane.forced_of_held hheld).trans hforced) hzero, Lane.slot_of_held hheld hzero]

/-- An UNFORCE package restores what a target held and takes it from the table (R200). -/
theorem Lane.unforce_restores (hk : pkgKind b = 5) : LeavesOutside b x (x.applyPackage b false) ∧
    ∀ e ∈ pkgEntries b, (x.applyPackage b false).change.forced e.target = false ∧
      ∀ f ∈ x.change.forces.find? (fun f => f.target = e.target), e.kind = 0 →
        (x.applyPackage b false).rd32 (slotAddr e.index) = f.previous := by
  have hkind := entries_slot_or_input hb
  have htouch : ∀ e ∈ pkgEntries b, TouchesSlot (fun x => x.unforce false e) e := fun e he =>
    touches_unforce (hkind e he)
  have hleave : ∀ e ∈ pkgEntries b, LeavesApart (fun x => x.unforce false e) e := fun e he =>
    leavesApart_unforce (hkind e he)
  obtain ⟨-, hcore, hout⟩ := foldl_touches htouch x hwf
  obtain ⟨-, hmade⟩ := foldl_held (entries_apart hb) htouch hleave x hwf
  rw [x.applyPackage_unforce hk]
  refine ⟨⟨hcore, hout⟩, fun e he => ?_⟩
  obtain ⟨y, hy, hheld, hfold⟩ := hmade e he
  constructor
  · rw [Lane.forced_of_held hfold, Change.forced, Lane.unforce_forces]
    simp
  · intro f hf hzero
    rw [Option.mem_def, ← Lane.find_of_held hheld] at hf
    exact (Lane.slot_of_held hfold hzero).trans (Lane.unforce_slot hy hf hzero)

end

end Sys2Proof.Machine

/-! The accepted package at its cycle (R191, R192, R197). -/

namespace Sys2Proof.Machine

open Sys2Proof.Safety

/-- A lane that takes no package any more. -/
def Lane.settled (x : Lane) : Lane := { x with change := { x.change with pend := none } }

theorem Lane.settled_id {x : Lane} (h : x.change.pend = none) : x.settled = x := by
  obtain ⟨core, store, engine, tb, cyc, vote, blk, change⟩ := x
  obtain ⟨pend, lastSeq⟩ := change
  subst h
  rfl

section

variable (s : State)

theorem State.servingLanes_nodup : s.servingLanes.Nodup := LaneId.list_nodup.filter _

theorem State.mem_servingLanes {l : LaneId} : l ∈ s.servingLanes ↔ s.serves l = true := by
  simp [State.servingLanes, State.serves, LaneId.mem_list]

/-- The serving lanes changed alike, one after another. -/
theorem State.foldl_serving_lane (f : Lane → Lane) (l : LaneId) :
    (s.servingLanes.foldl (fun s l => s.updLane l f) s).lane l = if s.serves l then f (s.lane l) else s.lane l := by
  have h := State.lane_foldl_updLane (F := fun _ _ => f) (fun _ _ _ => rfl) s.servingLanes_nodup s l
  simpa only [s.mem_servingLanes] using h

/-- Lanes that change alike leave the rest of the state. -/
theorem State.foldl_updLane_rest {α : Type} (g : State → α) (hg : ∀ s v, g { s with lanes := v } = g s)
    (f : Lane → Lane)
    (ls : List LaneId) : g (ls.foldl (fun s l => s.updLane l f) s) = g s := by
  refine foldl_keep g _ (fun t l => ?_) ls s
  cases l <;> exact hg t _

/-- The serving lanes apply a package, the others forget it, and the staging buffer is released (R188, R191). -/
def State.takeEffect (b : List Byte) : State :=
  (s.servingLanes.foldl (fun s l => s.updLane l (·.applyPackage b false)) s).dropPending.releaseBuffer

theorem State.recordForces_unrecorded (b : List Byte) :
    (s.recordForces b (fun s ps => s.recM .forced ps)).unrecorded = s.unrecorded := by
  unfold State.recordForces
  split
  · exact foldl_keep State.unrecorded _ (fun t e => t.recM_unrecorded _ _) _ s
  · rfl

theorem State.applyNow_permitted {p : PendingChange} (h : s.kindPermitted (pkgKind p.bytes) = true) :
    (s.applyNow p).unrecorded = (s.takeEffect p.bytes).unrecorded := by
  have hforces := (s.takeEffect p.bytes).recordForces_unrecorded p.bytes
  unfold State.applyNow
  simp only [h, Bool.not_true, Bool.false_eq_true, if_false]
  split <;> exact (State.recM_unrecorded _ _ _).trans hforces

theorem State.takeEffect_lane (b : List Byte) (l : LaneId) : (s.takeEffect b).lane l =
    (if s.serves l then (s.lane l).applyPackage b false else s.lane l).settled := by
  rw [← s.foldl_serving_lane (·.applyPackage b false)]
  exact State.lane_mapLanes ..

/-- A package applied leaves all but the lanes and the staging buffer (R191). -/
theorem State.takeEffect_rest {α : Type} (b : List Byte) (g : State → α) (hlanes : ∀ s v, g { s with lanes := v } = g s)
    (hchg : ∀ s v, g { s with chg := v } = g s) : g (s.takeEffect b) = g s :=
  (hchg _ _).trans ((hlanes _ _).trans (s.foldl_updLane_rest g hlanes _ _))

theorem State.applyNow_busy (p : PendingChange) : (s.applyNow p).chg.busy = false := by
  cases h : s.kindPermitted (pkgKind p.bytes) with
  | true => exact (congrArg (fun t : State => t.chg.busy) (s.applyNow_permitted h) :)
  | false =>
    unfold State.applyNow
    simp only [h, Bool.not_false, if_true]
    rfl

/-- A package whose kind is no longer permitted is removed from a serving lane, which keeps store and forces (R192). -/
theorem Lane.removePackage_keeps (x : Lane) (v : Nat) : (x.removePackage v).change.pend = none ∧
    (x.removePackage v).store = x.store ∧ (x.removePackage v).change.forces = x.change.forces := by
  unfold Lane.removePackage
  split
  · next h => exact ⟨h, rfl, rfl⟩
  · exact ⟨rfl, rfl, rfl⟩

theorem State.applyNow_refused_lane {p : PendingChange} (h : s.kindPermitted (pkgKind p.bytes) = false) {l : LaneId}
    (hl : s.serves l = true) : (s.applyNow p).lane l = (s.lane l).removePackage 0x0B := by
  have hlane := s.foldl_serving_lane (·.removePackage 0x0B) l
  rw [if_pos hl] at hlane
  rw [← hlane]
  unfold State.applyNow
  simp only [h, Bool.not_false, if_true]
  exact State.recM_lane ..

end

section

variable {s : State} {p : PendingChange}

/-- A serving lane after a permitted package (R191). -/
theorem State.applyNow_lane (h : s.kindPermitted (pkgKind p.bytes) = true) {l : LaneId} (hl : s.serves l = true) :
    (s.applyNow p).lane l = ((s.lane l).applyPackage p.bytes false).settled := by
  have hlane := s.takeEffect_lane p.bytes l
  rw [if_pos hl] at hlane
  rw [← hlane]
  exact (congrArg (fun t : State => t.lane l) (s.applyNow_permitted h) :)

theorem State.applyNow_rest {α : Type} (h : s.kindPermitted (pkgKind p.bytes) = true) (g : State → α)
    (hrec : ∀ s : State, g s.unrecorded = g s) (hlanes : ∀ s v, g { s with lanes := v } = g s)
    (hchg : ∀ s v, g { s with chg := v } = g s) : g (s.applyNow p) = g s := by
  rw [← hrec, s.applyNow_permitted h, hrec]
  exact s.takeEffect_rest _ g hlanes hchg

theorem State.applyNow_md (h : s.kindPermitted (pkgKind p.bytes) = true) : (s.applyNow p).md = s.md :=
  State.applyNow_rest h State.md (fun _ => rfl) (fun _ _ => rfl) (fun _ _ => rfl)

theorem State.applyDue_eq {kinds : List Nat} (hpend : s.pendingPackage = some p) (hposted : p.posted = true)
    (hverdict : p.verdict = some (0, 0)) (hkind : pkgKind p.bytes ∈ kinds) (hreached : s.cycleReached p.apply = true) :
    s.applyDue kinds = s.applyNow p := by
  rw [State.applyDue, hpend]
  simp [hposted, hverdict, hkind, hreached]

/-- The commands that apply a package at its cycle, with the kind of each (R191). -/
theorem exec_applyDue (hcycle : s.inVoteCycle = true) (hstep : s.md.step = .agreement) {i : Instr} {k : Nat}
    (hi : (i = .parameter ∧ k = 1) ∨ (i = .activate ∧ k = 3) ∨ (i = .force ∧ k = 4) ∨ (i = .unforce ∧ k = 5)) :
    exec i s = .next (s.applyDue [k]) := by
  have hdue {o : Host.Outcome State Fault Refusal}
      (h : o = ok (if s.inVoteCycle && s.md.step = .agreement then s.applyDue [k] else s)) :
      o = .next (s.applyDue [k]) := by
    rw [h, hcycle, hstep]
    rfl
  obtain ⟨rfl, rfl⟩ | ⟨rfl, rfl⟩ | ⟨rfl, rfl⟩ | ⟨rfl, rfl⟩ := hi <;> exact hdue rfl

theorem reaches_of_tb {u t : State} {target : Nat} (h : t.tb = u.tb) (hu : Reaches s u target) :
    Reaches s t target := by
  unfold Reaches
  rw [h]
  exact hu

/-- IMAGE_SWAP_TIMEOUT ends the wait of every lane (R197). -/
theorem exec_imageSwapTimeout {k : LaneId} {at0 : DWord} (hk : s.servingLanes.head? = some k)
    (hwait : (s.lane k).change.swapWait = some at0) :
    ∃ t, exec .imageSwapTimeout s = .next t ∧ t.md = s.md ∧ Reaches s t (at0.toNat + 500000000) ∧
      t.svc.activating = false ∧ ∀ l, (t.lane l).change.swapWait = none ∧ (t.lane l).store = (s.lane l).store := by
  have hreaches := s.reaches_advanceTo (at0.toNat + 500000000)
  obtain ⟨ls, hls⟩ : ∃ ls, s.servingLanes = k :: ls := List.head?_eq_some_iff.mp hk
  show ∃ t, execImageSwapTimeout s = .next t ∧ _
  rw [execImageSwapTimeout, hls]
  dsimp only
  rw [hwait]
  have hadvance : (s.advanceTo (at0.toNat + 500000000)).lane = s.lane := rfl
  have hmd : (s.advanceTo (at0.toNat + 500000000)).md = s.md := rfl
  dsimp only
  generalize s.advanceTo (at0.toNat + 500000000) = u at hreaches hadvance hmd
  generalize hv : u.mapLanes (fun x => { x with change := { x.change with swapWait := none } }) = v
  have hvmd : v.md = u.md := by rw [← hv]; rfl
  have hvtb : v.tb = u.tb := by rw [← hv]; rfl
  have hvlane (l : LaneId) : v.lane l = { u.lane l with change := { (u.lane l).change with swapWait := none } } := by
    rw [← hv]
    exact State.lane_mapLanes ..
  refine ⟨_, rfl, ?_, ?_, rfl, fun l => ?_⟩
  · exact (State.recM_md v _ _).trans (hvmd.trans hmd)
  · have htb : (v.recM .imageSwapTimeout).tb = u.tb := (State.recM_tb v _ _).trans hvtb
    exact reaches_of_tb htb hreaches
  · have hlane : (v.recM .imageSwapTimeout).lane l = _ := (State.recM_lane v _ _ l).trans (hvlane l)
    exact ⟨(congrArg (fun x : Lane => x.change.swapWait) hlane :),
      ((congrArg Lane.store hlane :).trans (congrArg (fun f => (f l).store) hadvance) :)⟩

end

end Sys2Proof.Machine

/-! The output cut at which an accepted STOP package takes effect (R102, R196). -/

namespace Sys2Proof.Machine

open Sys2Proof.Safety

/-! What the end of the gap leaves. -/

/-- What an abandoned gap duty leaves of a lane. -/
structure Footing where
  store : Store
  pc : Word
  g : Vector Word 32
  tb : TbView
  cyc : Cycle
  change : Change
  vio : VioLane

/-- The footing of a lane. -/
def Lane.footing (x : Lane) : Footing :=
  { store := x.store, pc := x.core.pc, g := x.core.g, tb := x.tb, cyc := x.cyc, change := x.change, vio := x.vio }

/-- What a cut turns on beside the outputs. -/
structure CutView where
  md : ModuleSt
  reset : Bool
  chg : ChgBuf
  armed : Bool
  shadowBad : Bool
  failed : Bool
  lane : LaneId → Footing

/-- The cut view of a state. -/
def State.cutView (s : State) : CutView :=
  { md := s.md, reset := s.guard.pendingReset.isSome, chg := s.chg, armed := s.inject.armed.isSome
    shadowBad := s.resync.shadowBad, failed := s.resync.failed, lane := fun l => (s.lane l).footing }

section

variable (s : State)

theorem State.recM_cutView (name : RecName) (ps : List Word) : (s.recM name ps).cutView = s.cutView :=
  (congrArg State.cutView (s.recM_unrecorded name ps) :)

theorem State.mapLanes_cutView {f : Lane → Lane} (h : ∀ x, (f x).footing = x.footing) :
    (s.mapLanes f).cutView = s.cutView := by
  simp only [State.cutView, State.lane_mapLanes, h]
  rfl

theorem State.bistAbort_cutView : s.bistAbort.cutView = s.cutView := by
  have hslice (l : LaneId) (i n : Nat) (x : Lane) :
      (x.noteSlice l i x.bist.misr x.bist.time .aborted n).footing = x.footing := rfl
  have hshared (q n : Nat) (x : Lane) : (x.noteShared q .aborted n).footing = x.footing := rfl
  unfold State.bistAbort
  extract_lets n m t
  have ht : t.cutView = s.cutView := by
    simp only [t]
    split
    · rfl
    · exact (State.recM_cutView _ _ _).trans (s.mapLanes_cutView (hslice _ _ _))
  clear_value t
  split
  · exact ht
  · exact (State.recM_cutView _ _ _).trans ((t.mapLanes_cutView (hshared _ _)).trans ht)

theorem State.closeGap_cutView : s.closeGap.cutView = s.cutView := by
  have habandon : s.abandonGap.cutView = s.cutView := by
    unfold State.abandonGap
    refine (State.mapLanes_cutView _ ?_).trans s.bistAbort_cutView
    exact fun _ => rfl
  unfold State.closeGap
  dsimp only
  split
  · exact habandon
  · exact habandon

end

/-! The cut by its steps (R102). -/

/-- The state once the latch of the vote and a failed attempt have had their effect (R218, R234). -/
def State.cutLatched (u : State) : State := { u with md := { u.md with firstRun := false } }.applyLatch.endAttempt

/-- The cut from the end of the gap on (R102). -/
def State.cutFrom (u : State) : State :=
  let es := u.cutEvents ++ u.stopEvent u.cutEvents
  let w := ((u.cutLatched.stopPackage es).decideMode es).nextPhase
  if w.md.mode = .startupTest || w.guard.pendingReset.isSome then w.stageLatch.clearCycle
  else (((w.applyOutputs u.md.vital).releasePdus u.md.vital u.lateCopies).clearCycle).lapseByMode

/-- The cut of a voted cycle outside SAFE_STOP, with no injection (R102). -/
theorem State.cut_eq {s u : State} (hu : (s.advanceTo s.cutInstant).closeGap = u) (hstep : s.md.step = .voted)
    (hmode : s.md.mode ≠ .safeStop) (humode : u.md.mode ≠ .safeStop) (hc : Calm u)
    (hw : u.cutLatched.md.mode ≠ .safeStop) :
    s.cut = u.cutFrom := by
  have hgap : (if (s.advanceTo s.cutInstant).md.step = .voted && (s.advanceTo s.cutInstant).md.mode ≠ .safeStop then
      (s.advanceTo s.cutInstant).closeGap else s.advanceTo s.cutInstant) = u := by
    rw [← hu]
    exact if_pos (by simpa using ⟨hstep, hmode⟩)
  unfold State.cut
  extract_lets v0 v vital late v1 es v2 v3 v4 w
  have hv : v = u := hgap
  have hv1 : v1 = u := by
    simp only [v1, hv, State.spoiled_calm hc, Bool.and_false, Bool.false_eq_true, if_false]
  have hes : es = u.cutEvents ++ u.stopEvent u.cutEvents := by
    simp only [es, hv1, if_neg humode]
  have hv4 : v4 = u.cutLatched := by
    simp only [v4, v3, v2, hv1]
    rfl
  have hwlast : w = ((u.cutLatched.stopPackage es).decideMode es).nextPhase := by
    simp only [w, hv4, if_neg hw]
  rw [hwlast, hes]
  simp only [vital, late, hv]
  rfl

/-! The cut of a RUN cycle that continues. -/

section

variable {u : State} {p : PendingChange}

/-- A RUN cycle that goes on brings no event of its own (R25). -/
theorem State.cutEvents_nil (hmode : u.md.mode = .run) (hgate : u.md.gateGm = .cont) (hevents : u.md.events = [])
    (hlanes : ∀ l, (u.lane l).cyc.events = []) (hbad : u.resync.shadowBad = false) (hfailed : u.resync.failed = false) :
    u.cutEvents = [] := by
  have hfencing : u.fencing = false := by
    unfold State.fencing
    rw [hgate]
    cases u.md.voted <;> rfl
  have hretained : u.retainedEvents = [] := by
    unfold State.retainedEvents
    split
    · exact hevents
    · rw [hlanes, hevents]
      rfl
  have hrejoin : u.rejoinEvent = [] := by
    unfold State.rejoinEvent
    rw [hgate]
    cases u.md.voted <;> rfl
  simp [State.cutEvents, hfencing, hretained, hrejoin, State.startEvent, hmode, hbad, hfailed]

theorem State.applyLatch_cont (hgate : u.md.gateGm = .cont) : u.applyLatch = u := by
  unfold State.applyLatch
  rw [hgate]
  split <;> rfl

theorem State.endAttempt_none (hbad : u.resync.shadowBad = false) (hfailed : u.resync.failed = false) :
    u.endAttempt = u := by
  simp [State.endAttempt, hbad, hfailed]

/-- The STOP command decides the mode where it is the only event (R25, R196). -/
theorem State.decideMode_stop (hmode : u.md.mode = .run) :
    u.deciding [.stopCommand] = some .stopCommand ∧ u.decideMode [.stopCommand] = u.endResync.setMode .stop := by
  have hdeciding : u.deciding [.stopCommand] = some .stopCommand := by
    simp [State.deciding, State.target, hmode, Mode.vital, firstEvent]
  refine ⟨hdeciding, ?_⟩
  unfold State.decideMode
  rw [hdeciding]
  rfl

/-- The lanes and the stage after the enables have reached it (R102, R163). -/
theorem State.applyOutputs_shows (u : State) (vital : Bool) : (u.applyOutputs vital).md = u.md ∧
    (u.applyOutputs vital).chg = u.chg ∧ (u.applyOutputs vital).inject.armed = u.inject.armed ∧
    (u.applyOutputs vital).stage.holdOff = !(vital && u.md.mode.vital) ∧
    ∀ l, (u.applyOutputs vital).lane l = (u.lane l).takeEnables := by
  have hpass {α : Type} (g : State → α) (hg : ∀ s i, g { s with inject := { s.inject with lasting := i } } = g s)
      (s : State) : g (LaneId.list.foldl (fun s l => s.passLasting 0x15 (some l)) s) = g s :=
    foldl_keep g _ (fun _ _ => hg _ _) _ s
  unfold State.applyOutputs
  generalize hm : u.mapLanes Lane.takeEnables = m
  have hmmd : m.md = u.md := by rw [← hm]; rfl
  have hmchg : m.chg = u.chg := by rw [← hm]; rfl
  have hmarmed : m.inject.armed = u.inject.armed := by rw [← hm]; rfl
  have hmlane (l : LaneId) : m.lane l = (u.lane l).takeEnables := by rw [← hm, State.lane_mapLanes]
  dsimp only
  have hpmd := hpass State.md (fun _ _ => rfl) m
  have hpchg := hpass State.chg (fun _ _ => rfl) m
  have hparmed := hpass (fun s => s.inject.armed) (fun _ _ => rfl) m
  have hplane (l : LaneId) := hpass (fun s => s.lane l) (fun _ _ => rfl) m
  generalize LaneId.list.foldl (fun s l => s.passLasting 0x15 (some l)) m = v at hpmd hpchg hparmed hplane
  have hhold : (v.md.mode.vital) = u.md.mode.vital := by rw [hpmd, hmmd]
  rw [hhold]
  unfold State.conduct State.stageLatch
  exact ⟨hpmd.trans hmmd, hpchg.trans hmchg, hparmed.trans hmarmed, rfl, fun l => (hplane l).trans (hmlane l)⟩

theorem State.endResync_cutView (u : State) : u.endResync.cutView = { u.cutView with failed := false } := by
  unfold State.endResync
  extract_lets time v
  have hv : v.cutView = u.cutView := by
    simp only [v]
    split
    · rfl
    · exact u.mapLanes_cutView fun _ => rfl
  clear_value v
  exact (congrArg (fun c : CutView => { c with failed := false }) hv :)

theorem State.lapseByMode_calm (hc : Calm u) : u.lapseByMode = u := by
  unfold State.lapseByMode
  rw [hc]

/-- The last step of a cut from the state in which its mode is decided (R102). -/
def State.cutCloses (w : State) (vital : Bool) (late : Option (List Pdu × List Pdu)) : State :=
  (((w.applyOutputs vital).releasePdus vital late).clearCycle).lapseByMode

/-- The end of a vital cycle in a mode that is not vital: the outputs are held off and no PDU is released (R102,
R120). -/
theorem State.cutCloses_shows {w : State} (hc : Calm w) (hmode : w.md.mode.vital = false)
    (late : Option (List Pdu × List Pdu)) :
    (w.cutCloses true late).chg = w.chg ∧ (w.cutCloses true late).md.mode = w.md.mode ∧
      (w.cutCloses true late).md.step = .idle ∧ (w.cutCloses true late).stage.holdOff = true ∧
      (w.cutCloses true late).md.released = [] ∧ (w.cutCloses true late).md.fenced = w.md.fenced ∧
      ∀ l, ((w.cutCloses true late).lane l).change = (w.lane l).change ∧
        ((w.cutCloses true late).lane l).store = (w.lane l).store ∧
        ((w.cutCloses true late).lane l).core = (w.lane l).core ∧
        ((w.cutCloses true late).lane l).vio = (w.lane l).takeEnables.vio := by
  obtain ⟨hmd, hchg, harmed, hhold, hlane⟩ := w.applyOutputs_shows true
  unfold State.cutCloses
  generalize w.applyOutputs true = o at hmd hchg harmed hhold hlane
  have hcalm : Calm ((o.releasePdus true late).clearCycle) := harmed.trans hc
  rw [State.lapseByMode_calm hcalm]
  have hlanes (l : LaneId) := State.lane_mapLanes (o.releasePdus true late).showServing l (fun x => { x with
    cyc := { x.cyc with events := [], initCalls := none, stopCmd := false }
    vote := { x.vote with release := none }
    reqSy := none })
  refine ⟨hchg, (congrArg ModuleSt.mode hmd :), rfl, hhold.trans (by rw [hmode]; rfl), ?_,
    (congrArg ModuleSt.fenced hmd :),
    fun l => ?_⟩
  · have hkeep : (o.md.mode.sendsPdus && !(true && !o.md.mode.vital)) = false := by
      rw [hmd, hmode]
      simp
    exact if_neg (by rw [hkeep]; simp)
  · have hl := hlanes l
    have hol : (o.releasePdus true late).showServing.lane l = (w.lane l).takeEnables := hlane l
    rw [hol] at hl
    exact ⟨(congrArg Lane.change hl :), (congrArg Lane.store hl :), (congrArg Lane.core hl :), (congrArg Lane.vio hl :)⟩

/-! The STOP package at the cut (R196). -/

/-- A RUN cycle that goes on and brings no event (R25). -/
structure State.GoesOn (u : State) : Prop where
  mode : u.md.mode = .run
  gate : u.md.gateGm = .cont
  events : u.md.events = []
  lanes : ∀ l, (u.lane l).cyc.events = []
  bad : u.resync.shadowBad = false
  failed : u.resync.failed = false
  reset : u.guard.pendingReset = none
  vital : u.md.vital = true
  calm : Calm u

/-- The state in which the mode is decided at the cut of a RUN cycle that goes on. -/
def State.unmarked (u : State) : State := { u with md := { u.md with firstRun := false } }

/-- The state in which STOP has been entered by a STOP package at a cut (R196). -/
def State.stopEntered (u : State) (p : PendingChange) : State := (u.unmarked.applyNow p).endResync.setMode .stop

theorem State.GoesOn.cutLatched_eq (hu : u.GoesOn) : u.cutLatched = u.unmarked :=
  (congrArg State.endAttempt (State.applyLatch_cont (u := u.unmarked) hu.gate)).trans
    (State.endAttempt_none (u := u.unmarked) hu.bad hu.failed)

theorem State.GoesOn.cutFrom_eq (hu : u.GoesOn) (hdue : u.stopDue = some p) :
    u.cutFrom = (u.stopEntered p).cutCloses true u.lateCopies := by
  have hkind : pkgKind p.bytes = 2 := by
    have := (Option.filter_eq_some_iff.mp hdue).2
    simp only [Bool.and_eq_true, decide_eq_true_eq] at this
    exact this.1.2
  have hes : u.cutEvents ++ u.stopEvent u.cutEvents = [.stopCommand] := by
    have hpermitted : u.kindPermitted 2 = true := by simp [State.kindPermitted, hu.mode]
    simp [State.cutEvents_nil hu.mode hu.gate hu.events hu.lanes hu.bad hu.failed, State.stopEvent, hdue, hpermitted]
  have hmode : u.unmarked.md.mode = .run := hu.mode
  have hpackage : u.unmarked.stopPackage [.stopCommand] = u.unmarked.applyNow p := by
    have hdue' : u.unmarked.stopDue = some p := hdue
    unfold State.stopPackage
    rw [hdue', (State.decideMode_stop hmode).1]
    exact if_neg (by simp)
  have hpermitted : u.unmarked.kindPermitted (pkgKind p.bytes) = true := by
    simp [hkind, State.kindPermitted, hmode]
  have happlied : (u.unmarked.applyNow p).md.mode = .run := by rw [State.applyNow_md hpermitted, hmode]
  have hguard : (u.unmarked.applyNow p).guard = u.guard :=
    State.applyNow_rest hpermitted State.guard (fun _ => rfl) (fun _ _ => rfl) (fun _ _ => rfl)
  have hnext : (u.stopEntered p).nextPhase = u.stopEntered p := if_pos (by simp [State.stopEntered, State.setMode])
  have hreset : (u.stopEntered p).guard.pendingReset = none :=
    (congrArg Guard.pendingReset (State.guard_of_ruling (State.endResync_ruling _)) :).trans
      ((congrArg Guard.pendingReset hguard).trans hu.reset)
  unfold State.cutFrom
  dsimp only
  rw [hes, hu.cutLatched_eq, hpackage, (State.decideMode_stop happlied).2]
  change (if (u.stopEntered p).nextPhase.md.mode = .startupTest || (u.stopEntered p).nextPhase.guard.pendingReset.isSome
    then (u.stopEntered p).nextPhase.stageLatch.clearCycle
    else (u.stopEntered p).nextPhase.cutCloses u.md.vital u.lateCopies) = _
  rw [hnext, hreset, hu.vital]
  exact if_neg (by simp [State.stopEntered, State.setMode])

/-- STOP entered by a STOP package: its sequence is the last applied, and the lanes stand as they did (R195, R196). -/
theorem State.GoesOn.stopEntered_shows (hu : u.GoesOn) (hkind : pkgKind p.bytes = 2) :
    Calm (u.stopEntered p) ∧ (u.stopEntered p).chg.busy = false ∧ (u.stopEntered p).md.mode = .stop ∧
      (u.stopEntered p).md.fenced = u.md.fenced ∧ ∀ l, u.serves l = true → ((u.stopEntered p).lane l).footing =
        { (u.lane l).footing with
          change := { (u.lane l).change with lastSeq := pkgWord p.bytes 0x0C, pend := none } } := by
  have hpermitted : u.unmarked.kindPermitted (pkgKind p.bytes) = true := by
    simp [hkind, State.kindPermitted, State.unmarked, hu.mode]
  have hview := State.endResync_cutView (u.unmarked.applyNow p)
  have hbusy := State.applyNow_busy u.unmarked p
  have hmd := State.applyNow_md hpermitted
  have harmed : (u.unmarked.applyNow p).inject.armed = u.inject.armed :=
    State.applyNow_rest hpermitted (fun s => s.inject.armed) (fun _ => rfl) (fun _ _ => rfl) (fun _ _ => rfl)
  have hlane (l : LaneId) (hl : u.serves l = true) := State.applyNow_lane (l := l) hpermitted hl
  unfold State.stopEntered
  generalize u.unmarked.applyNow p = v at hview hbusy hmd harmed hlane ⊢
  generalize v.endResync = w at hview ⊢
  have hcalm : Calm w := by
    have : w.inject.armed.isSome = v.inject.armed.isSome := congrArg CutView.armed hview
    rw [harmed, hu.calm] at this
    exact Option.not_isSome_iff_eq_none.mp (by simp [this])
  have hwmd : w.md = u.unmarked.md := (congrArg CutView.md hview :).trans hmd
  refine ⟨hcalm, ?_, rfl, (congrArg ModuleSt.fenced hwmd :), fun l hl => ?_⟩
  · exact (congrArg (fun c : CutView => c.chg.busy) hview :).trans hbusy
  · have hw : (w.lane l).footing = (v.lane l).footing := congrFun (congrArg CutView.lane hview) l
    refine hw.trans ?_
    rw [hlane l hl, Lane.applyPackage_stop _ hkind]
    rfl

/-- The cut of a RUN cycle that goes on, at which an accepted STOP package takes effect (R196). -/
theorem State.GoesOn.cutFrom_shows (hu : u.GoesOn) (hdue : u.stopDue = some p) (hkind : pkgKind p.bytes = 2) :
    u.cutFrom.chg.busy = false ∧ u.cutFrom.md.mode = .stop ∧ u.cutFrom.md.step = .idle ∧
      u.cutFrom.stage.holdOff = true ∧ u.cutFrom.md.released = [] ∧ u.cutFrom.md.fenced = u.md.fenced ∧
      ∀ l, u.serves l = true → (u.cutFrom.lane l).change.pend = none ∧
        (u.cutFrom.lane l).change.lastSeq = pkgWord p.bytes 0x0C ∧ (u.cutFrom.lane l).store = (u.lane l).store ∧
        (u.cutFrom.lane l).core.pc = (u.lane l).core.pc ∧ (u.cutFrom.lane l).core.g = (u.lane l).core.g ∧
        (u.cutFrom.lane l).vio.en = (u.lane l).cyc.enables.getD (u.lane l).vio.en := by
  obtain ⟨hcalm, hbusy, hmode, hfenced, hfooting⟩ := hu.stopEntered_shows hkind
  rw [hu.cutFrom_eq hdue]
  generalize u.stopEntered p = w at hcalm hbusy hmode hfenced hfooting
  obtain ⟨hchg, hmode', hstep, hhold, hreleased, hfenced', hlanes⟩ :=
    State.cutCloses_shows hcalm (by rw [hmode]; rfl) u.lateCopies
  refine ⟨by rw [hchg, hbusy], by rw [hmode', hmode], hstep, hhold, hreleased, by rw [hfenced', hfenced],
    fun l hl => ?_⟩
  obtain ⟨hchange, hstore, hcore, hvio⟩ := hlanes l
  obtain ⟨hfstore, hfpc, hfg, -, hfcyc, hfchange, hfvio⟩ := Footing.mk.inj (hfooting l hl)
  rw [hchange, hstore, hcore, hvio]
  refine ⟨congrArg Change.pend hfchange, congrArg Change.lastSeq hfchange, hfstore, hfpc, hfg, ?_⟩
  show (w.lane l).cyc.enables.getD (w.lane l).vio.en = _
  rw [hfcyc, hfvio]
  rfl

end

theorem State.withTime_cutView (s : State) (tb : Timebase) (n : Nat) :
    { s with tb := tb, guard := { s.guard with optime := n } }.cutView = s.cutView := rfl

theorem State.advanceTo_cutView (s : State) (n : Nat) : (s.advanceTo n).cutView = s.cutView :=
  s.withTime_cutView _ _

theorem exec_stop {s : State} (hv : s.voting = true) (hstep : s.md.step = .voted) (hdue : s.stopDue.isSome = true) :
    exec .stop s = .next s.cut := by
  show execStop s = _
  simp [execStop, hv, hstep, hdue, ok]

/-- What a STOP package needs to be due is in the cut view. -/
theorem State.stopDue_of_cutView {s u : State} (h : u.cutView = s.cutView) : u.stopDue = s.stopDue := by
  have hmd : u.md = s.md := congrArg CutView.md h
  have hlane (l : LaneId) : (u.lane l).footing = (s.lane l).footing := congrFun (congrArg CutView.lane h) l
  have hchange (l : LaneId) : (u.lane l).change = (s.lane l).change := congrArg Footing.change (hlane l)
  have htb (l : LaneId) : (u.lane l).tb = (s.lane l).tb := congrArg Footing.tb (hlane l)
  have hserving : u.servingLanes = s.servingLanes := by rw [State.servingLanes, hmd]; rfl
  have hpending : u.pendingPackage = s.pendingPackage := by
    unfold State.pendingPackage
    rw [hserving]
    split
    · rfl
    · exact congrArg Change.pend (hchange _)
  have hreached (a : Word) : u.cycleReached a = s.cycleReached a := by
    have hnow : u.cycleNow = s.cycleNow := by
      unfold State.cycleNow
      rw [hserving]
      split
      · exact congrArg (fun x : TbView => x.cycle.setWidth 32) (htb _)
      · exact congrArg (fun x : TbView => x.cycle.setWidth 32) (htb .A)
    rw [State.cycleReached, State.cycleLo, hnow]
    rfl
  simp only [State.stopDue, hpending, hreached]

end Sys2Proof.Machine

/-! Online change (R191, R196, R197, R200). -/

namespace Sys2Proof.Machine

open Sys2Proof.Safety

/-- The STOP package at the cut of a RUN cycle that goes on (R196). -/
theorem exec_stop_shows {s : State} {p : PendingChange} (hv : s.voting = true) (hstep : s.md.step = .voted)
    (hdue : s.stopDue = some p) (hkind : pkgKind p.bytes = 2) (hmode : s.md.mode = .run) (hgate : s.md.gateGm = .cont)
    (hvital : s.md.vital = true) (hevents : s.md.events = []) (hlanes : ∀ l, (s.lane l).cyc.events = [])
    (hbad : s.resync.shadowBad = false) (hfailed : s.resync.failed = false) (hreset : s.guard.pendingReset = none)
    (hc : Calm s) : ∃ t, exec .stop s = .next t ∧ t.chg.busy = false ∧ t.md.mode = .stop ∧ t.md.step = .idle ∧
      t.stage.holdOff = true ∧ t.md.released = [] ∧ t.md.fenced = s.md.fenced ∧ ∀ l, s.serves l = true →
        (t.lane l).change.pend = none ∧ (t.lane l).change.lastSeq = pkgWord p.bytes 0x0C ∧
        (t.lane l).store = (s.lane l).store ∧ (t.lane l).core.pc = (s.lane l).core.pc ∧
        (t.lane l).core.g = (s.lane l).core.g ∧
        (t.lane l).vio.en = (s.lane l).cyc.enables.getD (s.lane l).vio.en := by
  have hview : (s.advanceTo s.cutInstant).closeGap.cutView = s.cutView :=
    (State.closeGap_cutView _).trans (s.advanceTo_cutView _)
  have hcut (u : State) (hu : (s.advanceTo s.cutInstant).closeGap = u) (humode : u.md.mode = .run) (hcalm : Calm u)
      (hlatched : u.cutLatched = u.unmarked) : s.cut = u.cutFrom :=
    State.cut_eq hu hstep (by rw [hmode]; decide) (by rw [humode]; decide) hcalm
      (by rw [hlatched]; show u.md.mode ≠ _; rw [humode]; decide)
  generalize (s.advanceTo s.cutInstant).closeGap = u at hview hcut
  have hmd : u.md = s.md := congrArg CutView.md hview
  have hfooting (l : LaneId) : (u.lane l).footing = (s.lane l).footing := congrFun (congrArg CutView.lane hview) l
  have hcyc (l : LaneId) : (u.lane l).cyc = (s.lane l).cyc := congrArg Footing.cyc (hfooting l)
  have hgoes : u.GoesOn :=
    { mode := hmd ▸ hmode, gate := hmd ▸ hgate, events := hmd ▸ hevents, lanes := fun l => by rw [hcyc, hlanes]
      bad := (congrArg CutView.shadowBad hview :).trans hbad, failed := (congrArg CutView.failed hview :).trans hfailed
      reset := Option.not_isSome_iff_eq_none.mp (by
        have : u.guard.pendingReset.isSome = s.guard.pendingReset.isSome := congrArg CutView.reset hview
        simp [this, hreset])
      vital := hmd ▸ hvital
      calm := Option.not_isSome_iff_eq_none.mp (by
        have : u.inject.armed.isSome = s.inject.armed.isSome := congrArg CutView.armed hview
        rw [this, hc]
        simp) }
  obtain ⟨hbusy, hstop, hidle, hhold, hreleased, hfenced, hshows⟩ :=
    hgoes.cutFrom_shows ((State.stopDue_of_cutView hview).trans hdue) hkind
  have hexec : exec .stop s = .next u.cutFrom := by
    rw [exec_stop hv hstep (by rw [hdue]; rfl), hcut u rfl hgoes.mode hgoes.calm hgoes.cutLatched_eq]
  refine ⟨_, hexec, hbusy, hstop, hidle, hhold, hreleased, by rw [hfenced, hmd], fun l hl => ?_⟩
  obtain ⟨hfstore, hfpc, hfg, -, hfcyc, -, hfvio⟩ := Footing.mk.inj (hfooting l)
  have hserves : u.serves l = true := by rw [State.serves, hmd]; exact hl
  obtain ⟨hpend, hseq, hstore, hpc, hg, hen⟩ := hshows l hserves
  refine ⟨hpend, hseq, hstore.trans hfstore, hpc.trans hfpc, hg.trans hfg, hen.trans ?_⟩
  rw [hfcyc, hfvio]

/-- A serving lane of a module that has applied a package: nothing is pending, and the core and every byte outside the
slots named stay. -/
def State.AppliedTo (s t : State) (b : List Byte) : Prop :=
  t.chg.busy = false ∧ t.md.mode = s.md.mode ∧ ∀ l, s.serves l = true → (t.lane l).change.pend = none ∧
    LeavesOutside b (s.lane l) (t.lane l)

/-- M3 after an extension (R389). -/
theorem Measure.extendNow_m3 (m : Measure) (x : List Byte) :
    (m.extendNow 3 x).m[3] = digestBits (sha512 (bitsDigest m.m[3] ++ x)) := by
  simp [Measure.extendNow, Measure.done, Measure.extend, vset, vget]

section

variable {s : State} {p : PendingChange}

theorem State.applyNow_appliedTo (h : s.kindPermitted (pkgKind p.bytes) = true)
    (hout : ∀ l, LeavesOutside p.bytes (s.lane l) ((s.lane l).applyPackage p.bytes false)) :
    s.AppliedTo (s.applyNow p) p.bytes := by
  refine ⟨State.applyNow_busy s p, by rw [State.applyNow_md h], fun l hl => ?_⟩
  rw [State.applyNow_lane h hl]
  exact ⟨rfl, hout l⟩

/-- A package without entries leaves core and store. -/
theorem leavesOutside_of_store {b : List Byte} {x y : Lane} (hcore : y.core = x.core) (hstore : y.store = x.store) :
    LeavesOutside b x y :=
  ⟨hcore, fun a _ => by rw [Lane.rd8, hstore]; rfl⟩

theorem State.stopDue_eq (hpend : s.pendingPackage = some p) (hposted : p.posted = true)
    (hverdict : p.verdict = some (0, 0)) (hkind : pkgKind p.bytes = 2)
    (hreached : s.cycleReached (p.apply - 1) = true) : s.stopDue = some p := by
  simpa [State.stopDue, hpend, hposted, hverdict, hkind] using hreached

end

/-- Settles O47: the serving lanes apply the accepted package, each kind in its way, or remove it; STOP ends the cycle
in STOP, and the wait for the exchange of images ends. -/
theorem onlineChange : Obligations.OnlineChange := by
  unfold Obligations.OnlineChange
  intro s p hcycle hpend hposted hverdict hformat hwf
  refine ⟨fun hstep hreached => ?_, ?_, ?_⟩
  · have runs {i : Instr} {k : Nat}
        (hi : (i = .parameter ∧ k = 1) ∨ (i = .activate ∧ k = 3) ∨ (i = .force ∧ k = 4) ∨ (i = .unforce ∧ k = 5))
        (hk : pkgKind p.bytes = k) : exec i s = .next (s.applyNow p) := by
      rw [exec_applyDue hcycle hstep hi, State.applyDue_eq hpend hposted hverdict (by simp [hk]) hreached]
    refine ⟨fun hk hperm => ?_, fun hk hperm => ?_, fun hk hperm => ?_, fun hk hperm => ?_, fun i k hi hk hperm => ?_⟩
    · rw [← hk] at hperm
      have sets (l : LaneId) := Lane.parameter_sets hformat (s.lane l) (hwf l) hk
      refine ⟨_, runs (by simp) hk, State.applyNow_appliedTo hperm fun l => (sets l).1, fun l hl => ?_⟩
      obtain ⟨-, -, hseq, hforces, hmeas⟩ := (s.lane l).applyPackage_parameter hk
      rw [State.applyNow_lane hperm hl]
      refine ⟨hseq, hforces, ?_, (sets l).2⟩
      rw [← Measure.extendNow_m3, ← hmeas]
      rfl
    · rw [← hk] at hperm
      have heq (l : LaneId) := (s.lane l).applyPackage_activate hk
      refine ⟨_, runs (by simp) hk, State.applyNow_appliedTo hperm fun l => ?_, fun l hl => ?_⟩
      · rw [heq]
        exact leavesOutside_of_store rfl rfl
      · rw [State.applyNow_lane hperm hl, heq]
        exact ⟨rfl, rfl⟩
    · rw [← hk] at hperm
      have sets (l : LaneId) := Lane.force_sets hformat (s.lane l) (hwf l) hk
      refine ⟨_, runs (by simp) hk, State.applyNow_appliedTo hperm fun l => (sets l).1, fun l hl => ?_⟩
      rw [State.applyNow_lane hperm hl]
      exact (sets l).2
    · rw [← hk] at hperm
      have sets (l : LaneId) := Lane.unforce_restores hformat (s.lane l) (hwf l) hk
      refine ⟨_, runs (by simp) hk, State.applyNow_appliedTo hperm fun l => (sets l).1, fun l hl => ?_⟩
      rw [State.applyNow_lane hperm hl]
      exact (sets l).2
    · rw [← hk] at hperm
      refine ⟨_, runs hi hk, State.applyNow_busy s p, fun l hl => ?_⟩
      rw [State.applyNow_refused_lane s hperm hl]
      exact Lane.removePackage_keeps _ _
  · intro hreached hkind hmode hstep _ hvital hgate hevents hlanes hbad hfailed hreset hquiet
    obtain ⟨hvoting, -⟩ := Bool.and_eq_true_iff.mp hcycle
    exact exec_stop_shows hvoting hstep (State.stopDue_eq hpend hposted hverdict hkind hreached) hkind hmode hgate
      hvital hevents hlanes hbad hfailed hreset hquiet.1
  · exact fun k hk at0 hwait => exec_imageSwapTimeout hk hwait

end Sys2Proof.Machine

/-! The integer, immediate and bit-field groups (R138 to R140): the model's operations on words compute the results of
the manual's tables, and every instruction of the groups is `State.compute` of its operation, a division
`State.divide`. -/

namespace Sys2Proof.Machine

open Sys2Proof.Safety

/-! The operations on words. -/

theorem bit_decide (p : Prop) [Decidable p] : bit (decide p) = if p then 1 else 0 := by simp [bit]

theorem byteOf_eq_extractLsb' (w : Word) (i : Nat) : byteOf w i = w.extractLsb' (8 * i) 8 := by
  ext j
  simp [byteOf]

theorem bswapVal_eq (a : Word) :
    bswapVal a = a.extractLsb' 0 8 ++ a.extractLsb' 8 8 ++ a.extractLsb' 16 8 ++ a.extractLsb' 24 8 := by
  simp only [bswapVal, wordOfBytes, byteOf_eq_extractLsb']

theorem toInt_sext16 (i : Half) : (sext16 i).toInt = i.toInt := BitVec.toInt_signExtend_of_le (by decide)

theorem zext16_shift (i : Half) : zext16 i <<< 16 = i ++ (0 : Half) := by
  refine BitVec.eq_of_getLsbD_eq fun j hj => ?_
  rw [zext16, BitVec.getLsbD_shiftLeft, BitVec.getLsbD_append, BitVec.getLsbD_setWidth]
  by_cases h : j < 16
  · simp [h]
  · simp [h, hj, show j - 16 < 32 by omega]

/-- The mask of a field has the bits up to the field's top (R140). -/
theorem getLsbD_fieldMask (top i : Nat) : (fieldMask top).getLsbD i = (decide (i < 32) && decide (i ≤ top)) := by
  rw [fieldMask, BitVec.getLsbD_ofNat, Nat.testBit_two_pow_sub_one]
  simp only [Nat.lt_succ_iff]

theorem getLsbD_extuVal (a : Word) (pos top : Nat) {i : Nat} (hi : i < 32) :
    (extuVal a pos top).getLsbD i = (decide (i ≤ top) && a.getLsbD (pos + i)) := by
  rw [extuVal, BitVec.getLsbD_and, BitVec.getLsbD_ushiftRight, getLsbD_fieldMask, Bool.and_comm]
  simp [hi]

theorem getLsbD_extsVal (a : Word) (pos : Nat) (top : Fin 32) {i : Nat} (hi : i < 32) :
    (extsVal a pos top.val).getLsbD i = a.getLsbD (pos + min i top.val) := by
  have hmask : (~~~ fieldMask top.val).getLsbD i = !decide (i ≤ top.val) := by
    simp only [BitVec.getLsbD_not, getLsbD_fieldMask, hi, decide_true, Bool.true_and]
  simp only [extsVal, getLsbD_extuVal a pos _ top.isLt, Nat.le_refl, decide_true, Bool.true_and]
  by_cases h : i ≤ top.val
  · rw [Nat.min_eq_left h]
    split <;> simp only [BitVec.getLsbD_or, getLsbD_extuVal a pos _ hi, hmask, h, decide_true, Bool.true_and,
      Bool.not_true, Bool.or_false]
  · rw [Nat.min_eq_right (by omega)]
    split <;> next hsign => simp only [BitVec.getLsbD_or, getLsbD_extuVal a pos _ hi, hmask, h, hsign, decide_false,
      Bool.false_and, Bool.not_false, Bool.or_true]

/-- The sign extension of a field from its top bit is its shift to the top of the word and back with the sign. -/
theorem extsVal_eq (a : Word) (pos : Nat) (top : Fin 32) :
    extsVal a pos top.val = ((a >>> pos) <<< (31 - top.val)).sshiftRight (31 - top.val) := by
  have hbit {j : Nat} (hj : j < 32) (htop : 31 - top.val ≤ j) :
      ((a >>> pos) <<< (31 - top.val)).getLsbD j = a.getLsbD (pos + (j - (31 - top.val))) := by
    simp [hj, Nat.not_lt.mpr htop]
  have hsign : ((a >>> pos) <<< (31 - top.val)).msb = a.getLsbD (pos + top.val) := by
    rw [BitVec.msb_eq_getLsbD_last, hbit (by decide) (by omega), show 32 - 1 - (31 - top.val) = top.val by omega]
  refine BitVec.eq_of_getLsbD_eq fun i hi => ?_
  rw [getLsbD_extsVal a pos top hi, BitVec.getLsbD_sshiftRight, hsign, decide_eq_false (Nat.not_le.mpr hi),
    Bool.not_false, Bool.true_and]
  split
  · rw [hbit ‹_› (by omega), Nat.add_sub_cancel_left, Nat.min_eq_left (by omega)]
  · rw [Nat.min_eq_right (by omega)]

theorem udiv_eq_ofNat (a b : Word) : a / b = BitVec.ofNat 32 (a.toNat / b.toNat) :=
  BitVec.eq_of_toNat_eq (Nat.mod_eq_of_lt ((Nat.div_le_self ..).trans_lt a.isLt)).symm

theorem umod_eq_ofNat (a b : Word) : a % b = BitVec.ofNat 32 (a.toNat % b.toNat) :=
  BitVec.eq_of_toNat_eq (Nat.mod_eq_of_lt ((Nat.mod_le ..).trans_lt a.isLt)).symm

theorem remVal_eq (a b : Word) : remVal a b = BitVec.ofInt 32 (a.toInt.tmod b.toInt) := by
  rw [Int.tmod_def, Int.sub_eq_add_neg, BitVec.ofInt_add, BitVec.ofInt_neg, BitVec.ofInt_mul, BitVec.ofInt_toInt,
    BitVec.ofInt_toInt]
  exact BitVec.sub_eq_add_neg _ _

/-! The instructions. -/

/-- An instruction computes a register from its sources (R138 to R140) by an operation that gives, on the core `c`, the
result of its table. -/
def ComputesAs (c : Core) (i : Instr) (r : Result) : Prop :=
  ∃ f : Core → Word, f c = r.value ∧ ∀ s : State, exec i s = .next (s.compute r.lane i r.dest r.sources f)

theorem computesAs_of_integerResult {c : Core} {i : Instr} {r : Result} (h : integerResult c i = some r) :
    ComputesAs c i r := by
  unfold integerResult at h
  split at h <;> cases h <;> refine ⟨_, ?_, fun _ => rfl⟩
  case h_10 | h_11 | h_12 => exact bit_decide _ -- SLT, SLTU, SEQ
  case h_22 => exact bswapVal_eq _ -- BSWAP
  all_goals rfl

theorem computesAs_of_immediateResult {c : Core} {i : Instr} {r : Result} (h : immediateResult c i = some r) :
    ComputesAs c i r := by
  unfold immediateResult at h
  split at h <;> cases h <;> refine ⟨_, ?_, fun _ => rfl⟩
  case h_5 => exact (bit_decide _).trans (by rw [toInt_sext16]) -- SLTI
  case h_6 => exact bit_decide _ -- SLTIU
  case h_7 => exact zext16_shift _ -- LUI
  case h_9 => exact extsVal_eq _ _ _ -- EXTS
  all_goals rfl

/-- Settles O1: the instruction computes its register (`ComputesAs`), and the core is as `State.compute_takes` says. -/
theorem integerAndImmediateResults : Obligations.IntegerAndImmediateResults := by
  unfold Obligations.IntegerAndImmediateResults
  intro s i l d rs w hr h hs hc
  obtain ⟨f, hf, hexec⟩ := hr.elim computesAs_of_integerResult computesAs_of_immediateResult
  rw [hexec, State.compute_takes h hs hc]
  exact congrArg _ (withCore_congr (congrArg (retired _ d) hf))

/-! The divisions. -/

/-- A division divides its sources, the dividend `a` by the divisor `b`, by an operation that gives R138's result. -/
theorem exec_of_divisionResult {c : Core} {i : Instr} {r : Result} {a b : Word}
    (h : divisionResult c i = some (r, a, b)) :
    ∃ (p q : Reg) (f : Word → Word → Word), r.sources = [p, q] ∧ c.get p = a ∧ c.get q = b ∧ f a b = r.value ∧
      ∀ s : State, exec i s = .next (s.divide r.lane i r.dest p q f) := by
  unfold divisionResult at h
  split at h <;> cases h <;> refine ⟨_, _, _, rfl, rfl, rfl, ?_, fun _ => rfl⟩
  · rfl
  · exact udiv_eq_ofNat _ _
  · exact remVal_eq _ _
  · exact umod_eq_ofNat _ _

theorem State.divide_takes {s : State} {l : LaneId} {i : Instr} {d p q : Reg} (h : Takes s l i)
    (hs : SoundRegs s l [p, q]) (hc : Calm s) (f : Word → Word → Word) :
    s.divide l i d p q f = if (s.lane l).core.get q = 0 then (s.trap l 0x0A none ((s.lane l).core.get p)).counted l
      else withCore s l fun c => retired c d (f (c.get p) (c.get q)) := by
  rw [State.divide, State.begin_takes h, State.sources_sound hs hc]
  dsimp only
  split
  · rfl
  · rw [State.finishSet, State.finish_counted]
    exact withCore_congr (Core.set_retire _ _ _)

/-- Settles O2: a division is `State.divide` of its operation, which traps on the divisor 0 alone. -/
theorem divisionResults : Obligations.DivisionResults := by
  unfold Obligations.DivisionResults
  intro s i l d rs w a b hr h hs hc
  obtain ⟨p, q, f, rfl, ha, hb, hf, hexec⟩ := exec_of_divisionResult hr
  rw [hexec, State.divide_takes h hs hc, ha, hb]
  exact congrArg (fun t => Host.Outcome.next (if b = 0 then _ else t)) (withCore_congr (by rw [ha, hb, hf]))

end Sys2Proof.Machine

/-! Branches and jumps (R134, R138, R142, R145). -/

namespace Sys2Proof.Machine

open Sys2Proof.Safety

/-! Targets and conditions. -/

theorem shiftLeft_two_eq (w : Word) : w <<< 2 = 4 * w := by
  rw [BitVec.shiftLeft_eq_mul_twoPow, BitVec.mul_comm]
  rfl

theorem branchTarget_eq (pc : Word) (off : Half) : branchTarget pc off = pc + 4 + 4 * off.signExtend 32 :=
  congrArg (pc + 4 + ·) (shiftLeft_two_eq _)

theorem jumpTarget_eq (pc : Word) (off : BitVec 26) : jumpTarget pc off = pc + 4 + 4 * off.signExtend 32 :=
  congrArg (pc + 4 + ·) (shiftLeft_two_eq _)

theorem not_slt_eq (a b : Word) : (!a.slt b) = decide (b.toInt ≤ a.toInt) := by
  simp [BitVec.slt, ← decide_not]

theorem not_ult_eq (a b : Word) : (!a.ult b) = decide (b.toNat ≤ a.toNat) := by
  simp [BitVec.ult, ← decide_not]

/-- An instruction consumes a word as a coded value (R145). -/
theorem Core.consume_eq (c : Core) (w : Word) : c.consume w = c.codedEvents (invalidCount w) := by
  simp only [Core.consume, invalidCount, codedValid_iff]
  split <;> rfl

/-! Control passes to a target. -/

/-- A core whose next instruction is the one at an address. -/
def Core.passTo (c : Core) (pc : Word) : Core := { c with pc := pc }

theorem Core.retire_passTo (c : Core) (app : Bool) (pc q : Word) : (c.retire app q).passTo pc = c.retire app pc := rfl

/-- A core that has written a register passes control to a target. -/
theorem Core.set_retire_to (c : Core) (d : Reg) (w pc : Word) :
    (c.set d w).retire (!c.priv) pc = (retired c d w).passTo pc := by
  rw [← Core.set_retire, Core.retire_passTo]

/-- A core that has counted coded-value events passes control to a target. -/
theorem Core.codedEvents_retire_to (c : Core) (n : Nat) (pc : Word) :
    (c.codedEvents n).retire (!c.priv) pc = (retired (c.codedEvents n) 0 0).passTo pc := by
  obtain ⟨-, -, hpriv, -⟩ := c.codedEvents_keeps n
  rw [← hpriv, ← Core.retire_plain, Core.retire_passTo]

/-- The end of an instruction that passes control to a target. -/
theorem State.jumpTo_counted (s : State) (l : LaneId) (f : Core → Core) (pc : Word) :
    (s.jumpTo l f pc).counted l = withCore s l fun c => (f c).retire (!c.priv) pc := rfl

/-- A branch whose target may be fetched where it is taken, with `n` coded-value events. -/
theorem State.branch_takes {s : State} {l : LaneId} {i : Instr} {rs : List Reg} {off : Half} {taken : Core → Bool}
    {f : Core → Core} {n : Nat} (hf : f (s.lane l).core = (s.lane l).core.codedEvents n) (h : Takes s l i)
    (hs : SoundRegs s l rs) (hc : Calm s) (hfetch : taken (s.lane l).core = true →
      (s.lane l).fetchable (branchTarget (s.lane l).core.pc off).toNat = true) :
    s.branch l i rs off taken f = withCore s l fun c =>
      (retired (c.codedEvents n) 0 0).passTo (if taken c then branchTarget c.pc off else c.pc + 4) := by
  rw [State.branch, State.begin_takes h]
  dsimp only
  cases ht : taken (s.lane l).core
  · rw [if_neg (by simp), State.sources_sound hs hc, if_neg (by simp), State.finish_counted]
    refine withCore_congr ?_
    rw [hf, Core.codedEvents_retire_to, ht, if_neg (by simp)]
  · rw [if_neg (by simp [hfetch ht]), State.sources_sound hs hc, if_pos rfl, State.jumpTo_counted]
    refine withCore_congr ?_
    rw [hf, Core.codedEvents_retire_to, ht, if_pos rfl]

/-- A branch on a coded value with no injection armed. -/
theorem State.codedBranch_calm {s : State} (hc : Calm s) (l : LaneId) (i : Instr) (r : Reg) (off : Half) (want : Bool) :
    s.codedBranch l i r off want =
      s.branch l i [r] off (fun c => (c.get r == codedTrue) == want) (fun c => c.consume (c.get r)) := by
  simp [State.codedBranch, State.injected_calm hc]

/-- A conditional branch decides as R142 states, and counts the coded-value events of R145. -/
theorem exec_of_branchResult {s : State} (hc : Calm s) {c : Core} {i : Instr} {b : Branch}
    (h : branchResult c i = some b) :
    ∃ (taken : Core → Bool) (f : Core → Core), taken c = b.taken ∧ f c = c.codedEvents b.events ∧
      exec i s = .next (s.branch b.lane i b.sources b.offset taken f) := by
  unfold branchResult at h
  split at h <;> cases h
  case h_7 | h_8 =>
    refine ⟨_, _, ?_, Core.consume_eq _ _, congrArg Host.Outcome.next (State.codedBranch_calm hc _ _ _ _ _)⟩
    simp [beq_eq_decide]
  all_goals refine ⟨_, _, ?_, ?_, rfl⟩
  case h_2.refl.refine_1 => exact (decide_not ..).symm
  case h_4.refl.refine_1 => exact not_slt_eq _ _
  case h_6.refl.refine_1 => exact not_ult_eq _ _
  all_goals rfl

/-- A jump whose target may be fetched. -/
theorem State.jump_takes {s : State} {l : LaneId} {i : Instr} {off : BitVec 26} (h : Takes s l i)
    (hfetch : (s.lane l).fetchable (jumpTarget (s.lane l).core.pc off).toNat = true) (d : Reg) (link : Core → Word) :
    s.jump l i off (fun c => c.set d (link c)) =
      withCore s l fun c => (retired c d (link c)).passTo (jumpTarget c.pc off) := by
  rw [State.jump, State.begin_takes h]
  dsimp only
  rw [if_neg (by simp [hfetch]), State.jumpTo_counted]
  exact withCore_congr (Core.set_retire_to _ _ _ _)

/-- JALR with a target that is aligned and may be fetched (R138). -/
theorem exec_jalr {s : State} {l : LaneId} {d a : Reg} (h : Takes s l (.jalr l d a)) (hs : SoundRegs s l [a])
    (hc : Calm s) (halign : ((s.lane l).core.get a).toNat % 4 = 0)
    (hfetch : (s.lane l).fetchable ((s.lane l).core.get a).toNat = true) :
    exec (.jalr l d a) s = .next (withCore s l fun c => (retired c d (c.pc + 4)).passTo (c.get a)) := by
  refine congrArg Host.Outcome.next ((State.begin_takes h _ _).trans ?_)
  dsimp only
  rw [if_neg (by simp [halign]), if_neg (by simp [hfetch]), State.sources_sound hs hc, State.jumpTo_counted]
  exact withCore_congr (Core.set_retire_to _ _ _ _)

/-- Settles O4: a branch is `State.branch` of its condition, J and JAL are `State.jump`, J linking g0, and JALR is
`exec_jalr`. -/
theorem branchesAndJumps : Obligations.BranchesAndJumps := by
  unfold Obligations.BranchesAndJumps
  refine ⟨fun s i l rs off taken ev hb h hs hc hfetch => ?_, fun s l off hfetch => ⟨fun h => ?_, fun h => ?_⟩,
    fun s l d a => exec_jalr⟩
  · obtain ⟨cond, f, hcond, hf, hexec⟩ := exec_of_branchResult hc hb
    simp only [← branchTarget_eq] at hfetch ⊢
    rw [hexec, State.branch_takes hf h hs hc (fun ht => hfetch (hcond.symm.trans ht))]
    exact congrArg _ (withCore_congr (by rw [hcond]; rfl))
  · rw [← jumpTarget_eq] at hfetch
    simp only [← jumpTarget_eq]
    exact congrArg _ (State.jump_takes h hfetch 0 fun _ => 0)
  · rw [← jumpTarget_eq] at hfetch
    simp only [← jumpTarget_eq]
    exact congrArg _ (State.jump_takes h hfetch 31 fun c => c.pc + 4)

end Sys2Proof.Machine

/-! Loads and stores (R130, R131, R133, R139, R141, R211). -/

namespace Sys2Proof.Machine

open Sys2Proof.Safety

theorem not_inBlocks_of_store {a : Nat} (h : a < 0x04000000) : inBlocks a = false := by
  simp only [inBlocks, Bool.or_eq_false_iff, Bool.and_eq_false_iff, decide_eq_false_iff_not]
  omega

/-! Loads: the number spelled by the bytes at an address is the byte, half-word or word there. -/

theorem toNat_append_byte {n : Nat} (hi : BitVec n) (lo : Byte) : (hi ++ lo).toNat = lo.toNat + 256 * hi.toNat := by
  rw [BitVec.toNat_append, ← Nat.shiftLeft_add_eq_or_of_lt lo.isLt, Nat.shiftLeft_eq]
  omega

theorem Lane.leNat_bytesAt_one (x : Lane) (a : Nat) : leNat (x.bytesAt a 1) = (x.rd8 a).toNat := rfl

theorem Lane.leNat_bytesAt_two (x : Lane) (a : Nat) : leNat (x.bytesAt a 2) = (x.rd16 a).toNat := by
  rw [Lane.rd16, toNat_append_byte]
  rfl

theorem Lane.leNat_bytesAt_four (x : Lane) (a : Nat) : leNat (x.bytesAt a 4) = (x.rd32 a).toNat := by
  rw [Lane.rd32, wordOfBytes, toNat_append_byte, toNat_append_byte, toNat_append_byte]
  rfl

/-- A load is `State.load` with an extension that makes of the bytes at the address the value of R141. -/
theorem exec_of_loadResult {x : Lane} {i : Instr} {r : Load} (h : loadResult x i = some r) :
    ∃ f : Nat → Word, f (leNat (x.bytesAt (effAddr (x.core.get r.base) r.offset).toNat r.size)) = r.value ∧
      ∀ s : State, exec i s = .next (s.load r.lane i r.dest r.base r.offset r.size f) := by
  unfold loadResult at h
  split at h <;> cases h <;> refine ⟨_, ?_, fun _ => rfl⟩
  · rw [Lane.leNat_bytesAt_one, BitVec.ofNat_toNat, BitVec.setWidth_eq]; rfl
  · rw [Lane.leNat_bytesAt_one, BitVec.ofNat_toNat]; rfl
  · rw [Lane.leNat_bytesAt_two, BitVec.ofNat_toNat, BitVec.setWidth_eq]; rfl
  · rw [Lane.leNat_bytesAt_two, BitVec.ofNat_toNat]; rfl
  · rw [Lane.leNat_bytesAt_four, BitVec.ofNat_toNat, BitVec.setWidth_eq]; rfl

/-- A load whose rights are given reads the lane store where the bytes have right parity and no work of the engine
holds them back (R33, R133). -/
theorem State.loadFrom_store {s : State} {l : LaneId} {i : Instr} {d : Reg} {n : Nat} {ea : Word} {f : Nat → Word}
    (hstore : ea.toNat < 0x04000000) (hengine : engineOwned ea.toNat = true → (s.lane l).engineBusy = false)
    (hparity : (s.lane l).parityBad ea.toNat n = false) :
    s.loadFrom l i d n ea f = s.finishSet l d (f (leNat ((s.lane l).bytesAt ea.toNat n))) := by
  have hidle : ¬ (engineOwned ea.toNat && (s.lane l).engineBusy) = true := by simpa using hengine
  rw [State.loadFrom, not_inBlocks_of_store hstore, if_neg (by decide), if_neg (by simpa [storeTop] using hstore),
    if_neg hidle, if_neg (by simp [hparity])]

/-- A load that passes the checks of alignment and rights (R141). -/
theorem State.load_takes {s : State} {l : LaneId} {i : Instr} {d a : Reg} {imm : Half} {n : Nat} (h : Takes s l i)
    (hs : SoundRegs s l [a]) (hc : Calm s) (halign : (effAddr ((s.lane l).core.get a) imm).toNat % n = 0)
    (hright : (s.lane l).loadRight (s.lane l).core.priv (n = 4) (effAddr ((s.lane l).core.get a) imm).toNat = .ok)
    (f : Nat → Word) :
    s.load l i d a imm n f = (s.loadFrom l i d n (effAddr ((s.lane l).core.get a) imm) f).counted l := by
  rw [State.load, State.begin_takes h]
  dsimp only
  rw [if_neg (by simp [halign]), hright]
  dsimp only
  rw [State.sources_sound hs hc]

/-- Settles O5: a load is `State.load`; its checks pass (`State.load_takes`), and it writes what the bytes at the
address spell (`State.loadFrom_store`). -/
theorem loadsFromStore : Obligations.LoadsFromStore := by
  unfold Obligations.LoadsFromStore
  intro s i l d a imm n w hr h hs hc halign hstore hright hengine hparity
  obtain ⟨f, hf, hexec⟩ := exec_of_loadResult hr
  refine (hexec s).trans (congrArg _ ((State.load_takes h hs hc halign hright f).trans ?_))
  rw [State.loadFrom_store (ea := effAddr _ _) hstore hengine hparity, hf, State.finishSet, State.finish_counted]
  exact withCore_congr (Core.set_retire _ _ _)

/-! Stores. -/

/-- A store is `State.store` of 1, 2 or 4 bytes. -/
theorem exec_of_storeForm {i : Instr} {r : StoreForm} (h : storeForm i = some r) :
    (r.size = 1 ∨ r.size = 2 ∨ r.size = 4) ∧
      ∀ s : State, exec i s = .next (s.store r.lane i r.source r.base r.offset r.size) := by
  unfold storeForm at h
  split at h <;> cases h
  · exact ⟨.inl rfl, fun _ => rfl⟩
  · exact ⟨.inr (.inl rfl), fun _ => rfl⟩
  · exact ⟨.inr (.inr rfl), fun _ => rfl⟩

/-- A store outside the lane blocks that passes the checks of alignment, rights and parity (R141). -/
theorem State.store_takes {s : State} {l : LaneId} {i : Instr} {d a : Reg} {imm : Half} {n : Nat} (h : Takes s l i)
    (hs : SoundRegs s l [a, d]) (hc : Calm s) (halign : (effAddr ((s.lane l).core.get a) imm).toNat % n = 0)
    (hblock : inBlocks (effAddr ((s.lane l).core.get a) imm).toNat = false)
    (hright : (s.lane l).storeRight (s.lane l).core.priv (n = 4) (s.laneMode l)
      (effAddr ((s.lane l).core.get a) imm).toNat = .ok) :
    s.store l i d a imm n = after s l (wrote
      ((s.lane l).storeSized (effAddr ((s.lane l).core.get a) imm).toNat n ((s.lane l).core.get d)) 0 0) := by
  rw [State.store, State.begin_takes h]
  dsimp only
  rw [if_neg (by simp [halign]), hright]
  dsimp only
  rw [State.injected_calm hc, if_neg (by simp), State.sources_sound hs hc, State.storeTo, hblock, if_neg (by decide)]
  exact State.finish_plain _ _ _

/-- SB, SH and SW store the low bytes of the word, the least significant first, with one term in the hash (R211). -/
theorem Lane.storeSized_eq (x : Lane) {n : Nat} (hn : n = 1 ∨ n = 2 ∨ n = 4) (a : Nat) (w : Word) :
    x.storeSized a n w = (x.poke a ((List.range n).map (byteOf w))).addHash a := by
  rcases hn with rfl | rfl | rfl
  · rfl
  · have h0 : (w.setWidth 16).setWidth 8 = byteOf w 0 := by ext; simp [byteOf]
    have h1 : (w.setWidth 16 >>> 8).setWidth 8 = byteOf w 1 := by
      ext j hj
      simp [byteOf, show 8 + j < 16 by omega]
    rw [Lane.storeSized, Lane.wr16, h0, h1]
    rfl
  · rfl

/-- The hash changes nothing but itself. -/
theorem Lane.addHash_eq (x : Lane) (a : Nat) :
    x.addHash a = { x with vote := { x.vote with h := (x.addHash a).vote.h } } := by
  unfold Lane.addHash
  split <;> rfl

theorem Lane.rd32_addHash (x : Lane) (a k : Nat) : (x.addHash a).rd32 k = x.rd32 k := by
  simp only [Lane.rd32, Lane.rd8, Lane.addHash_store]

/-- The hash takes the term of the word as it stands, where the address is hashed and the block does not hold (R211). -/
theorem Lane.addHash_h (x : Lane) (a : Nat) : (x.addHash a).vote.h =
    if a < 0x00800000 ∨ 0x03000000 ≤ a ∨ x.vote.still = true then x.vote.h
    else x.vote.h + hashTerm (BitVec.ofNat 32 (a / 4 * 4)) ((x.addHash a).rd32 (a / 4 * 4)) := by
  have hterm : (hashed a && !x.vote.still) = true ↔ ¬ (a < 0x00800000 ∨ 0x03000000 ≤ a ∨ x.vote.still = true) := by
    simp [hashed, and_assoc]
  rw [Lane.rd32_addHash]
  by_cases hkept : a < 0x00800000 ∨ 0x03000000 ≤ a ∨ x.vote.still = true
  · rw [if_pos hkept, Lane.addHash, if_neg (fun h => hterm.mp h hkept)]
  · rw [if_neg hkept, Lane.addHash, if_pos (hterm.mpr hkept)]

theorem Lane.read_poke_byteOf {x : Lane} (hwf : Memory.wf x.store.cells = true) (a n k : Nat) (w : Word) :
    Memory.read (x.poke a ((List.range n).map (byteOf w))).store.cells k =
      if a ≤ k ∧ k < a + n then byteOf w (k - a) else Memory.read x.store.cells k := by
  refine (Lane.rd8_poke hwf a k _).trans ?_
  rw [List.length_map, List.length_range]
  split
  · simp [List.getD_eq_getElem?_getD, show k - a < n by omega]
  · rfl

/-- Settles O6: a store is `State.store`, whose checks pass (`State.store_takes`); it pokes its bytes and adds to the
hash (`Lane.storeSized_eq`), and the two are described by `Lane.read_poke_byteOf` and `Lane.addHash_h`. -/
theorem storesToStore : Obligations.StoresToStore := by
  unfold Obligations.StoresToStore
  intro s i l d a imm n hr h hs hc hwf halign hblock hright x ea y
  obtain ⟨hn, hexec⟩ := exec_of_storeForm hr
  have hy : y = (x.poke ea.toNat ((List.range n).map (byteOf (x.core.get d)))).addHash ea.toNat :=
    x.storeSized_eq hn ea.toNat _
  refine ⟨(hexec s).trans (congrArg _ (State.store_takes h hs hc halign hblock hright)), fun k => ?_, ?_, ?_⟩
  · rw [hy, Lane.addHash_store]
    exact Lane.read_poke_byteOf hwf _ _ _ _
  · rw [hy, Lane.addHash_store]
    exact Lane.addHash_eq _ _
  · rw [hy]
    exact Lane.addHash_h _ _

end Sys2Proof.Machine

/-! The system instructions (R126 to R128, R146, R148). -/

namespace Sys2Proof.Machine

open Sys2Proof.Safety

section

variable {s : State} {l : LaneId}

/-- SYSC at application level outside a trap. -/
theorem exec_sysc {imm : Half} (h : Takes s l (.sysc l imm)) (hpriv : (s.lane l).core.priv = false)
    (htrap : (s.lane l).core.intrap = false) :
    exec (.sysc l imm) s = .next (withCore s l fun c =>
      { c with
        tstatus := c.saved, tpc := c.pc + 4, tcause := 0x100, tval := imm.setWidth 32
        priv := true, intrap := true, pc := c.tvec, instret := c.instret + 1 }) := by
  refine congrArg Host.Outcome.next ((State.begin_takes h _ _).trans ?_)
  dsimp only
  rw [hpriv, if_neg (by decide), htrap, if_neg (by decide), State.updCore_counted]
  refine withCore_congr ?_
  simp [Core.trapEntry, hpriv, place, flag, zext16]

/-- TRET at runtime level. -/
theorem exec_tret (h : Takes s l (.tret l)) (hpriv : (s.lane l).core.priv = true) :
    exec (.tret l) s = .next (withCore s l fun c => { c.restoreStatus with pc := c.tpc }) :=
  congrArg Host.Outcome.next (State.begin_takes_runtime h hpriv _ _ _)

/-- A read clears CVCOUNT alone (R127). -/
theorem Core.afterReadCr_eq (c : Core) (n : Nat) :
    c.afterReadCr n = { c with cvcount := if n = 8 then 0 else c.cvcount } := by
  unfold Core.afterReadCr
  split <;> rfl

/-- A control register written leaves the program counter and the level (R128). -/
theorem Core.writeCr_keeps (c : Core) (n : Nat) (w : Word) :
    (c.writeCr n w).pc = c.pc ∧ (c.writeCr n w).priv = c.priv := by
  unfold Core.writeCr
  split <;> exact ⟨rfl, rfl⟩

/-- MFCR of a control register that the level may read. -/
theorem exec_mfcr {d : Reg} {cr : Fin 32} {w : Word} (h : Takes s l (.mfcr l d cr))
    (hread : (s.lane l).core.readCr cr.val = some w)
    (hmay : (s.lane l).core.priv = true ∨ cr.val = 0 ∨ cr.val = 9) :
    exec (.mfcr l d cr) s = .next (withCore s l fun c => retired (c.afterReadCr cr.val) d w) := by
  have hdenied : ¬ (!(s.lane l).core.priv && cr.val ≠ 0x00 && cr.val ≠ 0x09) = true := by
    rcases hmay with h | h | h <;> simp [h]
  refine congrArg Host.Outcome.next ((State.begin_takes h _ _).trans ?_)
  dsimp only
  rw [hread]
  dsimp only
  rw [if_neg hdenied, State.finish_counted]
  refine withCore_congr ?_
  simp only [Core.afterReadCr_eq]
  exact Core.set_retire _ _ _

/-- MTCR at runtime level of a control register that exists. -/
theorem exec_mtcr {cr : Fin 32} {a : Reg} (h : Takes s l (.mtcr l cr a)) (hs : SoundRegs s l [a]) (hc : Calm s)
    (hpriv : (s.lane l).core.priv = true) (hread : ((s.lane l).core.readCr cr.val).isSome = true) :
    exec (.mtcr l cr a) s = .next (withCore s l fun c => retired (c.writeCr cr.val (c.get a)) 0 0) := by
  refine congrArg Host.Outcome.next ((State.begin_takes h _ _).trans ?_)
  dsimp only
  rw [if_neg (by simp [Option.isSome_iff_ne_none.mp hread]), hpriv, if_neg (by decide), State.sources_sound hs hc,
    State.finish_counted]
  refine withCore_congr ?_
  obtain ⟨hpc, hlevel⟩ := (s.lane l).core.writeCr_keeps cr.val ((s.lane l).core.get a)
  rw [← Core.retire_plain, hpc, hlevel]

/-- A WAIT at runtime level that ends: its register takes the masked events, which are consumed but for MBOX. -/
theorem Core.endWait_eq {c : Core} (hpriv : c.priv = true) (d : Reg) : c.endWait d =
    retired { c with run := .running, events := c.events &&& ~~~ (c.events &&& c.evmask &&& 0xFE) } d
      ((c.events &&& c.evmask).setWidth 32) := by
  rw [Core.endWait, ← Core.set_retire]
  dsimp only
  rw [hpriv]
  rfl

/-- WAIT at runtime level. -/
theorem exec_wait {d : Reg} (h : Takes s l (.wait l d)) (hpriv : (s.lane l).core.priv = true) :
    exec (.wait l d) s = .next (withCore s l fun c =>
      if c.events &&& c.evmask = 0 then { c with run := .waiting d } else c.endWait d) :=
  congrArg Host.Outcome.next (State.begin_takes_runtime h hpriv _ _ _)

/-- WAIT_END of a stalled WAIT with a masked event pending. -/
theorem exec_waitEnd {d : Reg} (hrun : (s.lane l).core.run = .waiting d)
    (hevents : (s.lane l).core.events &&& (s.lane l).core.evmask ≠ 0) :
    exec (.waitEnd l) s = .next (withCore s l (·.endWait d)) := by
  refine congrArg Host.Outcome.next ?_
  rw [hrun]
  dsimp only
  rw [if_neg hevents, State.updCore_counted]

/-- HALT at runtime level. -/
theorem exec_halt (h : Takes s l (.halt l)) (hpriv : (s.lane l).core.priv = true) :
    exec (.halt l) s = .next (withCore s l fun c => { c with run := .stopped }) :=
  congrArg Host.Outcome.next (State.begin_takes_runtime h hpriv _ _ _)

end

/-- Settles O7: one lemma for each instruction, the end of WAIT spelled out by `Core.endWait_eq`. -/
theorem systemInstructions : Obligations.SystemInstructions := by
  unfold Obligations.SystemInstructions
  intro s l
  refine ⟨fun imm => exec_sysc, exec_tret, fun d cr w h hread hmay => ?_, fun cr a => exec_mtcr, fun d h hpriv => ?_,
    fun d hrun hpriv hevents => ?_, exec_halt⟩
  · rw [exec_mfcr h hread hmay]
    simp only [Core.afterReadCr_eq]
  · rw [exec_wait h hpriv]
    refine congrArg _ (withCore_congr ?_)
    obtain ⟨hrun, -⟩ := h
    rw [Core.endWait_eq hpriv, ← hrun]
  · rw [exec_waitEnd hrun hevents]
    exact congrArg _ (withCore_congr (Core.endWait_eq hpriv d))

end Sys2Proof.Machine

/-! A trap that the application handles (R147 to R150). -/

namespace Sys2Proof.Machine

open Sys2Proof.Safety

@[simp] theorem Core.set_ahvec (c : Core) (r : Reg) (w : Word) : (c.set r w).ahvec = c.ahvec := by
  unfold Core.set; split <;> rfl

@[simp] theorem Core.set_packStack (c : Core) (r : Reg) (w : Word) : (c.set r w).packStack = c.packStack := by
  unfold Core.set; split <;> rfl

@[simp] theorem Lane.feedAll_core (x : Lane) (m : Mode) (ws : List Word) : (x.feedAll m ws).core = x.core := by
  induction ws generalizing x with
  | nil => rfl
  | cons w ws ih => exact (ih _).trans (x.feed_core m w)

@[simp] theorem Lane.feedAll_store (x : Lane) (m : Mode) (ws : List Word) : (x.feedAll m ws).store = x.store := by
  induction ws generalizing x with
  | nil => rfl
  | cons w ws ih => exact (ih _).trans (x.feed_store m w)

/-- TCAUSE of a synchronous trap taken at application level (R148). -/
theorem Core.trapEntry_tcause {c : Core} (hpriv : c.priv = false) (num : Nat) (x : Option Nat) (tval tpc : Word) :
    (c.trapEntry num false x.isSome (x.getD 0) tval tpc).tcause =
      (place num 0 ||| 0x100 ||| flag x.isSome 10 ||| place (x.getD 0) 16) := by
  cases x <;> simp [Core.trapEntry, hpriv, flag]

/-- Two changes of a lane that agree on the present lane give the same state. -/
theorem State.updLane_congr {s : State} {l : LaneId} {f g : Lane → Lane} (h : f (s.lane l) = g (s.lane l)) :
    s.updLane l f = s.updLane l g := congrArg (s.setLane l) h

theorem Core.get_set {c : Core} {r : Reg} (hr : r.val ≠ 0) (q : Reg) (w : Word) :
    (c.set r w).get q = if q.val = r.val then w else c.get q := by
  split
  · next h => rw [Fin.ext h, Core.get_set_same c r w hr]
  · next h => exact Core.get_set_other c r q w h

/-- The general registers at the entry of the handler (R150). -/
theorem Lane.enterHandler_get (x : Lane) (r : Reg) : x.enterHandler.core.get r =
    if r.val = 30 then x.stackTop else if r.val = 3 then x.core.tval else if r.val = 2 then x.core.tpc
    else if r.val = 1 then x.core.tcause else x.core.get r := by
  change ((((x.core.noPacks.set 1 x.core.tcause).set 2 x.core.tpc).set 3 x.core.tval).set 30 x.stackTop).get r = _
  rw [Core.get_set (by decide), Core.get_set (by decide), Core.get_set (by decide), Core.get_set (by decide)]
  rfl

theorem Lane.enterHandler_pc (x : Lane) : x.enterHandler.core.pc = x.core.ahvec := by
  simp [Lane.enterHandler, Core.noPacks]

theorem Lane.enterHandler_packStack (x : Lane) : x.enterHandler.core.packStack = [] := by
  simp [Lane.enterHandler, Core.noPacks]

/-- A lane that has entered a trap at application level, fed TCAUSE, TPC and TVAL, and entered the application's handler
(R148, R150). -/
def Lane.handled (m : Mode) (num : Nat) (x : Option Nat) (tval : Word) (y : Lane) : Lane :=
  let c := y.core.trapEntry num false x.isSome (x.getD 0) tval y.core.pc
  (Lane.feedAll { y with core := c } m [c.tcause, c.tpc, c.tval]).enterHandler

section

variable (m : Mode) (num : Nat) (x : Option Nat) (tval : Word)

theorem Lane.handled_get {y : Lane} (hpriv : y.core.priv = false) (r : Reg) : (y.handled m num x tval).core.get r =
    if r.val = 30 then y.stackTop else if r.val = 3 then tval else if r.val = 2 then y.core.pc
    else if r.val = 1 then place num 0 ||| 0x100 ||| flag x.isSome 10 ||| place (x.getD 0) 16 else y.core.get r := by
  rw [Lane.handled, Lane.enterHandler_get, Lane.stackTop, Lane.rd32_congr (x := y) fun _ _ _ => by simp [Lane.rd8],
    Lane.feedAll_core, Core.trapEntry_tcause hpriv]
  rfl

theorem Lane.handled_pc (y : Lane) : (y.handled m num x tval).core.pc = y.core.ahvec := by
  rw [Lane.handled, Lane.enterHandler_pc, Lane.feedAll_core]
  rfl

theorem Lane.handled_packStack (y : Lane) : (y.handled m num x tval).core.packStack = [] :=
  Lane.enterHandler_packStack _

theorem Lane.handled_store (y : Lane) : (y.handled m num x tval).store = y.store :=
  Lane.feedAll_store _ _ _

/-- The words are fed in this order, in the modes in which feeds have an effect (R150, R172). -/
theorem Lane.handled_signature {m : Mode} (hloud : m.silent = false) {y : Lane} (hpriv : y.core.priv = false) :
    (y.handled m num x tval).vote.s = sigFeed (sigFeed (sigFeed y.vote.s
      (place num 0 ||| 0x100 ||| flag x.isSome 10 ||| place (x.getD 0) 16)) y.core.pc) tval := by
  rw [← Core.trapEntry_tcause hpriv num x tval y.core.pc]
  simp only [Lane.handled, Lane.feedAll, List.foldl, Lane.feed_loud hloud]
  rfl

variable {s : State} {l : LaneId} {num x tval}

/-- After the entry of a trap that AMASK admits the runtime feeds its words and enters the handler (R150). -/
theorem State.appTrapped_admitted (hmask : (s.lane l).core.amask.getLsbD num = true)
    (hinit : (s.lane l).cyc.initCalls = none) : s.appTrapped l num false = s.updLane l fun y =>
      (y.feedAll s.md.mode [y.core.tcause, y.core.tpc, y.core.tval]).enterHandler := by
  unfold State.appTrapped
  rw [hinit]
  dsimp only
  rw [hmask, if_pos (by decide), State.updLane_updLane]
  exact State.updLane_congr rfl

/-- A trap that AMASK admits, taken at application level outside every trap, handler and INIT call, changes its lane
alone (R149, R150). -/
theorem State.trap_handled (hpriv : (s.lane l).core.priv = false) (hintrap : (s.lane l).core.intrap = false)
    (hah : (s.lane l).core.ah = false) (hparity : num ≠ 0x04) (hbrk : num ≠ 0x0B)
    (hmask : (s.lane l).core.amask.getLsbD num = true) (hinit : (s.lane l).cyc.initCalls = none) (hc : Calm s) :
    s.trap l num x tval = s.updLane l (Lane.handled s.md.mode num x tval) := by
  unfold State.trap
  simp only [hintrap, State.injected_calm hc, hpriv, hah, Bool.false_eq_true, if_false, Bool.false_or,
    decide_eq_true_eq, if_neg hparity, if_neg hbrk]
  rw [State.appTrapped_admitted (by rwa [State.lane_updLane]) (by rwa [State.lane_updLane]), State.updLane_updLane]
  exact State.updLane_congr rfl

end

/-- Settles O8: the trap is `Lane.handled` of its lane (`State.trap_handled`). -/
theorem handledTraps : Obligations.HandledTraps := by
  unfold Obligations.HandledTraps
  intro s l num x tval hpriv hintrap hah _ hparity hbrk hmask hinit hc t cause
  have ht : t = s.updLane l (Lane.handled s.md.mode num x tval) :=
    State.trap_handled hpriv hintrap hah hparity hbrk hmask hinit hc
  have hlane : t.lane l = (s.lane l).handled s.md.mode num x tval := by rw [ht, State.lane_updLane]
  have hget := Lane.handled_get s.md.mode num x tval hpriv
  rw [hlane]
  refine ⟨hget 1, hget 2, hget 3, hget 30, fun r h1 h2 h3 h30 => ?_, Lane.handled_pc _ _ _ _ _, rfl, rfl,
    Lane.handled_packStack _ _ _ _ _, Lane.handled_store _ _ _ _ _,
    fun hloud => Lane.handled_signature _ _ _ hloud hpriv, fun k hk => ?_⟩
  · rw [hget r, if_neg h30, if_neg h3, if_neg h2, if_neg h1]
  · rw [ht, State.lane_updLane_other s _ hk]

end Sys2Proof.Machine

/-! The process image (R162, R164). -/

namespace Sys2Proof.Machine

open Sys2Proof.Safety

/-- A word fed to the signature of a lane as given. -/
theorem State.feed_setLane (s : State) (l : LaneId) (y : Lane) (w : Word) :
    (s.setLane l y).feed l w = s.setLane l (y.feed s.md.mode w) := State.setLane_updLane s l y _

/-- An instruction that leaves a lane as given and consumes a word as a coded value (R145). -/
theorem State.finish_consume (s : State) (l : LaneId) (y : Lane) (v : Word) :
    ((s.setLane l y).finish l fun c => c.consume v).counted l =
      after s l (wrote (Safety.noted y (invalidCount v)) 0 0) := by
  refine State.finish_setLane (congrArg (fun c => ({ y with core := c } : Lane)) ?_)
  obtain ⟨-, hpc, hpriv, -⟩ := y.core.codedEvents_keeps (invalidCount v)
  rw [Core.consume_eq, ← hpc, ← hpriv, Core.retire_plain]
  rfl

/-- The word of the image after POUT of a coded value (R164). -/
theorem setBit_eq_codedTrue (w v : Word) (i : Nat) : setBit w i (v == codedTrue) =
    if v = codedTrue then w ||| BitVec.ofNat 32 (2 ^ i) else w &&& ~~~ BitVec.ofNat 32 (2 ^ i) := by
  simp only [setBit, beq_iff_eq]

theorem bit_eq_codedTrue (v : Word) : bit (v == codedTrue) = if v = codedTrue then 1 else 0 := by
  simp only [bit, beq_iff_eq]

section

variable {s : State} {l : LaneId} {d a b : Reg} (hclean : CleanStore s l)

include hclean

/-- PIN of an input that exists (R162). -/
theorem exec_pin (hr : Runs s l (.pin l d a)) (hs : SoundRegs s l [a]) {i : Nat}
    (ha : ((s.lane l).core.get a).toNat = i) (hi : i ≤ 65) :
    exec (.pin l d a) s = .next (after s l
      (wrote (s.lane l) d (coded (((s.lane l).rd32 (0x02000020 + i / 32 * 4)).getLsbD (i % 32))))) := by
  obtain ⟨htake, hc⟩ := hr
  refine congrArg Host.Outcome.next ((State.begin_takes htake _ _).trans ?_)
  rw [State.readReg_sound hs hc, ha, State.bounds_pass (decide_eq_true hi), State.readStore_clean hclean]
  exact State.finishSet_after _ _ _ _

/-- POUT of an output that exists stores its bit, feeds it and consumes the coded value (R164). -/
theorem exec_pout (hr : Runs s l (.pout l a b)) (hs : SoundRegs s l [a, b]) {i v : Word}
    (ha : (s.lane l).core.get a = i) (hi : i.toNat ≤ 47) (hb : (s.lane l).core.get b = v) {addr : Nat}
    (haddr : 0x02001000 + i.toNat / 32 * 4 = addr) :
    exec (.pout l a b) s = .next (after s l (wrote (noted
      (((s.lane l).wr32 addr (setBit ((s.lane l).rd32 addr) (i.toNat % 32) (v == codedTrue))).feed s.md.mode
        (0x50000000 ||| i <<< 8 ||| bit (v == codedTrue))) (invalidCount v)) 0 0)) := by
  obtain ⟨htake, hc⟩ := hr
  refine congrArg Host.Outcome.next ((State.begin_takes htake _ _).trans ?_)
  rw [State.readReg_sound (soundRegs_left hs) hc, ha, State.bounds_pass (decide_eq_true hi),
    State.readReg_sound (soundRegs_right hs) hc, hb, haddr, State.readStore_clean hclean]
  dsimp only
  rw [State.updLane, State.feed_setLane]
  exact State.finish_consume _ _ _ _

end

/-- Settles O9: `exec_pin` and `exec_pout`, whose word is stored in canonical memory. -/
theorem processImage : Obligations.ProcessImage := by
  unfold Obligations.ProcessImage
  intro s l hclean
  refine ⟨fun d a hr hs hi => exec_pin hclean hr hs rfl hi, fun a b hr hs hi hwf => ?_⟩
  intro x i v addr mask y
  refine ⟨?_, Lane.wr32_keepsOutside hwf _ _⟩
  rw [exec_pout hclean hr hs rfl hi rfl rfl, setBit_eq_codedTrue, bit_eq_codedTrue]

end Sys2Proof.Machine

/-! Safe links at the application's side (R177, R178, R314). -/

namespace Sys2Proof.Machine

open Sys2Proof.Safety

/-- A field at the low end of a word. -/
theorem fieldN_low (w : Word) (n : Nat) : fieldN w 0 n = w.toNat % 2 ^ n := rfl

/-- Words fed to the signature of a lane as given, in order. -/
theorem State.feedAll_setLane (s : State) (l : LaneId) (y : Lane) (ws : List Word) :
    ws.foldl (fun t w => t.feed l w) (s.setLane l y) = s.setLane l (y.feedAll s.md.mode ws) := by
  induction ws generalizing y with
  | nil => rfl
  | cons w ws ih =>
    rw [List.foldl_cons, State.feed_setLane, ih]
    rfl

/-- No address of a list is denied where each has the right. -/
theorem firstDenied_none {f : Nat → Right} {as : List Nat} (h : ∀ a ∈ as, f a = .ok) : firstDenied f as = none := by
  induction as with
  | nil => rfl
  | cons a as ih =>
    obtain ⟨ha, has⟩ := List.forall_mem_cons.mp h
    rw [firstDenied, if_pos ha, ih has]

/-- Addresses that all have the right pass. -/
theorem State.denied_pass {s : State} {l : LaneId} {f : Nat → Right} {as : List Nat} (h : ∀ a ∈ as, f a = .ok)
    (sub : Nat) (body : State) : s.denied l sub (firstDenied f as) body = body := by
  rw [firstDenied_none h]
  rfl

/-- What SLTX and SLRX of a connection and a buffer share: sound sources, a connection that exists, an aligned buffer
(R177, R178). -/
structure LinkAccess (s : State) (l : LaneId) (a b : Reg) (c p : Word) : Prop where
  sources : SoundRegs s l [a, b]
  conn_eq : (s.lane l).core.get a = c
  buffer_eq : (s.lane l).core.get b = p
  conn_le : c.toNat ≤ 511
  aligned : p.toNat % 4 = 0
  enabled : (s.lane l).sl.enable = true

/-- SLTX accepts the buffer of `n` bytes of payload of kind `k` for a connection (R177). -/
structure Lane.Sendable (x : Lane) (c p n k : Nat) : Prop where
  transmits : x.connTx c = true
  unstaged : x.stgFlag c 5 = false
  length_eq : fieldN (x.rd32 p) 0 8 = n
  kind_eq : fieldN (x.rd32 p) 8 8 = k
  reserved : fieldN (x.rd32 p) 16 16 = 0
  length_le : n ≤ 96
  permitted : x.kindPermitted c k = true
  loads : ∀ i, i < n + 4 → x.bufferLoad (p + i) = .ok

section

variable {s : State} {l : LaneId} {d a b : Reg} {c p : Word} (h : LinkAccess s l a b c p)

include h

/-- SLTX of a buffer that it accepts stages the PDU and feeds it (R177, R314). -/
theorem exec_sltx (hr : Runs s l (.sltx l a b)) (hclean : CleanStore s l) {n k : Nat}
    (hsend : (s.lane l).Sendable c.toNat p.toNat n k) {pdu : List Byte}
    (hpdu : s.buildPdu (s.lane l) c.toNat k n ((s.lane l).bytesAt (p.toNat + 4) n) = pdu) {code : Nat}
    (hcode : leAt pdu (16 + n) 8 = code) :
    exec (.sltx l a b) s = .next (after s l (wrote (((s.lane l).stage c.toNat pdu).feedAll s.md.mode
      [0x51000000 ||| c, BitVec.ofNat 32 code, BitVec.ofNat 32 (code / 2 ^ 32)]) 0 0)) := by
  obtain ⟨htake, hc⟩ := hr
  obtain ⟨hs, ha, hb, hle, halign, hen⟩ := h
  obtain ⟨htx, hfree, hn, hk, hres, hmax, hperm, hload⟩ := hsend
  have hword : ∀ q ∈ [p.toNat], (s.lane l).bufferLoad q = .ok := by
    simpa using hload 0 (by omega)
  have hpayload : ∀ q ∈ (List.range n).map (p.toNat + 4 + ·), (s.lane l).bufferLoad q = .ok := by
    simp only [List.forall_mem_map, List.mem_range, Nat.add_assoc]
    exact fun i hi => hload (4 + i) (by omega)
  refine congrArg Host.Outcome.next ((State.begin_takes htake _ _).trans ?_)
  rw [State.readReg_sound (soundRegs_left hs) hc, ha, State.bounds_pass (decide_eq_true hle),
    State.readReg_sound (soundRegs_right hs) hc, hb]
  dsimp only
  rw [if_neg (not_not.mpr halign), State.denied_pass hword, State.readStore_clean hclean, if_neg (by simp [hen, htx]),
    hn, hk, if_neg (Nat.not_lt.mpr hmax), if_neg (by simp [hperm]), if_neg (by simp [hfree]), if_neg (not_not.mpr hres),
    State.denied_pass hpayload, State.readStore_clean hclean, hpdu, hcode]
  exact (congrArg (fun t : State => (t.finish l id).counted l) (State.feedAll_setLane s l _ [_, _, _])).trans
    (State.finish_plain _ _ _)

variable (hr : Runs s l (.slrx l d a b)) (hrx : (s.lane l).connRx c.toNat = true)
  (hstore : ∀ i, i < 25 → (s.lane l).bufferStore (s.laneMode l) ((p.toNat + 4 * i) % 2 ^ 32) = .ok)

include hr hrx hstore

/-- SLRX past its checks delivers or answers that there is nothing to deliver (R178). -/
theorem exec_slrx : exec (.slrx l d a b) s = .next (after s l (match s.delivery (s.lane l) c.toNat with
    | some pdu => wrote (((s.lane l).wrWords p.toNat (bufferWords pdu)).feedAll s.md.mode
        [0x52000000 ||| c <<< 1 ||| 1, pduSeq pdu]) d codedTrue
    | none => wrote ((s.lane l).feedAll s.md.mode [0x52000000 ||| c <<< 1]) d codedFalse)) := by
  obtain ⟨htake, hc⟩ := hr
  obtain ⟨hs, ha, hb, hle, halign, hen⟩ := h
  have hbuffer : ∀ q ∈ (List.range 25).map (fun i => (p.toNat + 4 * i) % 2 ^ 32),
      (s.lane l).bufferStore (s.laneMode l) q = .ok := by
    simpa only [List.forall_mem_map, List.mem_range] using hstore
  refine congrArg Host.Outcome.next ((State.begin_takes htake _ _).trans ?_)
  rw [State.readReg_sound (soundRegs_left hs) hc, ha, State.bounds_pass (decide_eq_true hle),
    State.readReg_sound (soundRegs_right hs) hc, hb]
  dsimp only
  rw [if_neg (not_not.mpr halign), State.denied_pass hbuffer, if_neg (by simp [hen, hrx])]
  cases hdel : s.delivery (s.lane l) c.toNat with
  | some pdu =>
    exact (congrArg (fun t : State => (t.finishSet l d codedTrue).counted l)
      (State.feedAll_setLane s l _ [_, _])).trans (State.finishSet_setLane _ _ _ _ _)
  | none => exact State.finishSet_setLane _ _ _ _ _

end

/-- Settles O15: `exec_sltx` of a buffer that is `Lane.Sendable`, and `exec_slrx` for both answers of the delivery. -/
theorem safeLinkInstructions : Obligations.SafeLinkInstructions := by
  unfold Obligations.SafeLinkInstructions
  intro s l a b hs x c p hle halign hen
  have h : LinkAccess s l a b c (x.core.get b) := ⟨hs, rfl, rfl, hle, halign, hen⟩
  refine ⟨fun hr hclean htx hfree => ?_, fun d hr hrx hstore => ⟨fun pdu hdel => ?_, fun hdel => ?_⟩⟩
  · intro w n k hmax hres hperm hload pdu code
    have hzero : fieldN w 16 16 = 0 := by
      rw [fieldN_eq_div_mod]
      exact (congrArg (· % 2 ^ 16) hres).trans (Nat.zero_mod _)
    exact exec_sltx h hr hclean ⟨htx, hfree, fieldN_low w 8, fieldN_eq_div_mod w 8 8, hzero, hmax, hperm, hload⟩ rfl rfl
  · rw [exec_slrx h hr hrx hstore, hdel]
  · rw [exec_slrx h hr hrx hstore, hdel]

end Sys2Proof.Machine

/-! Calls of rule packs (R179). -/

namespace Sys2Proof.Machine

open Sys2Proof.Safety

/-- A core that passes control to a target. -/
theorem Core.retire_to (c : Core) (pc : Word) : c.retire (!c.priv) pc = (retired c 0 0).passTo pc :=
  c.codedEvents_retire_to 0 pc

theorem packAddr_lt {p : Nat} (hp : p < 8) : packAddr p < 2 ^ 32 := by unfold packAddr; omega

/-- The directory entry of a pack is read (R179). -/
theorem State.readDir_clean {s : State} {l : LaneId} (h : CleanStore s l) (p off : Nat) (body : State) :
    s.readDir l p off body = body := by
  unfold State.readDir
  rw [State.readStore_clean h, ite_self]

/-- RPCALL of an entry that the directory has, with room on the pack-call stack (R179). -/
theorem exec_rpcall {s : State} {l : LaneId} {a b : Reg} (hr : Runs s l (.rpcall l a b)) (hs : SoundRegs s l [a, b])
    (hclean : CleanStore s l) {p f slot : Nat} {target : Word} (ha : ((s.lane l).core.get a).toNat = p)
    (hb : ((s.lane l).core.get b).toNat = f) (hp : p < 8) (hpresent : (s.lane l).packPresent p = true)
    (hf : f < fieldN ((s.lane l).rd32 (packAddr p + 0x18)) 0 8)
    (hslot : (((s.lane l).rd32 (packAddr p + 0x14)).toNat + f * 4) % 2 ^ 32 = slot)
    (htarget : (s.lane l).rd32 slot = target) (halign : target.toNat % 4 = 0)
    (hfetch : (s.lane l).fetchable target.toNat = true) (hroom : (s.lane l).core.packStack.length < 4) :
    exec (.rpcall l a b) s = .next (withCore s l fun c =>
      (retired { c with packStack := (c.pc + 4, c.pack) :: c.packStack, pack := some p } 0 0).passTo target) := by
  obtain ⟨htake, hc⟩ := hr
  refine congrArg Host.Outcome.next ((State.begin_takes htake _ _).trans ?_)
  rw [State.readReg_sound (soundRegs_left hs) hc, ha, State.readDir_clean hclean, State.bounds_pass hpresent,
    State.readReg_sound (soundRegs_right hs) hc, hb, State.readDir_clean hclean, State.readDir_clean hclean,
    Nat.mod_eq_of_lt (packAddr_lt hp), State.bounds_pass (decide_eq_true hf), State.readStore_clean hclean]
  dsimp only
  rw [hslot, htarget, if_neg (not_not.mpr halign), if_neg (by simp [hfetch]), if_neg (Nat.not_le.mpr hroom),
    State.jumpTo_counted]
  exact withCore_congr (Core.retire_to { (s.lane l).core with packStack := _, pack := _ } _)

/-- RPRET of a call that is not the last one open of an INIT call of the runtime (R119, R179). -/
theorem exec_rpret {s : State} {l : LaneId} (hr : Runs s l (.rpret l)) {ret : Word} {pk : Option Nat}
    {rest : List (Word × Option Nat)} (hstack : (s.lane l).core.packStack = (ret, pk) :: rest)
    (hinit : rest ≠ [] ∨ (s.lane l).cyc.initCalls = none) :
    exec (.rpret l) s = .next (withCore s l fun c =>
      (retired { c with packStack := rest, pack := pk } 0 0).passTo ret) := by
  obtain ⟨htake, -⟩ := hr
  refine congrArg Host.Outcome.next ((State.begin_takes htake _ _).trans ?_)
  dsimp only
  rw [hstack]
  dsimp only
  split
  next q more hcall =>
    simp [hcall] at hinit
  next =>
    rw [State.jumpTo_counted]
    exact withCore_congr (Core.retire_to { (s.lane l).core with packStack := _, pack := _ } _)

/-- RPRET with no call open is illegal (R179). -/
theorem exec_rpret_nil {s : State} {l : LaneId} (hr : Runs s l (.rpret l))
    (hstack : (s.lane l).core.packStack = []) :
    exec (.rpret l) s = .next ((s.trap l 0x01 (some 0x081) (instrWord (.rpret l))).counted l) := by
  obtain ⟨htake, -⟩ := hr
  refine congrArg Host.Outcome.next ((State.begin_takes htake _ _).trans ?_)
  dsimp only
  rw [hstack]

/-- Settles O16: `exec_rpcall`, `exec_rpret` and `exec_rpret_nil`. -/
theorem packCalls : Obligations.PackCalls := by
  unfold Obligations.PackCalls
  intro s l x
  refine ⟨fun a b hr hs hclean => ?_, fun ret pk rest hr hstack hinit => exec_rpret hr hstack hinit, exec_rpret_nil⟩
  intro p f slot hp hpresent hf halign hfetch hroom
  exact exec_rpcall hr hs hclean rfl rfl hp hpresent (hf.trans_eq (fieldN_low _ 8).symm) rfl rfl halign hfetch hroom

end Sys2Proof.Machine

/-! The messages of the links between the lanes (R214, R215, R222, R240, R458). -/

namespace Sys2Proof.Machine

open Sys2Proof.Safety

/-! A message at its receiver. -/

section

variable {s : State} {dst k : LaneId} {m : LinkMsg} {typ len : Nat}

theorem State.linkOf_sender (hsender : msgSender m = some k) (hne : k ≠ dst) : s.linkOf dst m = k := by
  simp [State.linkOf, hsender, hne]

theorem State.withheld_quiet (hq : Quiet s) (id : Nat) (k : LaneId) : s.withheld id k = false := by
  obtain ⟨-, hlasting⟩ := hq
  simp [State.withheld, State.lasting, hlasting]

theorem State.checkHit_calm (hc : Calm s) (dst k : LaneId) : s.checkHit dst k = false := by
  simp [State.checkHit, State.injected_calm hc]

/-- A message of another lane marks its link, and acts where it is as expected (R214, R240). -/
theorem State.linkArrive_eq (hc : Calm s) (hsender : msgSender m = some k) (hne : k ≠ dst)
    (act : State → LaneId → State) : s.linkArrive dst m typ len act =
      if msgGood m dst typ len (s.lane dst).cycleLo then act (linked s dst k true id) k
      else linked s dst k false id := by
  unfold State.linkArrive
  dsimp only
  rw [State.linkOf_sender hsender hne, State.checkHit_calm hc, hsender]
  cases msgGood m dst typ len (s.lane dst).cycleLo <;> simp <;> rfl

theorem State.linkArrive_taken (hc : Calm s) (h : Arrives s dst k typ len m) (act : State → LaneId → State) :
    s.linkArrive dst m typ len act = act (linked s dst k true id) k := by
  obtain ⟨hsender, hne, hgood⟩ := h
  rw [State.linkArrive_eq hc hsender hne, if_pos hgood]

/-- What a lane makes of a message after the link has been marked. -/
theorem updLane_linked (s : State) (dst k : LaneId) (good : Bool) (f : Lane → Lane) :
    (linked s dst k good id).updLane dst f = linked s dst k good f := by
  cases dst <;> rfl

theorem linked_lane (s : State) (dst k : LaneId) (good : Bool) (f : Lane → Lane) :
    (linked s dst k good f).lane dst = f ((s.lane dst).noteLink dst k good) := PerLane.get_set_same _ _ _

end

/-! What each form does with a message as expected. -/

/-- The input word of a serving lane is held (R95, R214). -/
def State.takeInput (dst : LaneId) (m : LinkMsg) (s : State) (k : LaneId) : State :=
  if s.serves k then
    s.updLane dst (fun x => { x with blk := { x.blk with
      inputs := x.blk.inputs.set k (some (BitVec.ofNat 66 (leAt m.body 0 9))) } })
  else s

/-- The page digests of a lane that audits are held, and compared once all are (R222). -/
def State.takeDigests (dst : LaneId) (m : LinkMsg) (s : State) (k : LaneId) : State :=
  if s.auditors.contains k && (s.lane dst).vote.auditing then
    (s.updLane dst (fun x =>
      { x with vote := { x.vote with digests := x.vote.digests.set k (some (bodyDigests m.body)) } })).compareAudit dst
  else s

/-- The checkpoints of the lane slice released last are judged by a lane that has yet to judge it (R458). -/
def State.takeCheckpoints (dst : LaneId) (s : State) (k : LaneId) : State :=
  match s.bist.done with
  | none => s
  | some d => if d.lane = k && s.serves dst && (s.lane dst).bist.feedLane.isNone then s.judgeSlice dst else s

section

variable {s : State} {dst k : LaneId} {m : LinkMsg}

theorem exec_inputMessage (hq : Quiet s) (hsender : msgSender m = some k) (hne : k ≠ dst)
    (hstep : s.md.step = .agreement) (hclk : (s.lane k).vio.clkUnq = false) :
    exec (.inputMessage dst m) s = .next (s.linkArrive dst m 1 9 (State.takeInput dst m)) := by
  show execInputMessage dst m s = _
  unfold execInputMessage
  dsimp only
  rw [if_neg (not_not.mpr hstep), State.linkOf_sender hsender hne, hclk, State.withheld_quiet hq]
  rfl

variable (hjoin : s.joins dst = true) (hv : s.voting = true)

include hjoin hv

theorem exec_signatureMessage (hq : Quiet s) (hsender : msgSender m = some k) (hne : k ≠ dst) :
    exec (.signatureMessage dst m) s = .next (s.linkArrive dst m 2 12 fun s k =>
      if s.md.step = .evaluation then s.takeSignature dst m k else s) := by
  show execSignatureMessage dst m s = _
  unfold execSignatureMessage
  dsimp only
  rw [hjoin, hv, State.linkOf_sender hsender hne, State.withheld_quiet hq]
  rfl

theorem exec_viewMessage : exec (.viewMessage dst m) s = .next (s.linkArrive dst m 3 2 fun s k =>
    if s.md.step = .compared then s.takeView dst m k else s) := by
  show execViewMessage dst m s = _
  unfold execViewMessage
  rw [hjoin, hv]
  rfl

theorem exec_controlMessage : exec (.controlMessage dst m) s =
    .next (s.linkArrive dst m 6 m.body.length (State.takeCheckpoints dst)) := by
  show execControlMessage dst m s = _
  unfold execControlMessage
  rw [hjoin, hv]
  rfl

omit hv in
theorem exec_auditMessage (hgap : s.gapDuties = true) : exec (.auditMessage dst m) s =
    .next (s.linkArrive dst m 4 512 (State.takeDigests dst m)) := by
  show execAuditMessage dst m s = _
  unfold execAuditMessage
  rw [hjoin, hgap]
  rfl

end

/-! The audit of a lane that has received digests (R222, R223). -/

/-- What a comparison of digests leaves of a lane. -/
def Lane.audited (x : Lane) : Core × LaneBlk × Store × PerLane (Option (List DWord)) :=
  (x.core, x.blk, x.store, x.vote.digests)

theorem State.recJoint_lane (s : State) (d : LaneId) (name : RecName) (ps : List Word) (l : LaneId) :
    (s.recJoint d name ps).lane l = s.lane l := by
  unfold State.recJoint
  split
  · exact State.recAs_lane ..
  · split
    · split
      · exact State.recAs_lane ..
      · rfl
    · rfl

theorem VoteBlk.noteDiff_digests (v : VoteBlk) (page lane : Nat) : (v.noteDiff page lane).digests = v.digests := by
  unfold VoteBlk.noteDiff
  split <;> rfl

theorem State.takePage_audited (s : State) (d : LaneId) (page : Nat) (v : PageVerdict) :
    ((s.takePage d page v).lane d).audited = (s.lane d).audited := by
  cases v with
  | same => rfl
  | odd l =>
    simp only [State.takePage, State.recJoint_lane, State.lane_updLane, Lane.audited, VoteBlk.noteDiff_digests]
  | unknown =>
    simp only [State.takePage, State.recJoint_lane, State.lane_updLane, Lane.audited, VoteBlk.noteDiff_digests]

theorem State.countProbation_lane (s : State) (d l : LaneId) : (s.countProbation d).lane l = s.lane l := by
  unfold State.countProbation
  split <;> rfl

theorem State.compareAudit_audited (s : State) (d : LaneId) :
    ((s.compareAudit d).lane d).audited = (s.lane d).audited := by
  unfold State.compareAudit
  dsimp only
  split
  · rfl
  · generalize hu : (List.range 64).foldl _ s = u
    have hpages : (u.lane d).audited = (s.lane d).audited := by
      rw [← hu]
      exact foldl_keep (fun t : State => (t.lane d).audited) _ (fun t i => t.takePage_audited d _ _) _ s
    rw [State.countProbation_lane, State.lane_updLane, ← hpages]
    rfl

/-- The judgement of the slice released last in the lane that makes it (R458). -/
theorem State.judgeSlice_lane {s : State} {d : BistDone} (h : s.bist.done = some d) (k : LaneId) :
    ∃ r, (s.judgeSlice k).lane k = (s.lane k).noteSlice d.lane d.slice d.misr d.time r d.checkpoints := by
  refine ⟨bistJudge false d.slice d.misr d.checkpoints d.inc d.restoreOk, ?_⟩
  unfold State.judgeSlice
  rw [h]
  dsimp only
  split
  · rw [State.recM_lane, State.lane_updLane]
  · rw [State.lane_updLane]

/-- Every form of message that its receiver looks at comes to the link (R214). -/
theorem exec_message {s : State} {dst k : LaneId} {m : LinkMsg} {i : Instr} {typ len : Nat} (hq : Quiet s)
    (hsender : msgSender m = some k) (hne : k ≠ dst)
    (hi : (i = .inputMessage dst m ∧ typ = 1 ∧ len = 9 ∧ s.md.step = .agreement ∧ (s.lane k).vio.clkUnq = false) ∨
      (s.joins dst = true ∧ s.voting = true ∧
        ((i = .signatureMessage dst m ∧ typ = 2 ∧ len = 12) ∨ (i = .viewMessage dst m ∧ typ = 3 ∧ len = 2) ∨
         (i = .auditMessage dst m ∧ typ = 4 ∧ len = 512 ∧ s.gapDuties = true) ∨
         (i = .controlMessage dst m ∧ typ = 6 ∧ len = m.body.length)))) :
    ∃ act, exec i s = .next (s.linkArrive dst m typ len act) := by
  obtain ⟨rfl, rfl, rfl, hstep, hclk⟩ | ⟨hjoin, hv, hform⟩ := hi
  · exact ⟨_, exec_inputMessage hq hsender hne hstep hclk⟩
  · obtain ⟨rfl, rfl, rfl⟩ | ⟨rfl, rfl, rfl⟩ | ⟨rfl, rfl, rfl, hgap⟩ | ⟨rfl, rfl, rfl⟩ := hform
    · exact ⟨_, exec_signatureMessage hjoin hv hq hsender hne⟩
    · exact ⟨_, exec_viewMessage hjoin hv⟩
    · exact ⟨_, exec_auditMessage hjoin hgap⟩
    · exact ⟨_, exec_controlMessage hjoin hv⟩

/-- Settles O26: every form comes to the link (`exec_message`), which marks it and acts on a message as expected
(`State.linkArrive_eq`); a comparison of digests and a judgement leave what the statement names. -/
theorem linkMessages : Obligations.LinkMessages := by
  unfold Obligations.LinkMessages
  intro s dst k m hq
  have hc : Calm s := hq.1
  refine ⟨fun h hstep hk hclk => ?_, fun hjoin hv => ⟨fun h hstep hk => ?_, fun h hstep hk => ?_,
    fun h hgap hk haudit => ?_, fun d h hdone hd hserves hyet => ?_, fun h hdone => ?_⟩,
    fun hsender hne i typ len hi hbad => ?_⟩
  · rw [exec_inputMessage hq h.1 h.2.1 hstep hclk, State.linkArrive_taken hc h]
    exact congrArg _ ((if_pos hk).trans (updLane_linked ..))
  · rw [exec_signatureMessage hjoin hv hq h.1 h.2.1, State.linkArrive_taken hc h]
    exact congrArg _ ((if_pos hstep).trans ((if_pos hk).trans (updLane_linked ..)))
  · rw [exec_viewMessage hjoin hv, State.linkArrive_taken hc h]
    exact congrArg _ ((if_pos hstep).trans ((if_pos hk).trans (updLane_linked ..)))
  · have hact : (linked s dst k true id).takeDigests dst m k = _ :=
      if_pos (Bool.and_eq_true_iff.mpr ⟨List.contains_iff_mem.mpr hk, by rw [linked_lane]; exact haudit⟩)
    rw [updLane_linked] at hact
    refine ⟨_, by rw [exec_auditMessage hjoin hgap, State.linkArrive_taken hc h, hact], ?_⟩
    have hkept := State.compareAudit_audited (linked s dst k true fun x =>
      { x with vote := { x.vote with digests := x.vote.digests.set k (some (bodyDigests m.body)) } }) dst
    rw [linked_lane] at hkept
    obtain ⟨hcore, hblk, hstore, hdigests⟩ := by simpa only [Lane.audited, Prod.mk.injEq] using hkept
    exact ⟨by rw [hdigests, PerLane.get_set_same], hcore, hblk, hstore⟩
  · have hact : State.takeCheckpoints dst (linked s dst k true id) k = (linked s dst k true id).judgeSlice dst := by
      have hdone' : (linked s dst k true id).bist.done = some d := hdone
      have hyet' : ((linked s dst k true id).lane dst).bist.feedLane = none := by rw [linked_lane]; exact hyet
      have hserves' : (linked s dst k true id).serves dst = true := hserves
      unfold State.takeCheckpoints
      rw [hdone']
      simp [hd, hyet', hserves']
    obtain ⟨r, hlane⟩ := State.judgeSlice_lane (s := linked s dst k true id) hdone dst
    refine ⟨_, by rw [exec_controlMessage hjoin hv, State.linkArrive_taken hc h, hact], ?_⟩
    rw [hlane, linked_lane]
    exact ⟨rfl, rfl, rfl, rfl, rfl⟩
  · rw [exec_controlMessage hjoin hv, State.linkArrive_taken hc h]
    have hdone' : (linked s dst k true id).bist.done = none := hdone
    unfold State.takeCheckpoints
    rw [hdone']
  · obtain ⟨act, hexec⟩ := exec_message hq hsender hne hi
    rw [hexec, State.linkArrive_eq hc hsender hne, if_neg (by simp [hbad])]

end Sys2Proof.Machine

/-! The close of the two rounds of a vote (R215, R216, R217, R237). -/

namespace Sys2Proof.Machine

open Sys2Proof.Safety

/-! The signature round (R215). -/

theorem State.joining_nodup (s : State) : s.joining.Nodup := LaneId.list_nodup.filter _

theorem State.mem_joining {s : State} {l : LaneId} : l ∈ s.joining ↔ s.joins l = true := by
  simp [State.joining, LaneId.mem_list]

theorem compareSig_eq (own other : Option DWord) : compareSig own other =
    if own = none ∨ other = none then .missing else if own = other then .equal else .different := by
  cases own <;> cases other <;> simp [compareSig]

/-- With no injection each lane forms its own row. -/
theorem State.closeLanes_calm {s : State} (hc : Calm s) (ls : List LaneId) :
    ls.foldl State.closeLane s = ls.foldl (fun s l => s.updLane l (·.closeRound l false)) s := by
  induction ls generalizing s with
  | nil => rfl
  | cons l ls ih =>
    have hclose : s.closeLane l = s.updLane l (·.closeRound l false) := by
      simp [State.closeLane, State.injected_calm hc]
    rw [List.foldl_cons, List.foldl_cons, hclose]
    exact ih hc

/-- The lanes as the signature round has closed in each that takes part (R215). -/
def State.roundClosed (s : State) : State := s.joining.foldl State.closeLane (s.advanceTo (s.lead.beforeEnd 340000))

section

variable {s : State} (hc : Calm s)

include hc

theorem State.roundClosed_eq : s.roundClosed =
    s.joining.foldl (fun s l => s.updLane l (·.closeRound l false)) (s.advanceTo (s.lead.beforeEnd 340000)) :=
  State.closeLanes_calm (s := s.advanceTo _) hc _

theorem State.roundClosed_md : s.roundClosed.md = s.md := by
  rw [State.roundClosed_eq hc]
  exact (State.foldl_updLane_keeps (fun _ l x => x.closeRound l false) s.joining _).1

theorem State.roundClosed_lane {l : LaneId} (hl : s.joins l = true) :
    s.roundClosed.lane l = (s.lane l).closeRound l false := by
  rw [State.roundClosed_eq hc, State.lane_foldl_updLane (F := fun _ l x => x.closeRound l false) (fun _ _ _ => rfl)
    s.joining_nodup, if_pos (State.mem_joining.mpr hl), State.advanceTo_lane]

end

theorem exec_signatureRoundClose {s : State} (hv : s.voting = true) (hstep : s.md.step = .evaluation)
    (hended : ∀ l, s.joins l = true → (s.lane l).evaluating = false) : exec .signatureRoundClose s =
      .next { s.roundClosed with md := { s.roundClosed.md with step := .compared } } := by
  have hall : s.joining.all (fun l => !(s.lane l).evaluating) = true :=
    List.all_eq_true.mpr fun l hl => by rw [hended l (State.mem_joining.mp hl)]; rfl
  show execSignatureRoundClose s = _
  unfold execSignatureRoundClose
  rw [if_pos (by simp only [hv, hstep, hall, decide_true, Bool.and_self])]
  rfl

/-! The odd set (R216). -/

section

variable {v : VoteBlk} {srv : List LaneId}

theorem VoteBlk.odd_attributed (hpend : v.pending = []) (hun : v.unattributable = false) :
    v.odd srv = srv.filter (fun l => v.accused srv l || v.accuser srv l) := by
  simp [VoteBlk.odd, VoteBlk.pends, hpend, hun]

/-- No lane is odd where all comparisons are EQUAL. -/
theorem VoteBlk.odd_of_equal (hpend : v.pending = []) (hun : v.unattributable = false)
    (hothers : ∀ j ∈ srv, ∃ l ∈ srv, l ≠ j) (heq : ∀ l ∈ srv, ∀ j ∈ srv, l ≠ j → v.m l j = .equal) :
    v.odd srv = [] := by
  rw [VoteBlk.odd_attributed hpend hun, List.filter_eq_nil_iff]
  intro j hj
  have haccused : v.accused srv j = false := by
    obtain ⟨l, hl, hlj⟩ := hothers j hj
    refine List.all_eq_false.mpr ⟨l, List.mem_filter.mpr ⟨hl, decide_eq_true hlj⟩, ?_⟩
    simp [heq l hl j hj hlj]
  have haccuser : v.accuser srv j = false := by
    refine List.any_eq_false.mpr fun k hk => ?_
    by_cases hkj : k = j
    · simp [hkj]
    · simp [heq j hj k hk (Ne.symm hkj)]
  simp [haccused, haccuser]

/-- A lane that all other lanes find not EQUAL is odd. -/
theorem VoteBlk.mem_odd_of_accused (hpend : v.pending = []) (hun : v.unattributable = false) {j : LaneId}
    (hj : j ∈ srv) (h : ∀ l ∈ srv, l ≠ j → v.m l j ≠ .equal) : j ∈ v.odd srv := by
  have haccused : v.accused srv j = true := by
    refine List.all_eq_true.mpr fun l hl => ?_
    obtain ⟨hl, hlj⟩ := List.mem_filter.mp hl
    exact decide_eq_true (h l hl (of_decide_eq_true hlj))
  rw [VoteBlk.odd_attributed hpend hun, List.mem_filter]
  exact ⟨hj, by simp [haccused]⟩

/-- The one lane that two lanes, EQUAL to each other, both find not EQUAL. -/
theorem VoteBlk.odd_of_two (hpend : v.pending = []) (hun : v.unattributable = false) {j : LaneId}
    (hnext : v.m j.next j ≠ .equal) (hprev : v.m j.prev j ≠ .equal) (hnp : v.m j.next j.prev = .equal)
    (hpn : v.m j.prev j.next = .equal) : v.odd LaneId.list = [j] := by
  rw [VoteBlk.odd_attributed hpend hun]
  cases j <;> simp only [LaneId.next, LaneId.prev] at hnext hprev hnp hpn <;>
    simp [LaneId.list, VoteBlk.accused, VoteBlk.accuser, hnext, hprev, hnp, hpn]

end

/-! The decision of a lane (R216, R237). -/

theorem State.servingLanes_of_three {s : State} (h : s.servingLanes.length = 3) : s.servingLanes = LaneId.list :=
  List.filter_sublist.eq_of_length h

/-- The decision that a lane with the given content computes. -/
def State.decisionOf (s : State) (l : LaneId) (x : Lane) : Decision :=
  let odd := x.vote.odd s.servingLanes
  if x.cyc.ownStop then .stop
  else if x.cyc.marker && !odd.contains l then .stop
  else s.underProbation (decide216 s.servingLanes.length s.md.mode odd (s.rejoining x))

/-- A lane that shows the rows that it holds (R243). -/
def Lane.showView (x : Lane) : Lane := { x with vote := { x.vote with view := x.vote.viewWord } }

/-- A lane after the view round: what it shows, and the decision that it drives where it works and serves. -/
def State.driven (s : State) (l : LaneId) (x : Lane) : Lane :=
  if x.alive && s.serves l then
    { x.showView with
      vote := { x.showView.vote with lines := some (s.decisionOf l x) }
      cyc := { x.cyc with ownStop := false } }
  else x.showView

section

variable {s : State} {l : LaneId}

theorem State.decision_showView (s : State) (l : LaneId) :
    (s.updLane l Lane.showView).decision l = s.decisionOf l (s.lane l) := by
  unfold State.decision
  rw [State.lane_updLane]
  rfl

theorem State.driveLane_calm (hc : Calm s) (l : LaneId) : s.driveLane l = s.updLane l (s.driven l) := by
  have hdrive : s.driveLane l = if !(s.lane l).alive || !s.serves l then s.updLane l Lane.showView
      else (s.updLane l Lane.showView).updLane l fun x =>
        { x with vote := { x.vote with lines := some ((s.updLane l Lane.showView).decision l) }
                 cyc := { x.cyc with ownStop := false } } := by
    unfold State.driveLane
    dsimp only
    rw [State.injected_calm (s := s.updLane l _) hc]
    rfl
  rw [hdrive, State.decision_showView, State.updLane_updLane, ← apply_ite (s.updLane l)]
  refine State.updLane_congr ?_
  unfold State.driven
  cases (s.lane l).alive <;> cases s.serves l <;> rfl

/-- With no injection each lane drives its own decision. -/
theorem State.driveLanes_calm (hc : Calm s) (ls : List LaneId) :
    ls.foldl State.driveLane s = ls.foldl (fun s l => s.updLane l (s.driven l)) s := by
  induction ls generalizing s with
  | nil => rfl
  | cons l ls ih =>
    rw [List.foldl_cons, List.foldl_cons, State.driveLane_calm hc]
    exact ih hc

/-- With no element latched as different no lane becomes a cause (R254). -/
theorem State.switchCauses_none (h : s.stage.swLatched = 0) : s.switchCauses = s := by
  unfold State.switchCauses
  simp [h]
  rfl

/-- The lanes as each that takes part has driven its decision (R216). -/
def State.roundDriven (s : State) : State :=
  s.joining.foldl State.driveLane (s.advanceTo (s.lead.beforeEnd 300000)).switchCauses

theorem exec_viewRoundClose (hv : s.voting = true) (hstep : s.md.step = .compared) : exec .viewRoundClose s =
    .next { s.roundDriven with md := { s.roundDriven.md with step := .viewed } } := by
  show execViewRoundClose s = _
  unfold execViewRoundClose
  rw [if_pos (by simp only [hv, hstep, decide_true, Bool.and_self])]
  rfl

variable (hc : Calm s) (hlatched : s.stage.swLatched = 0)

include hc hlatched

theorem State.roundDriven_eq : s.roundDriven =
    s.joining.foldl (fun s l => s.updLane l (s.driven l)) (s.advanceTo (s.lead.beforeEnd 300000)) := by
  unfold State.roundDriven
  rw [State.switchCauses_none (s := s.advanceTo _) hlatched]
  exact State.driveLanes_calm (s := s.advanceTo _) hc _

theorem State.roundDriven_md : s.roundDriven.md = s.md := by
  rw [State.roundDriven_eq hc hlatched]
  exact (State.foldl_updLane_keeps State.driven s.joining _).1

theorem State.roundDriven_lane (hl : s.joins l = true) : s.roundDriven.lane l = s.driven l (s.lane l) := by
  rw [State.roundDriven_eq hc hlatched, State.lane_foldl_updLane (F := State.driven) (fun _ _ _ => rfl)
    s.joining_nodup, if_pos (State.mem_joining.mpr hl), State.advanceTo_lane]
  rfl

end

/-- The decision of a lane that need not decide STOP by itself, outside probation (R216). -/
theorem State.decisionOf_table {s : State} {l : LaneId} {x : Lane} (hown : x.cyc.ownStop = false)
    (hmarker : x.cyc.marker = false) (hp : s.inProbation = false) : s.decisionOf l x =
      decide216 s.servingLanes.length s.md.mode (x.vote.odd s.servingLanes) (s.rejoining x) := by
  simp [State.decisionOf, hown, hmarker, State.underProbation, hp]

theorem State.decisionOf_ownStop {s : State} {l : LaneId} {x : Lane} (hown : x.cyc.ownStop = true) :
    s.decisionOf l x = .stop := if_pos hown

/-- The table of R216 with two serving lanes in DEGRADED. -/
theorem decide216_degraded (odd : List LaneId) (rejoin : Option LaneId) :
    decide216 2 .degraded odd rejoin = if odd = [] then .cont else .stop := by
  cases odd <;> rfl

/-- Three serving lanes that all compare EQUAL (R216). -/
theorem decide216_three_equal {mode : Mode} (h : mode = .run ∨ mode = .stop ∨ mode = .maintenance)
    (rejoin : Option LaneId) : decide216 3 mode [] rejoin = .cont := by
  obtain rfl | rfl | rfl := h <;> rfl

/-- Settles O27: each lane that takes part forms its row (`State.roundClosed_lane`), and drives the decision that the
table of R216 gives for its odd set (`State.roundDriven_lane`, `State.decisionOf_table`). -/
theorem roundsClose : Obligations.RoundsClose := by
  unfold Obligations.RoundsClose
  intro s hc hv
  refine ⟨fun hstep hended => ?_, fun hstep hlatched hp => ?_⟩
  · refine ⟨_, exec_signatureRoundClose hv hstep hended, by rw [State.roundClosed_md hc], fun l hl => ?_⟩
    intro v compare
    have hlane : State.lane { s.roundClosed with md := { s.roundClosed.md with step := .compared } } l =
      (s.lane l).closeRound l false := State.roundClosed_lane hc hl
    rw [hlane]
    refine ⟨rfl, rfl, ?_, fun k => PerLane.get_map _ _ _⟩
    have hrow : v.ownRow l = { next := compare (v.sigs.get l) (v.sigs.get l.next)
                               prev := compare (v.sigs.get l) (v.sigs.get l.prev) } := by
      simp only [VoteBlk.ownRow, compareSig_eq, compare]
    rw [← hrow]
    show (if (s.lane l).cyc.done then v.rows.set l (some (v.ownRow l)) else v.rows).get l = _
    split
    · exact PerLane.get_set_same _ _ _
    · rfl
  · refine ⟨_, exec_viewRoundClose hv hstep, by rw [State.roundDriven_md hc hlatched],
      fun l hserves halive hpend hun => ?_⟩
    intro x
    have hjoin : s.joins l = true := by simp [State.joins, hserves]
    have hlane : State.lane { s.roundDriven with md := { s.roundDriven.md with step := .viewed } } l =
        { x.showView with
          vote := { x.showView.vote with lines := some (s.decisionOf l x) }
          cyc := { x.cyc with ownStop := false } } :=
      (State.roundDriven_lane hc hlatched hjoin).trans (if_pos (by rw [halive, hserves]; rfl))
    rw [hlane]
    refine ⟨rfl, rfl, fun hown => congrArg some (State.decisionOf_ownStop hown), fun hown hmarker h3 => ?_,
      fun j k hown hmarker hmode h2 => ?_⟩
    · have hlist := State.servingLanes_of_three h3
      refine ⟨fun hmode heq => congrArg some ?_, fun j hmode hnext hprev hnp hpn => congrArg some ?_⟩
      · rw [State.decisionOf_table hown hmarker hp, h3, VoteBlk.odd_of_equal hpend hun]
        · exact decide216_three_equal hmode _
        · rw [hlist]
          exact fun j _ => ⟨j.next, LaneId.mem_list _, by cases j <;> decide⟩
        · exact fun l _ j _ => heq l j
      · rw [State.decisionOf_table hown hmarker hp, h3, hmode, hlist, VoteBlk.odd_of_two hpend hun hnext hprev hnp hpn]
        rfl
    · have hjk : j ≠ k := by
        have := s.servingLanes_nodup
        rw [h2] at this
        simpa using this
      have htable : s.decisionOf l x = if x.vote.odd [j, k] = [] then .cont else .stop := by
        rw [State.decisionOf_table hown hmarker hp, h2, hmode]
        exact decide216_degraded _ _
      refine ⟨fun hequal hequal' => congrArg some (htable.trans (if_pos ?_)),
        fun hdiffer => congrArg some (htable.trans (if_neg ?_))⟩
      · refine VoteBlk.odd_of_equal hpend hun ?_ ?_
        · simp [hjk, hjk.symm]
        · simp [hequal, hequal']
      · refine hdiffer.elim (fun h => ?_) (fun h => ?_)
        · exact List.ne_nil_of_mem (VoteBlk.mem_odd_of_accused (j := k) hpend hun (by simp) (by simpa [hjk] using h))
        · exact List.ne_nil_of_mem (VoteBlk.mem_odd_of_accused (j := j) hpend hun (by simp) (by simpa [hjk.symm] using h))

end Sys2Proof.Machine

/-! The copy engine of a resynchronisation (R228 to R233). -/

namespace Sys2Proof.Machine

open Sys2Proof.Safety

theorem getLsbD_setBit {w : Nat} (x : BitVec w) {i : Nat} (hi : i < w) (b : Bool) (p : Nat) :
    (setBit x i b).getLsbD p = if p = i then b else x.getLsbD p := by
  have hone : (BitVec.ofNat w (2 ^ i)).getLsbD p = decide (p = i) := by
    rw [BitVec.getLsbD_ofNat, Nat.testBit_two_pow]
    by_cases hp : p = i
    · simp [hp, hi]
    · simp [hp, Ne.symm hp]
  have hlt : x.getLsbD p = true → p < w := BitVec.lt_of_getLsbD
  cases b
  · rw [setBit, if_neg (by decide), BitVec.getLsbD_and, BitVec.getLsbD_not, hone]
    by_cases hp : p = i
    · simp [hp]
    · simpa [hp] using hlt
  · rw [setBit, if_pos rfl, BitVec.getLsbD_or, hone]
    by_cases hp : p = i <;> simp [hp]

theorem mod_two_pow_of_low_bits {n p : Nat} (h : ∀ i, i < p → n.testBit i = false) : n % 2 ^ p = 0 := by
  refine Nat.eq_of_testBit_eq fun i => ?_
  rw [Nat.testBit_mod_two_pow, Nat.zero_testBit]
  by_cases hi : i < p
  · simp [h i hi]
  · simp [hi]

/-- The lowest page still to be copied is the next one (R231). -/
theorem nextPage_of_lowest {todo : BitVec 12288} {p : Nat} (hp : todo.getLsbD p = true)
    (hlow : ∀ q, q < p → todo.getLsbD q = false) : nextPage todo p = true := by
  simp [nextPage, hp, mod_two_pow_of_low_bits (n := todo.toNat) hlow]

theorem LaneId.next_ne (l : LaneId) : l.next ≠ l := by cases l <;> decide

/-- A byte of a store that has taken a page (R231). -/
theorem Store.read_takePage {t : Store} (h : Memory.wf t.cells = true) (p : Nat) (body : List Byte) (a : Nat) :
    Memory.read (t.takePage p body).cells a =
      if p * 4096 ≤ a ∧ a < p * 4096 + body.length then body.getD (a - p * 4096) 0 else Memory.read t.cells a :=
  Memory.read_writeList h _ _ _

/-- A lane's page marked clean or dirty (R231). -/
def Lane.markPage (x : Lane) (p : Nat) (dirty : Bool) : Lane :=
  { x with store := { x.store with dirty := setBit x.store.dirty p dirty } }

section

variable {s : State}

theorem State.markPage_donor (s : State) (p : Nat) (dirty : Bool) :
    (s.markPage p dirty).lane s.resync.lane.next = (s.lane s.resync.lane.next).markPage p dirty :=
  s.lane_updLane _ _

theorem State.markPage_fenced (s : State) (p : Nat) (dirty : Bool) :
    (s.markPage p dirty).lane s.resync.lane = s.lane s.resync.lane :=
  s.lane_updLane_other _ (LaneId.next_ne _).symm

/-- The donor after a page has arrived: the page is clean (R231). -/
theorem State.pageArrived_donor (s : State) (p : Nat) (body : List Byte) :
    (s.pageArrived p body).lane s.resync.lane.next = (s.lane s.resync.lane.next).markPage p false :=
  (State.lane_updLane_other _ _ (LaneId.next_ne _)).trans (s.markPage_donor p false)

/-- The fenced lane after a page has arrived: its store has taken it (R231). -/
theorem State.pageArrived_fenced (s : State) (p : Nat) (body : List Byte) :
    (s.pageArrived p body).lane s.resync.lane =
      { s.lane s.resync.lane with store := (s.lane s.resync.lane).store.takePage p body } := by
  refine (State.lane_updLane _ _ _).trans ?_
  have h : ((s.markPage p false).updResync fun r => { r with todo := setBit r.todo p false }).lane s.resync.lane =
    s.lane s.resync.lane := s.markPage_fenced p false
  rw [← h]
  rfl

theorem linked_lane_other (s : State) {dst l : LaneId} (k : LaneId) (good : Bool) (f : Lane → Lane) (h : l ≠ dst) :
    (linked s dst k good f).lane l = s.lane l := PerLane.get_set_other _ _ h

/-- A page that is due, sent to the fenced lane (R230, R231). -/
theorem exec_copyMessage {page : Fin 12288} (m : LinkMsg) (hcopy : s.copying = true)
    (hdue : s.resync.todo.getLsbD page.val = true) (hlow : ∀ p, p < page.val → s.resync.todo.getLsbD p = false) :
    exec (.copyMessage page m) s = .next (s.copyPage page.val m) := by
  show execCopyMessage page m s = _
  unfold execCopyMessage
  rw [hcopy, nextPage_of_lowest hdue hlow]
  rfl

variable {p : Nat} {m : LinkMsg}

theorem State.copyPage_taken (hc : Calm s) (h : Arrives s s.resync.lane s.resync.lane.next 5 4096 m) :
    s.copyPage p m =
      (linked (s.markPage p true) s.resync.lane s.resync.lane.next true id).pageArrived p m.body := by
  have h' : Arrives (s.markPage p true) s.resync.lane s.resync.lane.next 5 4096 m := by
    rw [Arrives, s.markPage_fenced]
    exact h
  have heq := State.linkArrive_taken (s := s.markPage p true) hc h'
    fun t k => if k = s.donor then t.pageArrived p m.body else t
  exact heq.trans (if_pos rfl)

/-- A page that does not arrive is dirty again in the donor (log 41). -/
theorem State.copyPage_rejected (hc : Calm s) {k : LaneId} (hsender : msgSender m = some k)
    (hne : k ≠ s.resync.lane) (hbad : msgGood m s.resync.lane 5 4096 (s.lane s.resync.lane).cycleLo = false) :
    s.copyPage p m = linked (s.markPage p true) s.resync.lane k false id := by
  have heq := State.linkArrive_eq (s := s.markPage p true) (typ := 5) (len := 4096) hc hsender hne
    fun t k => if k = s.donor then t.pageArrived p m.body else t
  rw [s.markPage_fenced, hbad] at heq
  exact heq

theorem length_of_msgGood {dst : LaneId} {typ len : Nat} {cycle : Word} (h : msgGood m dst typ len cycle = true) :
    m.body.length = len := by
  simp only [msgGood, Bool.and_eq_true, decide_eq_true_eq] at h
  obtain ⟨⟨⟨-, hlen⟩, -⟩, -⟩ := h
  exact hlen

/-- COPY_PASS_COMPLETE with no page left (R231). -/
theorem exec_copyPassComplete (hmode : s.md.mode = .resync)
    (hphase : s.resync.phase = .copyM ∨ s.resync.phase = .copyN) (htodo : s.resync.todo = 0) :
    exec .copyPassComplete s = .next (s.updResync fun r => { r with
      bulkDone := true, round := satInc r.round, todo := (s.lane s.resync.lane.next).store.dirty }) :=
  congrArg Host.Outcome.next (if_pos (by simp [hmode, hphase, htodo]))

theorem State.mayFreeze_iff (s : State) : s.mayFreeze = true ↔ s.md.mode = .resync ∧
    (s.resync.phase = .copyM ∨ s.resync.phase = .copyN) ∧ s.resync.bulkDone = true ∧
    (s.lane s.donor).cyc.done = true ∧ s.md.step ≠ .idle ∧ popcount (s.lane s.donor).cyc.dirtyEnd ≤ 256 ∧
    s.tb.nt.toNat ≤ s.lead.beforeEnd 10000 := by
  simp [State.mayFreeze, and_assoc]

/-- FREEZE where it may start (R232). -/
theorem exec_freeze (hmay : s.mayFreeze = true) : exec .freeze s = .next (s.updResync fun r => { r with
    phase := if r.phase = .copyM then .freezeM else .freezeN
    frozen := true, todo := (s.lane s.resync.lane.next).store.dirty }) :=
  congrArg Host.Outcome.next (if_pos hmay)

/-- FREEZE_COMPLETE with every page copied (R232, R236). -/
theorem exec_freezeComplete (hmode : s.md.mode = .resync) (hfrozen : s.resync.frozen = true)
    (htodo : s.resync.todo = 0) : exec .freezeComplete s = .next (
      if s.resync.phase = .freezeM then s.updResync (fun r => { r with frozen := false })
      else if s.beforeVote then s.copyM3.updResync (fun r => { r with phase := .rejoin, frozen := false })
      else s.updResync (fun r => { r with
        phase := .copyN, frozen := false, todo := (s.lane s.resync.lane.next).store.dirty })) :=
  congrArg Host.Outcome.next (if_neg (by simp [hmode, hfrozen, htodo]))

theorem State.copyM3_eq (s : State) : s.copyM3 = onLane s s.resync.lane fun x =>
    { x with meas := { x.meas with m := x.meas.m.set 3 (s.lane s.resync.lane.next).meas.m[3] } } := by
  have hset (v w : Vector (BitVec 512) 5) : vset v 3 (vget w 3 0) = v.set 3 w[3] := by
    simp [vset, vget, Vector.setIfInBounds, Array.setIfInBounds]
  unfold State.copyM3
  simp only [hset]
  rfl

end

/-- Settles O30: a page that is due comes to the link of the fenced lane (`State.copyPage_taken`,
`State.copyPage_rejected`); the pass and the freezes are changes of the sequencer. -/
theorem copyOfAFencedLane : Obligations.CopyOfAFencedLane := by
  unfold Obligations.CopyOfAFencedLane
  intro s f d upd
  have hnext : f.next ≠ f := LaneId.next_ne f
  refine ⟨fun page m hq hcopy hdue hlow hwf => ⟨fun h => ?_, fun k hsender hne hbad => ?_⟩,
    fun hmode hphase htodo => exec_copyPassComplete hmode hphase htodo,
    fun hmode hbulk hdone hstep hdirty htime => ⟨fun hphase => ?_, fun hphase => ?_⟩,
    fun hmode hfrozen htodo => ⟨fun hphase => ?_, fun hphase hstep => ?_, fun hphase hstep => ?_⟩⟩
  · have hexec := exec_copyMessage m hcopy hdue hlow
    rw [State.copyPage_taken hq.1 h] at hexec
    generalize hu : linked (s.markPage page.val true) f f.next true id = u at hexec
    have hresync : u.resync = s.resync := by rw [← hu]; rfl
    have hmd : u.md = s.md := by rw [← hu]; rfl
    have hdonor : u.lane f.next = d.markPage page.val true := by
      rw [← hu, linked_lane_other _ _ _ _ hnext]
      exact s.markPage_donor _ _
    have hfenced : u.lane f = (s.lane f).noteLink f f.next true := by
      rw [← hu, linked_lane, s.markPage_fenced]
      rfl
    have hdonor' := u.pageArrived_donor page.val m.body
    have hfenced' := u.pageArrived_fenced page.val m.body
    rw [hresync] at hdonor' hfenced'
    change State.lane _ f.next = (u.lane f.next).markPage page.val false at hdonor'
    change State.lane _ f = { u.lane f with store := (u.lane f).store.takePage page.val m.body } at hfenced'
    refine ⟨_, hexec, fun p => ?_, fun p => ?_, ?_⟩
    · refine (congrArg (fun r : Resync => (setBit r.todo page.val false).getLsbD p) hresync).trans ?_
      rw [getLsbD_setBit _ page.isLt]
      by_cases hp : p = page.val <;> simp [hp]
    · rw [hdonor', hdonor]
      simp only [Lane.markPage, getLsbD_setBit _ page.isLt]
      by_cases hp : p = page.val <;> simp [hp]
    · rw [hdonor', hdonor, hfenced', hfenced]
      refine ⟨rfl, rfl, rfl, rfl, hmd, fun a => ?_⟩
      obtain ⟨-, -, hgood⟩ := h
      have hread := Store.read_takePage hwf page.val m.body a
      rw [length_of_msgGood hgood] at hread
      exact hread
  · refine ⟨_, (exec_copyMessage m hcopy hdue hlow).trans
      (congrArg _ (State.copyPage_rejected hq.1 hsender hne hbad)), rfl, rfl, ?_⟩
    rw [linked_lane_other _ _ _ _ hnext, s.markPage_donor, linked_lane, s.markPage_fenced]
    refine ⟨fun p => ?_, rfl, rfl, rfl, rfl⟩
    simp only [Lane.markPage, getLsbD_setBit _ page.isLt]
    by_cases hp : p = page.val <;> simp [hp, d, f]
  · rw [exec_freeze (s.mayFreeze_iff.mpr ⟨hmode, .inl hphase, hbulk, hdone, hstep, hdirty, htime⟩)]
    simp only [State.updResync, hphase, if_true]
    rfl
  · rw [exec_freeze (s.mayFreeze_iff.mpr ⟨hmode, .inr hphase, hbulk, hdone, hstep, hdirty, htime⟩)]
    simp only [State.updResync, hphase, reduceCtorEq, if_false]
    rfl
  · rw [exec_freezeComplete hmode hfrozen htodo, if_pos hphase]
    rfl
  · have hbefore : s.beforeVote = true := by simpa [State.beforeVote, or_assoc] using hstep
    rw [exec_freezeComplete hmode hfrozen htodo, hphase, if_neg (by decide), if_pos hbefore, State.copyM3_eq]
    rfl
  · have hafter : ¬ s.beforeVote = true := by obtain h | h | h := hstep <;> simp [State.beforeVote, h]
    rw [exec_freezeComplete hmode hfrozen htodo, hphase, if_neg (by decide), if_neg hafter]
    rfl

end Sys2Proof.Machine

/-! How a resynchronisation ends (R234, R236, R237). -/

namespace Sys2Proof.Machine

open Sys2Proof.Safety

/-! What the cut of a rejoin shows. -/

/-- What the cut of a rejoin shows of a lane beside its outputs. -/
structure Standing where
  pc : Word
  g : Vector Word 32
  mirrored : Bool
  resyncDone : Half

/-- The standing of a lane. -/
def Lane.standing (x : Lane) : Standing :=
  { pc := x.core.pc, g := x.core.g, mirrored := x.blk.mirrored, resyncDone := x.blk.resyncDone }

/-- The standings of the lanes. -/
def State.standings (s : State) (l : LaneId) : Standing := (s.lane l).standing

/-- What the cut of a rejoin shows. -/
structure RejoinView where
  md : ModuleSt
  reset : Bool
  armed : Bool
  phase : RsPhase
  attempts : PerLane Nat
  shadowBad : Bool
  failed : Bool
  standings : LaneId → Standing

/-- The rejoin view of a state. -/
def State.rejoinView (s : State) : RejoinView :=
  { md := s.md, reset := s.guard.pendingReset.isSome, armed := s.inject.armed.isSome, phase := s.resync.phase
    attempts := s.resync.attempts, shadowBad := s.resync.shadowBad, failed := s.resync.failed
    standings := s.standings }

section

variable (s : State)

theorem State.mapLanes_standings {f : Lane → Lane} {g : Standing → Standing}
    (h : ∀ x, (f x).standing = g x.standing) : (s.mapLanes f).standings = fun l => g (s.standings l) := by
  funext l
  rw [State.standings, State.lane_mapLanes, h]
  rfl

theorem State.recM_standings (name : RecName) (ps : List Word) : (s.recM name ps).standings = s.standings :=
  (congrArg State.standings (s.recM_unrecorded name ps) :)

theorem State.bistAbort_standings : s.bistAbort.standings = s.standings := by
  have hslice (l : LaneId) (i n : Nat) (x : Lane) :
      (x.noteSlice l i x.bist.misr x.bist.time .aborted n).standing = x.standing := rfl
  have hshared (q n : Nat) (x : Lane) : (x.noteShared q .aborted n).standing = x.standing := rfl
  unfold State.bistAbort
  extract_lets n m t
  have ht : t.standings = s.standings := by
    simp only [t]
    split
    · rfl
    · exact (State.recM_standings _ _ _).trans (s.mapLanes_standings (g := id) (hslice _ _ _))
  clear_value t
  split
  · exact ht
  · exact (State.recM_standings _ _ _).trans ((t.mapLanes_standings (g := id) (hshared _ _)).trans ht)

theorem State.closeGap_standings : s.closeGap.standings = s.standings := by
  have habandon : s.abandonGap.standings = s.standings := by
    refine (State.mapLanes_standings (g := id) _ ?_).trans s.bistAbort_standings
    exact fun _ => rfl
  unfold State.closeGap
  dsimp only
  split
  · exact habandon
  · exact habandon

/-- The end of a resynchronisation (R235). -/
theorem State.endResync_rejoinView :
    s.endResync.rejoinView = { s.rejoinView with phase := .idle, failed := false } := by
  unfold State.endResync
  extract_lets time v
  have hv : v.rejoinView = s.rejoinView := by
    simp only [v]
    split
    · rfl
    · have hlanes := s.mapLanes_standings (g := id) (f := fun x => { x with blk := { x.blk with resyncTime := time } })
        fun _ => rfl
      exact congrArg (fun st => { s.rejoinView with standings := st }) hlanes
  clear_value v
  exact congrArg (fun r : RejoinView => { r with phase := .idle, failed := false }) hv

end

/-! The rejoin of a lane (R236). -/

/-- The rejoin view after a lane has rejoined: its latch is clear, its probation begins, it has the normal layout, and
every view counts the resynchronisation (R236, R237). -/
def RejoinView.rejoined (r : RejoinView) (x : LaneId) : RejoinView :=
  { r with
    md := { r.md with fenced := r.md.fenced.set x false, probation := some 0 }
    phase := .idle
    attempts := r.attempts.set x 0
    failed := false
    standings := fun l => { r.standings l with
      mirrored := if l = x then false else (r.standings l).mirrored
      resyncDone := satInc (r.standings l).resyncDone } }

theorem State.rejoin_rejoinView (s : State) (x : LaneId) : (s.rejoin x).rejoinView = s.rejoinView.rejoined x := by
  unfold State.rejoin
  extract_lets d s1 s2 m r s3 s4
  have hnormal : s1.standings = fun l =>
      { s.standings l with mirrored := if l = x then false else (s.standings l).mirrored } := by
    funext l
    simp only [s1, State.standings, State.lane_updLane_if]
    split
    · simp only [Lane.standing]
      split <;> rfl
    · rfl
  have hends : s2.rejoinView = { s.rejoinView with phase := .idle, failed := false, standings := s1.standings } :=
    s1.endResync_rejoinView
  have hcount : s4.standings = fun l => { s3.standings l with resyncDone := satInc (s3.standings l).resyncDone } :=
    s3.mapLanes_standings (g := fun st => { st with resyncDone := satInc st.resyncDone })
      (f := fun y => { y with blk := { y.blk with resyncDone := satInc y.blk.resyncDone } }) fun _ => rfl
  have hclear : (s4.clearCounts x).standings = s4.standings := s4.mapLanes_standings (g := id) fun _ => rfl
  have hlanes : s3.standings = s1.standings := congrArg RejoinView.standings hends
  have hview : (s4.clearCounts x).rejoinView = { s2.rejoinView with
      md := { s2.md with fenced := s2.md.fenced.set x false, probation := some 0 }
      attempts := s2.resync.attempts.set x 0
      standings := (s4.clearCounts x).standings } := rfl
  have hmd : s2.md = s.md := congrArg RejoinView.md hends
  have hattempts : s2.resync.attempts = s.resync.attempts := congrArg RejoinView.attempts hends
  rw [hview, hends, hclear, hcount, hlanes, hnormal, hmd, hattempts]
  rfl

/-- A STOP package applied leaves what a rejoin shows (R196). -/
theorem State.stopPackage_rejoinView {s : State} (hmode : s.md.mode = .resync) (es : List ModeEvent) :
    (s.stopPackage es).rejoinView = s.rejoinView := by
  unfold State.stopPackage
  split
  · rfl
  · next p hdue =>
    split
    · rfl
    · have hkind : pkgKind p.bytes = 2 := by
        have hready := (Option.filter_eq_some_iff.mp hdue).2
        simp only [Bool.and_eq_true, decide_eq_true_eq] at hready
        obtain ⟨⟨-, hstop⟩, -⟩ := hready
        exact hstop
      have hpermitted : s.kindPermitted (pkgKind p.bytes) = true := by simp [hkind, State.kindPermitted, hmode]
      have hlanes : (s.applyNow p).standings = s.standings := by
        funext l
        have hlane : (s.applyNow p).lane l = _ :=
          (congrArg (fun t : State => t.lane l) (s.applyNow_permitted hpermitted) :)
        rw [State.standings, hlane.trans (State.takeEffect_lane s p.bytes l)]
        split
        · rw [Lane.applyPackage_stop _ hkind]
          rfl
        · rfl
      have hrest := State.applyNow_rest hpermitted (fun s => (s.md, s.guard, s.resync, s.inject.armed)) (fun _ => rfl)
        (fun _ _ => rfl) (fun _ _ => rfl)
      simp only [Prod.mk.injEq] at hrest
      obtain ⟨hmd, hguard, hresync, harmed⟩ := hrest
      simp only [State.rejoinView, hmd, hguard, hresync, harmed, hlanes]

/-- The rejoin decides the mode where it is the only event (R25, R28). -/
theorem State.decideMode_rejoin {s : State} (hmode : s.md.mode = .resync) (x : LaneId) :
    s.decideMode [.rejoin x] = s.setMode .run := by
  have hdeciding : s.deciding [.rejoin x] = some (.rejoin x) := by
    simp [State.deciding, State.target, hmode, firstEvent]
  unfold State.decideMode
  rw [hdeciding]
  simp [State.changeMode, State.dropEvents]

/-! The cut of a cycle whose vote was REJOIN (R102, R236). -/

/-- A RESYNC cycle whose vote was REJOIN of a fenced lane, and that brings no other event (R25, R236). -/
structure State.Rejoins (u : State) (x : LaneId) : Prop where
  mode : u.md.mode = .resync
  voted : u.md.voted = true
  gate : u.md.gateGm = .rejoin x
  events : u.md.events = []
  lanes : ∀ l, (u.lane l).cyc.events = []
  due : u.stopDue = none
  bad : u.resync.shadowBad = false
  failed : u.resync.failed = false
  reset : u.guard.pendingReset = none
  vital : u.md.vital = true
  fenced : u.serves x = false
  calm : Calm u

section

variable {u : State} {x : LaneId}

theorem State.retainedEvents_nil (hevents : u.md.events = []) (hlanes : ∀ l, (u.lane l).cyc.events = []) :
    u.retainedEvents = [] := by
  unfold State.retainedEvents
  split
  · exact hevents
  · rw [hlanes, hevents]
    rfl

variable (hu : u.Rejoins x)

include hu

theorem State.Rejoins.cutEvents_eq : u.cutEvents = [.rejoin x] := by
  have hfencing : u.fencing = false := by
    unfold State.fencing
    rw [hu.voted, hu.gate]
  have hrejoin : u.rejoinEvent = [.rejoin x] := by
    unfold State.rejoinEvent
    rw [hu.voted, hu.gate]
    exact if_neg (by simp [hu.failed])
  simp [State.cutEvents, hfencing, State.retainedEvents_nil hu.events hu.lanes, hrejoin, State.startEvent, hu.mode,
    hu.bad, hu.failed]

theorem State.Rejoins.cutLatched_eq : u.cutLatched = u.unmarked.rejoin x := by
  have hlatch : u.unmarked.applyLatch = u.unmarked.rejoin x := by
    have hvoted : u.unmarked.md.voted = true := hu.voted
    have hgate : u.unmarked.md.gateGm = .rejoin x := hu.gate
    have hfenced : u.unmarked.serves x = false := hu.fenced
    have hfailed : u.unmarked.resync.failed = false := hu.failed
    unfold State.applyLatch
    rw [hvoted, hgate]
    simp [hfenced, hfailed]
  have hview := u.unmarked.rejoin_rejoinView x
  have hbad : (u.unmarked.rejoin x).resync.shadowBad = false := (congrArg RejoinView.shadowBad hview).trans hu.bad
  have hfailed : (u.unmarked.rejoin x).resync.failed = false := congrArg RejoinView.failed hview
  exact (congrArg State.endAttempt hlatch).trans (State.endAttempt_none hbad hfailed)

/-- The rejoin view at the cut of a rejoin, an accepted STOP package applied (R196, R236). -/
theorem State.Rejoins.stopPackage_rejoinView :
    ((u.unmarked.rejoin x).stopPackage [.rejoin x]).rejoinView = u.unmarked.rejoinView.rejoined x := by
  have hview := u.unmarked.rejoin_rejoinView x
  have hmode : (u.unmarked.rejoin x).md.mode = .resync :=
    (congrArg (fun r : RejoinView => r.md.mode) hview).trans hu.mode
  exact (State.stopPackage_rejoinView hmode _).trans hview

/-- The cut of a rejoin (R102, R236): the state that rejoins goes on to RUN, whatever an accepted STOP package does. -/
theorem State.Rejoins.cutFrom_eq : u.cutFrom =
    (((u.unmarked.rejoin x).stopPackage [.rejoin x]).setMode .run).cutCloses true u.lateCopies := by
  have hes : u.cutEvents ++ u.stopEvent u.cutEvents = [.rejoin x] := by
    simp [hu.cutEvents_eq, State.stopEvent, hu.due]
  have hview := hu.stopPackage_rejoinView
  unfold State.cutFrom
  dsimp only
  rw [hes, hu.cutLatched_eq, hu.vital]
  generalize (u.unmarked.rejoin x).stopPackage [.rejoin x] = w at hview
  have hmode : w.md.mode = .resync := (congrArg (fun r : RejoinView => r.md.mode) hview).trans hu.mode
  have hreset : w.guard.pendingReset.isSome = false :=
    (congrArg RejoinView.reset hview).trans (by rw [State.rejoinView]; exact congrArg Option.isSome hu.reset)
  have hnext : (w.setMode .run).nextPhase = w.setMode .run := if_pos (by simp [State.setMode])
  rw [State.decideMode_rejoin hmode, hnext]
  exact if_neg (by simp [State.setMode, hreset])

end

/-- The end of a vital cycle in RUN: the copies compared are released (R102, R120). -/
theorem State.cutCloses_run {w : State} (hc : Calm w) (hmode : w.md.mode = .run)
    (late : Option (List Pdu × List Pdu)) : (w.cutCloses true late).md.mode = .run ∧
      (w.cutCloses true late).md.fenced = w.md.fenced ∧ (w.cutCloses true late).md.probation = w.md.probation ∧
      (w.cutCloses true late).md.released = w.md.compared.getD [] ∧
      (w.cutCloses true late).resync.phase = w.resync.phase ∧
      (w.cutCloses true late).resync.attempts = w.resync.attempts ∧
      (w.cutCloses true late).standings = w.standings := by
  obtain ⟨hmd, -, harmed, -, hlane⟩ := w.applyOutputs_shows true
  have hresync : (w.applyOutputs true).resync = w.resync :=
    foldl_keep State.resync _ (fun _ _ => rfl) LaneId.list (w.mapLanes Lane.takeEnables)
  unfold State.cutCloses
  generalize w.applyOutputs true = o at hmd harmed hlane hresync
  have hcalm : Calm ((o.releasePdus true late).clearCycle) := harmed.trans hc
  rw [State.lapseByMode_calm hcalm]
  have hlanes := (o.releasePdus true late).showServing.mapLanes_standings (g := id) (f := fun x => { x with
    cyc := { x.cyc with events := [], initCalls := none, stopCmd := false }
    vote := { x.vote with release := none }
    reqSy := none }) fun _ => rfl
  refine ⟨(congrArg ModuleSt.mode hmd :).trans hmode, (congrArg ModuleSt.fenced hmd :),
    (congrArg ModuleSt.probation hmd :), ?_, (congrArg Resync.phase hresync :), (congrArg Resync.attempts hresync :), ?_⟩
  · have hkeep : (o.md.mode.sendsPdus && !(true && !o.md.mode.vital)) = true := by
      rw [hmd, hmode]
      rfl
    refine (if_pos hkeep).trans ?_
    rw [hmd]
  · refine hlanes.trans ?_
    funext l
    exact (congrArg Lane.standing (hlane l) :)

/-- OUTPUT_CUT of a voted RESYNC cycle (R102). -/
theorem exec_outputCut_resync {s : State} (hmode : s.md.mode = .resync) (hstep : s.md.step = .voted) :
    exec .outputCut s = .next s.cut := by
  show execOutputCut s = _
  unfold execOutputCut
  rw [hmode]
  exact congrArg Host.Outcome.next (if_pos (by simp [Mode.votes, hstep]))

/-- The end of the gap leaves a cycle that rejoins one that rejoins (R101). -/
theorem State.Rejoins.closeGap {s : State} {x : LaneId} (h : s.Rejoins x) (n : Nat) :
    (s.advanceTo n).closeGap.Rejoins x := by
  have hview : (s.advanceTo n).closeGap.cutView = s.cutView :=
    (State.closeGap_cutView _).trans (s.advanceTo_cutView _)
  have hdue := State.stopDue_of_cutView hview
  generalize (s.advanceTo n).closeGap = u at hview hdue
  have hmd : u.md = s.md := congrArg CutView.md hview
  have hcyc (l : LaneId) : (u.lane l).cyc = (s.lane l).cyc :=
    congrArg Footing.cyc (congrFun (congrArg CutView.lane hview) l)
  have hreset : u.guard.pendingReset.isSome = false :=
    (congrArg CutView.reset hview).trans (congrArg Option.isSome h.reset)
  have harmed : u.inject.armed.isSome = false :=
    (congrArg CutView.armed hview).trans (congrArg Option.isSome h.calm)
  exact
    { mode := hmd ▸ h.mode, voted := hmd ▸ h.voted, gate := hmd ▸ h.gate, events := hmd ▸ h.events
      lanes := fun l => by rw [hcyc, h.lanes]
      due := hdue.trans h.due
      bad := (congrArg CutView.shadowBad hview :).trans h.bad
      failed := (congrArg CutView.failed hview :).trans h.failed
      reset := Option.not_isSome_iff_eq_none.mp (by simp [hreset])
      vital := hmd ▸ h.vital
      fenced := by rw [State.serves, hmd]; exact h.fenced
      calm := Option.not_isSome_iff_eq_none.mp (by simp [harmed]) }

/-- OUTPUT_CUT of a voted RESYNC cycle that rejoins a lane (R102, R236, R237). -/
theorem exec_outputCut_rejoin {s : State} {x : LaneId} (hstep : s.md.step = .voted) (h : s.Rejoins x) :
    ∃ t, exec .outputCut s = .next t ∧ t.md.mode = .run ∧ t.md.fenced = s.md.fenced.set x false ∧
      t.md.probation = some 0 ∧ t.resync.attempts.get x = 0 ∧ t.resync.phase = .idle ∧
      t.md.released = s.md.compared.getD [] ∧ t.standings = (s.rejoinView.rejoined x).standings := by
  have hu := h.closeGap s.cutInstant
  have hmd : (s.advanceTo s.cutInstant).closeGap.md = s.md :=
    congrArg CutView.md ((State.closeGap_cutView _).trans (s.advanceTo_cutView _))
  have hlanes : (s.advanceTo s.cutInstant).closeGap.standings = s.standings := State.closeGap_standings _
  have hcut := State.cut_eq (s := s) rfl hstep
  rw [exec_outputCut_resync h.mode hstep]
  generalize (s.advanceTo s.cutInstant).closeGap = u at hu hmd hlanes hcut
  have hlatched : u.cutLatched.md.mode = .resync := by
    rw [hu.cutLatched_eq]
    exact (congrArg (fun r : RejoinView => r.md.mode) (u.unmarked.rejoin_rejoinView x)).trans hu.mode
  rw [hcut (by simp [h.mode]) (by simp [hu.mode]) hu.calm (by simp [hlatched]), hu.cutFrom_eq]
  have hview := hu.stopPackage_rejoinView
  generalize (u.unmarked.rejoin x).stopPackage [.rejoin x] = w at hview
  have harmed : w.inject.armed.isSome = false :=
    (congrArg RejoinView.armed hview).trans (congrArg Option.isSome hu.calm)
  have hmdw : w.md = _ := congrArg RejoinView.md hview
  have hattempts : w.resync.attempts = u.resync.attempts.set x 0 := congrArg RejoinView.attempts hview
  have hstandings : w.standings = _ := congrArg RejoinView.standings hview
  obtain ⟨hrun, hlatch, hprobation, hreleased, hphase, htries, hshown⟩ :=
    State.cutCloses_run (w := w.setMode .run) (Option.not_isSome_iff_eq_none.mp (by simp [State.setMode, harmed])) rfl
      u.lateCopies
  refine ⟨_, rfl, hrun, hlatch.trans ?_, hprobation.trans ?_, ?_, hphase.trans (congrArg RejoinView.phase hview :),
    hreleased.trans ?_, hshown.trans ?_⟩
  · exact (congrArg ModuleSt.fenced hmdw :).trans (by rw [← hmd]; rfl)
  · exact (congrArg ModuleSt.probation hmdw :)
  · rw [htries]
    exact (congrArg (PerLane.get · x) hattempts :).trans (PerLane.get_set_same _ _ _)
  · exact (congrArg (fun m : ModuleSt => m.compared.getD []) hmdw :).trans (by rw [← hmd]; rfl)
  · refine hstandings.trans ?_
    rw [State.rejoinView, State.rejoinView, ← hlanes]
    rfl

theorem exec_resyncFailed {s : State} (hmode : s.md.mode = .resync) (hphase : s.resync.phase ≠ .idle)
    (hfailed : s.resync.failed = false) (hlimit : s.resyncLimit ≤ s.lead.beforeEnd 0) :
    exec .resyncFailed s = .next ((s.advanceTo s.resyncLimit).updResync fun r => { r with failed := true }) :=
  congrArg Host.Outcome.next (if_pos (by simp [hmode, hphase, hfailed, hlimit]))

theorem exec_probationEnd {s : State} {n : Nat} (hn : s.md.probation = some n) (h : 64 ≤ n) :
    exec .probationEnd s = .next { s with md := { s.md with probation := none } } :=
  congrArg Host.Outcome.next (if_pos (by simp [hn, h]))

/-- Settles O31: the cut of a rejoin is `State.Rejoins.cutFrom_eq` after the gap, and shows what `State.rejoin` has
made (`State.rejoin_rejoinView`). -/
theorem resyncEnds : Obligations.ResyncEnds := by
  unfold Obligations.ResyncEnds
  intro s
  refine ⟨?_, fun x hq hmode hstep hvoted hgate hvital hevents hlanes hdue hbad hfailed hfrozen hreset hfenced => ?_,
    fun n hn h => exec_probationEnd hn h⟩
  · intro limit hmode hphase hfailed hlimit
    exact ⟨_, exec_resyncFailed hmode hphase hfailed hlimit, rfl, rfl, rfl, rfl, rfl, s.reaches_advanceTo limit⟩
  · obtain ⟨t, ht, hshows⟩ := exec_outputCut_rejoin (x := x) hstep
      { mode := hmode, voted := hvoted, gate := hgate, events := hevents, lanes := hlanes, due := hdue, bad := hbad
        failed := hfailed, reset := hreset, vital := hvital, fenced := hfenced, calm := hq.1 }
    obtain ⟨hrun, hlatch, hprobation, hattempts, hphase, hreleased, hstandings⟩ := hshows
    have hlane (l : LaneId) := Standing.mk.inj (congrFun hstandings l)
    refine ⟨t, ht, hrun, hlatch, hprobation, hattempts, hphase, hreleased, ?_, fun l => ?_⟩
    · obtain ⟨-, -, hmirrored, -⟩ := hlane x
      exact hmirrored.trans (if_pos rfl)
    · obtain ⟨hpc, hg, -, hdone⟩ := hlane l
      exact ⟨hdone, hpc, hg⟩

end Sys2Proof.Machine

/-! What becomes of a connection between the cuts (R265, R311, R317, R318, R333): it times out to LOST, is forgotten
after 1,000,000 cuts, or its twin is found missing. -/

namespace Sys2Proof.Machine

open Sys2Proof.Safety

/-! The stores of the SAFELINK block. -/

/-- A field of a word reads back as the number put there. -/
theorem fieldN_putField (w : Word) {v lo k : Nat} (hv : v < 2 ^ k) (hk : lo + k ≤ 32) :
    fieldN (putField w lo k v) lo k = v := by
  refine fieldN_eq_of_bits hv hk fun i hi => ?_
  have h32 : lo + i < 32 := by omega
  have hmask : ((2 ^ k - 1) * 2 ^ lo).testBit (lo + i) = true := by simp [Nat.testBit_mul_two_pow, hi]
  rw [putField, BitVec.getLsbD_or, BitVec.getLsbD_and, BitVec.getLsbD_not, BitVec.getLsbD_ofNat, hmask,
    BitVec.getLsbD_ofNat, getLsbD_place, Nat.mod_eq_of_lt hv]
  simp [Nat.testBit_mul_two_pow, h32]

theorem Lane.wr32_wf {x : Lane} (h : Memory.wf x.store.cells = true) (a : Nat) (w : Word) :
    Memory.wf (x.wr32 a w).store.cells = true := by
  rw [Lane.wr32_store]
  exact Store.putList_wf h _ _

@[simp] theorem Lane.wr32_sl (x : Lane) (a : Nat) (w : Word) : (x.wr32 a w).sl = x.sl := by
  unfold Lane.wr32 Lane.addHash
  split <;> rfl

/-- A word of a store that keeps its bytes outside a place reads as before where it lies outside. -/
theorem Lane.rd32_of_keepsOutside {x y : Lane} {a n b : Nat} (h : KeepsOutside x y a n) (hb : b + 4 ≤ a ∨ a + n ≤ b) :
    y.rd32 b = x.rd32 b := Lane.rd32_congr fun k _ _ => h k (by omega)

section

variable {x : Lane} (a : Nat) (w : Word)

@[simp] theorem Lane.wrNew_core : (x.wrNew a w).core = x.core := by
  unfold Lane.wrNew
  split
  · rfl
  · exact x.wr32_core a w

theorem Lane.wrNew_wf (h : Memory.wf x.store.cells = true) : Memory.wf (x.wrNew a w).store.cells = true := by
  unfold Lane.wrNew
  split
  · exact h
  · exact Lane.wr32_wf h a w

theorem Lane.wrNew_keepsOutside (h : Memory.wf x.store.cells = true) : KeepsOutside x (x.wrNew a w) a 4 := by
  unfold Lane.wrNew
  split
  · exact fun _ _ => rfl
  · exact Lane.wr32_keepsOutside h a w

theorem Lane.rd32_wrNew (h : Memory.wf x.store.cells = true) : (x.wrNew a w).rd32 a = w := by
  unfold Lane.wrNew
  split
  · next heq => exact heq
  · exact Lane.rd32_wr32 h a w

end

/-! The registers of the SAFELINK block lie beside the store and the core (R331, R333). -/

theorem Lane.slUpd_core (x : Lane) (f : SlBlk → SlBlk) : (x.slUpd f).core = x.core := rfl

theorem Lane.rd8_slUpd (x : Lane) (f : SlBlk → SlBlk) (a : Nat) : (x.slUpd f).rd8 a = x.rd8 a := rfl

theorem Lane.rd32_slUpd (x : Lane) (f : SlBlk → SlBlk) (a : Nat) : (x.slUpd f).rd32 a = x.rd32 a := rfl

/-- SL_STATE and SL_NEW rebuilt are all that changes. -/
theorem Lane.slViews_eq (x : Lane) :
    ∃ st nw, x.slViews = x.slUpd fun k => { k with stateReg := st, newReg := nw } := ⟨_, _, rfl⟩

theorem Lane.slViews_core (x : Lane) : x.slViews.core = x.core := x.slUpd_core _

theorem Lane.slViews_err (x : Lane) : x.slViews.sl.err = x.sl.err := by
  obtain ⟨st, nw, h⟩ := x.slViews_eq
  rw [h]
  rfl

theorem Lane.rd8_slViews (x : Lane) (a : Nat) : x.slViews.rd8 a = x.rd8 a := x.rd8_slUpd _ a

theorem Lane.rd32_slViews (x : Lane) (a : Nat) : x.slViews.rd32 a = x.rd32 a := x.rd32_slUpd _ a

theorem Lane.stgState_slViews (x : Lane) (c : Nat) : x.slViews.stgState c = x.stgState c :=
  congrArg (fieldN · 0 2) (x.rd32_slViews _)

/-- Bytes stored change the store as bytes put there without the hash. -/
theorem Lane.storeBytes_store (x : Lane) (a : Nat) (bs : List Byte) : (x.storeBytes a bs).store = (x.poke a bs).store :=
  foldl_keep Lane.store _ (fun y i => y.addHash_store (a / 4 * 4 + 4 * i)) _ _

@[simp] theorem Lane.storeBytes_core (x : Lane) (a : Nat) (bs : List Byte) : (x.storeBytes a bs).core = x.core :=
  foldl_keep Lane.core _ (fun y i => y.addHash_core (a / 4 * 4 + 4 * i)) _ _

theorem Lane.storeBytes_wf {x : Lane} (h : Memory.wf x.store.cells = true) (a : Nat) (bs : List Byte) :
    Memory.wf (x.storeBytes a bs).store.cells = true := by
  rw [Lane.storeBytes_store]
  exact Lane.poke_wf h a bs

theorem Lane.rd8_storeBytes {x : Lane} (h : Memory.wf x.store.cells = true) (a k : Nat) (bs : List Byte) :
    (x.storeBytes a bs).rd8 k = if a ≤ k ∧ k < a + bs.length then bs.getD (k - a) 0 else x.rd8 k := by
  rw [← Lane.rd8_poke h, Lane.rd8, Lane.storeBytes_store]
  rfl

theorem State.recordLinks_lane (s : State) (l k : LaneId) (es : List SlEvent) :
    (s.recordLinks l es).lane k = s.lane k := by
  refine foldl_keep (fun t : State => t.lane k) _ (fun t e => ?_) es s
  cases e with
  | lost c => exact t.recJoint_lane _ _ _ _
  | failed c => exact t.recJoint_lane _ _ _ _

/-! A connection becomes LOST (R265, R317). -/

section

variable {x : Lane} (h : Memory.wf x.store.cells = true) (c : Nat)

theorem Lane.slLose_core (x : Lane) : (x.slLose c).core = x.core := (Lane.wrNew_core _ _).trans (x.wr32_core _ _)

theorem Lane.slLose_err (x : Lane) : (x.slLose c).sl.err.getLsbD 1 = true := by
  simp [Lane.slLose, Lane.slUpd, SlBlk.setErr, flag]

include h

theorem Lane.slLose_wf : Memory.wf (x.slLose c).store.cells = true := Lane.wrNew_wf _ _ (Lane.wr32_wf h _ _)

theorem Lane.rd32_token_slLose : (x.slLose c).rd32 (0x02F07400 + c * 4) = 0 :=
  Lane.rd32_wrNew _ _ (Lane.wr32_wf h _ _)

theorem Lane.rd8_slLose {a : Nat} (hentry : a < stgAddr c ∨ stgAddr c + 4 ≤ a)
    (htoken : a < 0x02F07400 + c * 4 ∨ 0x02F07400 + c * 4 + 4 ≤ a) : (x.slLose c).rd8 a = x.rd8 a :=
  (Lane.wrNew_keepsOutside _ _ (Lane.wr32_wf h _ _) a htoken).trans (Lane.wr32_keepsOutside h _ _ a hentry)

theorem Lane.stgState_slLose : (x.slLose c).stgState c = 2 := by
  have hword : (x.slLose c).rd32 (stgAddr c) = putField (x.rd32 (stgAddr c)) 0 2 2 :=
    (Lane.rd32_of_keepsOutside (Lane.wrNew_keepsOutside _ _ (Lane.wr32_wf h _ _)) (by unfold stgAddr; omega)).trans
      (Lane.rd32_wr32 h _ _)
  rw [Lane.stgState, hword]
  exact fieldN_putField _ (by decide) (by decide)

end

/-- A connection made LOST, with one more cut in LOST (R317). -/
def Lane.timeOut (x : Lane) (c : Nat) : Lane :=
  ((x.slLose c).wr32 (stgAddr c + 0xC) (satInc ((x.slLose c).rd32 (stgAddr c + 0xC)))).slViews

theorem Lane.timeOut_core (x : Lane) (c : Nat) : (x.timeOut c).core = x.core := by
  rw [Lane.timeOut, Lane.slViews_core, Lane.wr32_core, Lane.slLose_core]

theorem Lane.timeOut_err (x : Lane) (c : Nat) : (x.timeOut c).sl.err.getLsbD 1 = true := by
  rw [Lane.timeOut, Lane.slViews_err, Lane.wr32_sl, Lane.slLose_err]

section

variable {x : Lane} (h : Memory.wf x.store.cells = true) {c : Nat}

include h

/-- The count of the cuts in LOST is all that a timeout stores beside the loss (R317). -/
theorem Lane.timeOut_keepsOutside : KeepsOutside (x.slLose c) (x.timeOut c) (stgAddr c + 0xC) 4 := fun k hk =>
  (Lane.rd8_slViews _ _).trans (Lane.wr32_keepsOutside (Lane.slLose_wf h c) _ _ k hk)

theorem Lane.stgState_timeOut : (x.timeOut c).stgState c = 2 := by
  rw [Lane.stgState, Lane.rd32_of_keepsOutside (Lane.timeOut_keepsOutside h) (by omega)]
  exact Lane.stgState_slLose h c

theorem Lane.rd32_token_timeOut : (x.timeOut c).rd32 (0x02F07400 + c * 4) = 0 :=
  (Lane.rd32_of_keepsOutside (Lane.timeOut_keepsOutside h) (by unfold stgAddr; omega)).trans
    (Lane.rd32_token_slLose h c)

theorem Lane.lostCuts_timeOut : (x.timeOut c).rd32 (stgAddr c + 0xC) = satInc (x.rd32 (stgAddr c + 0xC)) := by
  have hold : (x.slLose c).rd32 (stgAddr c + 0xC) = x.rd32 (stgAddr c + 0xC) :=
    Lane.rd32_congr fun k _ _ => Lane.rd8_slLose h c (by omega) (by unfold stgAddr at *; omega)
  rw [← hold, Lane.timeOut, Lane.rd32_slViews]
  exact Lane.rd32_wr32 (Lane.slLose_wf h c) _ _

theorem Lane.rd8_timeOut {a : Nat} (hentry : a < stgAddr c ∨ stgAddr c + 16 ≤ a)
    (htoken : a < 0x02F07400 + c * 4 ∨ 0x02F07400 + c * 4 + 4 ≤ a) : (x.timeOut c).rd8 a = x.rd8 a :=
  (Lane.timeOut_keepsOutside h a (by omega)).trans (Lane.rd8_slLose h c (by omega) htoken)

/-! A connection is forgotten (R317). -/

/-- A byte of the store of a connection that is forgotten: 0 in the first word of its entry and in the retained PDU
(R317). -/
theorem Lane.rd8_slForget (a : Nat) : (x.slForget c).rd8 a =
    if (stgAddr c ≤ a ∧ a < stgAddr c + 4) ∨ (stgAddr c + 0x10 ≤ a ∧ a < stgAddr c + 0x88) then 0 else x.rd8 a := by
  rw [Lane.slForget, Lane.rd8_wr32 (Lane.storeBytes_wf h _ _), Lane.rd8_storeBytes h, List.length_replicate]
  by_cases hfirst : stgAddr c ≤ a ∧ a < stgAddr c + 4
  · rw [if_pos hfirst, if_pos (.inl hfirst)]
    simp [byteOf]
  · rw [if_neg hfirst]
    by_cases hpdu : stgAddr c + 0x10 ≤ a ∧ a < stgAddr c + 0x88
    · rw [if_pos (by omega), if_pos (.inr hpdu), List.getD_eq_getElem?_getD, List.getElem?_replicate_of_lt (by omega)]
      rfl
    · rw [if_neg (by omega), if_neg (by omega)]

theorem Lane.stgState_slForget : (x.slForget c).stgState c = 0 := by
  rw [Lane.stgState, Lane.slForget, Lane.rd32_wr32 (Lane.storeBytes_wf h _ _)]
  rfl

/-- The count of the cuts in LOST stays (R317). -/
theorem Lane.lostCuts_slForget : (x.slForget c).rd32 (stgAddr c + 0xC) = x.rd32 (stgAddr c + 0xC) :=
  Lane.rd32_congr fun k _ _ => by rw [Lane.rd8_slForget h, if_neg (by omega)]

end

theorem Lane.slForget_core (x : Lane) (c : Nat) : (x.slForget c).core = x.core :=
  (Lane.wr32_core _ _ _).trans (x.storeBytes_core _ _)

/-! A twin is missing (R318). -/

/-- A connection whose twin is missing counts it, and the block with it (R318). -/
def Lane.missTwin (x : Lane) (c : Nat) : Lane :=
  (x.wr32 (stgAddr c + 0x98) (satInc (x.rd32 (stgAddr c + 0x98)))).slUpd fun k =>
    { k with twinMissing := satInc k.twinMissing, twinDue := k.twinDue.filter (· ≠ c) }

theorem Lane.missTwin_sl (x : Lane) (c : Nat) : (x.missTwin c).sl =
    { x.sl with twinMissing := satInc x.sl.twinMissing, twinDue := x.sl.twinDue.filter (· ≠ c) } := by
  simp only [Lane.missTwin, Lane.slUpd, Lane.wr32_sl]

theorem Lane.missTwin_core (x : Lane) (c : Nat) : (x.missTwin c).core = x.core := by
  rw [Lane.missTwin, Lane.slUpd_core, Lane.wr32_core]

theorem Lane.missTwin_keepsOutside {x : Lane} (h : Memory.wf x.store.cells = true) (c : Nat) :
    KeepsOutside x (x.missTwin c) (stgAddr c + 0x98) 4 := fun k hk =>
  (Lane.rd8_slUpd _ _ k).trans (Lane.wr32_keepsOutside h _ _ k hk)

theorem Lane.rd32_missTwin {x : Lane} (h : Memory.wf x.store.cells = true) (c : Nat) :
    (x.missTwin c).rd32 (stgAddr c + 0x98) = satInc (x.rd32 (stgAddr c + 0x98)) :=
  (Lane.rd32_slUpd _ _ _).trans (Lane.rd32_wr32 h _ _)

/-! The commands. -/

section

variable {s : State} {l : LaneId} {conn : Fin 512}

theorem exec_supervisionTimeout (hl : l ∈ s.receivers) (hchecked : s.checked (s.lane l) conn.val = true)
    (hok : (s.lane l).stgState conn.val = 1) (hnew : (s.lane l).stgFlag conn.val 4 = false)
    (hlate : (s.lane l).slTimedOut ((s.lane l).tb.t0.toNat / 100) conn.val = true) :
    exec (.supervisionTimeout l conn) s =
      .next ((s.updLane l (·.timeOut conn.val)).recordLinks l [.lost conn.val]) :=
  congrArg Host.Outcome.next (if_pos (by simp [hl, hchecked, hok, hnew, hlate]))

theorem exec_lostConnectionForgotten (hl : l ∈ s.receivers) (hchecked : s.checked (s.lane l) conn.val = true)
    (hlost : (s.lane l).stgState conn.val = 2) (hcuts : (s.lane l).rd32 (stgAddr conn.val + 0xC) = 1000000) :
    exec (.lostConnectionForgotten l conn) s = .next (s.updLane l fun x => (x.slForget conn.val).slViews) :=
  congrArg Host.Outcome.next (if_pos (by simp [hl, hchecked, hlost, hcuts]))

theorem exec_twinMissing (hdue : conn.val ∈ (s.lane l).sl.twinDue) : exec (.twinMissing l conn) s =
    .next ((s.updLane l (·.missTwin conn.val)).recJoint l .slTwinMissing [place conn.val 0]) :=
  congrArg Host.Outcome.next (if_pos (by simpa using hdue))

end

/-- Settles O25: the connection times out (`Lane.timeOut`), is forgotten (`Lane.rd8_slForget`), or misses its twin
(`Lane.missTwin`). -/
theorem connectionEvents : Obligations.ConnectionEvents := by
  unfold Obligations.ConnectionEvents
  intro s l conn hwf
  refine ⟨fun hl hchecked hok hnew hlate => ?_, fun hl hchecked hlost hcuts => ?_, fun hdue => ?_⟩
  · refine ⟨_, exec_supervisionTimeout hl hchecked hok hnew (decide_eq_true hlate), ?_⟩
    rw [State.recordLinks_lane, State.lane_updLane]
    exact ⟨Lane.stgState_timeOut hwf, Lane.rd32_token_timeOut hwf,
      Lane.lostCuts_timeOut hwf, Lane.timeOut_err _ _, Lane.timeOut_core _ _,
      fun a hentry htoken => Lane.rd8_timeOut hwf hentry (by omega)⟩
  · refine ⟨_, exec_lostConnectionForgotten hl hchecked hlost hcuts, ?_⟩
    rw [State.lane_updLane, Lane.stgState_slViews, Lane.rd32_slViews, Lane.slViews_core]
    simp only [Lane.rd8_slViews]
    refine ⟨Lane.stgState_slForget hwf, (Lane.lostCuts_slForget hwf).trans hcuts, fun i hi => ?_,
      Lane.slForget_core _ _, fun a ha => ?_⟩
    · exact (Lane.rd8_slForget hwf _).trans (if_pos (by unfold stgAddr; omega))
    · exact (Lane.rd8_slForget hwf a).trans (if_neg (by unfold stgAddr; omega))
  · refine ⟨_, exec_twinMissing hdue, ?_⟩
    rw [State.recJoint_lane, State.lane_updLane]
    have hsl := (s.lane l).missTwin_sl conn.val
    exact ⟨Lane.rd32_missTwin hwf _, congrArg SlBlk.twinMissing hsl, by rw [hsl]; simp, Lane.missTwin_core _ _,
      Lane.missTwin_keepsOutside hwf _⟩

end Sys2Proof.Machine

/-! What the output stage does at its evaluations (R254 to R257): it counts the readings that lie out of range, reports
an open load, opens a tripped output, holds a group off, and opens a group switch with SAFE_STOP. -/

namespace Sys2Proof.Machine

open Sys2Proof.Safety

theorem vget_fin {α : Type} {n : Nat} (v : Vector α n) (i : Fin n) (d : α) : vget v i.val d = v[i] := by
  simp [vget]

section

variable {s : State}

@[simp] theorem State.recStage_stage (s : State) (name : RecName) (ps : List Word) :
    (s.recStage name ps).stage = s.stage := s.recAs_stage ..

@[simp] theorem State.recStage_md (s : State) (name : RecName) (ps : List Word) : (s.recStage name ps).md = s.md :=
  s.recAs_md ..

@[simp] theorem State.recStage_lanes (s : State) (name : RecName) (ps : List Word) :
    (s.recStage name ps).lanes = s.lanes := s.recAs_lanes ..

/-! The readings that an evaluation takes (R255). -/

/-- Three serving lanes are judged by the median of their readings (R255). -/
theorem State.judged_readings (h3 : s.servingLanes.length = 3) (pick : Nat → Nat → Nat) (f : Readback → Nat) :
    judged pick (s.readings f) =
      median (f (s.lane .A).vio.readback) (f (s.lane .B).vio.readback) (f (s.lane .C).vio.readback) := by
  rw [State.readings, State.servingLanes_of_three h3]
  rfl

theorem State.judgeThree_median (h3 : s.servingLanes.length = 3) (pick : Nat → Nat → Nat) (v : PerLane Nat) :
    s.judgeThree pick v = median v.a v.b v.c := by
  rw [State.judgeThree, State.servingLanes_of_three h3]
  rfl

theorem State.lasting_none (h : s.inject.lasting = []) (id : Nat) (l : Option LaneId) : s.lasting id l = none := by
  simp [State.lasting, h]

theorem State.passLasting_none (h : s.inject.lasting = []) (id : Nat) (l : Option LaneId) : s.passLasting id l = s := by
  have hkeep : s.passLasting id l = { s with inject := { s.inject with lasting := s.inject.lasting } } := by
    simp [State.passLasting, h]
  exact hkeep

theorem State.passEvalInjections_none (h : s.inject.lasting = []) : s.passEvalInjections = s := by
  simp [State.passEvalInjections, LaneId.list, State.passLasting_none h]

theorem State.startEvalInjections_calm (hc : Calm s) : s.startEvalInjections = s := by
  simp [State.startEvalInjections, LaneId.list, State.fireLasting_calm hc]

theorem State.forcedOn_none (h : s.inject.lasting = []) : s.forcedOn = 0 := by
  simp [State.forcedOn, State.lasting_none h]

theorem State.inject_none (h : s.inject.lasting = []) (l : LaneId) (r : Readback) :
    s.injectLane l (s.injectReading r) = r := by
  simp [State.injectLane, State.injectReading, State.lasting_none h]

/-- A lane that has taken the readings of its monitors. -/
def Lane.read (r : Readback) (x : Lane) : Lane := { x with vio := { x.vio with readback := r } }

/-- The lanes have taken their readings. -/
def State.takeReadings (s : State) (a b c : Readback) : State :=
  ((s.updLane .A (Lane.read a)).updLane .B (Lane.read b)).updLane .C (Lane.read c)

theorem State.takeReadings_keeps (a b c : Readback) (l : LaneId) :
    ((s.takeReadings a b c).lane l).core = (s.lane l).core ∧
      ((s.takeReadings a b c).lane l).store = (s.lane l).store := by
  cases l <;> exact ⟨rfl, rfl⟩

theorem State.judged_takeReadings (h3 : s.servingLanes.length = 3) (a b c : Readback) (pick : Nat → Nat → Nat)
    (f : Readback → Nat) : judged pick ((s.takeReadings a b c).readings f) = median (f a) (f b) (f c) :=
  State.judged_readings (s := s.takeReadings a b c) h3 pick f

/-- The state at the instant of the next evaluation (R255). -/
def State.atEvaluation (s : State) : State :=
  let u := s.advanceTo s.nextEval
  { u with stage := { u.stage with evalAt := some u.tb.nt } }

/-- The evaluation of readings, with the injections that change them and that trip an output (R463). -/
def State.evaluateReadings (s : State) (a b c : Readback) : State :=
  let read (l : LaneId) (r : Readback) : Lane → Lane := Lane.read (s.injectLane l (s.injectReading r))
  let t := ((s.updLane .A (read .A a)).updLane .B (read .B b)).updLane .C (read .C c)
  let t := (t.evaluate s.forcedOn).passEvalInjections
  if t.injected 0x17 none && t.injParam < 48 then t.fire.tripOutput s.injParam else t

theorem State.evaluateReadings_quiet (hq : Quiet s) (a b c : Readback) :
    s.evaluateReadings a b c = (s.takeReadings a b c).evaluate 0 := by
  obtain ⟨hc, hlasting⟩ := hq
  have hcalm : Calm ((s.takeReadings a b c).evaluate 0) := hc
  have hnone : ((s.takeReadings a b c).evaluate 0).inject.lasting = [] := hlasting
  have hpass : ((s.takeReadings a b c).evaluate 0).passEvalInjections = (s.takeReadings a b c).evaluate 0 :=
    State.passEvalInjections_none hnone
  unfold State.takeReadings at hcalm hpass
  simp only [State.takeReadings, State.evaluateReadings, State.inject_none hlasting, State.forcedOn_none hlasting,
    hpass, State.injected_calm hcalm, Bool.false_and, Bool.false_eq_true, if_false]

/-- An evaluation by its steps (R255). -/
theorem exec_outputEvaluation (hruns : s.stageRuns = true) (a b c : Readback) : exec (.outputEvaluation a b c) s =
    .next (s.atEvaluation.startEvalInjections.evaluateReadings a b c) :=
  congrArg Host.Outcome.next (if_neg (by simp [hruns]))

/-- An evaluation without injections is that of the readings taken at its instant (R255). -/
theorem exec_outputEvaluation_quiet (hq : Quiet s) (hruns : s.stageRuns = true) (a b c : Readback) :
    exec (.outputEvaluation a b c) s = .next ((s.atEvaluation.takeReadings a b c).evaluate 0) := by
  have hquiet : Quiet s.atEvaluation := hq
  rw [exec_outputEvaluation hruns, State.startEvalInjections_calm hquiet.1, State.evaluateReadings_quiet hquiet]

/-- One evaluation counts, for each output, the evaluations in a row above 1.1 A (R255). -/
theorem evaluate_overRun (force : OutBits) (o : Fin 48) : (s.evaluate force).stage.overRun[o] =
    runOn (1100 < judged max (s.readings (currentOf o.val))) s.stage.overRun[o] := by
  simp [State.evaluate]

/-- One evaluation counts, for each output, the evaluations in a row with voltage on it while it is off (R255). -/
theorem evaluate_backRun (o : Fin 48) : (s.evaluate 0).stage.backRun[o] =
    runOn (!s.stage.on.getLsbD o.val && !s.stage.pulseMask.getLsbD o.val &&
      200 < judged max (s.readings (voltOf o.val))) s.stage.backRun[o] := by
  simp [State.evaluate, Stage.pulseMask]

/-- With three serving lanes the median of the readings taken counts (R255). -/
theorem overRun_takeReadings (h3 : s.servingLanes.length = 3) (a b c : Readback) (o : Fin 48) :
    ((s.takeReadings a b c).evaluate 0).stage.overRun[o] =
      if 1100 < median a.current[o].toNat b.current[o].toNat c.current[o].toNat then s.stage.overRun[o] + 1 else 0 := by
  rw [evaluate_overRun, State.judged_takeReadings h3]
  simp only [runOn, currentOf, vget_fin, decide_eq_true_eq]
  rfl

theorem backRun_takeReadings (h3 : s.servingLanes.length = 3) (a b c : Readback) (o : Fin 48) :
    ((s.takeReadings a b c).evaluate 0).stage.backRun[o] =
      if s.stage.on.getLsbD o.val = false ∧ s.stage.pulseMask.getLsbD o.val = false ∧
        200 < median a.volt[o].toNat b.volt[o].toNat c.volt[o].toNat then s.stage.backRun[o] + 1 else 0 := by
  rw [evaluate_backRun, State.judged_takeReadings h3]
  simp only [runOn, voltOf, vget_fin, Bool.and_eq_true, Bool.not_eq_true', decide_eq_true_eq, and_assoc]
  rfl

/-! Outputs that do not conduct (R251, R255). -/

theorem State.conducting_tripped {o : Nat} (h : s.stage.trip.getLsbD o = true) : s.conducting.getLsbD o = false := by
  unfold State.conducting
  split
  · exact BitVec.getLsbD_zero
  · simp [h]

theorem State.conducting_held {o : Nat} (h : s.stage.vfHeld.getLsbD (groupOf o) = true) :
    s.conducting.getLsbD o = false := by
  have hmask : s.groupMask.getLsbD o = false := by
    by_contra hc
    simpa [h] using getLsbD_outputsOf (Bool.eq_true_of_not_eq_false hc)
  unfold State.conducting
  split
  · exact BitVec.getLsbD_zero
  · simp [hmask]

/-! Faults of outputs and groups (R255, R256). -/

theorem State.noteFault_first (o : Fin 48) (code : BitVec 4) :
    (s.noteFault o.val code).stage.first[o].isSome = true := by
  simp [State.noteFault, vset]

/-- What a fault of a group may touch: the mode and the latches, the lanes, and the groups held off or opened. -/
structure GroupView where
  md : ModuleSt
  lanes : PerLane Lane
  vfHeld : BitVec 3
  groupFault : BitVec 3

/-- The groups of a state. -/
def State.groups (s : State) : GroupView :=
  { md := s.md, lanes := s.lanes, vfHeld := s.stage.vfHeld, groupFault := s.stage.groupFault }

theorem State.discardIn_groups (s : State) (g : Nat) : (s.discardIn g).groups = s.groups := by
  unfold State.discardIn State.discardPulse
  split
  · rfl
  · split
    · split <;> rfl
    · rfl

theorem State.conduct_groups (s : State) : s.conduct.groups = s.groups := rfl

theorem State.recStage_groups (s : State) (name : RecName) (ps : List Word) :
    (s.recStage name ps).groups = s.groups := by
  simp [State.groups]

theorem exec_openLoad {o : Fin 48} (hruns : s.stageRuns = true) (hrun : 20 ≤ s.stage.openRun[o])
    (hnow : s.stage.openNow.getLsbD o.val = false) : exec (.openLoad o) s = .next
      ((({ s with stage := { s.stage with openNow := setBit s.stage.openNow o.val true } } : State).noteFault o.val
        1).recStage .outputFault [place o.val 0, 1]) :=
  congrArg Host.Outcome.next (if_pos (by rw [hruns, hnow, decide_eq_true hrun]; rfl))

theorem exec_tripped {o : Fin 48} {r : TripReading} (hruns : s.stageRuns = true)
    (hdue : (100 ≤ r.us ∧ s.servingLanes.length = 3 ∧ 1500 < median r.a.toNat r.b.toNat r.c.toNat) ∨
      100 ≤ s.stage.overRun[o]) : exec (.tripped o r) s = .next (s.tripOutput o.val) := by
  refine congrArg Host.Outcome.next (if_pos ?_)
  rw [hruns, Bool.true_and, Bool.or_eq_true]
  refine hdue.imp (fun ⟨hus, h3, hhigh⟩ => ?_) decide_eq_true
  rw [State.judgeThree_median h3]
  simp [hus, hhigh]

/-- An output tripped and its trip counted (R255). -/
def State.latchTrip (s : State) (o : Nat) : State :=
  { s with stage := { s.stage with trip := setBit s.stage.trip o true, tripCount := satInc s.stage.tripCount } }

theorem State.tripOutput_eq {o : Nat} (h : s.stage.trip.getLsbD o = false) :
    s.tripOutput o = ((s.latchTrip o).noteFault o 2).conduct.recStage .outputTrip [place o 0] := if_neg (by simp [h])

/-- An output that trips is open, and no other output's trip changes (R255). -/
theorem State.tripOutput_shows {o : Fin 48} (h : s.stage.trip.getLsbD o.val = false) :
    let t := s.tripOutput o.val
    t.stage.trip.getLsbD o.val = true ∧ t.stage.on.getLsbD o.val = false ∧
      t.stage.tripCount = satInc s.stage.tripCount ∧ t.md = s.md ∧ t.lanes = s.lanes ∧
      (∀ p : Fin 48, p ≠ o → t.stage.trip.getLsbD p.val = s.stage.trip.getLsbD p.val) := by
  have hlatch (p : Nat) : (s.latchTrip o.val).stage.trip.getLsbD p = if p = o.val then true else
      s.stage.trip.getLsbD p := getLsbD_setBit _ o.isLt _ _
  have hset : (s.latchTrip o.val).stage.trip.getLsbD o.val = true := (hlatch _).trans (if_pos rfl)
  dsimp only
  rw [State.tripOutput_eq h, State.recStage_stage, State.recStage_md, State.recStage_lanes]
  exact ⟨hset, State.conducting_tripped hset, rfl, rfl, rfl,
    fun p hp => (hlatch _).trans (if_neg (Fin.val_ne_of_ne hp))⟩

/-- A group held off, with the fault of each of its outputs (R255). -/
def State.holdGroup (s : State) (g : Nat) : State :=
  (List.range 16).foldl (fun s i => s.noteFault (16 * g + i) 5)
    { s.discardIn g with stage := { (s.discardIn g).stage with vfHeld := setBit (s.discardIn g).stage.vfHeld g true } }

/-- The faults of a group's outputs noted. -/
theorem foldl_noteFault_groups (g n : Nat) (t : State) :
    ((List.range n).foldl (fun s i => s.noteFault (16 * g + i) 5) t).groups = t.groups :=
  foldl_keep State.groups (fun s i => s.noteFault (16 * g + i) 5) (fun _ _ => rfl) _ t

theorem State.holdGroup_groups (s : State) (g : Nat) :
    (s.holdGroup g).groups = { s.groups with vfHeld := setBit s.groups.vfHeld g true } := by
  rw [State.holdGroup, foldl_noteFault_groups, ← s.discardIn_groups g]
  rfl

theorem exec_vfRange {g : Fin 3} (hruns : s.stageRuns = true) (hbad : 10 ≤ s.stage.vfBad[g])
    (hheld : s.stage.vfHeld.getLsbD g.val = false) : exec (.vfRange g) s =
      .next ((s.holdGroup g.val).conduct.recStage .vfRange [place g.val 0]) :=
  congrArg Host.Outcome.next (if_pos (by rw [hruns, hheld, decide_eq_true hbad]; rfl))

/-- The group held off, its outputs open, the other groups as they were (R255). -/
theorem State.holdGroup_shows (s : State) (g : Fin 3) (name : RecName) (ps : List Word) :
    let t := (s.holdGroup g.val).conduct.recStage name ps
    t.stage.vfHeld.getLsbD g.val = true ∧ t.md = s.md ∧ t.lanes = s.lanes ∧
      (∀ o : Fin 48, o.val / 16 = g.val → t.stage.on.getLsbD o.val = false) ∧
      (∀ k : Fin 3, k ≠ g → t.stage.vfHeld.getLsbD k.val = s.stage.vfHeld.getLsbD k.val) := by
  intro t
  have hkeep : t.groups = (s.holdGroup g.val).groups := (State.recStage_groups _ _ _).trans (State.conduct_groups _)
  have hgroups := hkeep.trans (s.holdGroup_groups g.val)
  have hheld (k : Nat) : t.stage.vfHeld.getLsbD k = if k = g.val then true else s.stage.vfHeld.getLsbD k :=
    (congrArg (fun v : GroupView => v.vfHeld.getLsbD k) hgroups).trans (getLsbD_setBit _ g.isLt _ _)
  have hon : t.stage.on = (s.holdGroup g.val).conducting := congrArg Stage.on (State.recStage_stage _ _ _)
  refine ⟨(hheld _).trans (if_pos rfl), congrArg GroupView.md hgroups, congrArg GroupView.lanes hgroups,
    fun o ho => ?_, fun k hk => (hheld _).trans (if_neg (Fin.val_ne_of_ne hk))⟩
  have hsame : (s.holdGroup g.val).stage.vfHeld = t.stage.vfHeld := (congrArg GroupView.vfHeld hkeep).symm
  rw [hon]
  refine State.conducting_held ?_
  rw [hsame, groupOf, ho, hheld, if_pos rfl]

theorem exec_vfRangeClear {g : Fin 3} (hruns : s.stageRuns = true) (hgood : 100 ≤ s.stage.vfGood[g])
    (hheld : s.stage.vfHeld.getLsbD g.val = true) : exec (.vfRangeClear g) s = .next
      ({ s with stage := { s.stage with vfHeld := setBit s.stage.vfHeld g.val false } } : State).conduct :=
  congrArg Host.Outcome.next (if_pos (by rw [hruns, hheld, decide_eq_true hgood]; rfl))

/-! A group switch opened, with SAFE_STOP (R255, R351). -/

theorem State.mayStop_of_stageRuns (hruns : s.stageRuns = true) (hmode : s.md.mode ≠ .safeStop) : MayStop s := by
  simp only [State.stageRuns, Bool.and_eq_true, decide_eq_true_eq] at hruns
  obtain ⟨⟨hpriming, hfail⟩, -⟩ := hruns
  exact ⟨hpriming, hfail, hmode⟩

theorem State.gates_groupFault (s : State) : s.gates.groupFault = s.stage.groupFault := rfl

theorem State.restrictive_groupFault (s : State) : s.restrictive.stage.groupFault = s.stage.groupFault := by
  have hoff : s.stageOff.stage.groupFault = s.stage.groupFault := by
    unfold State.stageOff State.discardPulse
    split <;> rfl
  have hslots : ((s.stageOff.endSlot .W).endSlot .E).gates = s.stageOff.gates := by simp
  exact (congrArg Gates.groupFault hslots).trans hoff

/-- The groups that a fault has opened stay open in SAFE_STOP (R252). -/
theorem State.enterSafeStop_groupFault (s : State) (o : Origin) (reason : Half) :
    (s.enterSafeStop o reason).stage.groupFault = s.stage.groupFault := by
  have hstopped (t : State) : (t.markStopped o reason).gates.groupFault = t.gates.groupFault := rfl
  have hrestrictive (t : State) : t.restrictive.gates.groupFault = t.gates.groupFault := t.restrictive_groupFault
  rw [← State.gates_groupFault, ← State.gates_groupFault, State.enterSafeStop_eq]
  simp [hstopped, hrestrictive]

/-- The state in which a fault of an output stops the module: its group's switch is open (R255). -/
def State.openGroup (s : State) (o : Nat) (code : BitVec 4) (name : RecName) : State :=
  let u := (s.noteFault o code).discardIn (groupOf o)
  let v := { u with stage := { u.stage with groupFault := setBit u.stage.groupFault (groupOf o) true } }
  v.conduct.recStage name [place o 0]

theorem State.openGroup_groups (s : State) (o : Nat) (code : BitVec 4) (name : RecName) :
    (s.openGroup o code name).groups =
      { s.groups with groupFault := setBit s.groups.groupFault (groupOf o) true } := by
  have hkeep : ((s.noteFault o code).discardIn (groupOf o)).groups = s.groups := State.discardIn_groups _ _
  unfold State.openGroup
  rw [State.recStage_groups, State.conduct_groups, ← hkeep]
  rfl

/-- A fault that opens a group's switch stops the module (R255, R351). -/
theorem State.groupStop_eq (hmay : MayStop s) (o : Nat) (code : BitVec 4) (name : RecName) :
    s.groupStop o code name = (s.openGroup o code name).enterSafeStop .output 0 := by
  have hmd : (s.openGroup o code name).md = s.md := congrArg GroupView.md (s.openGroup_groups o code name)
  have hopen : MayStop (s.openGroup o code name) := by rwa [MayStop, hmd]
  exact State.safeStop_of_mayStop hopen _ _

/-- The module stopped with the switch of the output's group open (R255, R351). -/
theorem State.groupStop_shows (hmay : MayStop s) (o : Fin 48) (code : BitVec 4) (name : RecName) :
    let t := s.groupStop o.val code name
    t.stage.groupFault.getLsbD (o.val / 16) = true ∧ t.md.mode = .safeStop ∧ t.guard.sstopOrigin = 5 ∧
      t.stage.on = 0 ∧ t.md.released = [] := by
  intro t
  have ht : t = (s.openGroup o.val code name).enterSafeStop .output 0 := State.groupStop_eq hmay _ _ _
  have hgroup : (s.openGroup o.val code name).stage.groupFault = setBit s.stage.groupFault (groupOf o.val) true :=
    congrArg GroupView.groupFault (s.openGroup_groups o.val code name)
  have hlt : groupOf o.val < 3 := by unfold groupOf; omega
  rw [ht]
  refine ⟨?_, ?_, State.enterSafeStop_origin _ _ _, State.enterSafeStop_on _ _ _, ?_⟩
  · rw [State.enterSafeStop_groupFault, hgroup]
    exact (getLsbD_setBit _ hlt _ _).trans (if_pos rfl)
  · rw [State.enterSafeStop_md]
  · rw [State.enterSafeStop_md]

/-- The voltage fed back to an output reported (R256). -/
def State.markBackfeed (s : State) (o : Nat) : State :=
  { s with stage := { s.stage with backNow := setBit s.stage.backNow o true } }

theorem exec_backfeed {o : Fin 48} (hruns : s.stageRuns = true) (hback : 10 ≤ s.stage.backRun[o])
    (hnow : s.stage.backNow.getLsbD o.val = false) :
    exec (.backfeed o) s = .next ((s.markBackfeed o.val).groupStop o.val 4 .backfeed) :=
  congrArg Host.Outcome.next (if_pos (by rw [hruns, hnow, decide_eq_true hback]; rfl))

end

/-- Settles O32: the evaluation is that of the readings taken (`exec_outputEvaluation_quiet`); a fault of an output or
of a group leaves what `State.groups` shows but for its group, and no output conducts that is tripped
(`State.conducting_tripped`) or held off (`State.conducting_held`). -/
theorem stageEvaluates : Obligations.StageEvaluates := by
  unfold Obligations.StageEvaluates
  intro s hq hruns
  refine ⟨fun a b c h3 => ?_, fun o hrun hnow => ?_,
    fun o r hdue htrip => ⟨_, exec_tripped hruns hdue, State.tripOutput_shows htrip⟩,
    fun g hbad hheld => ⟨_, exec_vfRange hruns hbad hheld, s.holdGroup_shows g _ _⟩,
    fun g hgood hheld => ?_, fun o hback hnow hmode => ?_⟩
  · refine ⟨_, exec_outputEvaluation_quiet hq hruns a b c, rfl, rfl, rfl, rfl, rfl, rfl, fun l => ?_, fun o => ⟨?_, ?_⟩⟩
    · exact State.takeReadings_keeps (s := s.atEvaluation) a b c l
    · exact overRun_takeReadings (s := s.atEvaluation) h3 a b c o
    · exact backRun_takeReadings (s := s.atEvaluation) h3 a b c o
  · refine ⟨_, exec_openLoad hruns hrun hnow, ?_⟩
    rw [State.recStage_stage, State.recStage_md, State.recStage_lanes]
    exact ⟨(getLsbD_setBit _ o.isLt _ _).trans (if_pos rfl), State.noteFault_first o 1, rfl, rfl, rfl⟩
  · refine ⟨_, exec_vfRangeClear hruns hgood hheld, ?_, rfl, rfl, rfl⟩
    exact (getLsbD_setBit _ g.isLt _ _).trans (if_pos rfl)
  · have hmay : MayStop (s.markBackfeed o.val) := State.mayStop_of_stageRuns hruns hmode
    exact ⟨_, exec_backfeed hruns hback hnow, State.groupStop_shows hmay o 4 .backfeed⟩

end Sys2Proof.Machine

/-! δ from its readings (R293): put in ascending order, the extremes left out, the mean rounded. -/

namespace Sys2Proof.Machine

open Sys2Proof.Safety

/-- The mean of readings, rounded to the nearest ns with halves away from zero (R293). -/
def RoundedMean (xs : List Int) (r : Int) : Prop :=
  let d := 2 * (r * xs.length - xs.sum)
  d.natAbs ≤ xs.length ∧ (d.natAbs = xs.length → xs.sum.natAbs ≤ r.natAbs * xs.length)

theorem roundDiv_one (a : Int) : roundDiv a 1 = a := by
  simp only [roundDiv]
  split <;> omega

/-- A quotient rounded lies within half a unit, and away from zero where it is half a unit off. -/
theorem roundDiv_nearest (a : Int) {b : Nat} (hb : 0 < b) :
    (2 * (roundDiv a b * b - a)).natAbs ≤ b ∧
      ((2 * (roundDiv a b * b - a)).natAbs = b → a.natAbs ≤ (roundDiv a b).natAbs * b) := by
  have hdiv := Nat.div_add_mod (2 * a.natAbs + b) (2 * b)
  have hlt := Nat.mod_lt (2 * a.natAbs + b) (show 0 < 2 * b by omega)
  simp only [roundDiv]
  generalize (2 * a.natAbs + b) / (2 * b) = n at hdiv ⊢
  have hprod : 2 * b * n = 2 * (n * b) := by ring
  have hcast : ((n * b : Nat) : Int) = n * b := Nat.cast_mul n b
  rw [hprod] at hdiv
  split
  · rw [neg_mul, ← hcast, Int.natAbs_neg, Int.natAbs_natCast]
    omega
  · rw [← hcast, Int.natAbs_natCast]
    omega

theorem roundedMean_roundDiv {xs : List Int} (h : xs ≠ []) : RoundedMean xs (roundDiv xs.sum xs.length) :=
  roundDiv_nearest _ (List.length_pos_iff.mpr h)

theorem insertReading_perm (p : Int × Nat) (ps : List (Int × Nat)) : (insertReading p ps).Perm (p :: ps) := by
  induction ps with
  | nil => exact List.Perm.refl _
  | cons q ps ih =>
    unfold insertReading
    split
    · exact List.Perm.refl _
    · exact (ih.cons q).trans (List.Perm.swap p q ps)

theorem insertReading_ascending (p : Int × Nat) {ps : List (Int × Nat)} (h : ps.Pairwise (·.1 ≤ ·.1)) :
    (insertReading p ps).Pairwise (·.1 ≤ ·.1) := by
  induction ps with
  | nil => exact List.pairwise_singleton _ p
  | cons q ps ih =>
    obtain ⟨hq, hps⟩ := List.pairwise_cons.mp h
    unfold insertReading
    split
    · next hle =>
      refine List.pairwise_cons.mpr ⟨fun r hr => ?_, h⟩
      rcases List.mem_cons.mp hr with rfl | hr
      · exact hle
      · exact hle.trans (hq r hr)
    · next hlt =>
      refine List.pairwise_cons.mpr ⟨fun r hr => ?_, ih hps⟩
      rcases List.mem_cons.mp ((insertReading_perm p ps).mem_iff.mp hr) with rfl | hr
      · exact (not_le.mp hlt).le
      · exact hq r hr

theorem foldl_insertReading_perm (rs acc : List (Int × Nat)) :
    (rs.foldl (fun acc p => insertReading p acc) acc).Perm (rs ++ acc) := by
  induction rs generalizing acc with
  | nil => exact List.Perm.refl _
  | cons r rs ih =>
    exact (ih _).trans (((insertReading_perm r acc).append_left rs).trans List.perm_middle)

theorem foldl_insertReading_ascending (rs : List (Int × Nat)) {acc : List (Int × Nat)}
    (h : acc.Pairwise (·.1 ≤ ·.1)) :
    (rs.foldl (fun acc p => insertReading p acc) acc).Pairwise (·.1 ≤ ·.1) := by
  induction rs generalizing acc with
  | nil => exact h
  | cons r rs ih => exact ih (insertReading_ascending r h)

section

variable {rs : List (Int × Nat)} {m : List Int} (hperm : m.Perm (rs.map (·.1))) (hsorted : m.Pairwise (· ≤ ·))

include hperm hsorted

/-- The readings put in order are the ascending list of their values. -/
theorem map_foldl_insertReading : (rs.foldl (fun acc p => insertReading p acc) []).map (·.1) = m := by
  have hvalues : ((rs.foldl (fun acc p => insertReading p acc) []).map (·.1)).Perm (rs.map (·.1)) := by
    simpa using (foldl_insertReading_perm rs []).map (·.1)
  refine (hvalues.trans hperm.symm).eq_of_pairwise (le := (· ≤ ·)) (fun a b _ _ => le_antisymm) ?_ hsorted
  exact List.pairwise_map.mpr (foldl_insertReading_ascending rs List.Pairwise.nil)

/-- δ of readings of which `cut` are left out at each end (R293). -/
theorem deltaOf_eq {cut : Nat} (hcut : (if rs.length ≤ 2 then 0 else if rs.length ≤ 6 then 1 else 2) = cut) :
    (deltaOf rs).1 = if (m.take (rs.length - cut)).drop cut = [] then none
      else some (roundDiv ((m.take (rs.length - cut)).drop cut).sum ((m.take (rs.length - cut)).drop cut).length) := by
  have hlen : (rs.foldl (fun acc p => insertReading p acc) []).length = rs.length := by
    simpa using (foldl_insertReading_perm rs []).length_eq
  have hkept : (keptReadings (rs.foldl (fun acc p => insertReading p acc) [])).map (·.1) =
      (m.take (rs.length - cut)).drop cut := by
    rw [← map_foldl_insertReading hperm hsorted]
    simp only [keptReadings, hlen, hcut, List.map_drop, List.map_take]
  have hsum (ps : List (Int × Nat)) : ps.foldl (fun n p => n + p.1) 0 = (ps.map (·.1)).sum := by
    rw [List.sum_eq_foldl, List.foldl_map]
  rw [← hkept]
  simp only [deltaOf, hsum, List.map_eq_nil_iff, List.length_map]
  split <;> rfl

end

/-- δ is formed from its readings as R293 says. -/
theorem deltaOf_mean (rs : List (Int × Nat)) (m : List Int) (hperm : m.Perm (rs.map (·.1)))
    (hsorted : m.Pairwise (· ≤ ·)) :
    (rs.length = 0 → (deltaOf rs).1 = none) ∧
    (rs.length = 1 → (deltaOf rs).1 = m[0]?) ∧
    (rs.length = 2 → ∃ r, (deltaOf rs).1 = some r ∧ RoundedMean m r) ∧
    (rs.length = 3 → (deltaOf rs).1 = m[1]?) ∧
    (4 ≤ rs.length → rs.length ≤ 6 → ∃ r, (deltaOf rs).1 = some r ∧ RoundedMean ((m.drop 1).dropLast) r) ∧
    (7 ≤ rs.length → ∃ r, (deltaOf rs).1 = some r ∧ RoundedMean (((m.drop 2).dropLast).dropLast) r) := by
  have hlen : m.length = rs.length := by simpa using hperm.length_eq
  have hdelta {cut : Nat} := deltaOf_eq (cut := cut) hperm hsorted
  have hmean {kept : List Int} {cut : Nat} (hkept : (m.take (rs.length - cut)).drop cut = kept) (hne : kept ≠ [])
      (hcut : (if rs.length ≤ 2 then 0 else if rs.length ≤ 6 then 1 else 2) = cut) :
      ∃ r, (deltaOf rs).1 = some r ∧ RoundedMean kept r := by
    refine ⟨_, ?_, roundedMean_roundDiv hne⟩
    rw [hdelta hcut, hkept, if_neg hne]
  refine ⟨fun h => ?_, fun h => ?_, fun h => ?_, fun h => ?_, fun h h' => ?_, fun h => ?_⟩
  · obtain rfl := List.length_eq_zero_iff.mp (hlen.trans h)
    rw [hdelta rfl]
    simp
  · obtain ⟨a, rfl⟩ := List.length_eq_one_iff.mp (hlen.trans h)
    rw [hdelta rfl, h]
    simp [roundDiv_one]
  · refine hmean (cut := 0) (by simp [← hlen]) (List.ne_nil_of_length_pos (by omega)) (if_pos (by omega))
  · obtain ⟨a, b, c, rfl⟩ := List.length_eq_three.mp (hlen.trans h)
    rw [hdelta rfl, h]
    simp [roundDiv_one]
  · refine hmean (cut := 1) ?_ (List.ne_nil_of_length_pos (by simp; omega)) (by rw [if_neg (by omega), if_pos h'])
    simp [List.dropLast_eq_take, List.drop_take, hlen]
  · refine hmean (cut := 2) ?_ (List.ne_nil_of_length_pos (by simp; omega)) ?_
    · simp only [List.dropLast_eq_take, List.drop_take, List.take_take, List.length_take, List.length_drop, hlen]
      congr 1
      omega
    · rw [if_neg (by omega), if_neg (by omega)]

end Sys2Proof.Machine


/-! The ring interface beside the other operations of the module: records leave it, and the entry to SAFE_STOP changes
only what an output still sends of the node's own (R350). -/

namespace Sys2Proof.Machine

open Sys2Proof.Safety

section

variable (s : State)

@[simp] theorem State.recRing_ring (name : RecName) (ps : List Word) : (s.recRing name ps).ring = s.ring :=
  s.recAs_ring ..

@[simp] theorem State.recRing_lanes (name : RecName) (ps : List Word) : (s.recRing name ps).lanes = s.lanes :=
  s.recAs_lanes ..

@[simp] theorem State.recRing_md (name : RecName) (ps : List Word) : (s.recRing name ps).md = s.md := s.recAs_md ..

@[simp] theorem State.recRing_stage (name : RecName) (ps : List Word) : (s.recRing name ps).stage = s.stage :=
  s.recAs_stage ..

@[simp] theorem State.recRing_armed (name : RecName) (ps : List Word) :
    (s.recRing name ps).inject.armed = s.inject.armed := s.recAs_armed ..

/-- The ring interface and the seal with the node's address. -/
def State.site : RingSt × Seal := (s.ring, s.sealSt)

theorem State.site_of_unrecorded {s t : State} (h : t.unrecorded = s.unrecorded) : t.site = s.site :=
  (congrArg State.site h :)

@[simp] theorem State.recAs_site (src : Nat) (agreed : Bool) (name : RecName) (ps : List Word) :
    (s.recAs src agreed name ps).site = s.site := State.site_of_unrecorded (s.recAs_unrecorded ..)

@[simp] theorem State.recG_site (name : RecName) (ps : List Word) : (s.recG name ps).site = s.site := s.recAs_site ..

@[simp] theorem State.recM_site (name : RecName) (ps : List Word) : (s.recM name ps).site = s.site :=
  State.site_of_unrecorded (s.recM_unrecorded ..)

@[simp] theorem State.mapLanes_site (f : Lane → Lane) : (s.mapLanes f).site = s.site := rfl

@[simp] theorem State.dropEvents_site (m : Mode) (es : List ModeEvent) : (s.dropEvents m es).site = s.site := by
  induction es generalizing s with
  | nil => rfl
  | cons e es ih => rw [State.dropEvents, ih, State.recM_site]

@[simp] theorem State.discardChange_site : s.discardChange.site = s.site := by
  have hremove (ls : List LaneId) :
      (ls.foldl (fun s k => s.updLane k (·.removePackage 0x0F)) s).site = s.site :=
    foldl_keep State.site (fun s k => s.updLane k (·.removePackage 0x0F)) (fun _ _ => rfl) ls s
  unfold State.discardChange
  split
  · rfl
  · split
    · rfl
    · rw [State.recM_site]
      exact hremove _

@[simp] theorem State.stageOff_site : s.stageOff.site = s.site := by
  unfold State.stageOff State.discardPulse
  split <;> rfl

@[simp] theorem State.endArming_site (fired : Bool) : (s.endArming fired).site = s.site := by
  unfold State.endArming
  split
  · rfl
  · exact State.recG_site _ _ _

@[simp] theorem State.endResync_site : s.endResync.site = s.site := by
  unfold State.endResync
  dsimp only
  split <;> rfl

@[simp] theorem State.bistAbort_site : s.bistAbort.site = s.site := by
  unfold State.bistAbort
  extract_lets n m t
  have ht : t.site = s.site := by
    simp only [t]
    split
    · rfl
    · exact State.recM_site _ _ _
  clear_value t
  split
  · exact ht
  · exact (State.recM_site _ _ _).trans ht

@[simp] theorem State.flushTrigger_site (r : BitVec 3) : (s.flushTrigger r).site = s.site := by
  unfold State.flushTrigger
  split
  · rfl
  · split <;> rfl
  · rfl

@[simp] theorem State.lapseByMode_site : s.lapseByMode.site = s.site := by
  unfold State.lapseByMode
  split
  · split
    · rfl
    · exact State.endArming_site _ _
  · rfl

@[simp] theorem State.holdVote_site : s.holdVote.site = s.site := rfl

theorem State.restrictive_site : s.restrictive.site = ((s.stageOff.endSlot .W).endSlot .E).site := by
  unfold State.restrictive
  generalize (s.stageOff.endSlot .W).endSlot .E = t
  rfl

theorem State.markStopped_site (o : Origin) (reason : Half) : (s.markStopped o reason).site = s.site := rfl

end

section

variable {P : RingSt × Seal → Prop} (hend : ∀ (t : State) (p : Port), P t.site → P (t.endSlot p).site) {s : State}

include hend

/-- The entry to SAFE_STOP acts on the ring interface through the end of the own slots alone (R349, R350). -/
theorem State.enterSafeStop_site (h : P s.site) (o : Origin) (reason : Half) : P (s.enterSafeStop o reason).site := by
  have hoff : ((s.dropEvents .safeStop s.cutEvents).discardChange.stageOff).site = s.site := by simp
  rw [State.enterSafeStop_eq]
  simp only [State.lapseByMode_site, State.flushTrigger_site, State.recG_site, State.markStopped_site,
    State.holdVote_site, State.bistAbort_site, State.endResync_site, State.restrictive_site]
  exact hend _ _ (hend _ _ (by rwa [hoff]))

/-- An origin of SAFE_STOP leaves the ring interface, or ends the own slots (R350, R351). -/
theorem State.safeStop_site (h : P s.site) (o : Origin) (reason : Half) : P (s.safeStop o reason).site := by
  have hrecord (ps : List Word) : P (s.recG .safeStop ps).site := by rwa [State.recG_site]
  unfold State.safeStop
  split
  · exact h
  · rwa [State.recG_site]
  · split
    · dsimp only
      split
      · exact hrecord _
      · exact hrecord _
    · exact h
  · exact State.enterSafeStop_site hend h o reason

/-- The same for a fault that the lanes see (R352). -/
theorem State.lanesStop_site (h : P s.site) (name : RecName) (ps : List Word) : P (s.lanesStop name ps).site :=
  State.safeStop_site hend (by rwa [State.recM_site]) .lane _

end

end Sys2Proof.Machine


/-! What the frames of the node's own leave of the ring (R271, R283, R350). -/

namespace Sys2Proof.Machine

open Sys2Proof.Safety

/-- A port without its output. -/
def RingPort.unsent (k : RingPort) : RingPort :=
  { k with outFrame := [], outCut := false, busyUntil := 0, endedFrame := [] }

/-- A ring without its outputs and the account of the node's own frames. -/
def RingSt.unsent (r : RingSt) : RingSt :=
  { r with w := r.w.unsent, e := r.e.unsent, sent := [], sentNow := false, txCount := 0, nullCount := 0 }

section

variable (s : State)

theorem State.fire_ring : s.fire.ring = s.ring := congrArg Prod.fst (s.endArming_site true)

theorem State.sendOut_unsent (slot : Nat) (out : Port) (body : List Byte) :
    (s.sendOut slot out body).ring.unsent = s.ring.unsent := by
  have hfire := s.fire_ring
  unfold State.sendOut
  dsimp only
  split
  · rfl
  · generalize s.fire = t at hfire ⊢
    split
    · rw [← hfire]
      cases out <;> rfl
    · cases out <;> rfl

theorem State.endSlot_unsent (p : Port) : (s.endSlot p).ring.unsent = s.ring.unsent := by
  unfold State.endSlot
  split
  · rfl
  · refine (State.sendOut_unsent _ _ _ _).trans ?_
    cases p <;> rfl

theorem State.safeStop_unsent (o : Origin) (reason : Half) :
    (s.safeStop o reason).ring.unsent = s.ring.unsent :=
  State.safeStop_site (P := fun x => x.1.unsent = s.ring.unsent) (fun t p h => (t.endSlot_unsent p).trans h) rfl _ _

theorem State.lanesStop_unsent (name : RecName) (ps : List Word) :
    (s.lanesStop name ps).ring.unsent = s.ring.unsent :=
  State.lanesStop_site (P := fun x => x.1.unsent = s.ring.unsent) (fun t p h => (t.endSlot_unsent p).trans h) rfl _ _

/-! RING_INVAR_DEV keeps δ to the end of the boundary (R293, R306). -/

theorem State.lanesStop_dev (name : RecName) (ps : List Word) : (s.lanesStop name ps).ring.dev = s.ring.dev :=
  (congrArg RingSt.dev (s.lanesStop_unsent name ps) :)

theorem State.applyDelta_dev (delta : Option Int) : (s.applyDelta delta).ring.dev = s.ring.dev := by
  unfold State.applyDelta
  split
  · rfl
  · dsimp only
    split <;> rfl

theorem State.listenBoundary_dev (delta : Option Int) : (s.listenBoundary delta).ring.dev = s.ring.dev := by
  unfold State.listenBoundary
  extract_lets t
  have ht : t.ring.dev = s.ring.dev := rfl
  clear_value t
  split
  · exact (t.lanesStop_dev _ _).trans ht
  · split
    · exact ht
    · split <;> exact ht

theorem State.useDelta_dev (delta : Option Int) : (s.useDelta delta).ring.dev = s.ring.dev := by
  unfold State.useDelta
  split
  · exact s.listenBoundary_dev delta
  · exact s.applyDelta_dev delta

theorem State.join_dev : s.join.ring.dev = s.ring.dev := by
  unfold State.join
  dsimp only
  split <;> rfl

theorem State.judgeCycle_dev (delta : Option Int) : (s.judgeCycle delta).ring.dev = s.ring.dev := by
  unfold State.judgeCycle
  split
  · rfl
  · split
    · exact State.lanesStop_dev _ _ _
    · split
      · rfl
      · split
        · split
          · exact s.join_dev
          · rfl
        · rfl

theorem State.silenceCheck_dev : s.silenceCheck.ring.dev = s.ring.dev := by
  unfold State.silenceCheck
  dsimp only
  split_ifs
  · rfl
  · rfl
  · rfl
  · rw [State.recRing_ring]
    rfl

end

/-- A network cycle boundary of an acquired node by its steps (R289, R293, R294, R298). -/
theorem State.ringBoundary_steps {s s1 : State} (hc : Calm s) (hacq : s.ring.acquired = true)
    (hs1 : s1 = s.advanceTo ((s.ring.cycleNo + 1) * s.ring.tn10)) {delta : Option Int}
    (hdelta : (deltaOf (Safety.readings s1)).1 = delta) :
    s.ringBoundary = ((s1.formed.useDelta delta).judgeCycle delta).silenceCheck.updRing
      (RingSt.closeCycle s.ring.listenOnly delta (s.ring.cycleNo + 1)) := by
  have hcalm : Calm s1 := by rw [hs1]; exact hc
  have hlisten : s1.ring.listenOnly = s.ring.listenOnly := by rw [hs1]; rfl
  rw [← hlisten, State.ringBoundary, if_neg (by simp [hacq])]
  dsimp only
  rw [← hs1, State.formDelta_calm hcalm, hdelta]
  rfl

/-- Settles O43: δ is `deltaOf_mean`, and each step of the boundary leaves RING_INVAR_DEV as `State.formed` shows it. -/
theorem invarMean : Obligations.InvarMean := by
  unfold Obligations.InvarMean
  refine ⟨deltaOf_mean, fun s hc hacq => ?_⟩
  intro s1
  refine ⟨s.ringBoundary, rfl, ?_⟩
  have hclose (t : State) (listening : Bool) (delta : Option Int) (next : Nat) :
      (t.updRing (RingSt.closeCycle listening delta next)).ring.dev = t.ring.dev := rfl
  have hsteps := State.ringBoundary_steps hc hacq (s1 := s1) rfl rfl
  clear_value s1
  rw [hsteps, hclose, State.silenceCheck_dev, State.judgeCycle_dev, State.useDelta_dev]
  rfl

end Sys2Proof.Machine


/-! Numbers and words as bytes in order (R5), and the bytes at a place of a list. -/

namespace Sys2Proof.Machine

@[simp] theorem length_natLe (n v : Nat) : (natLe n v).length = n := by
  induction n generalizing v with
  | zero => rfl
  | succ n ih => simp [natLe, ih]

theorem leNat_natLe (n v : Nat) : leNat (natLe n v) = v % 256 ^ n := by
  induction n generalizing v with
  | zero => simp [natLe, leNat, Nat.mod_one]
  | succ n ih => rw [natLe, leNat, ih, BitVec.toNat_ofNat, pow_succ' 256 n, Nat.mod_mul]

@[simp] theorem length_wordBytes (w : Word) : (wordBytes w).length = 4 := rfl

theorem leNat_wordBytes (w : Word) : leNat (wordBytes w) = w.toNat := by
  have hw := w.isLt
  simp only [wordBytes, byteOf, leNat, BitVec.toNat_setWidth, BitVec.toNat_ushiftRight, Nat.shiftRight_eq_div_pow]
  omega

theorem leNat_lt (bs : List Byte) : leNat bs < 256 ^ bs.length := by
  induction bs with
  | nil => exact Nat.one_pos
  | cons b bs ih =>
    have hb := b.isLt
    rw [leNat, List.length_cons, Nat.pow_succ']
    omega

theorem leAt_lt (bs : List Byte) (i n : Nat) : leAt bs i n < 256 ^ n :=
  (leNat_lt _).trans_le (Nat.pow_le_pow_right (by decide) (List.length_take_le _ _))

/-- What stands between the bytes before it and those after it. -/
theorem leAt_append_mid {a b c : List Byte} {i n : Nat} (ha : a.length = i) (hb : b.length = n) :
    leAt (a ++ b ++ c) i n = leNat b := by
  subst ha hb
  simp [leAt, List.append_assoc]

/-- What stands at the end. -/
theorem leAt_append_last {a b : List Byte} {i n : Nat} (ha : a.length = i) (hb : b.length = n) :
    leAt (a ++ b) i n = leNat b := by
  simpa using leAt_append_mid (c := []) ha hb

/-- What stands wholly among the first bytes. -/
theorem leAt_append_left {a b : List Byte} {i n : Nat} (h : i + n ≤ a.length) : leAt (a ++ b) i n = leAt a i n := by
  rw [leAt, leAt, List.drop_append_of_le_length (by omega), List.take_append_of_le_length (by simp; omega)]

theorem leAt_take {a : List Byte} {i n k : Nat} (h : i + n ≤ k) : leAt (a.take k) i n = leAt a i n := by
  rw [leAt, leAt, List.drop_take, List.take_take, min_eq_left (by omega)]

end Sys2Proof.Machine


/-! The two ports of the ring, and what a change of one of them leaves. -/

namespace Sys2Proof.Machine

open Sys2Proof.Safety

section

variable (s : State) (p : Port) (f : RingPort → RingPort)

@[simp] theorem RingSt.port_updPort_same (r : RingSt) : (r.updPort p f).port p = f (r.port p) := by cases p <;> rfl

@[simp] theorem RingSt.port_updPort_otherPort (r : RingSt) :
    (r.updPort p f).port (otherPort p) = r.port (otherPort p) := by cases p <;> rfl

theorem RingSt.port_updPort_other (r : RingSt) {q : Port} (h : q ≠ p) : (r.updPort p f).port q = r.port q := by
  cases p
  · cases q
    · exact absurd rfl h
    · rfl
  · cases q
    · rfl
    · exact absurd rfl h

theorem RingSt.port_updPort_both (r : RingSt) (q : Port) :
    ((r.updPort .W f).updPort .E f).port q = f (r.port q) := by cases q <;> rfl

@[simp] theorem State.port_updPort_same : (s.updPort p f).ring.port p = f (s.ring.port p) :=
  RingSt.port_updPort_same p f s.ring

@[simp] theorem State.port_updPort_otherPort :
    (s.updPort p f).ring.port (otherPort p) = s.ring.port (otherPort p) := RingSt.port_updPort_otherPort p f s.ring

theorem State.port_updPort_other {q : Port} (h : q ≠ p) : (s.updPort p f).ring.port q = s.ring.port q :=
  RingSt.port_updPort_other p f s.ring h

/-- A state that differs from another beside one port in neither the lanes nor the mode, the outputs or the other
port. -/
def State.Beside (s : State) (p : Port) (t : State) : Prop :=
  t.lanes = s.lanes ∧ t.md = s.md ∧ t.stage = s.stage ∧ t.ring.port (otherPort p) = s.ring.port (otherPort p)

theorem State.beside_updPort : s.Beside p (s.updPort p f) := ⟨rfl, rfl, rfl, s.port_updPort_otherPort p f⟩

theorem State.Beside.updPort {s t : State} {p : Port} (h : s.Beside p t) (f : RingPort → RingPort) :
    s.Beside p (t.updPort p f) := by
  obtain ⟨hlanes, hmd, hstage, hport⟩ := h
  exact ⟨hlanes, hmd, hstage, (t.port_updPort_otherPort p f).trans hport⟩

theorem State.Beside.recRing {s t : State} {p : Port} (h : s.Beside p t) (name : RecName) (ps : List Word) :
    s.Beside p (t.recRing name ps) := by
  unfold State.Beside
  rwa [State.recRing_lanes, State.recRing_md, State.recRing_stage, State.recRing_ring]

end

end Sys2Proof.Machine


/-! Probes of a link, faults and the restoration of a loop (R285 to R287, R302, R303). -/

namespace Sys2Proof.Machine

open Sys2Proof.Safety

/-! The bytes of a probe (R285). -/

/-- The bytes of a probe before its CRC (R285). -/
def probeHead (flags node : Nat) (seq : Byte) (turn restore : Nat) : List Byte :=
  natLe 1 flags ++ natLe 2 node ++ [seq] ++ natLe 2 turn ++ natLe 2 restore ++ [0]

/-- Bytes followed by their CRC-16 (R285). -/
def withCrc16 (b : List Byte) : List Byte := b ++ natLe 2 (crc16 b).toNat

theorem length_probeHead (flags node : Nat) (seq : Byte) (turn restore : Nat) :
    (probeHead flags node seq turn restore).length = 9 := by simp [probeHead]

/-- Nine bytes with their CRC are a valid probe where they show its kind (R285). -/
theorem probeOk_withCrc16 {b : List Byte} (hlen : b.length = 9) (hkind : leAt b 0 1 % 16 = 1 ∨ leAt b 0 1 % 16 = 2) :
    probeOk (withCrc16 b) = true := by
  have hcrc := (crc16 b).isLt
  have hfirst : leAt (withCrc16 b) 0 1 = leAt b 0 1 := leAt_append_left (by omega)
  have hlast : leAt (withCrc16 b) 9 2 = (crc16 b).toNat := by
    rw [withCrc16, leAt_append_last hlen (length_natLe 2 _), leNat_natLe, Nat.mod_eq_of_lt (by omega)]
  have htake : (withCrc16 b).take 9 = b := by rw [withCrc16, ← hlen, List.take_left]
  rw [probeOk, hfirst, hlast, htake]
  simpa [withCrc16, hlen] using hkind

section

variable (s : State) (p : Port) {kind : Nat} (seq : Byte) {turn : Nat}

/-- A probe of a port is a head with its CRC: its first byte holds the kind (R285). -/
theorem State.probeBytes_eq (hkind : kind < 16) (turn : Nat) : ∃ flags restore, flags < 256 ∧ flags % 16 = kind ∧
    s.probeBytes p kind seq turn = withCrc16 (probeHead flags s.node seq turn restore) := by
  refine ⟨_, _, ?_, ?_, rfl⟩
  · split_ifs <;> omega
  · split_ifs <;> omega

/-- What a probe of a port shows (R285). -/
theorem State.probeBytes_shows (hkind : kind = 1 ∨ kind = 2) (hturn : turn < 65536) :
    let b := s.probeBytes p kind seq turn
    probeOk b = true ∧ leAt b 0 1 % 16 = kind ∧ leAt b 1 2 = s.node ∧ leAt b 3 1 = seq.toNat ∧ leAt b 4 2 = turn := by
  intro b
  obtain ⟨flags, restore, hlt, hmod, hb⟩ := s.probeBytes_eq p seq (show kind < 16 by omega) turn
  have hnode : s.node < 1024 := Nat.mod_lt _ (by decide)
  have hlen := length_probeHead flags s.node seq turn restore
  have hshow {i n : Nat} (hi : i + n ≤ 9) : leAt b i n = leAt (probeHead flags s.node seq turn restore) i n := by
    rw [show b = _ from hb]
    exact leAt_append_left (by omega)
  have hflags : leAt (probeHead flags s.node seq turn restore) 0 1 = flags := by
    simp [leAt, probeHead, natLe, leNat, hlt]
  have hnodeAt : leAt (probeHead flags s.node seq turn restore) 1 2 = s.node := by
    simp [leAt, probeHead, natLe, leNat]
    omega
  have hturnAt : leAt (probeHead flags s.node seq turn restore) 4 2 = turn := by
    simp [leAt, probeHead, natLe, leNat]
    omega
  refine ⟨?_, ?_, ?_, ?_, ?_⟩
  · rw [show b = _ from hb]
    exact probeOk_withCrc16 hlen (by rw [hflags, hmod]; exact hkind)
  · rw [hshow (by omega), hflags, hmod]
  · rw [hshow (by omega), hnodeAt]
  · rw [hshow (by omega)]
    simp [leAt, probeHead, natLe, leNat]
  · rw [hshow (by omega), hturnAt]

end

/-! Requests and what answers them (R285, R286). -/

/-- With no injection a request is answered by a reply with its number and a turn within 20 us (R286). -/
theorem State.probeReply_quiet {s : State} (hq : Quiet s) (p : Port) (seq : Byte) : ∃ turn, turn ≤ 20000 ∧
    s.probeReply p seq =
      { s.updPort p (fun k => { k with outProbe := s.probeBytes p 2 seq turn }) with freeCtr := s.freeCtr + 1 } := by
  obtain ⟨hc, hlasting⟩ := hq
  refine ⟨(Config.freeWord s.freeCtr).toNat % 20001, by omega, ?_⟩
  simp only [State.probeReply, State.fireLasting_calm hc, ite_self, State.lasting_none hlasting]

/-- A node with network time agrees on no restoration of a port that is not looped (R303). -/
theorem State.propose_unlooped {s : State} {p : Port} (hacq : s.ring.acquired = true)
    (hloop : (s.ring.port p).looped = false) : s.propose p = s := by
  simp [State.propose, hacq, hloop]

/-- A state without what its ports have agreed on restorations. -/
def State.unproposed (s : State) : State :=
  s.updRing fun r => { r with
    w := { r.w with restore := none, echoed := false }, e := { r.e with restore := none, echoed := false } }

/-- A proposal of a restore cycle changes nothing but the agreement (R303). -/
theorem State.propose_unproposed (s : State) (p : Port) : (s.propose p).unproposed = s.unproposed := by
  have hport (v : Option Nat) (b : Bool) :
      (s.updPort p fun k => { k with restore := v, echoed := b }).unproposed = s.unproposed := by cases p <;> rfl
  have hecho : (s.updPort p fun k => { k with echoed := true }).unproposed = s.unproposed := by cases p <;> rfl
  unfold State.propose
  dsimp only
  split
  · split <;> rfl
  · split
    · rfl
    · split
      · split
        · exact hecho
        · rfl
      · split_ifs
        · exact hport _ _
        · exact hport _ _
        · exact hport _ _
        · exact hport _ _
        · rfl

/-- The stability of a link and its loop are no part of an agreement (R303). -/
theorem State.propose_keeps (s : State) (p : Port) : (s.propose p).lanes = s.lanes ∧ (s.propose p).md = s.md ∧
    (s.propose p).guard = s.guard ∧ ((s.propose p).ring.port p).ready = (s.ring.port p).ready ∧
    ((s.propose p).ring.port p).looped = (s.ring.port p).looped := by
  have hsame := s.propose_unproposed p
  generalize s.propose p = t at hsame ⊢
  refine ⟨(congrArg State.lanes hsame :), (congrArg State.md hsame :), (congrArg State.guard hsame :), ?_, ?_⟩
  · cases p
    · exact (congrArg (fun t : State => t.ring.w.ready) hsame :)
    · exact (congrArg (fun t : State => t.ring.e.ready) hsame :)
  · cases p
    · exact (congrArg (fun t : State => t.ring.w.looped) hsame :)
    · exact (congrArg (fun t : State => t.ring.e.looped) hsame :)

/-- A valid probe at a port that lives and has its signal (R285). -/
theorem exec_probeArrival {s : State} {p : Port} {bytes : List Byte} (halive : s.ring.alive = true)
    (hsignal : (s.ring.port p).signal = true) (hok : probeOk bytes = true) (rt : Nat) :
    exec (.probeArrival p bytes rt) s = .next (
      let t := s.updPort p (fun k => k.neighbour bytes s.ring.acquired)
      let seq : Byte := BitVec.ofNat 8 (leAt bytes 3 1)
      let turn := leAt bytes 4 2
      (if leAt bytes 0 1 % 16 = 1 then t.probeReply p seq
        else if (t.ring.port p).waiting = some seq && turn ≤ rt then t.updPort p (fun k => k.measure (rt - turn))
        else t).propose p) :=
  congrArg Host.Outcome.next (if_neg (by simp [halive, hsignal, hok]))

section

variable {s : State} {p : Port} {bytes : List Byte} (halive : s.ring.alive = true)
  (hsignal : (s.ring.port p).signal = true) (hok : probeOk bytes = true) (hacq : s.ring.acquired = true)
  (hloop : (s.ring.port p).looped = false)

include halive hsignal hok hacq hloop

/-- A valid request at a port that is not looped is answered (R286). -/
theorem exec_probeArrival_request (hkind : leAt bytes 0 1 % 16 = 1) (hq : Quiet s) (rt : Nat) :
    let u := s.updPort p (fun k => k.neighbour bytes s.ring.acquired)
    ∃ turn, turn ≤ 20000 ∧ exec (.probeArrival p bytes rt) s = .next { u.updPort p (fun k => { k with
      outProbe := u.probeBytes p 2 (BitVec.ofNat 8 (leAt bytes 3 1)) turn }) with freeCtr := s.freeCtr + 1 } := by
  intro u
  have hport : u.ring.port p = (s.ring.port p).neighbour bytes s.ring.acquired := s.port_updPort_same _ _
  have hacqu : u.ring.acquired = true := by cases p <;> exact hacq
  obtain ⟨turn, hturn, hreply⟩ := State.probeReply_quiet (s := u) hq p (BitVec.ofNat 8 (leAt bytes 3 1))
  refine ⟨turn, hturn, (exec_probeArrival halive hsignal hok rt).trans (congrArg Host.Outcome.next ?_)⟩
  dsimp only
  rw [if_pos hkind, hreply]
  refine State.propose_unlooped ?_ ?_
  · cases p <;> exact hacqu
  · exact (congrArg RingPort.looped (u.port_updPort_same p _)).trans ((congrArg RingPort.looped hport).trans hloop)

/-- A valid reply, at a port that is not looped, to the request that waits is a measurement (R286). -/
theorem exec_probeArrival_reply (hkind : leAt bytes 0 1 % 16 = 2) {seq : Byte}
    (hseq : (s.ring.port p).waiting = some seq) (hnum : leAt bytes 3 1 = seq.toNat) {rt : Nat}
    (hturn : leAt bytes 4 2 ≤ rt) :
    exec (.probeArrival p bytes rt) s = .next ((s.updPort p (fun k => k.neighbour bytes s.ring.acquired)).updPort p
      fun k => k.measure (rt - leAt bytes 4 2)) := by
  let u := s.updPort p (fun k => k.neighbour bytes s.ring.acquired)
  have hport : u.ring.port p = (s.ring.port p).neighbour bytes s.ring.acquired := s.port_updPort_same _ _
  have hwaits : ((u.ring.port p).waiting = some (BitVec.ofNat 8 (leAt bytes 3 1)) && leAt bytes 4 2 ≤ rt) = true := by
    have hwaiting : (u.ring.port p).waiting = some seq := (congrArg RingPort.waiting hport).trans hseq
    rw [hwaiting, hnum, BitVec.ofNat_toNat, BitVec.setWidth_eq]
    simpa using hturn
  refine (exec_probeArrival halive hsignal hok rt).trans (congrArg Host.Outcome.next ?_)
  dsimp only
  rw [if_neg (by omega), if_pos hwaits]
  refine State.propose_unlooped ?_ ?_
  · cases p <;> exact hacq
  · exact (congrArg RingPort.looped (u.port_updPort_same p _)).trans ((congrArg RingPort.looped hport).trans hloop)

end

theorem RingPort.neighbour_due (k : RingPort) (b : List Byte) (hloop : k.looped = false) :
    (k.neighbour b true).due.getLsbD 6 = (k.due.getLsbD 6 || (leAt b 0 1).testBit 6) := by
  simp only [RingPort.neighbour, hloop, Bool.not_false, Bool.and_true]
  split
  · next h => simp [h]
  · next h => simp [h]

theorem RingPort.measure_neighbour_drift (k : RingPort) (b : List Byte) (acquired : Bool) (m : Nat) :
    ((k.neighbour b acquired).measure m).drift =
      if (k.valid && decide (2 * (k.delay.toNat + 50) < m ∨ m + 100 < 2 * k.delay.toNat)) = true then k.drift + 1
      else 0 := by
  have hfar : (100 < max m (2 * k.delay.toNat) - min m (2 * k.delay.toNat)) ↔
      (2 * (k.delay.toNat + 50) < m ∨ m + 100 < 2 * k.delay.toNat) := by omega
  simp [RingPort.measure, RingPort.neighbour, hfar]

theorem RingPort.measure_neighbour_due (k : RingPort) (b : List Byte) (acquired : Bool) (m : Nat) :
    ((k.neighbour b acquired).measure m).due.getLsbD 5 = (k.due.getLsbD 5 ||
      ((k.valid && decide (2 * (k.delay.toNat + 50) < m ∨ m + 100 < 2 * k.delay.toNat)) && decide (15 ≤ k.drift))) := by
  have hdrift := k.measure_neighbour_drift b acquired m
  have hneighbour : (k.neighbour b acquired).due.getLsbD 5 = k.due.getLsbD 5 := by
    simp only [RingPort.neighbour]
    split
    · simp
    · rfl
  have hdue : ((k.neighbour b acquired).measure m).due.getLsbD 5 = ((k.neighbour b acquired).due.getLsbD 5 ||
      decide (16 ≤ ((k.neighbour b acquired).measure m).drift)) := by
    simp only [RingPort.measure]
    split_ifs <;> simp_all
  rw [hdue, hneighbour, hdrift]
  generalize (k.valid && decide (2 * (k.delay.toNat + 50) < m ∨ m + 100 < 2 * k.delay.toNat)) = far
  cases far
  · simp
  · simp

/-- A port that has sent a request, `missed` of them in a row without a valid reply (R286, R287). -/
def RingPort.request (k : RingPort) (now missed : Nat) (b : List Byte) : RingPort :=
  let k := if 0 < missed && k.looped then k.unstable (if k.signal then some now else none)
    else if 0 < missed then { k with count := 0, sum := 0 } else k
  { k with
    missed := min missed 4, seq := k.seq + 1, waiting := some (k.seq + 1), outProbe := b
    due := if 4 ≤ missed then k.due ||| 4 else k.due }

theorem RingPort.request_shows (k : RingPort) (now missed : Nat) (b : List Byte) :
    let y := k.request now missed b
    y.seq = k.seq + 1 ∧ y.waiting = some (k.seq + 1) ∧ y.missed = min missed 4 ∧ y.outProbe = b ∧
      (missed = 0 → y.count = k.count ∧ y.due = k.due) ∧ (4 ≤ missed → y.due.getLsbD 2 = true) := by
  intro y
  by_cases hmissed : 0 < missed
  · have hseq : y.seq = k.seq + 1 ∧ y.waiting = some (k.seq + 1) := by
      simp only [y, RingPort.request, hmissed, decide_true, Bool.true_and, if_true]
      split <;> exact ⟨rfl, rfl⟩
    refine ⟨hseq.1, hseq.2, rfl, rfl, fun h => absurd h hmissed.ne', fun h => ?_⟩
    simp [y, RingPort.request, h]
  · have hnone : missed = 0 := by omega
    subst hnone
    exact ⟨rfl, rfl, rfl, rfl, fun _ => ⟨rfl, rfl⟩, fun h => absurd h (by decide)⟩

/-- The requests without a valid reply, with the one that still waits (R287). -/
def RingPort.unanswered (k : RingPort) : Nat := if k.waiting.isSome then k.missed + 1 else k.missed

theorem exec_probeRequest {s : State} {p : Port} (halive : s.ring.alive = true) (hwaits : s.probeWaits p = false) :
    exec (.probeRequest p) s = .next (s.updPort p fun k => k.request s.guard.optime (s.ring.port p).unanswered
      (s.probeBytes p 1 ((s.ring.port p).seq + 1) 0)) := by
  have hrun : exec (.probeRequest p) s = .next (s.updPort p _) :=
    congrArg Host.Outcome.next (if_neg (by simp [halive, hwaits]))
  rw [hrun]
  cases p <;> rfl

/-! A fault loops its port (R287, R302), and its loop is undone (R303). -/

/-- A port looped for a cause, in a node that has network time (R302). -/
def RingPort.faulted (k : RingPort) (cause : BitVec 3) (now : Nat) (acquired : Bool) : RingPort :=
  { k.unstable (if k.signal then some now else none) with
    fault := true, cause := cause, looped := acquired, due := 0, missed := 0, drift := 0, silent := 0 }

theorem exec_linkFault {s : State} {p : Port} {cause : BitVec 3} (halive : s.ring.alive = true)
    (hlow : 1 ≤ cause.toNat) (hhigh : cause.toNat ≤ 6) (hdue : (s.ring.port p).due.getLsbD cause.toNat = true)
    (hfault : (s.ring.port p).fault = false) (hacq : s.ring.acquired = true) :
    exec (.linkFault p cause) s = .next ((s.updPort p fun k => k.faulted cause s.guard.optime s.ring.acquired).recRing
      .ringHeal [place (portBit p) 0, place cause.toNat 0]) := by
  refine congrArg Host.Outcome.next (if_pos ?_)
  simp [halive, hlow, hhigh, hdue, hfault, hacq]

/-- The restore cycle that stands is that of the port whose other end has agreed (R303). -/
theorem RingSt.restore_of_echoed {r : RingSt} {p : Port} (hecho : (r.port p).echoed = true)
    (hother : (r.port (otherPort p)).echoed = false) :
    (if r.w.echoed then r.w.restore else if r.e.echoed then r.e.restore else none) = (r.port p).restore := by
  cases p
  · exact if_pos hecho
  · exact (if_neg (by simpa [RingSt.port, otherPort] using hother)).trans (if_pos hecho)

theorem RingPort.restored_of_agreed {k : RingPort} {v : Nat} (hecho : k.echoed = true) (hv : k.restore = some v) :
    k.restored v = { k.unstable none with looped := false, fault := false, cause := 0, due := 0 } :=
  if_pos (by simp [hecho, hv])

theorem RingPort.restored_of_not_echoed {k : RingPort} (hecho : k.echoed = false) (v : Nat) : k.restored v = k :=
  if_neg (by simp [hecho])

/-- Both ports undo their loops at an instant, each where its other end has agreed (R303). -/
def State.restoreAt (s : State) (v : Nat) : State :=
  (s.advanceTo (ncOf s.ring.cycleNo v * s.ring.tn10)).updRing fun r =>
    (r.updPort .W (·.restored v)).updPort .E (·.restored v)

theorem exec_restoreCycle {s : State} {p : Port} {v : Nat} (hv : (s.ring.port p).restore = some v)
    (hecho : (s.ring.port p).echoed = true) (hacq : s.ring.acquired = true)
    (hother : (s.ring.port (otherPort p)).echoed = false) : exec .restoreCycle s = .next (s.restoreAt v) := by
  have hrestore := (RingSt.restore_of_echoed hecho hother).trans hv
  have hrun : exec .restoreCycle s = execRestoreCycle s := rfl
  rw [hrun, execRestoreCycle]
  dsimp only
  rw [hrestore]
  exact congrArg Host.Outcome.next (if_pos hacq)

theorem State.port_restoreAt (s : State) (v : Nat) (q : Port) :
    (s.restoreAt v).ring.port q = (s.ring.port q).restored v := RingSt.port_updPort_both (·.restored v) s.ring q

theorem exec_linkStable {s : State} {p : Port} {at0 : Nat} (hstable : (s.ring.port p).stableFrom = some at0)
    (hloop : (s.ring.port p).looped = true) (hsignal : (s.ring.port p).signal = true)
    (hfresh : (s.ring.port p).fresh = true) (hready : (s.ring.port p).ready = false) :
    exec (.linkStable p) s = .next (((s.passTime (at0 + 1000000000 - s.guard.optime)).updPort p fun k =>
      { k with ready := true }).propose p) := by
  have hrun : exec (.linkStable p) s = execLinkStable p s := rfl
  rw [hrun, execLinkStable]
  dsimp only
  rw [hstable]
  exact congrArg Host.Outcome.next (if_pos (by simp [hloop, hsignal, hfresh, hready]))

theorem exec_restoreLapse {s : State} {p : Port} {v : Nat} (hv : (s.ring.port p).restore = some v)
    (hecho : (s.ring.port p).echoed = false) (hacq : s.ring.acquired = true) :
    let u := s.advanceTo ((ncOf s.ring.cycleNo v - 2) * s.ring.tn10)
    exec (.restoreLapse p) s = .next (u.updPort p fun k => k.unstable (some u.guard.optime)) := by
  have hrun : exec (.restoreLapse p) s = execRestoreLapse p s := rfl
  rw [hrun, execRestoreLapse]
  dsimp only
  rw [hv]
  exact congrArg Host.Outcome.next (if_neg (by simp [hecho, hacq]))

theorem exec_linkDelayMeasured {s : State} {p : Port} (hcount : 64 ≤ (s.ring.port p).count)
    (hfresh : (s.ring.port p).fresh = false) (hmay : (s.ring.port p).looped = true ∨ s.md.mode = .joining) :
    exec (.linkDelayMeasured p) s = .next (s.updPort p fun k => { k with
      delay := BitVec.ofNat 24 (((s.ring.port p).sum + 64) / 128), valid := true, fresh := true, count := 0, sum := 0
      drift := 0 }) := by
  have hrun : exec (.linkDelayMeasured p) s = .next (s.updPort p _) :=
    congrArg Host.Outcome.next (if_pos (by simpa [hcount, hfresh] using hmay))
  rw [hrun]
  cases p <;> rfl

theorem exec_linkSynchronised {s : State} {p : Port} (hsignal : (s.ring.port p).signal = false)
    (hloop : (s.ring.port p).looped = true) :
    exec (.linkSynchronised p) s = .next (s.updPort p fun k => { k.unstable (some s.guard.optime) with
      signal := true, due := k.due &&& ~~~2, missed := 0, waiting := none }) := by
  have hrun : exec (.linkSynchronised p) s = .next (s.updPort p _) :=
    congrArg Host.Outcome.next (if_neg (by simp [hsignal]))
  rw [hrun]
  cases p <;> simp_all [State.updPort, State.updRing, RingSt.updPort, RingSt.port, RingPort.unstable]

/-- Settles O45: each command as the change of its port (`RingPort.request`, `RingPort.measure`, `RingPort.faulted`,
`RingPort.restored`), which leaves the other port, the lanes and the mode (`State.beside_updPort`). -/
theorem ringLinks : Obligations.RingLinks := by
  unfold Obligations.RingLinks
  intro s p k calm
  refine ⟨fun hwaits => ?_, fun halive hwaits => ?_,
    fun bytes rt halive hsignal hok hacq hloop => ⟨fun hkind hq => ?_, fun hkind seq hseq hnum hturn hcount => ?_⟩,
    fun bytes rt hbad => ?_, fun hcount hfresh hmay => ?_, ?_,
    fun cause halive hlow hhigh hdue hfault => ⟨fun hacq => ?_, fun hacq hcause => ?_⟩,
    fun hsignal hloop => ?_, fun at0 hstable hloop hsignal hfresh hready => ?_, fun v hv hecho hacq hother => ?_,
    fun v hv hecho hacq => ?_⟩
  · exact congrArg Host.Outcome.next (if_pos (by simp [hwaits]))
  · obtain ⟨hok, hkind, hnode, hnum, -⟩ := s.probeBytes_shows p (k.seq + 1) (.inl rfl) (show 0 < 65536 by decide)
    obtain ⟨hseq, hwaiting, hmissed, hout, hfirst, hfourth⟩ :=
      k.request_shows s.guard.optime k.unanswered (s.probeBytes p 1 (k.seq + 1) 0)
    refine ⟨_, exec_probeRequest halive hwaits, s.beside_updPort _ _, ?_⟩
    rw [State.port_updPort_same]
    dsimp only
    rw [hout]
    exact ⟨hseq, hwaiting, hmissed, hok, hkind, hnode, hnum, hfirst, hfourth⟩
  · obtain ⟨turn, hturn, hexec⟩ := exec_probeArrival_request halive hsignal hok hacq hloop hkind hq rt
    obtain ⟨hok', hkind', -, hnum', hturn'⟩ :=
      (s.updPort p fun k => k.neighbour bytes s.ring.acquired).probeBytes_shows p (BitVec.ofNat 8 (leAt bytes 3 1))
        (.inr rfl) (show turn < 65536 by omega)
    refine ⟨_, hexec, (s.beside_updPort p _).updPort _, ?_⟩
    simp only [State.port_updPort_same]
    refine ⟨hok', hkind', ?_, hturn'.trans_le hturn, rfl, rfl, rfl, rfl, ?_, rfl, rfl⟩
    · exact hnum'.trans (Nat.mod_eq_of_lt (leAt_lt bytes 3 1))
    · rw [hacq]
      exact RingPort.neighbour_due _ _ hloop
  · refine ⟨_, exec_probeArrival_reply halive hsignal hok hacq hloop hkind hseq hnum hturn,
      (s.beside_updPort p _).updPort _, ?_⟩
    simp only [State.port_updPort_same]
    exact ⟨rfl, rfl, Nat.min_eq_right (Nat.succ_le_of_lt hcount), if_pos hcount,
      RingPort.measure_neighbour_drift _ _ _ _, RingPort.measure_neighbour_due _ _ _ _⟩
  · exact congrArg Host.Outcome.next (if_pos (by simp [hbad]))
  · refine ⟨_, exec_linkDelayMeasured hcount hfresh hmay, s.beside_updPort _ _, ?_⟩
    rw [State.port_updPort_same]
    exact ⟨rfl, rfl, rfl, rfl⟩
  · refine ⟨_, rfl, s.beside_updPort _ _, ?_⟩
    rw [State.port_updPort_same]
    exact ⟨rfl, rfl, rfl, rfl⟩
  · refine ⟨_, exec_linkFault halive hlow hhigh hdue hfault hacq,
      (s.beside_updPort p _).recRing _ _, ?_⟩
    rw [State.recRing_ring, State.port_updPort_same]
    exact ⟨hacq, rfl, rfl, rfl⟩
  · refine congrArg Host.Outcome.next (if_neg ?_)
    rcases hcause with rfl | rfl | rfl <;> simp [hacq]
  · refine ⟨_, exec_linkSynchronised hsignal hloop, s.beside_updPort _ _, ?_⟩
    rw [State.port_updPort_same]
    exact ⟨rfl, rfl, hloop⟩
  · obtain ⟨hlanes, hmd, hguard, hready', hloop'⟩ :=
      ((s.passTime (at0 + 1000000000 - s.guard.optime)).updPort p fun k => { k with ready := true }).propose_keeps p
    rw [State.port_updPort_same] at hready' hloop'
    refine ⟨_, exec_linkStable hstable hloop hsignal hfresh hready, ?_, hlanes, hmd, hready', hloop'.trans hloop⟩
    have htime : s.guard.optime + (at0 + 1000000000 - s.guard.optime) = max s.guard.optime (at0 + 1000000000) := by
      omega
    exact (congrArg Guard.optime hguard).trans htime
  · have hport := s.port_restoreAt v p
    rw [RingPort.restored_of_agreed hecho hv] at hport
    refine ⟨_, exec_restoreCycle hv hecho hacq hother, ⟨rfl, rfl, rfl, ?_⟩, ?_⟩
    · rw [State.port_restoreAt, RingPort.restored_of_not_echoed hother]
    · rw [hport]
      exact ⟨rfl, rfl, rfl, rfl⟩
  · refine ⟨_, exec_restoreLapse hv hecho hacq, State.beside_updPort _ _ _, ?_⟩
    rw [State.port_updPort_same]
    exact ⟨rfl, rfl, rfl, rfl⟩

end Sys2Proof.Machine


/-! The bytes of a frame that is forwarded (R273). -/

namespace Sys2Proof.Machine

section

variable {b : List Byte} (hlen : 28 ≤ b.length) (delay : Nat) (good : Bool)

/-- A frame with another DELAY, up to its ring CRC (R273). -/
def redelayHead (b : List Byte) (delay : Nat) : List Byte :=
  b.take 0x14 ++ natLe 4 (delay % 2 ^ 32) ++ (b.take (b.length - 4)).drop 0x18

theorem redelay_eq (b : List Byte) : redelay b delay good = redelayHead b delay ++
    wordBytes (if good then ringCrc (redelayHead b delay) else ~~~ ringCrc (redelayHead b delay)) := rfl

include hlen

theorem length_redelayHead : (redelayHead b delay).length = b.length - 4 := by
  simp [redelayHead]
  omega

theorem length_redelay : (redelay b delay good).length = b.length := by
  rw [redelay_eq, List.length_append, length_redelayHead hlen, length_wordBytes]
  omega

theorem take_redelay : (redelay b delay good).take (b.length - 4) = redelayHead b delay := by
  rw [redelay_eq, ← length_redelayHead hlen delay, List.take_left]

/-- The bytes before DELAY, and those from it to the ring CRC, are the incoming ones. -/
theorem getElem?_redelay {i : Nat} (hi : i < b.length - 4) (hout : i < 0x14 ∨ 0x18 ≤ i) :
    (redelay b delay good)[i]? = b[i]? := by
  have hfirst : (b.take 0x14).length = 0x14 := List.length_take_of_le (by omega)
  have hmid : (b.take 0x14 ++ natLe 4 (delay % 2 ^ 32)).length = 0x18 := by
    rw [List.length_append, hfirst, length_natLe]
  rw [redelay_eq, List.getElem?_append_left (by rwa [length_redelayHead hlen]), redelayHead]
  rcases hout with hi' | hi'
  · rw [List.getElem?_append_left (by omega), List.getElem?_append_left (by omega), List.getElem?_take_of_lt hi']
  · rw [List.getElem?_append_right (by omega), List.getElem?_drop, List.getElem?_take_of_lt (by omega), hmid]
    congr 1
    omega

theorem leAt_redelay_delay : leAt (redelay b delay good) 0x14 4 = delay % 2 ^ 32 := by
  have hfirst : (b.take 0x14).length = 0x14 := List.length_take_of_le (by omega)
  rw [redelay_eq, redelayHead, List.append_assoc, leAt_append_mid hfirst (length_natLe 4 _), leNat_natLe]
  exact Nat.mod_mod _ _

theorem leAt_redelay_crc : BitVec.ofNat 32 (leAt (redelay b delay good) (b.length - 4) 4) =
    if good then ringCrc ((redelay b delay good).take (b.length - 4))
    else ~~~ ringCrc ((redelay b delay good).take (b.length - 4)) := by
  rw [take_redelay hlen, redelay_eq, leAt_append_last (length_redelayHead hlen delay) (length_wordBytes _),
    leNat_wordBytes, BitVec.ofNat_toNat, BitVec.setWidth_eq]

/-- The SOURCE of a frame that is forwarded stays. -/
theorem leAt_redelay_source : leAt (redelay b delay good) 2 2 = leAt b 2 2 := by
  have hfirst : (b.take 0x14).length = 0x14 := List.length_take_of_le (by omega)
  rw [redelay_eq, redelayHead, List.append_assoc, List.append_assoc, leAt_append_left (by omega), leAt_take (by omega)]

end

end Sys2Proof.Machine

/-! An output that carries a frame of another node keeps it through what the node then does with the frame. -/

namespace Sys2Proof.Machine

open Sys2Proof.Safety

/-- A reading of Invar changes the readings alone (R292). -/
theorem State.reading_eq (s : State) (p : Port) (f : Frame) (i ns : Nat) (fwd : Bool) :
    ∃ x y, s.reading p f i ns fwd = s.updRing fun r => { r with readX := x, readY := y } := by
  unfold State.reading
  extract_lets r near
  generalize (if s.ring.armed then fwd else near) = good
  split
  · exact ⟨s.ring.readX, s.ring.readY, rfl⟩
  · split
    · split
      · exact ⟨s.ring.readX, s.ring.readY, rfl⟩
      · exact ⟨s.ring.readX, vset s.ring.readY i (some r), rfl⟩
    · split
      · exact ⟨s.ring.readX, s.ring.readY, rfl⟩
      · exact ⟨vset s.ring.readX i (some r), s.ring.readY, rfl⟩

/-- An output of a ring interface carries a frame that is not of the node's own (R271, R284). -/
def Carries (q : Port) (b : List Byte) (x : RingSt × Seal) : Prop :=
  (x.1.port q).outFrame = b ∧ (leAt b 2 2 % 1024 ≠ x.2.sw1.toNat % 1024 ∨ x.2.sw1.toNat % 1024 = 0)

section

variable {s : State} {q : Port} {b : List Byte} (h : Carries q b s.site)

include h

theorem Carries.updRing {f : RingSt → RingSt} (hport : ((f s.ring).port q).outFrame = (s.ring.port q).outFrame) :
    Carries q b (s.updRing f).site := ⟨hport.trans h.1, h.2⟩

theorem Carries.updPort {f : RingPort → RingPort} (hf : ∀ k, (f k).outFrame = k.outFrame) (p : Port) :
    Carries q b (s.updPort p f).site := by
  refine h.updRing ?_
  by_cases hp : q = p
  · rw [hp, RingSt.port_updPort_same, hf]
  · rw [RingSt.port_updPort_other p f s.ring hp]

theorem Carries.recRing (name : RecName) (ps : List Word) : Carries q b (s.recRing name ps).site := by
  rwa [State.recRing, State.recAs_site]

theorem Carries.sendOut {out : Port} (hne : q ≠ out) (slot : Nat) (body : List Byte) :
    Carries q b (s.sendOut slot out body).site := by
  have hfire : Carries q b s.fire.site := by rwa [State.fire, State.endArming_site]
  have hother (t : State) (ht : Carries q b t.site) (f : RingPort → RingPort) : Carries q b (t.updPort out f).site :=
    ht.updRing (congrArg RingPort.outFrame (RingSt.port_updPort_other out f t.ring hne))
  unfold State.sendOut
  dsimp only
  split
  · exact h
  · refine Carries.updRing (hother _ ?_ _) (by cases q <;> rfl)
    split
    · exact hfire
    · exact h

/-- The end of the own slots leaves an output that carries another node's frame (R350). -/
theorem Carries.endSlot (p : Port) : Carries q b (s.endSlot p).site := by
  unfold State.endSlot
  split
  · exact h
  · next slot start hrun =>
    have hne : q ≠ p := by
      rintro rfl
      obtain ⟨hframe, hsource⟩ := h
      have hnone : s.ownRunning q = none := by
        have hforeign : ¬ (leAt b 2 2 % 1024 = s.node ∧ s.node ≠ 0) := fun ⟨h1, h2⟩ => hsource.elim (fun h => h h1) h2
        have hframe' : (s.ring.port q).outFrame = b := hframe
        simp only [State.ownRunning, hframe']
        rw [if_neg]
        simp only [Bool.and_eq_true, decide_eq_true_eq]
        rintro ⟨⟨⟨hown, -⟩, -⟩, -⟩
        exact hforeign hown
      exact absurd (hnone.symm.trans hrun) (by simp)
    exact Carries.sendOut (h.updPort (by intro; rfl) p) hne slot []

theorem Carries.lanesStop (name : RecName) (ps : List Word) : Carries q b (s.lanesStop name ps).site :=
  State.lanesStop_site (P := Carries q b) (fun _ p ht => ht.endSlot p) h name ps

theorem Carries.coldCollision : Carries q b s.coldCollision.site := by
  have hring (f : RingSt → RingSt) (hf : ∀ r, ((f r).port q).outFrame = (r.port q).outFrame) :
      Carries q b ((s.updRing f).recRing .coldstartCollision).site := (h.updRing (hf _)).recRing _ _
  unfold State.coldCollision
  dsimp only
  split
  · exact (hring _ fun _ => by cases q <;> rfl).recRing _ _
  · exact hring _ fun _ => by cases q <;> rfl

theorem Carries.acquire (nt : Nat) (armedNow : Bool) : Carries q b (s.acquire nt armedNow).site := by
  have hloop (k : RingPort) : k.loopAcquired.outFrame = k.outFrame := by
    unfold RingPort.loopAcquired
    split <;> rfl
  refine ⟨Eq.trans ?_ h.1, h.2⟩
  cases q
  · exact hloop _
  · exact hloop _

theorem Carries.observeTn (f : Frame) (ns : Nat) : Carries q b (s.observeTn f ns).site := by
  have hsync : Carries q b (s.updRing fun r => { r with lastSync := aset f.source (f.nc, ns) r.lastSync }).site :=
    h.updRing (by cases q <;> rfl)
  unfold State.observeTn
  dsimp only
  split
  · split
    · exact hsync.lanesStop _ _
    · exact hsync
  · exact hsync

theorem Carries.reading (p : Port) (f : Frame) (i ns : Nat) (fwd : Bool) :
    Carries q b (s.reading p f i ns fwd).site := by
  obtain ⟨x, y, hreading⟩ := s.reading_eq p f i ns fwd
  rw [hreading]
  exact h.updRing (by cases q <;> rfl)

theorem Carries.syncFrame (p : Port) (f : Frame) (i ns : Nat) (fwd : Bool) :
    Carries q b (s.syncFrame p f i ns fwd).site := by
  unfold State.syncFrame
  extract_lets t
  have ht : Carries q b t.site := by
    simp only [t]
    split
    · exact h.observeTn f ns
    · exact h
  clear_value t
  split
  · exact ht.acquire _ _
  · split
    · exact ht.updRing (by cases q <;> rfl)
    · exact ht.reading p f i ns fwd

theorem Carries.observe (p : Port) (f : Frame) (ns : Nat) (fwd : Bool) : Carries q b (s.observe p f ns fwd).site := by
  unfold State.observe
  split
  · exact h
  · extract_lets t u foreign due v w
    have ht : Carries q b t.site := h.updRing (by cases q <;> rfl)
    clear_value t
    have hu : Carries q b u.site := by
      simp only [u]
      split
      · exact ht.updPort (by intro; rfl) p
      · exact ht
    clear_value u foreign due
    have hv : Carries q b v.site := by
      simp only [v]
      split
      · exact hu.updRing (by cases q <;> rfl)
      · exact hu
    clear_value v
    have hw : Carries q b w.site := by
      simp only [w]
      split
      · exact (hv.updRing (by cases q <;> rfl)).recRing _ _
      · exact hv
    clear_value w
    split
    · exact hw.coldCollision
    · split
      · exact hw.syncFrame p f _ ns fwd
      · exact hw

theorem Carries.deliver (p : Port) (f : Frame) (stamp : Nat) : Carries q b (s.deliver p f stamp).site := by
  have hring (g : RingSt → RingSt) (hg : ∀ r, ((g r).port q).outFrame = (r.port q).outFrame) (k : Lane → Lane) :
      Carries q b ((s.updRing g).mapLanes k).site := h.updRing (hg _)
  unfold State.deliver
  split
  · exact h
  · split
    · exact h.updRing (by cases q <;> rfl)
    · dsimp only
      split
      · exact h
      · exact hring _ (fun _ => by cases q <;> rfl) _

theorem Carries.watch (p : Port) (f : Frame) (len ns : Nat) : Carries q b (s.watch p f len ns).site := by
  unfold State.watch
  split
  · exact h.updPort (by intro; rfl) p
  · exact h

end

end Sys2Proof.Machine


/-! A frame of another node at a port that lives and is not looped: the guardian, the output, and what the node makes of
the frame (R272, R273, R297). -/

namespace Sys2Proof.Machine

open Sys2Proof.Safety

/-- The node when a frame's header has come, a CRC that failed counted (R275, R278). -/
def State.received (s : State) (bytes : List Byte) (ns : Nat) : State :=
  let t := s.advanceTo (ns / 10)
  if (parseFrame bytes).crcOk then t else t.updRing fun r => { r with rxCrc := satInc r.rxCrc }

/-- The node when another node's frame has come at a port, which has seen its SOURCE (R298). -/
def State.sighted (s : State) (p : Port) (bytes : List Byte) (ns : Nat) : State :=
  (s.received bytes ns).updPort p fun k => { k with seen := insertNat (parseFrame bytes).source k.seen }

/-- What a port does with another node's frame: the guardian decides, and the node makes of the frame what it lets pass
(R291, R297). -/
def State.foreignFrame (s : State) (p : Port) (f : Frame) (bytes : List Byte) (ns : Nat) : State :=
  let g := s.guardian p f ns
  let u := if g.2 then (g.1.forward p f bytes ns).watch p f bytes.length ns else g.1
  if s.ring.cold = 2 && u.ring.cold ≠ 2 then u
  else
    let whole := g.2 && !u.overruns p f bytes.length ns
    let v := u.observe p f ns whole
    if whole then v.deliver p f (stampOf ns bytes.length) else v

/-- The node when its port forwards a frame, and watches for the end of its window (R273, R297). -/
def State.passOn (s : State) (p : Port) (f : Frame) (bytes : List Byte) (ns : Nat) : State :=
  (s.forward p f bytes ns).watch p f bytes.length ns

section

variable {s : State} {p : Port} {bytes : List Byte} {ns : Nat}

theorem State.received_keeps : (s.received bytes ns).lanes = s.lanes ∧ (s.received bytes ns).md = s.md ∧
    (s.received bytes ns).sealSt = s.sealSt ∧ (s.received bytes ns).inject = s.inject ∧
    ∃ n : Half, (s.received bytes ns).ring = { s.ring with rxCrc := n } := by
  unfold State.received
  dsimp only
  split
  · exact ⟨rfl, rfl, rfl, rfl, s.ring.rxCrc, rfl⟩
  · exact ⟨rfl, rfl, rfl, rfl, satInc s.ring.rxCrc, rfl⟩

theorem State.sighted_keeps : (s.sighted p bytes ns).lanes = s.lanes ∧ (s.sighted p bytes ns).md = s.md ∧
    (s.sighted p bytes ns).sealSt = s.sealSt ∧ (s.sighted p bytes ns).inject = s.inject ∧
    ∃ (n : Half) (x : List Nat → List Nat), (s.sighted p bytes ns).ring =
      ({ s.ring with rxCrc := n } : RingSt).updPort p fun k => { k with seen := x k.seen } := by
  obtain ⟨hlanes, hmd, hseal, hinject, n, hring⟩ := s.received_keeps (bytes := bytes) (ns := ns)
  refine ⟨hlanes, hmd, hseal, hinject, n, insertNat (parseFrame bytes).source, ?_⟩
  rw [← hring]
  rfl

theorem State.guardianSays_sighted (f : Frame) :
    (s.sighted p bytes ns).guardianSays p f ns = s.guardianSays p f ns := by
  obtain ⟨-, -, -, -, n, x, hring⟩ := s.sighted_keeps (p := p) (bytes := bytes) (ns := ns)
  generalize s.sighted p bytes ns = t at hring
  cases p
  · simp only [State.guardianSays, State.expected, hring]
    rfl
  · simp only [State.guardianSays, State.expected, hring]
    rfl

/-- A frame that arrives (R272, R274, R278). -/
theorem State.frameIn_steps : s.frameIn p bytes ns =
    let u := s.advanceTo (ns / 10)
    let t := s.received bytes ns
    if !u.ring.alive || (u.ring.port p).looped then u
    else if bytes.length < 24 then u.updRing fun r => { r with rxCrc := satInc r.rxCrc }
    else if (parseFrame bytes).source = t.node && t.node ≠ 0 then t.ownFrame p (parseFrame bytes) bytes ns
    else (s.sighted p bytes ns).foreignFrame p (parseFrame bytes) bytes ns := by
  cases p <;> rfl

theorem State.port_lives (halive : s.ring.alive = true) (hloop : (s.ring.port p).looped = false) :
    ¬ (!(s.advanceTo (ns / 10)).ring.alive || ((s.advanceTo (ns / 10)).ring.port p).looped) = true := by
  have hring : (s.advanceTo (ns / 10)).ring = s.ring := rfl
  rw [hring, halive, hloop]
  decide

/-- A frame without a complete header counts as a CRC error (R278). -/
theorem State.frameIn_short (halive : s.ring.alive = true) (hloop : (s.ring.port p).looped = false)
    (hlen : bytes.length < 24) : s.frameIn p bytes ns =
      (s.advanceTo (ns / 10)).updRing fun r => { r with rxCrc := satInc r.rxCrc } :=
  State.frameIn_steps.trans ((if_neg (State.port_lives halive hloop)).trans (if_pos hlen))

/-- A frame with a complete header at a port that lives and is not looped: an own one, or another node's (R272,
R274). -/
theorem State.frameIn_eq (halive : s.ring.alive = true) (hloop : (s.ring.port p).looped = false)
    (hlen : 24 ≤ bytes.length) : s.frameIn p bytes ns =
      if (parseFrame bytes).source = s.node && s.node ≠ 0 then
        (s.received bytes ns).ownFrame p (parseFrame bytes) bytes ns
      else (s.sighted p bytes ns).foreignFrame p (parseFrame bytes) bytes ns := by
  have hnode : (s.received bytes ns).node = s.node :=
    congrArg (fun k : Seal => k.sw1.toNat % 1024) s.received_keeps.2.2.1
  rw [State.frameIn_steps]
  dsimp only
  rw [if_neg (State.port_lives halive hloop), if_neg (not_lt.mpr hlen), hnode]

theorem State.frameIn_own (halive : s.ring.alive = true) (hloop : (s.ring.port p).looped = false)
    (hlen : 24 ≤ bytes.length) (hsource : (parseFrame bytes).source = s.node) (hnode : s.node ≠ 0) :
    s.frameIn p bytes ns = (s.received bytes ns).ownFrame p (parseFrame bytes) bytes ns :=
  (State.frameIn_eq halive hloop hlen).trans (if_pos (by simp [hsource, hnode]))

theorem State.frameIn_foreign (halive : s.ring.alive = true) (hloop : (s.ring.port p).looped = false)
    (hlen : 24 ≤ bytes.length) (hsource : (parseFrame bytes).source ≠ s.node ∨ s.node = 0) :
    s.frameIn p bytes ns = (s.sighted p bytes ns).foreignFrame p (parseFrame bytes) bytes ns := by
  refine (State.frameIn_eq halive hloop hlen).trans (if_neg ?_)
  simp only [Bool.and_eq_true, decide_eq_true_eq, not_and, not_not]
  exact fun h => hsource.resolve_left (not_not.mpr h)

/-! The guardian lets a frame pass. -/

theorem State.guardian_pass {f : Frame} (h : s.ring.armed = false ∨ (Calm s ∧ s.guardianSays p f ns = 0)) :
    s.guardian p f ns = (s, true) := by
  rcases h with h | ⟨hc, h⟩
  · simp [State.guardian, h]
  · simp [State.guardian, State.injected_calm hc, h]

/-- To forward a frame changes the ports alone: it keeps what no change of a port touches. -/
theorem State.passOn_keeps {α : Type} (φ : State → α) (h : ∀ t q g, φ (State.updPort t q g) = φ t) (f : Frame) :
    φ (s.passOn p f bytes ns) = φ s := by
  unfold State.passOn State.watch State.forward
  split
  · exact (h _ _ _).trans (h _ _ _)
  · exact h _ _ _

theorem State.updPort_cold (q : Port) (g : RingPort → RingPort) : (s.updPort q g).ring.cold = s.ring.cold := by
  cases q <;> rfl

/-- The end of a frame's window is no matter of what leaves the port (R297). -/
theorem State.overruns_passOn (f h : Frame) (len ns' : Nat) :
    (s.passOn p f bytes ns).overruns p h len ns' = s.overruns p h len ns' := by
  unfold State.passOn State.watch State.forward
  generalize s.outputOf p = q
  split
  · cases p <;> cases q <;> rfl
  · cases p <;> cases q <;> rfl

/-- What the node makes of a frame that the guardian lets pass (R273, R278, R297). -/
theorem State.foreignFrame_pass {f : Frame} (h : s.ring.armed = false ∨ (Calm s ∧ s.guardianSays p f ns = 0)) :
    s.foreignFrame p f bytes ns =
      let whole := !s.overruns p f bytes.length ns
      let v := (s.passOn p f bytes ns).observe p f ns whole
      if whole then v.deliver p f (stampOf ns bytes.length) else v := by
  have hcold : (s.passOn p f bytes ns).ring.cold = s.ring.cold :=
    State.passOn_keeps (fun t => t.ring.cold) (fun t q g => t.updPort_cold q g) f
  have hover := s.overruns_passOn (p := p) (bytes := bytes) (ns := ns) f f bytes.length ns
  unfold State.passOn at hcold hover ⊢
  rw [State.foreignFrame, State.guardian_pass h]
  dsimp only
  rw [if_pos rfl, hcold, if_neg (by simp), hover]
  rfl

theorem State.overruns_sighted (f : Frame) (len ns' : Nat) :
    (s.sighted p bytes ns).overruns p f len ns' = s.overruns p f len ns' := by
  obtain ⟨-, -, -, -, n, x, hring⟩ := s.sighted_keeps (p := p) (bytes := bytes) (ns := ns)
  generalize s.sighted p bytes ns = t at hring
  simp only [State.overruns, State.windowEnd, State.expected, hring]
  cases p <;> rfl

/-- A frame that a port forwards, by its steps (R273, R278, R297). -/
theorem State.frameIn_forwards (h : Forwards s p bytes ns) : s.frameIn p bytes ns =
    let f := parseFrame bytes
    let whole := !s.overruns p f bytes.length ns
    let v := ((s.sighted p bytes ns).passOn p f bytes ns).observe p f ns whole
    if whole then v.deliver p f (stampOf ns bytes.length) else v := by
  obtain ⟨halive, hloop, hlen, hsource, hguard⟩ := h
  obtain ⟨-, -, -, hinject, n, x, hring⟩ := s.sighted_keeps (p := p) (bytes := bytes) (ns := ns)
  have hpass : (s.sighted p bytes ns).ring.armed = false ∨
      (Calm (s.sighted p bytes ns) ∧ (s.sighted p bytes ns).guardianSays p (parseFrame bytes) ns = 0) := by
    refine hguard.imp (fun harm => ?_) fun ⟨hc, hsays⟩ =>
      ⟨(congrArg InjectSt.armed hinject).trans hc, (s.guardianSays_sighted _).trans hsays⟩
    rw [hring]
    cases p <;> exact harm
  rw [State.frameIn_foreign halive hloop hlen hsource, State.foreignFrame_pass hpass, State.overruns_sighted]

/-- The output by which a frame is forwarded carries it with its new DELAY (R273). -/
theorem State.carries_passOn (hlen : 28 ≤ bytes.length) (f : Frame)
    (hsource : leAt bytes 2 2 % 1024 ≠ s.node ∨ s.node = 0) : Carries (s.outputOf p)
      (redelay bytes (f.delay + (s.ring.port p).linkDelay + s.repeaterDelay p) f.crcOk)
      (s.passOn p f bytes ns).site := by
  refine Carries.watch (s := s.forward p f bytes ns) ⟨?_, ?_⟩ p f bytes.length ns
  · exact congrArg RingPort.outFrame (s.port_updPort_same (s.outputOf p) _)
  · rw [leAt_redelay_source hlen]
    exact hsource

/-- The node after a frame that its port forwards: the way out carries it with its new DELAY, whatever the node makes of
the frame (R273). -/
theorem State.frameIn_carries (h : Forwards s p bytes ns) (hlen : 28 ≤ bytes.length) : Carries (wayOut s p)
    (redelay bytes ((parseFrame bytes).delay + (s.ring.port p).linkDelay + s.repeaterDelay p) (parseFrame bytes).crcOk)
    (s.frameIn p bytes ns).site := by
  obtain ⟨-, -, hseal, -, n, x, hring⟩ := s.sighted_keeps (p := p) (bytes := bytes) (ns := ns)
  obtain ⟨-, -, -, hsource, -⟩ := id h
  rw [State.frameIn_forwards h]
  generalize s.sighted p bytes ns = t at hseal hring ⊢
  have hnode : t.node = s.node := congrArg (fun k : Seal => k.sw1.toNat % 1024) hseal
  have hdelay : t.repeaterDelay p = s.repeaterDelay p := by cases p <;> simp only [State.repeaterDelay, hseal]
  have hport : t.outputOf p = wayOut s p ∧ (t.ring.port p).linkDelay = (s.ring.port p).linkDelay := by
    rw [State.outputOf, hring]
    cases p <;> exact ⟨rfl, rfl⟩
  rw [← hdelay, ← hport.1, ← hport.2]
  have hcarries : Carries (t.outputOf p) _ (t.passOn p (parseFrame bytes) bytes ns).site :=
    State.carries_passOn hlen (parseFrame bytes) (by rw [hnode]; exact hsource)
  dsimp only
  split
  · exact (hcarries.observe p _ ns _).deliver p _ _
  · exact hcarries.observe p _ ns _

end

/-- Settles O41: the way out carries the frame that `redelay` makes of the incoming one (`State.frameIn_carries`), and
keeps it. -/
theorem repeaterChanges : Obligations.RepeaterChanges := by
  unfold Obligations.RepeaterChanges
  intro s p bytes ns h hlen f n
  obtain ⟨hframe, -⟩ := State.frameIn_carries h hlen
  refine ⟨s.frameIn p bytes ns, rfl, ?_⟩
  intro b
  rw [show b = _ from hframe]
  exact ⟨length_redelay hlen _ _, fun i hi hout => getElem?_redelay hlen _ _ hi hout, leAt_redelay_delay hlen _ _,
    leAt_redelay_crc hlen _ _⟩

end Sys2Proof.Machine


/-! What a node shows of the frames at its ports: the outputs, the cuts and the frames received (R306). -/

namespace Sys2Proof.Machine

open Sys2Proof.Safety

/-- What a port shows of frames: its output, whether that was ended early, and its cuts (R270, R306). -/
structure Leg where
  frame : List Byte
  cut : Bool
  cuts : Half

def RingPort.leg (k : RingPort) : Leg := { frame := k.outFrame, cut := k.outCut, cuts := k.cutCount }

/-- What a node shows of frames, beside the lanes and the mode. -/
structure Wire where
  lanes : PerLane Lane
  md : ModuleSt
  w : Leg
  e : Leg
  lastCut : Word
  rxCount : Word

def State.wire (s : State) : Wire :=
  { lanes := s.lanes, md := s.md, w := s.ring.w.leg, e := s.ring.e.leg, lastCut := s.ring.lastCut
    rxCount := s.ring.rxCount }

/-- The part of a port. -/
def Wire.leg (x : Wire) : Port → Leg
  | .W => x.w
  | .E => x.e

theorem State.leg_wire (s : State) (q : Port) : s.wire.leg q = (s.ring.port q).leg := by cases q <;> rfl

theorem State.wire_of_unrecorded {s t : State} (h : t.unrecorded = s.unrecorded) : t.wire = s.wire :=
  (congrArg State.wire h :)

section

variable (s : State)

theorem State.recRing_wire (name : RecName) (ps : List Word) : (s.recRing name ps).wire = s.wire :=
  State.wire_of_unrecorded (s.recAs_unrecorded ..)

theorem State.updPort_wire (p : Port) {f : RingPort → RingPort} (hf : ∀ k, (f k).leg = k.leg) :
    (s.updPort p f).wire = s.wire := by
  cases p
  · exact congrArg (fun k : Leg => { s.wire with w := k }) (hf s.ring.w)
  · exact congrArg (fun k : Leg => { s.wire with e := k }) (hf s.ring.e)

/-! A collision in the cold start phase (R291). -/

/-- The ring after a collision: no network time, nothing sent, the silence wait anew (R291). -/
def RingSt.collide (r : RingSt) (now : Nat) : RingSt :=
  let n := r.collisions + 1
  { r with
    tx := false, acquired := false, armed := false, armNext := false, wholeCycle := false
    cold := if 8 ≤ n then 0 else 3, collisions := n, coldExhausted := 8 ≤ n, quietFrom := now }

theorem State.coldCollision_unrecorded :
    s.coldCollision.unrecorded = (s.updRing fun r => r.collide s.guard.optime).unrecorded := by
  unfold State.coldCollision
  extract_lets n t u
  have hu : u.unrecorded = (s.updRing fun r => r.collide s.guard.optime).unrecorded := t.recAs_unrecorded ..
  clear_value u
  split
  · exact (u.recAs_unrecorded ..).trans hu
  · exact hu

theorem State.coldCollision_ring : s.coldCollision.ring = s.ring.collide s.guard.optime :=
  (congrArg State.ring s.coldCollision_unrecorded :)

theorem State.coldCollision_wire : s.coldCollision.wire = s.wire :=
  (congrArg State.wire s.coldCollision_unrecorded :)

theorem RingSt.collide_cold (r : RingSt) (now : Nat) : (r.collide now).cold ≠ 2 := by
  simp only [RingSt.collide]
  split <;> decide

/-! A cut by the guardian (R297 to R299). -/

/-- A cut is unattributed: its reason is one, or the block entries are full (R298, R299). -/
def RingSt.unattributed (r : RingSt) (p : Port) (source reason : Nat) : Bool :=
  reason = 5 || (32 ≤ r.blocks.length && !r.blocks.contains (source, p == .E))

/-- RING_LAST_CUT after a cut (R306). -/
def RingSt.cutWord (r : RingSt) (p : Port) (source reason : Nat) : Word :=
  let un := r.unattributed p source reason
  place (if un then 0 else source) 0 ||| place (portBit p) 12 ||| place (if un then 5 else reason) 13

/-- A cut counted at a port and shown (R306). -/
def Wire.withCut (x : Wire) (p : Port) (cut : Word) : Wire :=
  match p with
  | .W => { x with lastCut := cut, w := { x.w with cuts := satInc x.w.cuts } }
  | .E => { x with lastCut := cut, e := { x.e with cuts := satInc x.e.cuts } }

/-- A cut beside what blocks a SOURCE: counted, and in the cold start phase a collision (R291, R297). -/
theorem State.ringCut_cases (p : Port) (source reason : Nat) : ∃ t : State,
    t.wire = s.wire.withCut p (s.ring.cutWord p source reason) ∧ t.ring.cold = s.ring.cold ∧
      t.ring.collisions = s.ring.collisions ∧
      s.ringCut p source reason = if t.ring.cold = 2 then t.coldCollision else t := by
  let Counted (t : State) : Prop := t.wire = s.wire.withCut p (s.ring.cutWord p source reason) ∧
    t.ring.cold = s.ring.cold ∧ t.ring.collisions = s.ring.collisions
  unfold State.ringCut
  extract_lets blocked un n u v m x w
  have hv : Counted v := by cases p <;> exact ⟨rfl, rfl, rfl⟩
  clear_value v
  have hport (f : RingPort → RingPort) (hf : ∀ k, (f k).leg = k.leg) : Counted (v.updPort p f) := by
    obtain ⟨hwire, hcold, hcoll⟩ := hv
    refine ⟨(v.updPort_wire p hf).trans hwire, ?_, ?_⟩
    · cases p <;> exact hcold
    · cases p <;> exact hcoll
  have hx : Counted x := hport _ (by intro; rfl)
  clear_value x
  have hw : Counted w := by
    simp only [w]
    split
    · exact hport _ (by intro; rfl)
    · split
      · unfold Counted
        rw [State.recRing_wire, State.recRing_ring]
        exact hx
      · exact hx
  obtain ⟨hwire, hcold, hcoll⟩ := hw
  exact ⟨w, hwire, hcold, hcoll, rfl⟩

theorem State.ringCut_wire (p : Port) (source reason : Nat) :
    (s.ringCut p source reason).wire = s.wire.withCut p (s.ring.cutWord p source reason) := by
  obtain ⟨t, hwire, -, -, hcut⟩ := s.ringCut_cases p source reason
  rw [hcut, ← hwire]
  split
  · exact t.coldCollision_wire
  · rfl

/-- In the cold start phase a cut is a collision (R291). -/
theorem State.ringCut_cold (hcold : s.ring.cold = 2) (p : Port) (source reason : Nat) :
    let t := s.ringCut p source reason
    t.ring.tx = false ∧ t.ring.acquired = false ∧ t.ring.armed = false ∧ t.ring.collisions = s.ring.collisions + 1 ∧
      t.ring.cold ≠ 2 := by
  obtain ⟨t, -, hcold', hcoll, hcut⟩ := s.ringCut_cases p source reason
  intro u
  rw [show u = _ from hcut, if_pos (hcold'.trans hcold), State.coldCollision_ring, ← hcoll]
  exact ⟨rfl, rfl, rfl, rfl, t.ring.collide_cold _⟩

/-- The reason that RING_LAST_CUT shows: 5 where the cut is unattributed while the block entries are full (R298,
R306). -/
theorem RingSt.cutWord_reason (r : RingSt) (p : Port) {source reason : Nat} (hsource : source < 2 ^ 10)
    (hreason : reason < 8) : (r.cutWord p source reason).toNat / 2 ^ 13 % 8 =
      if 32 ≤ r.blocks.length ∧ r.blocks.contains (source, p == .E) = false then 5 else reason := by
  have hcode : (if r.unattributed p source reason then 5 else reason) < 2 ^ 3 := by split <;> omega
  have hsrc : (if r.unattributed p source reason then 0 else source) < 2 ^ 10 := by split <;> omega
  have hport : portBit p < 2 ^ 1 := by cases p <;> decide
  have hfield : fieldN (r.cutWord p source reason) 13 3 = if r.unattributed p source reason then 5 else reason :=
    fieldN_eq_of_bits hcode (by decide) fun i hi => by
      rw [RingSt.cutWord, BitVec.getLsbD_or, BitVec.getLsbD_or, getLsbD_place_outside hsrc (by omega),
        getLsbD_place_outside hport (by omega), Bool.false_or, Bool.false_or]
  refine ((fieldN_eq_div_mod _ _ _).symm.trans hfield).trans ?_
  simp only [RingSt.unattributed, Bool.or_eq_true, Bool.and_eq_true, decide_eq_true_eq, Bool.not_eq_true']
  by_cases hfull : 32 ≤ r.blocks.length ∧ r.blocks.contains (source, p == .E) = false
  · rw [if_pos (.inr hfull), if_pos hfull]
  · by_cases h5 : reason = 5
    · rw [if_pos (.inl h5), if_neg hfull, h5]
    · rw [if_neg (not_or.mpr ⟨h5, hfull⟩), if_neg hfull]

end

end Sys2Proof.Machine


/-! What a node that has left JOINING makes of a frame: what it observes (R288 to R292), what it delivers (R278), and
what its guardian stops (R297). -/

namespace Sys2Proof.Machine

open Sys2Proof.Safety

/-- A state without what frames let a node observe once it has left JOINING. -/
def State.unobserved (s : State) : State :=
  s.updRing fun r => { r with
    w := { r.w with heard := false }, e := { r.e with heard := false }, quietFrom := 0, healedNow := false
    badCycle := false, ncDiffers := false, readX := Vector.replicate 16 none, readY := Vector.replicate 16 none }

theorem State.wire_of_unobserved {s t : State} (h : t.unobserved = s.unobserved) : t.wire = s.wire :=
  (congrArg State.wire h :)

section

variable {s : State} {p : Port} {f : Frame} {ns : Nat}

/-- Outside JOINING a sync frame gives a reading, or shows another NC (R292, R296). -/
theorem State.syncFrame_unobserved (hmode : s.md.mode ≠ .joining) (i : Nat) (fwd : Bool) :
    (s.syncFrame p f i ns fwd).unobserved = s.unobserved := by
  obtain ⟨x, y, hreading⟩ := s.reading_eq p f i ns fwd
  have hacquire : ¬ (decide (s.md.mode ≠ .safeStop) && s.mayAcquire) = true := by simp [State.mayAcquire, hmode]
  unfold State.syncFrame
  extract_lets t
  rw [show t = s from if_neg (by simp [hmode]), if_neg hacquire]
  split
  · rfl
  · rw [hreading]
    rfl

/-- Outside JOINING a frame is observed, and may be a collision in the cold start phase (R291). -/
theorem State.observe_cases (hmode : s.md.mode ≠ .joining) (fwd : Bool) : ∃ t : State,
    t.unobserved = s.unobserved ∧
      (s.observe p f ns fwd = t ∨ (s.ring.cold = 2 ∧ s.observe p f ns fwd = t.coldCollision)) := by
  unfold State.observe
  split
  · exact ⟨s, rfl, .inl rfl⟩
  · extract_lets t u foreign due v w
    have ht : t.unobserved = s.unobserved ∧ t.ring.cold = s.ring.cold := ⟨rfl, rfl⟩
    clear_value t
    have hu : u.unobserved = s.unobserved ∧ u.ring.cold = s.ring.cold := by
      simp only [u]
      split
      · cases p <;> exact ht
      · exact ht
    clear_value u
    have hmode' : u.md.mode ≠ .joining := by rwa [show u.md = s.md from (congrArg State.md hu.1 :)]
    have hforeign : foreign = false := by simp [foreign, hmode']
    have hw : w = u := by simp [w, v, hforeign]
    rw [hw]
    split
    · next hcold =>
      refine ⟨u, hu.1, .inr ⟨?_, rfl⟩⟩
      simp only [Bool.and_eq_true, decide_eq_true_eq] at hcold
      exact hu.2.symm.trans hcold.1
    · split
      · exact ⟨_, (State.syncFrame_unobserved hmode' _ fwd).trans hu.1, .inl rfl⟩
      · exact ⟨u, hu.1, .inl rfl⟩

theorem State.observe_wire (hmode : s.md.mode ≠ .joining) (fwd : Bool) : (s.observe p f ns fwd).wire = s.wire := by
  obtain ⟨t, ht, hobserve | ⟨-, hobserve⟩⟩ := State.observe_cases (p := p) (f := f) (ns := ns) hmode fwd
  · rw [hobserve, State.wire_of_unobserved ht]
  · rw [hobserve, State.coldCollision_wire, State.wire_of_unobserved ht]

/-! The guardian stops a frame. -/

theorem State.guardianSays_lt (f : Frame) : s.guardianSays p f ns < 8 := by
  unfold State.guardianSays
  dsimp only
  split_ifs <;> decide

theorem State.guardian_cut (harm : s.ring.armed = true) (hc : Calm s) (h0 : s.guardianSays p f ns ≠ 0)
    (h6 : s.guardianSays p f ns ≠ 6) :
    s.guardian p f ns = (s.ringCut p f.source (s.guardianSays p f ns), false) := by
  simp [State.guardian, State.injected_calm hc, harm, h0, h6]

theorem State.guardian_drop (harm : s.ring.armed = true) (hc : Calm s) (h6 : s.guardianSays p f ns = 6) :
    s.guardian p f ns = (s, false) := by
  simp [State.guardian, State.injected_calm hc, harm, h6]

/-- A frame that is not forwarded is observed, but for a collision that its cut makes (R291). -/
theorem State.foreignFrame_stopped {t : State} {bytes : List Byte} (h : s.guardian p f ns = (t, false)) :
    s.foreignFrame p f bytes ns =
      if s.ring.cold = 2 && t.ring.cold ≠ 2 then t else t.observe p f ns false := by
  rw [State.foreignFrame, h]
  rfl

theorem State.foreignFrame_stopped_wire {t : State} {bytes : List Byte} (h : s.guardian p f ns = (t, false))
    (hmode : t.md.mode ≠ .joining) : (s.foreignFrame p f bytes ns).wire = t.wire := by
  rw [State.foreignFrame_stopped h]
  split
  · rfl
  · exact State.observe_wire hmode false

/-- What a state shows that differs from another by a cut counted (R297, R306). -/
theorem State.shows_of_withCut {t : State} {cut : Word} (h : t.wire = s.wire.withCut p cut) : t.lanes = s.lanes ∧
    t.md = s.md ∧ t.ring.rxCount = s.ring.rxCount ∧ (t.ring.port p).cutCount = satInc (s.ring.port p).cutCount ∧
    t.ring.lastCut = cut ∧
    ∀ q, (t.ring.port q).outFrame = (s.ring.port q).outFrame ∧ (t.ring.port q).outCut = (s.ring.port q).outCut := by
  have hleg (q : Port) : (t.ring.port q).leg = (s.wire.withCut p cut).leg q := by rw [← State.leg_wire, h]
  refine ⟨(congrArg Wire.lanes h).trans ?_, (congrArg Wire.md h).trans ?_, (congrArg Wire.rxCount h).trans ?_,
    (congrArg Leg.cuts (hleg p)).trans ?_, (congrArg Wire.lastCut h).trans ?_,
    fun q => ⟨(congrArg Leg.frame (hleg q)).trans ?_, (congrArg Leg.cut (hleg q)).trans ?_⟩⟩
  · cases p <;> rfl
  · cases p <;> rfl
  · cases p <;> rfl
  · cases p <;> rfl
  · cases p <;> rfl
  · cases p <;> cases q <;> rfl
  · cases p <;> cases q <;> rfl

/-! Delivery (R278, R319). -/

@[simp] theorem State.lane_updRing (g : RingSt → RingSt) (l : LaneId) : (s.updRing g).lane l = s.lane l := rfl

/-- Copies put in a receive buffer that has room for them (R319). -/
theorem foldl_receive (cs : List Copy) {x : Lane} (hroom : x.sl.rx.length + cs.length ≤ 2048) :
    cs.foldl Lane.receive x = x.slUpd fun k => { k with rx := k.rx ++ cs } := by
  induction cs generalizing x with
  | nil =>
    rw [List.foldl_nil, Lane.slUpd, List.append_nil]
  | cons c cs ih =>
    rw [List.length_cons] at hroom
    have hput : x.receive c = x.slUpd fun k => { k with rx := k.rx ++ [c] } := by
      simp only [Lane.receive, Lane.slUpd, if_pos (show x.sl.rx.length < 2048 by omega)]
    have hlen : (x.receive c).sl.rx.length + cs.length ≤ 2048 := by
      rw [hput]
      simp only [Lane.slUpd, List.length_append, List.length_singleton]
      omega
    rw [List.foldl_cons, ih hlen, hput]
    simp only [Lane.slUpd, List.append_assoc, List.singleton_append]

/-- The copies of a frame's PDUs (R92, R278, R319). -/
def Frame.copies (f : Frame) (ps : List (List Byte)) (stamp : Nat) : List Copy :=
  ps.map fun b => { source := BitVec.ofNat 10 f.source, healed := f.healed, bytes := b, stamp := stamp }

/-- The first copy of a frame that may be delivered, for some lane (R278). -/
theorem State.deliver_first {ps : List (List Byte)} (hdel : s.deliverable p f = true) (hps : f.pdus = some ps)
    (hkey : (f.source, f.slot, f.ring) ∉ s.ring.delivered) {l : LaneId}
    (hrec : (s.lane l).receivesFrom f.source = true) (stamp : Nat) : s.deliver p f stamp =
      (s.updRing fun r => { r with
        rxCount := satInc r.rxCount, delivered := r.delivered ++ [(f.source, f.slot, f.ring)] }).mapLanes fun x =>
          if x.receivesFrom f.source then (f.copies ps stamp).foldl Lane.receive x else x := by
  have hany : LaneId.list.any (fun l => (s.lane l).receivesFrom f.source) = true :=
    List.any_eq_true.mpr ⟨l, by cases l <;> decide, hrec⟩
  have hfirst : ¬ (s.ring.delivered.contains (f.source, f.slot, f.ring) ||
      !LaneId.list.any (fun l => (s.lane l).receivesFrom f.source)) = true := by
    rw [hany]
    simpa using hkey
  unfold State.deliver
  rw [if_neg (by simp [hdel]), hps]
  dsimp only
  rw [if_neg hfirst]
  simp only [Frame.copies, List.foldl_map]

end

end Sys2Proof.Machine


/-! The frames of a port by their fate (R274, R278, R283, R284, R297, R298, R301). -/

namespace Sys2Proof.Machine

open Sys2Proof.Safety

/-! Another node's frame that the guardian stops (R297 to R299). -/

section

variable {s : State} {p : Port} {bytes : List Byte} {ns : Nat}

theorem parseFrame_source_lt (bytes : List Byte) : (parseFrame bytes).source < 2 ^ 10 := Nat.mod_lt _ (by decide)

/-- What neither the count of failed CRCs nor a change of a port touches is the same when a frame has come. -/
theorem State.sighted_ring {α : Type} (φ : RingSt → α) (hcrc : ∀ (r : RingSt) (n : Half), φ { r with rxCrc := n } = φ r)
    (hport : ∀ r q g, φ (RingSt.updPort r q g) = φ r) : φ (s.sighted p bytes ns).ring = φ s.ring := by
  obtain ⟨-, -, -, -, n, x, hring⟩ := s.sighted_keeps (p := p) (bytes := bytes) (ns := ns)
  rw [hring, hport, hcrc]

theorem State.sighted_wire : (s.sighted p bytes ns).wire = s.wire := by
  obtain ⟨hlanes, hmd, -, -, n, x, hring⟩ := s.sighted_keeps (p := p) (bytes := bytes) (ns := ns)
  rw [State.wire, hlanes, hmd, hring]
  cases p <;> rfl

variable (halive : s.ring.alive = true) (hloop : (s.ring.port p).looped = false) (hlen : 24 ≤ bytes.length)
  (hsource : (parseFrame bytes).source ≠ s.node) (harm : s.ring.armed = true) (hc : Calm s)
  (hmode : s.md.mode ≠ .joining)

include halive hloop hlen hsource harm hc hmode

/-- A frame that the guardian fails is counted as a cut, and in the cold start phase a collision (R291, R297). -/
theorem State.frameIn_cut (h0 : s.guardianSays p (parseFrame bytes) ns ≠ 0)
    (h6 : s.guardianSays p (parseFrame bytes) ns ≠ 6) :
    let t := s.frameIn p bytes ns
    t.wire = s.wire.withCut p
        (s.ring.cutWord p (parseFrame bytes).source (s.guardianSays p (parseFrame bytes) ns)) ∧
      (s.ring.cold = 2 → t.ring.tx = false ∧ t.ring.acquired = false ∧ t.ring.armed = false ∧
        t.ring.collisions = s.ring.collisions + 1) := by
  have hsays := s.guardianSays_sighted (p := p) (bytes := bytes) (ns := ns) (parseFrame bytes)
  obtain ⟨-, hmd, -, hinject, -⟩ := s.sighted_keeps (p := p) (bytes := bytes) (ns := ns)
  have hport {α : Type} (φ : RingSt → α) := State.sighted_ring (s := s) (p := p) (bytes := bytes) (ns := ns) φ
  have harm' := hport (·.armed) (fun _ _ => rfl) (fun _ q _ => by cases q <;> rfl)
  have hcold' := hport (·.cold) (fun _ _ => rfl) (fun _ q _ => by cases q <;> rfl)
  have hcoll' := hport (·.collisions) (fun _ _ => rfl) (fun _ q _ => by cases q <;> rfl)
  have hword := hport (·.cutWord p (parseFrame bytes).source (s.guardianSays p (parseFrame bytes) ns)) (fun _ _ => rfl)
    (fun _ q _ => by cases q <;> rfl)
  have hwires := s.sighted_wire (p := p) (bytes := bytes) (ns := ns)
  rw [State.frameIn_foreign halive hloop hlen (.inl hsource), ← hword, ← hwires, ← hsays]
  generalize s.sighted p bytes ns = u at hsays hmd hinject harm' hcold' hcoll' ⊢
  rw [← hsays] at h0 h6
  have hguard := State.guardian_cut (harm'.trans harm) ((congrArg InjectSt.armed hinject).trans hc) h0 h6
  have hwire := u.ringCut_wire p (parseFrame bytes).source (u.guardianSays p (parseFrame bytes) ns)
  obtain ⟨-, hmdcut, -⟩ := State.shows_of_withCut hwire
  have hmd' := hmdcut.trans hmd
  refine ⟨(State.foreignFrame_stopped_wire hguard (by rwa [hmd'])).trans hwire, fun hcold => ?_⟩
  obtain ⟨htx, hacq, harmed, hcoll, hcold2⟩ := u.ringCut_cold (hcold'.trans hcold) p (parseFrame bytes).source
    (u.guardianSays p (parseFrame bytes) ns)
  rw [State.foreignFrame_stopped hguard, if_pos ((Bool.and_eq_true _ _).mpr
    ⟨decide_eq_true (hcold'.trans hcold), decide_eq_true hcold2⟩)]
  exact ⟨htx, hacq, harmed, hcoll.trans (congrArg (· + 1) hcoll')⟩

/-- A frame of a blocked source is dropped without a cut (R298). -/
theorem State.frameIn_drop (h6 : s.guardianSays p (parseFrame bytes) ns = 6) :
    (s.frameIn p bytes ns).wire = s.wire := by
  have hsays := s.guardianSays_sighted (p := p) (bytes := bytes) (ns := ns) (parseFrame bytes)
  obtain ⟨-, hmd, -, hinject, -⟩ := s.sighted_keeps (p := p) (bytes := bytes) (ns := ns)
  have harm' := State.sighted_ring (s := s) (p := p) (bytes := bytes) (ns := ns) (·.armed) (fun _ _ => rfl)
    (fun _ q _ => by cases q <;> rfl)
  have hguard := State.guardian_drop (harm'.trans harm) ((congrArg InjectSt.armed hinject).trans hc) (hsays.trans h6)
  rw [State.frameIn_foreign halive hloop hlen (.inl hsource),
    State.foreignFrame_stopped_wire hguard (by rwa [hmd]), State.sighted_wire]

end

/-! Another node's frame that is delivered (R278). -/

section

variable {s : State} {p : Port} {bytes : List Byte} {ns : Nat}

theorem State.deliverable_updPort (f : Frame) (q : Port) (g : RingPort → RingPort) (p : Port) :
    (s.updPort q g).deliverable p f = s.deliverable p f := by cases q <;> rfl

/-- Whether a frame may be delivered is no matter of its own arrival (R278). -/
theorem State.deliverable_sighted (f : Frame) :
    (s.sighted p bytes ns).deliverable p f = (s.advanceTo (ns / 10)).deliverable p f := by
  unfold State.sighted State.received
  rw [State.deliverable_updPort]
  dsimp only
  split <;> rfl

/-- What the observation of a frame leaves of its delivery, outside JOINING and the cold start phase (R278). -/
theorem State.deliverable_of_unobserved {t : State} (h : t.unobserved = s.unobserved) (f : Frame) :
    t.deliverable p f = s.deliverable p f ∧ t.ring.delivered = s.ring.delivered ∧ t.ring.rxCount = s.ring.rxCount ∧
      t.lanes = s.lanes :=
  ⟨(congrArg (fun t : State => t.deliverable p f) h :), (congrArg (fun t : State => t.ring.delivered) h :),
    (congrArg (fun t : State => t.ring.rxCount) h :), (congrArg State.lanes h :)⟩

/-- A frame that a node forwards, whole and outside the cold start phase, is delivered by a state that differs from the
present one in nothing that delivery looks at (R278). -/
theorem State.frameIn_delivers (h : Forwards s p bytes ns) (hmode : s.md.mode ≠ .joining) (hcold : s.ring.cold ≠ 2)
    (hwhole : s.overruns p (parseFrame bytes) bytes.length ns = false) : ∃ t : State,
      t.deliverable p (parseFrame bytes) = (s.advanceTo (ns / 10)).deliverable p (parseFrame bytes) ∧
      t.ring.delivered = s.ring.delivered ∧ t.ring.rxCount = s.ring.rxCount ∧ t.lanes = s.lanes ∧
      s.frameIn p bytes ns = t.deliver p (parseFrame bytes) (stampOf ns bytes.length) := by
  obtain ⟨hlanes, hmd, -⟩ := s.sighted_keeps (p := p) (bytes := bytes) (ns := ns)
  have hport {α : Type} (φ : RingSt → α) := State.sighted_ring (s := s) (p := p) (bytes := bytes) (ns := ns) φ
  have hcold' := hport (·.cold) (fun _ _ => rfl) (fun _ q _ => by cases q <;> rfl)
  have hdel' := hport (·.delivered) (fun _ _ => rfl) (fun _ q _ => by cases q <;> rfl)
  have hrx' := hport (·.rxCount) (fun _ _ => rfl) (fun _ q _ => by cases q <;> rfl)
  have hable := State.deliverable_sighted (s := s) (p := p) (bytes := bytes) (ns := ns) (parseFrame bytes)
  rw [State.frameIn_forwards h]
  dsimp only
  rw [hwhole]
  generalize s.sighted p bytes ns = u at hlanes hmd hcold' hdel' hrx' hable ⊢
  have hpass {α : Type} (φ : State → α) (hφ : ∀ t q g, φ (State.updPort t q g) = φ t) :=
    State.passOn_keeps (s := u) (p := p) (bytes := bytes) (ns := ns) φ hφ (parseFrame bytes)
  have hmode' : (u.passOn p (parseFrame bytes) bytes ns).md.mode ≠ .joining := by
    rwa [hpass (·.md) fun _ _ _ => rfl, hmd]
  have hcold2 : (u.passOn p (parseFrame bytes) bytes ns).ring.cold ≠ 2 := by
    rwa [hpass (·.ring.cold) fun t q g => t.updPort_cold q g, hcold']
  obtain ⟨t, ht, hobserve | ⟨hcold3, -⟩⟩ :=
    State.observe_cases (p := p) (f := parseFrame bytes) (ns := ns) hmode' (!false)
  · obtain ⟨h1, h2, h3, h4⟩ := State.deliverable_of_unobserved (p := p) ht (parseFrame bytes)
    refine ⟨t, ?_, ?_, ?_, ?_, ?_⟩
    · rw [h1, hpass (·.deliverable p (parseFrame bytes)) fun t q g => t.deliverable_updPort _ q g p, hable]
    · rw [h2, hpass (·.ring.delivered) fun t q g => by cases q <;> rfl, hdel']
    · rw [h3, hpass (·.ring.rxCount) fun t q g => by cases q <;> rfl, hrx']
    · rw [h4, hpass (·.lanes) fun _ _ _ => rfl, hlanes]
    · rw [hobserve]
      rfl
  · exact absurd hcold3 hcold2

end

end Sys2Proof.Machine


/-! The node's own frames: those that return, and those that it sends in its slots (R274, R283, R284, R301). -/

namespace Sys2Proof.Machine

open Sys2Proof.Safety

section

variable {s : State} {p : Port} {bytes : List Byte} {ns : Nat}

/-- An own-address frame that matches no frame sent stops transmission and the module (R284). -/
theorem State.impostor_stopped (h : MayStop s) : Stopped s.impostor 12 ∧ s.impostor.ring.tx = false := by
  let t := (s.updRing fun r => { r with tx := false }).recRing .ringAddressConflict
  have hmd : t.md = s.md := State.recRing_md _ _ _
  have htx : t.ring.tx = false := congrArg RingSt.tx (State.recRing_ring _ _ _)
  refine ⟨State.safeStop_stopped (s := t) (by rwa [MayStop, hmd]) .impostor 0, ?_⟩
  exact (congrArg RingSt.tx (t.safeStop_unsent .impostor 0) :).trans htx

/-- An own-address frame after the join: one of the frames sent, or an impostor's (R274, R284, R298). -/
theorem State.ownFrame_joined {f : Frame} (hcrc : f.crcOk = true) (hversion : f.version = 1)
    (hjoined : s.ring.joined = true) (hc : Calm s) : ∃ t : State, t.lanes = s.lanes ∧ t.md = s.md ∧
      (f.ring = (p == .E) → ∀ q, (t.ring.port q).outFrame = (s.ring.port q).outFrame) ∧
      s.ownFrame p f bytes ns =
        if s.ring.sent.contains (f.slot, f.nc, f.ring, crcWithoutDelay bytes) then
          t.updRing fun r => { r with returned := true }
        else t.impostor := by
  unfold State.ownFrame
  extract_lets u v own
  have hu : u.lanes = s.lanes ∧ u.md = s.md ∧ u.inject = s.inject ∧ u.ring.joined = true ∧
      u.ring.sent = s.ring.sent ∧
      (f.ring = (p == .E) → ∀ q, (u.ring.port q).outFrame = (s.ring.port q).outFrame) := by
    simp only [u]
    split
    · exact ⟨rfl, rfl, rfl, hjoined, rfl, fun _ _ => rfl⟩
    · next hout =>
      unfold State.forward
      generalize s.outputOf p = q
      refine ⟨rfl, rfl, rfl, ?_, ?_, fun h => absurd (by simp [h]) hout⟩
      · cases q <;> exact hjoined
      · cases q <;> rfl
  clear_value u
  obtain ⟨hlanes, hmd, hinject, hjoined', hsent, hout⟩ := hu
  have hcalm : Calm v := (congrArg InjectSt.armed hinject).trans hc
  have hjoinedv : v.ring.joined = true := hjoined'
  have hown : own = s.ring.sent.contains (f.slot, f.nc, f.ring, crcWithoutDelay bytes) :=
    congrArg (·.contains (f.slot, f.nc, f.ring, crcWithoutDelay bytes)) hsent
  refine ⟨v, hlanes, hmd, fun h q => Eq.trans (by cases q <;> rfl) (hout h q), ?_⟩
  rw [if_neg (by simp [hcrc, hversion]), if_neg (by simp [hjoinedv]), State.injected_calm hcalm, if_neg (by decide),
    hown]

/-- The frame of a SOURCE that a port with an armed guardian has forwarded, and that runs on (R297). -/
theorem State.overrunning_eq {source start stop limit : Nat} (halive : s.ring.alive = true)
    (harm : s.ring.armed = true) (hloop : (s.ring.port p).looped = false)
    (hpassing : (s.ring.port p).passing = some (source, start, stop, limit)) (hlt : limit < stop) :
    s.overrunning p source = some (start, limit) := by
  simp [State.overrunning, halive, harm, hloop, hpassing, hlt]

theorem exec_guardianOverrun {source : BitVec 10} {start stop limit : Nat} (halive : s.ring.alive = true)
    (harm : s.ring.armed = true) (hloop : (s.ring.port p).looped = false)
    (hpassing : (s.ring.port p).passing = some (source.toNat, start, stop, limit)) (hlt : limit < stop) :
    exec (.guardianOverrun p source) s =
      .next (((s.advanceTo (limit / 10)).truncate p start limit).ringCut p source.toNat 4) := by
  have hrun : exec (.guardianOverrun p source) s = execGuardianOverrun p source s := rfl
  rw [hrun, execGuardianOverrun, State.overrunning_eq halive harm hloop hpassing hlt]
  rfl

/-- A frame truncated at the end of its window (R270, R297). -/
theorem State.truncate_shows (start limit : Nat) :
    let t := s.truncate p start limit
    (t.ring.port (wayOut s p)).outFrame =
        (s.ring.port (wayOut s p)).outFrame.take ((limit - start - s.repeaterDelay p) / 8 - 1) ∧
      (t.ring.port (wayOut s p)).outCut = true ∧
      (wayOut s p ≠ p → (t.ring.port p).outFrame = (s.ring.port p).outFrame) ∧
      (t.ring.port p).cutCount = (s.ring.port p).cutCount ∧ t.ring.blocks = s.ring.blocks ∧ t.lanes = s.lanes ∧
      t.md = s.md := by
  have hway : (s.updPort p fun k => { k with passing := none }).outputOf p = wayOut s p := by
    unfold State.outputOf
    rw [State.port_updPort_otherPort]
    rfl
  have hdelay : (s.updPort p fun k => { k with passing := none }).repeaterDelay p = s.repeaterDelay p := by
    cases p <;> rfl
  unfold State.truncate
  dsimp only
  rw [hway, hdelay]
  generalize wayOut s p = q
  cases p <;> cases q <;> simp [State.updPort, State.updRing, RingSt.updPort, RingSt.port]

end

/-! Own slots (R283, R301). -/

section

variable {s : State}

/-- A state that has sent an own frame with a body out of a port (R271, R283). -/
def State.sentOwn (s : State) (slot : Nat) (out : Port) (body : List Byte) : State :=
  let b := s.ownBytes slot (out == .W) body
  (s.updPort out fun k => { k with
    outFrame := b, outCut := false, busyUntil := s.tb.nt.toNat * 10 + frameTime b.length }).updRing fun r => { r with
      sent := r.sent ++ [(slot, s.netCycle, out == .W, crcWithoutDelay b)], sentNow := true, txCount := satInc r.txCount
      nullCount := if body = [] then satInc r.nullCount else r.nullCount }

theorem State.sendOut_calm (hc : Calm s) {out : Port} (hloop : (s.ring.port out).looped = false) (slot : Nat)
    (body : List Byte) : s.sendOut slot out body = s.sentOwn slot out body := by
  unfold State.sendOut
  rw [if_neg (by simp [hloop])]
  simp only [State.injected_calm hc, Bool.false_and, Bool.false_eq_true, if_false]
  rfl

/-- A repeated frame still running is counted (R301). -/
theorem State.ringClash_keeps (run : Option (BitVec 10)) :
    (s.ringClash run).lanes = s.lanes ∧ (s.ringClash run).md = s.md ∧
      (s.ringClash run).inject.armed = s.inject.armed ∧
      (∃ n : Half, (s.ringClash run).ring = { s.ring with clash := n }) ∧
      (s.ringClash run).ring.clash = (if run.isSome then satInc s.ring.clash else s.ring.clash) ∧
      ∀ slot y body, (s.ringClash run).ownBytes slot y body = s.ownBytes slot y body := by
  cases run with
  | none => exact ⟨rfl, rfl, rfl, ⟨s.ring.clash, rfl⟩, rfl, fun _ _ _ => rfl⟩
  | some src =>
    unfold State.ringClash
    dsimp only
    rw [State.recRing_lanes, State.recRing_md, State.recRing_armed, State.recRing_ring]
    refine ⟨rfl, rfl, rfl, ⟨satInc s.ring.clash, rfl⟩, rfl, fun slot y body => ?_⟩
    have hsame := (s.updRing fun r => { r with clash := satInc r.clash }).recAs_unrecorded 4 false .ringClash
      [src.setWidth 32]
    exact (congrArg (fun t : State => t.ownBytes slot y body) hsame :)

/-- In a mode without PDUs an own slot carries none (R283). -/
theorem State.slotBody_null (hpdus : s.md.mode.sendsPdus = false) (hsplit : s.md.mode ≠ .split) (slot : Nat) :
    s.slotBody slot = ([], s) := by
  simp [State.slotBody, hpdus, hsplit]

/-- The start of an own slot of a node that sends no PDUs, both of whose ports are open (R283, R301). -/
theorem State.ownSlot_null {slot : Nat} (hc : Calm s) (hsends : s.sends = true) (hslot : slot < s.ring.slots)
    (howner : s.ring.owner slot = s.node) (hnode : s.node ≠ 0) (hw : s.ring.w.looped = false)
    (he : s.ring.e.looped = false) (hpdus : s.md.mode.sendsPdus = false) (hsplit : s.md.mode ≠ .split)
    (runX runY : Option (BitVec 10)) :
    let u := s.advanceTo (s.netCycle * s.ring.tn10 + s.ring.start slot)
    s.ownSlot slot runX runY = (((u.ringClash runX).ringClash runY).sentOwn slot .E []).sentOwn slot .W [] := by
  intro u
  have hsteps (t : State) (ht : Calm t) (hmd : t.md = s.md) (hlw : t.ring.w.looped = false)
      (hle : t.ring.e.looped = false) :
      ((t.slotBody slot).2.sendOut slot .E (t.slotBody slot).1).sendOut slot .W (t.slotBody slot).1 =
        (t.sentOwn slot .E []).sentOwn slot .W [] := by
    have ht' : Calm (t.sentOwn slot .E []) := ht
    rw [State.slotBody_null (by rwa [hmd]) (by rwa [hmd]), State.sendOut_calm (out := .E) ht hle,
      State.sendOut_calm (out := .W) ht' hlw]
  have hu : u.md = s.md ∧ u.inject = s.inject ∧ u.ring = s.ring ∧ u.sends = true ∧ u.node = s.node :=
    ⟨rfl, rfl, rfl, hsends, rfl⟩
  have hrun : s.ownSlot slot runX runY =
      if !(u.sends && slot < u.ring.slots && u.ring.owner slot = u.node && u.node ≠ 0) then u
      else if u.ring.w.looped && u.ring.e.looped then u
      else
        let v := if u.ring.e.looped then u else u.ringClash runX
        let v := if v.ring.w.looped then v else v.ringClash runY
        let v := if v.injected 0x29 none then v.fire else v
        ((v.slotBody slot).2.sendOut slot .E (v.slotBody slot).1).sendOut slot .W (v.slotBody slot).1 := rfl
  clear_value u
  obtain ⟨hmdu, hinject, hring, hsendsu, hnodeu⟩ := hu
  obtain ⟨-, hmdX, harmedX, ⟨n, hringX⟩, -, -⟩ := u.ringClash_keeps runX
  obtain ⟨-, hmdY, harmedY, ⟨m, hringY⟩, -, -⟩ := (u.ringClash runX).ringClash_keeps runY
  have hcalm : Calm ((u.ringClash runX).ringClash runY) :=
    harmedY.trans (harmedX.trans ((congrArg InjectSt.armed hinject).trans hc))
  have hopen : (u.sends && slot < u.ring.slots && u.ring.owner slot = u.node && u.node ≠ 0) = true := by
    rw [hsendsu, hring, hnodeu]
    simp [hslot, howner, hnode]
  have hclashX : (if u.ring.e.looped then u else u.ringClash runX) = u.ringClash runX := if_neg (by simp [hring, he])
  have hclashY : (if (u.ringClash runX).ring.w.looped then u.ringClash runX else (u.ringClash runX).ringClash runY) =
      (u.ringClash runX).ringClash runY := if_neg (by simp [hringX, hring, hw])
  rw [hrun, hopen, if_neg (by decide), if_neg (by simp [hring, hw])]
  dsimp only
  rw [hclashX, hclashY, State.injected_calm hcalm, if_neg (by decide)]
  refine hsteps _ hcalm (hmdY.trans (hmdX.trans hmdu)) ?_ ?_
  · rw [hringY, hringX, hring]
    exact hw
  · rw [hringY, hringX, hring]
    exact he

/-- A null frame sent out of a port (R283). -/
theorem State.sentOwn_shows (s : State) (slot : Nat) (out : Port) :
    let t := s.sentOwn slot out []
    (t.ring.port out).outFrame = s.ownBytes slot (out == .W) [] ∧
      t.ring.port (otherPort out) = s.ring.port (otherPort out) ∧ t.ring.txCount = satInc s.ring.txCount ∧
      t.ring.nullCount = satInc s.ring.nullCount ∧ t.ring.sentNow = true ∧ t.ring.clash = s.ring.clash ∧
      t.lanes = s.lanes ∧ t.md = s.md ∧ ∀ y, t.ownBytes slot y [] = s.ownBytes slot y [] := by
  cases out
  · exact ⟨rfl, rfl, rfl, rfl, rfl, rfl, rfl, rfl, fun _ => rfl⟩
  · exact ⟨rfl, rfl, rfl, rfl, rfl, rfl, rfl, rfl, fun _ => rfl⟩

/-- The null frames of an own slot, one on each ring, with the clashes counted (R283, R301). -/
theorem State.sentOwn_both (u : State) (slot : Nat) (runX runY : Option (BitVec 10)) :
    let t := (((u.ringClash runX).ringClash runY).sentOwn slot .E []).sentOwn slot .W []
    t.ring.e.outFrame = u.ownBytes slot false [] ∧ t.ring.w.outFrame = u.ownBytes slot true [] ∧
      t.ring.txCount = satInc (satInc u.ring.txCount) ∧ t.ring.nullCount = satInc (satInc u.ring.nullCount) ∧
      t.ring.sentNow = true ∧ t.lanes = u.lanes ∧ t.md = u.md ∧
      (runX ≠ none → runY = none → t.ring.clash = satInc u.ring.clash) ∧
      (runX = none → runY = none → t.ring.clash = u.ring.clash) := by
  obtain ⟨hlanesX, hmdX, -, ⟨n, hringX⟩, hclashX, hbytesX⟩ := u.ringClash_keeps runX
  obtain ⟨hlanesY, hmdY, -, ⟨m, hringY⟩, hclashY, hbytesY⟩ := (u.ringClash runX).ringClash_keeps runY
  generalize (u.ringClash runX).ringClash runY = v at hlanesY hmdY hringY hclashY hbytesY ⊢
  obtain ⟨hframeE, -, htxE, hnullE, -, hclashE, hlanesE, hmdE, hbytesE⟩ := v.sentOwn_shows slot .E
  obtain ⟨hframeW, hportW, htxW, hnullW, hsentW, hclashW, hlanesW, hmdW, -⟩ :=
    (v.sentOwn slot .E []).sentOwn_shows slot .W
  have hbytes (y : Bool) : v.ownBytes slot y [] = u.ownBytes slot y [] := (hbytesY _ _ _).trans (hbytesX _ _ _)
  have htx : v.ring.txCount = u.ring.txCount := by rw [hringY, hringX]
  have hnull : v.ring.nullCount = u.ring.nullCount := by rw [hringY, hringX]
  generalize v.sentOwn slot .E [] = x at *
  intro t
  have hclash : t.ring.clash = v.ring.clash := hclashW.trans hclashE
  refine ⟨?_, ?_, ?_, ?_, hsentW, hlanesW.trans (hlanesE.trans (hlanesY.trans hlanesX)),
    hmdW.trans (hmdE.trans (hmdY.trans hmdX)), fun hX hY => ?_, fun hX hY => ?_⟩
  · exact (congrArg RingPort.outFrame hportW).trans (hframeE.trans (hbytes false))
  · exact hframeW.trans ((hbytesE true).trans (hbytes true))
  · rw [htxW, htxE, htx]
  · rw [hnullW, hnullE, hnull]
  · rw [hclash, hclashY, hclashX, hY, if_neg (by decide), if_pos (Option.isSome_iff_ne_none.mpr hX)]
  · rw [hclash, hclashY, hclashX, hY, hX]
    rfl

end

/-- Settles O42: what the guardian stops is a cut counted (`State.frameIn_cut`) or nothing (`State.frameIn_drop`); what
passes is delivered (`State.frameIn_delivers`); own frames return or are an impostor's (`State.ownFrame_joined`); an
overrun is truncated and cut (`exec_guardianOverrun`); an own slot sends null frames (`State.ownSlot_null`). -/
theorem ringFrames : Obligations.RingFrames := by
  unfold Obligations.RingFrames
  intro s p bytes ns halive f s1 full outs
  have hframes {t : State} (h : ∀ q, (t.ring.port q).outFrame = (s.ring.port q).outFrame) : outs t := ⟨h .W, h .E⟩
  refine ⟨fun hloop hshort => ?_, fun hloop hlen hsource harm hc hmode => ⟨fun h0 h6 => ?_, fun h6 => ?_⟩,
    fun ps hfwd hmode hcold hdel hps hkey hwhole l hrec hroom => ?_,
    fun hloop hlen hsource hnode hcrc hversion hjoined hc => ?_,
    fun source start stop limit harm hloop hpassing hlt => ?_,
    fun slot runX runY hc hsends hslot howner hnode hw he hpdus hsplit => ?_⟩
  · exact ⟨_, congrArg Host.Outcome.next (State.frameIn_short halive hloop hshort), rfl, ⟨rfl, rfl⟩, rfl, rfl⟩
  · obtain ⟨hwire, hcold⟩ := State.frameIn_cut halive hloop hlen hsource harm hc hmode h0 h6
    obtain ⟨hlanes, -, hrx, hcuts, hlast, hout⟩ := State.shows_of_withCut hwire
    refine ⟨_, rfl, hframes fun q => (hout q).1, hlanes, hcuts, ?_, hrx, hcold⟩
    rw [hlast]
    exact s.ring.cutWord_reason p (parseFrame_source_lt bytes) (State.guardianSays_lt _)
  · have hwire := State.frameIn_drop halive hloop hlen hsource harm hc hmode h6
    have hleg (q : Port) : ((s.frameIn p bytes ns).ring.port q).leg = (s.ring.port q).leg := by
      rw [← State.leg_wire, ← State.leg_wire, hwire]
    exact ⟨_, rfl, hframes fun q => congrArg Leg.frame (hleg q), congrArg Wire.lanes hwire,
      congrArg Leg.cuts (hleg p), congrArg Wire.lastCut hwire, congrArg Wire.rxCount hwire⟩
  · obtain ⟨t, hable, hdelivered, hrx, hlanes, hframe⟩ := State.frameIn_delivers hfwd hmode hcold hwhole
    have hlane : t.lane l = s.lane l := congrArg (PerLane.get · l) hlanes
    have hrec' : (t.lane l).receivesFrom f.source = true := (congrArg (·.receivesFrom f.source) hlane).trans hrec
    have hroom' : (t.lane l).sl.rx.length + (f.copies ps (stampOf ns bytes.length)).length ≤ 2048 := by
      rw [hlane, Frame.copies, List.length_map]
      exact hroom
    have hfirst := State.deliver_first (hable.trans hdel) hps (by rwa [hdelivered]) hrec' (stampOf ns bytes.length)
    refine ⟨_, congrArg Host.Outcome.next (hframe.trans hfirst), congrArg satInc hrx, ?_, ?_⟩
    · exact List.mem_append_right _ (List.mem_singleton_self _)
    · rw [State.lane_mapLanes, State.lane_updRing, if_pos hrec', foldl_receive _ hroom', hlane]
      exact ⟨rfl, rfl, rfl⟩
  · obtain ⟨hlanes, hmd, -, hinject, n, hring⟩ := s.received_keeps (bytes := bytes) (ns := ns)
    have hjoined' : (s.received bytes ns).ring.joined = true := by rwa [hring]
    obtain ⟨t, htlanes, htmd, htout, hown⟩ := State.ownFrame_joined (p := p) (bytes := bytes) (ns := ns) hcrc hversion
      hjoined' ((congrArg InjectSt.armed hinject).trans hc)
    have hframe := (State.frameIn_own halive hloop hlen hsource hnode).trans hown
    rw [hring] at hframe
    refine ⟨fun hsent hmay => ?_, fun hsent => ?_⟩
    · rw [if_neg (by simpa using hsent)] at hframe
      have hmayt : MayStop t := by rwa [MayStop, htmd, hmd]
      exact ⟨_, congrArg Host.Outcome.next hframe, State.impostor_stopped hmayt⟩
    · rw [if_pos (List.contains_iff_mem.mpr hsent)] at hframe
      refine ⟨_, congrArg Host.Outcome.next hframe, rfl, htmd.trans hmd, htlanes.trans hlanes, fun hback => ?_⟩
      refine hframes fun q => (htout hback q).trans ?_
      rw [hring]
      cases q <;> rfl
  · let u := (s.advanceTo (limit / 10)).truncate p start limit
    obtain ⟨hframe, hcut, hother, hcuts, hblocks, hlanes, hmd⟩ :=
      State.truncate_shows (s := s.advanceTo (limit / 10)) (p := p) start limit
    obtain ⟨hclanes, hcmd, -, hccuts, hclast, hcout⟩ := State.shows_of_withCut (u.ringCut_wire p source.toNat 4)
    refine ⟨_, exec_guardianOverrun halive harm hloop hpassing hlt, hclanes.trans hlanes, hcmd.trans hmd,
      (hcout _).1.trans hframe, (hcout _).2.trans hcut, fun h => (hcout p).1.trans (hother h),
      hccuts.trans (congrArg satInc hcuts), ?_⟩
    rw [hclast, u.ring.cutWord_reason p source.isLt (by decide), show u.ring.blocks = s.ring.blocks from hblocks]
  · exact ⟨_, congrArg Host.Outcome.next (State.ownSlot_null hc hsends hslot howner hnode hw he hpdus hsplit runX runY),
      State.sentOwn_both _ _ _ _⟩

end Sys2Proof.Machine
